-- ==== Sys2Proof/Word.lean ====
section
/-! DEFINITION. The word types of the model and their plainest arithmetic. -/

namespace Sys2Proof

/-- One byte as it is transferred (R372). -/
abbrev Byte := BitVec 8

/-- One 32-bit word of an engine, as raw bits (R93). -/
abbrev Word := BitVec 32

/-- The largest I32 (R11). -/
def maxI32 : Int := 2147483647

/-- The smallest I32 (R11). -/
def minI32 : Int := -2147483648

end Sys2Proof
end

