-- ==== Sys2Proof/Machine/Assoc.lean ====
section
/-! DEFINITION. Sparse stores as sorted lists of keys and values in one canonical form: keys strictly rising, and no
entry equal to what an unlisted key reads as. Vectors of like units with total access. -/

namespace Sys2Proof.Machine

/-- A sparse store of values by key. -/
abbrev Assoc (α : Type) := List (Nat × α)

/-- The value at a key; an unlisted key reads as the default of that key. -/
def Assoc.get (d : Nat → α) : Assoc α → Nat → α
  | [], k => d k
  | (k', v) :: t, k => if k' = k then v else Assoc.get d t k

/-- The store without any entry of the key. -/
def Assoc.erase (k : Nat) : Assoc α → Assoc α
  | [] => []
  | (k', v) :: t => if k' = k then Assoc.erase k t else (k', v) :: Assoc.erase k t

/-- The store with one more entry, in its place by key. -/
def Assoc.insert (k : Nat) (v : α) : Assoc α → Assoc α
  | [] => [(k, v)]
  | (k', v') :: t => if k < k' then (k, v) :: (k', v') :: t else (k', v') :: Assoc.insert k v t

/-- Write a key; writing what an unlisted key reads as removes the entry. -/
def Assoc.set [DecidableEq α] (d : Nat → α) (s : Assoc α) (k : Nat) (v : α) : Assoc α :=
  if v = d k then Assoc.erase k s else Assoc.insert k v (Assoc.erase k s)

/-- Keys strictly rising from a bound. -/
def Assoc.sortedFrom : Nat → Assoc α → Bool
  | _, [] => true
  | b, (k, _) :: t => decide (b ≤ k) && Assoc.sortedFrom (k + 1) t

/-- The canonical form. -/
def Assoc.wf [DecidableEq α] (d : Nat → α) (s : Assoc α) : Bool :=
  Assoc.sortedFrom 0 s && s.all (fun e => decide (e.2 ≠ d e.1))

/-- Word memories: an unlisted address reads 0. -/
def zeroAt (_ : Nat) : Int := 0

/-- Total read of a vector of units. -/
def vget [Inhabited α] (v : Vector α n) (i : Nat) : α := if h : i < n then v[i] else default

/-- Change one unit of a vector; an index outside changes nothing. -/
def vmod (v : Vector α n) (i : Nat) (f : α → α) : Vector α n :=
  if h : i < n then v.set i (f v[i]) else v

/-- Write one unit of a vector. -/
def vset (v : Vector α n) (i : Nat) (x : α) : Vector α n := vmod v i (fun _ => x)

/-- Apply a function to the units 0 to `n` − 1 in rising order. -/
def forUnits (n : Nat) (f : Nat → σ → σ) (s : σ) : σ := (List.range n).foldl (fun s i => f i s) s

end Sys2Proof.Machine
end

