-- ==== Sys2Proof/Machine/Bits.lean ====
section
/-! DEFINITION. Bit fields of status words held as numbers, engine arithmetic (R103–R105), little-endian bytes
(R372) and the two CRCs of the spec (R186, R406). -/

namespace Sys2Proof.Machine

/-- Bit `i` of a word held as a number. -/
def bitAt (w : Int) (i : Nat) : Bool := w.toNat.testBit i

/-- The word with bit `i` set or cleared. -/
def putBit (w : Int) (i : Nat) (b : Bool) : Int :=
  let n := w.toNat
  Int.ofNat (if b then n ||| (1 <<< i) else if n.testBit i then n - 2 ^ i else n)

/-- Bits `lo` to `lo + len − 1`. -/
def fieldAt (w : Int) (lo len : Nat) : Nat := w.toNat / 2 ^ lo % 2 ^ len

/-- The word with that field replaced. -/
def putField (w : Int) (lo len v : Nat) : Int :=
  let n := w.toNat
  Int.ofNat (n - (n / 2 ^ lo % 2 ^ len) * 2 ^ lo + (v % 2 ^ len) * 2 ^ lo)

/-- A flag as a number. -/
def b2i (b : Bool) : Int := if b then 1 else 0

/-- A flag as a natural number. -/
def b2n (b : Bool) : Nat := if b then 1 else 0

/-- Limit to an interval. -/
def clampI (lo hi x : Int) : Int := max lo (min hi x)

/-- Saturate to I32 (R103). -/
def sat32 (x : Int) : Int := clampI minI32 maxI32 x

/-- Saturate a count to `n` unsigned bits. -/
def satU (n : Nat) (x : Int) : Int := clampI 0 (2 ^ n - 1) x

/-- Wrap to I32. -/
def wrap32 (x : Int) : Int := (x + 2147483648) % 4294967296 - 2147483648

/-- Wrap to U32. -/
def wrapU32 (x : Int) : Int := x % 4294967296

/-- The next number after `x` in the counts that skip 0 (ESN R301, OSN R375). -/
def nextNo (x : Nat) : Nat := if x ≥ 4294967295 then 1 else x + 1

/-- Serial order of R379 and R415: does `a` equal or follow `b`? -/
def follows (a b : Nat) : Bool := (a + 4294967296 - b) % 4294967296 < 2147483648

/-- Round to nearest, ties toward plus infinity: x / 2^n (R104). -/
def roundShift (x : Int) (n : Nat) : Int := if n = 0 then x else (x + 2 ^ (n - 1)) / 2 ^ n

/-- Quotient rounded to nearest, ties toward plus infinity; by a positive divisor. -/
def roundDiv (a b : Int) : Int := if b ≤ 0 then 0 else (2 * a + b) / (2 * b)

/-- Quotient rounded up, by a positive divisor. -/
def ceilDiv (a b : Int) : Int := if b ≤ 0 then 0 else -((-a) / b)

/-- `n` little-endian bytes of a number, two's complement (R372). -/
def leBytes : Nat → Int → List Byte
  | 0, _ => []
  | n + 1, v => BitVec.ofInt 8 v :: leBytes n (v / 256)

/-- The unsigned number of little-endian bytes. -/
def ofLe : List Byte → Nat
  | [] => 0
  | b :: t => b.toNat + 256 * ofLe t

/-- The two's-complement number of little-endian bytes. -/
def ofLeSigned (bs : List Byte) : Int :=
  let u := ofLe bs
  if u ≥ 2 ^ (8 * bs.length - 1) then Int.ofNat u - 2 ^ (8 * bs.length) else Int.ofNat u

/-- Bytes `off` to `off + len − 1`, with zeros beyond the end. -/
def slice (bs : List Byte) (off len : Nat) : List Byte :=
  let part := (bs.drop off).take len
  part ++ List.replicate (len - part.length) 0

/-- Overwrite bytes at an offset, growing with zeros as needed. -/
def patch (bs : List Byte) (off : Nat) (new : List Byte) : List Byte :=
  slice bs 0 off ++ new ++ bs.drop (off + new.length)

/-- One bit of the reflected CRC-32 of R406. -/
def crcBit (c : Nat) : Nat := if c % 2 = 1 then (c / 2) ^^^ 0xEDB88320 else c / 2

/-- One byte of the CRC-32. -/
def crcByte (c : Nat) (b : Byte) : Nat :=
  crcBit (crcBit (crcBit (crcBit (crcBit (crcBit (crcBit (crcBit (c ^^^ b.toNat))))))))

/-- CRC-32 of IEEE 802.3 (R406). -/
def crc32 (bs : List Byte) : Nat := (bs.foldl crcByte 0xFFFFFFFF) ^^^ 0xFFFFFFFF

/-- Two bits of a ratio table: the number of ones in a mask of `n` bits. -/
def popCount (n m : Nat) : Nat := ((List.range n).filter (fun i => m.testBit i)).length

end Sys2Proof.Machine
end

