-- ==== Sys2Proof/Machine/Types.lean ====
section
/-! DEFINITION. The kinds of value that commands carry and the state holds: ports, refusal reasons, object values,
answers, operation entries, causes and events. -/

namespace Sys2Proof.Machine

/-- Sources of operations (R377, R453). PMBus and the bulk port are one source. -/
inductive Src where
  | avs | pmbus | canA | canB | svc | seq
  deriving DecidableEq, Repr, Inhabited

/-- The two CAN buses (R381). -/
inductive Bus where
  | a | b
  deriving DecidableEq, Repr, Inhabited

/-- The refusal reasons of R374, in code order. -/
inductive Reason where
  | none | budget | bankTag | late | notAligned | profileOwned | notOwner | seqActive | busy | inUse | noEngine | drive | activeBank | owned
  | mode | order | capacity | keep | noInput | faultLatched | step | route | resolution | sourceMode | range | periodZero | state | input
  | noBattery | signature | loop | access | noObject | noSub | readOnly | writeOnly | length | overload | nvm | crc | timeout | nmtState
  deriving DecidableEq, Repr, Inhabited

/-- The byte of a reason (R374). -/
def Reason.code : Reason → Nat
  | .none => 0x00
  | .budget => 0x01
  | .bankTag => 0x02
  | .late => 0x03
  | .notAligned => 0x04
  | .profileOwned => 0x05
  | .notOwner => 0x06
  | .seqActive => 0x07
  | .busy => 0x08
  | .inUse => 0x09
  | .noEngine => 0x0A
  | .drive => 0x0B
  | .activeBank => 0x0C
  | .owned => 0x0D
  | .mode => 0x0E
  | .order => 0x0F
  | .capacity => 0x10
  | .keep => 0x11
  | .noInput => 0x12
  | .faultLatched => 0x13
  | .step => 0x14
  | .route => 0x15
  | .resolution => 0x16
  | .sourceMode => 0x17
  | .range => 0x18
  | .periodZero => 0x19
  | .state => 0x1A
  | .input => 0x1B
  | .noBattery => 0x1C
  | .signature => 0x1D
  | .loop => 0x1E
  | .access => 0x1F
  | .noObject => 0x20
  | .noSub => 0x21
  | .readOnly => 0x22
  | .writeOnly => 0x23
  | .length => 0x24
  | .overload => 0x25
  | .nvm => 0x26
  | .crc => 0x27
  | .timeout => 0x28
  | .nmtState => 0x29

/-- The SDO abort code of a reason (R374). -/
def Reason.abort : Reason → Nat
  | .none => 0x00000000
  | .budget => 0x06040047
  | .bankTag => 0x06040043
  | .late => 0x08000022
  | .notAligned => 0x08000022
  | .profileOwned => 0x08000021
  | .notOwner => 0x08000021
  | .seqActive => 0x08000021
  | .busy => 0x08000022
  | .inUse => 0x08000022
  | .noEngine => 0x06040047
  | .drive => 0x06040047
  | .activeBank => 0x08000022
  | .owned => 0x08000021
  | .mode => 0x08000022
  | .order => 0x06040043
  | .capacity => 0x08000022
  | .keep => 0x08000021
  | .noInput => 0x08000022
  | .faultLatched => 0x08000022
  | .step => 0x06040043
  | .route => 0x06040043
  | .resolution => 0x06040043
  | .sourceMode => 0x06040043
  | .range => 0x06090030
  | .periodZero => 0x06090030
  | .state => 0x08000022
  | .input => 0x08000022
  | .noBattery => 0x08000022
  | .signature => 0x08000020
  | .loop => 0x06040047
  | .access => 0x06010000
  | .noObject => 0x06020000
  | .noSub => 0x06090011
  | .readOnly => 0x06010002
  | .writeOnly => 0x06010001
  | .length => 0x06070010
  | .overload => 0x05040005
  | .nvm => 0x06060000
  | .crc => 0x08000020
  | .timeout => 0x05040000
  | .nmtState => 0x08000022

/-- The value of an object: a number, an engine coefficient (mantissa and shift), or bytes. The bytes `[]` are also
the default of a COB-ID that follows the node-ID (R382). -/
inductive Val where
  | num (i : Int)
  | coef (m : Int) (sh : Nat)
  | bytes (bs : List Byte)
  deriving DecidableEq, Repr

/-- The number a value holds; 0 for a value of another kind. -/
def Val.int : Val → Int
  | .num i => i
  | _ => 0

/-- The bytes a value holds. -/
def Val.bs : Val → List Byte
  | .bytes b => b
  | _ => []

/-- What the latest command put out on its port. Notes, log 7. -/
inductive Answer where
  | none
  | ack
  | nack
  | data (bs : List Byte)
  | refused (r : Reason)
  | sdoAbort (code : Nat)
  | frames (fs : List (Nat × List Byte))
  | avs (code : Nat) (alert : Bool) (value : Int)
  deriving DecidableEq, Repr, Inhabited

/-- States of an entry of the operation table (R376, R403). -/
inductive OpState where
  | reserved | waiting | running | done | refused
  deriving DecidableEq, Repr, Inhabited

/-- The code of an entry state in `OP_QUERY_RESULT` (R403). -/
def OpState.code : OpState → Nat
  | .reserved => 1 | .waiting => 2 | .running => 3 | .done => 4 | .refused => 5

/-- One entry of the operation table (R375–R379), with the first bytes written for its record (R409). -/
structure OpEntry where
  osn : Nat
  st : OpState
  src : Src
  key : Nat
  reason : Reason
  first : List Byte
  deriving DecidableEq, Repr, Inhabited

/-- A cause of an event that waits for the next commit edge (R300): source, low byte, OSN, occurrences, and the
detail bytes that the cause itself fixes (R409). -/
structure Cause where
  src : Nat
  code : Nat
  osn : Nat
  count : Nat
  arg : List Byte
  deriving DecidableEq, Repr, Inhabited

/-- A committed event (R300, R408). -/
structure Event where
  esn : Nat
  src : Nat
  code : Nat
  osn : Nat
  count : Nat
  flags : Nat
  detail : List Byte
  deriving DecidableEq, Repr, Inhabited

/-- The points a boot passes (R23, R514): no supervisor yet; supervisor running; settings image verified; programs
loaded; boot complete. -/
inductive BootPoint where
  | held | supervisor | verified | loaded | complete
  deriving DecidableEq, Repr, Inhabited

/-- The position of a boot point. -/
def BootPoint.rank : BootPoint → Nat
  | .held => 0 | .supervisor => 1 | .verified => 2 | .loaded => 3 | .complete => 4

/-- The power states of R424. -/
inductive Power where
  | active | economy | keep | dome | ship
  deriving DecidableEq, Repr, Inhabited

/-- Kinds of reset (R431), with their code in `RESET_INFO` where one is given. -/
inductive ResetKind where
  | powerOn | brownOut | resetPin | watchdog | soft | nmtNode | longPress | shipExit
  deriving DecidableEq, Repr, Inhabited

end Sys2Proof.Machine
end

