-- ==== Sys2Proof/Machine/EnginePart.lean ====
section
/-! DEFINITION. What one Spire engine holds (R91–R130): registers, memories, ports, programs. -/

namespace Sys2Proof.Machine

/-- A program image by its parts (R115); `id` 0 is no program. The standard programs carry no code: the spec gives
their equations, not their instructions. -/
structure Image where
  id : Nat
  layout : Nat
  version : Nat
  code : List Nat
  entry : Nat
  flags : Nat
  init : List Int
  imports : List Nat
  drives : List (Nat × Nat)
  patches : List Nat
  railMask : Nat
  header : List Byte
  size : Nat
  unchecked : Bool
  deriving DecidableEq, Repr, Inhabited

/-- No program (ID 0000h, R131). -/
def Image.none : Image := ⟨0, 0, 0, [], 0, 0, [], [], [], [], 0, [], 0, false⟩

/-- What runs an image: 0 no program, 1 to 5 the equations of a standard program, which carries no code here, 6 its code. -/
def Image.kind (g : Image) : Nat := if g.code.isEmpty then g.id else 6

/-- One level of the loop stack: body start, body end, runs left (R91, R107). -/
structure LoopLevel where
  start : Nat
  stop : Nat
  left : Nat
  deriving DecidableEq, Repr, Inhabited

/-- States of `ENG_STATE` (R132). -/
inductive EngState where
  | stopped | running | halted | fault
  deriving DecidableEq, Repr, Inhabited

/-- The code of `ENG_STATE` (R132). -/
def EngState.code : EngState → Nat
  | .stopped => 0 | .running => 1 | .halted => 2 | .fault => 3

/-- States of `PROG_SHADOW_STATE` (R132). -/
inductive ShadowState where
  | empty | loading | checked | refused | pending
  deriving DecidableEq, Repr, Inhabited

/-- The code of `PROG_SHADOW_STATE` (R132). -/
def ShadowState.code : ShadowState → Nat
  | .empty => 0 | .loading => 1 | .checked => 2 | .refused => 3 | .pending => 4

/-- One Spire engine. `dirty`, `portTick` and `driveTick` hold the words written in the present tick; the other word
stores read 0 where nothing is listed. -/
structure Engine where
  st : EngState
  regs : Vector Int 32
  accs : Vector Int 4
  pc : Nat
  calls : List Nat
  loops : List LoopLevel
  cycles : Nat
  /-- END has retired, or the engine is stopped, in the present tick. -/
  ended : Bool
  /-- The engine was stopped in the present tick (R125). -/
  overran : Bool
  /-- No tick of the engine is in progress: it begins its next one at an edge (R92, R425, R427). -/
  idle : Bool
  armed : Bool
  /-- Codes of the SIGs of the present tick, oldest first (R107). -/
  sigs : List Nat
  committed : Assoc Int
  dirty : Assoc Int
  scratch : Assoc Int
  port : Assoc Int
  portTick : Assoc Int
  driveTick : Assoc Int
  mailIn : Assoc Int
  mailPost : Option (Assoc Int)
  linkMap : List Nat
  stampAt : Int
  prog : Image
  /-- Active program memory: the code of the program with its load constants filled in (R91, R114). -/
  words : List Nat
  shadow : Image
  shadowSt : ShadowState
  /-- A swap waits for its edge: 1 program, 2 program and bank (R116). -/
  swapProg : Nat
  swapBank : Bool
  bankB : Bool
  /-- Lost to an uncorrectable error and not yet loaded again: program, active bank, state region (R129). -/
  badProg : Bool
  badBank : Bool
  badState : Bool
  sat : Bool
  accSat : Bool
  div0 : Bool
  addrErr : Bool
  driveDenied : Bool
  eccCorrected : Bool
  eccFatal : Bool
  overrunFlag : Bool
  overrunLimit : Bool
  overrunCause : Nat
  /-- A debugger holds the engine (R127, R464); breakpoints set in it. -/
  breakpoints : List Nat
  deriving DecidableEq, Repr, Inhabited

/-- An engine after reset: no program, everything zero. -/
def Engine.init : Engine where
  st := .stopped
  regs := Vector.replicate 32 0
  accs := Vector.replicate 4 0
  pc := 0
  calls := []
  loops := []
  cycles := 0
  ended := true
  overran := false
  idle := true
  armed := false
  sigs := []
  committed := []
  dirty := []
  scratch := []
  port := []
  portTick := []
  driveTick := []
  mailIn := []
  mailPost := none
  linkMap := []
  stampAt := 0
  prog := Image.none
  words := []
  shadow := Image.none
  shadowSt := .empty
  swapProg := 0
  swapBank := false
  bankB := false
  badProg := false
  badBank := false
  badState := false
  sat := false
  accSat := false
  div0 := false
  addrErr := false
  driveDenied := false
  eccCorrected := false
  eccFatal := false
  overrunFlag := false
  overrunLimit := false
  overrunCause := 0
  breakpoints := []

end Sys2Proof.Machine
end

