-- ==== Sys2Proof/Machine/PartsA.lean ====
section
/-! DEFINITION. What the blocks outside the engines hold beside the object dictionary, first part: clocks and
profiles, capture, events, timers, ports, network, log and access control. -/

namespace Sys2Proof.Machine

/-- A profile or tick-rate change that waits for its edge (R30, R37): the object and value written, the OSN, the port,
and the edge of a scheduled switch. -/
structure Switch where
  key : Nat
  value : Int
  osn : Nat
  src : Src
  at_ : Option Nat
  deriving DecidableEq, Repr, Inhabited

/-- Tick, clocks, sync and spread spectrum (R24–R41). -/
structure Clk where
  /-- Tick rate in force, MHz (R26). -/
  rate : Nat := 2
  /-- Switches that wait, oldest first: of `PERF_PROFILE`, scheduled or not, and of `TICK_RATE` (R30, R37). -/
  pending : List Switch := []
  /-- Ticks in a row within ±2.5 ns, to 16 (R35). -/
  syncRun : Nat := 0
  /-- Periods in a row that differ from the own tick by more than 1 % (R36). -/
  syncBad : Nat := 0
  /-- Symbols since the last marker, and the count word read so far (R34). -/
  syncPos : Nat := 0
  syncWord : Nat := 0
  syncLast : Option Nat := none
  syncMatch : Bool := false
  freeRun : Bool := true
  /-- TICKOUT: high time of the latest edge in ns; 0 when not driven (R34). -/
  tickout : Nat := 0
  /-- The count word TICKOUT carries, from the latest marker (R34). -/
  outWord : Nat := 0
  /-- Modulation value d of the three spread groups, in 1/65536 %, and its direction (R41). -/
  spread : Vector Int 3 := Vector.replicate 3 0
  spreadUp : Vector Bool 3 := Vector.replicate 3 true
  /-- LF crystal edges counted while DOME or debug halt runs (R287, R302). -/
  lfCount : Nat := 0
  /-- The running timers count in LF mode (R287). -/
  lfMode : Bool := false
  /-- The engines whose banks the lowered rate of ECONOMY swapped (R425). -/
  lowered : List Nat := []
  /-- Global timer commands that wait for the next tick edge, oldest first: is it a start, and its mask (R295). -/
  tmWait : List (Bool × Nat) := []
  deriving DecidableEq, Repr

/-- The housekeeping scan (R46): is the next conversion one of VIN, and the channel from which the scan list goes on. -/
structure HkScan where
  vin : Bool := true
  pos : Nat := 1
  deriving DecidableEq, Repr

/-- States of the capture machine (R49). -/
inductive CapState where
  | idle | armed | triggered | done
  deriving DecidableEq, Repr, Inhabited

/-- The code of `CAP_STATE` (R51). -/
def CapState.code : CapState → Nat
  | .idle => 0 | .armed => 1 | .triggered => 2 | .done => 3

/-- The waveform capture (R48, R49): the configuration it was armed with and what it holds, oldest sample first. -/
structure Capture where
  st : CapState := .idle
  mode : Nat := 0
  div : Nat := 1
  len : Nat := 0
  pre : Nat := 0
  srcs : List Nat := []
  trig : Nat := 0
  level : Int := 0
  edge : Nat := 0
  samples : List (List Int) := []
  preValid : Nat := 0
  /-- Samples still to record after the trigger. -/
  left : Nat := 0
  trigEsn : Nat := 0
  trigTick : Int := 0
  /-- A trigger has been seen and the next sample is the trigger sample. -/
  fired : Bool := false
  /-- The tick in which the arm completed has not ended: triggers of it are ignored (R49). -/
  fresh : Bool := false
  deriving DecidableEq, Repr

/-- One INT line (R305): its queue, oldest first. -/
structure IntLine where
  q : List Event := []
  asserted : Bool := false
  overflow : Bool := false
  lost : Nat := 0
  deriving DecidableEq, Repr, Inhabited

/-- The event controller (R300–R308). -/
structure EventCtl where
  causes : List Cause := []
  /-- Causes that are committed before all others: those of a boot or a wake (R413, R430, R433). -/
  front : List Cause := []
  esnNext : Nat := 1
  /-- `ESN_NEXT` has been set by this boot (R413). -/
  esnSet : Bool := false
  queue : List Event := []
  /-- First and last ESN lost since the queue was full (R303). -/
  lost : Option (Nat × Nat) := none
  /-- The number of events lost within that span (R303). -/
  lostN : Nat := 0
  /-- A place of the queue is kept for the event that names the lost ESNs (R303). -/
  lossDue : Bool := false
  ints : Vector IntLine 4 := Vector.replicate 4 {}
  /-- Events held in DOME with the LF count of their occurrence (R302). -/
  dome : List (Nat × Cause) := []
  /-- Events of DOME beyond those held (R302). -/
  domeLost : Nat := 0
  /-- Source and code of what occurred in this stay in DOME (R308). -/
  domeSeen : List (Nat × Nat) := []
  /-- Sources committed at the latest edge, for the engine event words and triggers (R307, R48). -/
  latest : List Event := []
  deriving DecidableEq, Repr

/-- One timer beside its objects (R286–R296): the fraction of its LF count, the period and compare in force, and
writes of them that wait. -/
structure Tm where
  frac : Nat := 0
  period : Int := 0
  periodWait : Option Int := none
  compare : Int := 4294967295
  compareWait : Option Int := none
  /-- Capture input transitions that await their sample: the base clocks since each (R292). -/
  caps : List Nat := []
  /-- Base clocks since the latest timer clock edge, START or RESET: the prescaler (R286). -/
  pre : Nat := 0
  deriving DecidableEq, Repr, Inhabited

/-- The two-wire target ports (R344): the PMBus target and SVC. -/
inductive TwPort where
  | pmb | svc
  deriving DecidableEq, Repr, Inhabited

/-- What a two-wire target port holds: its STATUS_CML, selected object, last write, and bulk pointer and staging
buffer (R349–R361). -/
structure TwTarget where
  cml : Int := 0
  sel : Nat := 0
  lastOsn : Nat := 0
  lastReason : Reason := .none
  ptr : Nat := 0
  staging : List Byte := []
  deriving DecidableEq, Repr, Inhabited

/-- Latched status registers of one page (R352). -/
structure PageStatus where
  vout : Int := 0
  iout : Int := 0
  inp : Int := 0
  temp : Int := 0
  mfr : Int := 0
  deriving DecidableEq, Repr, Inhabited

/-- A controller of a two-wire bus (R355, R342): the descriptor in progress, its retries, the result. -/
structure TwCtrl where
  busy : Bool := false
  desc : List Byte := []
  retries : Nat := 0
  result : List Byte := [0, 0, 0, 0]
  busStuck : Bool := false
  sclStuck : Bool := false
  alertStuck : Bool := false
  alertReads : Nat := 0
  /-- The transfer waits for the bus after the device became target (R356). -/
  deferred : Bool := false
  /-- The transfer has started: on LB it waits for those that go before it (R364). -/
  started : Bool := false
  /-- Of the transfer of LB that is not `LB_XFER` (R363, R364): the retries made, and the bytes of the latest stage read as the
  controller sends them. -/
  tries : Nat := 0
  sent : List Byte := []
  deriving DecidableEq, Repr

/-- A transfer that waits for LB beside `LB_XFER` (R364): the read of a stage after an SG fault or in a qualification, the
service of LB_ALERT#. -/
inductive LbJob where
  | sgRead (p : Nat) | qualRead (p : Nat) | alert
  deriving DecidableEq, Repr, Inhabited

/-- The class of a waiting transfer (R364). -/
def LbJob.rank : LbJob → Nat
  | .sgRead _ => 0 | .qualRead _ => 1 | .alert => 2

/-- An SDO transfer (R387): a download with the bytes received, or an upload with the snapshot left to send. -/
inductive Sdo where
  | idle
  | down (key : Nat) (size : Option Nat) (data : List Byte) (toggle : Bool)
  | up (key : Nat) (rest : List Byte) (toggle : Bool)
  deriving DecidableEq, Repr, Inhabited

/-- A bulk extension transfer (R394–R399). -/
structure Bxt where
  /-- 0 idle, 1 reading, 2 writing, 3 committing. -/
  st : Nat := 0
  tag : Nat := 0
  kind : Nat := 0
  unit : Nat := 0
  idx : Nat := 0
  off : Nat := 0
  len : Nat := 0
  block : Nat := 0
  data : List Byte := []
  nextCtr : Nat := 0
  sentTo : Nat := 0
  reason : Reason := .none
  moved : Nat := 0
  repeated : Nat := 0
  deriving DecidableEq, Repr, Inhabited

/-- One CAN port (R381–R400). -/
structure CanPort where
  enabled : Bool := false
  errPassive : Bool := false
  busOff : Bool := false
  idConflict : Bool := false
  offRepeated : Bool := false
  /-- Bus-offs within 60 s (R400). -/
  busOffRun : Nat := 0
  /-- EMCY frames waiting (R391). -/
  emcy : List Event := []
  /-- Inhibit time left before the next EMCY frame, ns (R391). -/
  emcyLeft : Nat := 0
  sdo : Sdo := .idle
  bxt : Bxt := {}
  counts : Vector Int 6 := Vector.replicate 6 0
  deriving DecidableEq, Repr, Inhabited

/-- NMT states (R384, R404). -/
inductive Nmt where
  | initialising | stopped | operational | preOperational
  deriving DecidableEq, Repr, Inhabited

/-- The code of `NMT_STATE` (R404). -/
def Nmt.code : Nmt → Nat
  | .initialising => 0 | .stopped => 4 | .operational => 5 | .preOperational => 127

/-- A heartbeat consumer entry (R386). -/
structure HbEntry where
  heard : Bool := false
  timedOut : Bool := false
  deriving DecidableEq, Repr, Inhabited

/-- The CANopen node (R382–R393). -/
structure Node where
  nmt : Nmt := .initialising
  id : Nat := 0
  activeB : Bool := false
  hb : Vector HbEntry 4 := Vector.replicate 4 {}
  /-- TPDO frames held by their inhibit time (R388). -/
  tpdoHeld : Vector Bool 4 := Vector.replicate 4 false
  tpdoInhibit : Vector Bool 4 := Vector.replicate 4 false
  /-- Ns until each RPDO may enter an operation again, and its frame that waits (R390). -/
  rpdoLeft : Vector Nat 4 := Vector.replicate 4 0
  rpdoHeld : Vector (Option (Bus × List Byte)) 4 := Vector.replicate 4 none
  /-- The bytes each TPDO last took from an edge. -/
  tpdoLast : Vector (List Byte) 4 := Vector.replicate 4 []
  /-- `1001h` as of the latest edge (R392). -/
  errReg : Nat := 0
  /-- ESNs in `1003h` whose frame still waits on a bus (R391). -/
  emcyDone : List Nat := []
  deriving DecidableEq, Repr

/-- A record of the log: its 32 bytes, or a position that cannot be read (R405, R407, R418). -/
structure LogRec where
  esn : Nat := 0
  bytes : List Byte := []
  readable : Bool := true
  /-- Torn by a loss of power while it was written (R414). -/
  torn : Bool := false
  spare : Bool := false
  block : Nat := 0
  deriving DecidableEq, Repr, Inhabited

/-- The event log in NVM and what surrounds it (R405–R421). -/
structure Log where
  recs : List LogRec := []
  /-- Records that have left the supervisor queue and wait for NVM (R412). -/
  wait : List Event := []
  /-- Positions used in the main and spare regions, bad blocks included. -/
  mainUsed : Nat := 0
  spareUsed : Nat := 0
  badMain : List Nat := []
  badSpare : List Nat := []
  full : Bool := false
  inSpare : Bool := false
  stopped : Bool := false
  spareFailed : Bool := false
  /-- A clear runs (R420), and its record once it is composed, with the clear-pending flag. -/
  clearRun : Bool := false
  clearing : Option LogRec := none
  /-- The erase is over: the records committed meanwhile that are still to be written before the clear ends (R420). -/
  clearLeft : Option Nat := none
  /-- Positions from the cursor on at which the read that is being made meets an uncorrectable ECC error (R418). -/
  flaws : List Nat := []
  torn : Nat := 0
  /-- A loss of power came while a record was written, to the spare region or not (R414). -/
  tearing : Option Bool := none
  reserve : Nat := 0
  deriving DecidableEq, Repr

/-- One interface of access control (R453, R461, R463). -/
structure Iface where
  level : Nat := 0
  nonce : Option (BitVec 128) := none
  endCause : Nat := 0
  debugOwner : Bool := false
  deriving DecidableEq, Repr, Inhabited

/-- Instructions of the JTAG port (R464). -/
inductive Tap where
  | bypass | idcode | samplePreload | extest | clamp | highz | debug
  deriving DecidableEq, Repr, Inhabited

/-- Access control and the debug port (R452–R466). -/
structure Access where
  ifs : Vector Iface 4 := Vector.replicate 4 {}
  tap : Tap := .idcode
  supBreaks : List Nat := []
  /-- What is left of the back-off, in 1/64 ns (R462). -/
  wait : Nat := 0
  deriving DecidableEq, Repr

end Sys2Proof.Machine
end

