-- ==== Sys2Proof/Machine/Inputs.lean ====
section
/-! DEFINITION. What the commands that stand for moments of the plant and the board carry. -/

namespace Sys2Proof.Machine

/-- The raw codes of a tick (R42, R43): for each rail's converter its latest 32 raw slots, oldest first. The raw window that
closes at the edge is the last 32, 16 or 8 of them, as the tick's rate has it. -/
structure EdgeSamples where
  raw : Vector (Vector (BitVec 12) 32) 8 := Vector.replicate 8 (Vector.replicate 32 0)
  deriving DecidableEq, Repr, Inhabited

/-- One raw slot of the rail converters at 32 MS/s (R42, R48): its place among eight, and the code of each rail. -/
structure RawSlot where
  place : Fin 8 := 0
  code : Vector (BitVec 12) 8 := Vector.replicate 8 0
  deriving DecidableEq, Repr, Inhabited

/-- The form of a transfer (R345): whole, with more data bytes written than its command takes, or ended by a STOP before all its
bytes. -/
inductive TwForm where
  | whole | long | short
  deriving DecidableEq, Repr, Inhabited

/-- How a PMBus transfer reaches the device: its port, its form, its PEC byte (R346), on a write the byte that follows the data,
on a read present where the controller clocks one more byte, and the positions of the log, counted from the port's cursor,
at which a read that it makes meets an uncorrectable ECC error (R418). -/
structure TwFrame where
  port : TwPort := .pmb
  pec : Option Byte := none
  form : TwForm := .whole
  flaws : List Nat := []
  deriving DecidableEq, Repr, Inhabited

/-- A read of a bulk window (R358): its bytes, and the positions of the log, counted from the port's cursor, at which it meets an
uncorrectable ECC error (R418). -/
structure BulkGet where
  bytes : Nat := 0
  flaws : List Nat := []
  deriving DecidableEq, Repr, Inhabited

/-- How a frame reaches a CAN port: its bus, whether its length or format is another than its identifier takes (R384, R394,
R400), and the positions of the log at which a read that it makes meets an uncorrectable ECC error (R418). -/
structure CanFrame where
  bus : Bus
  wrong : Bool := false
  flaws : List Nat := []
  deriving DecidableEq, Repr, Inhabited

/-- A request to an SDO server (R387): its frame, and whether its command specifier is none that the server knows. -/
structure SdoFrame extends CanFrame where
  unknown : Bool := false
  deriving DecidableEq, Repr, Inhabited

/-- Where an uncorrectable ECC error of an engine stands (R129), with its word address. -/
inductive EccLoc where
  | code (a : Fin 4096) | activeBank (c : Fin 256) | inactiveBank (c : Fin 256) | state (a : Fin 512) | scratch (a : Fin 1024)
  | shadow (a : Fin 4096)
  deriving DecidableEq, Repr, Inhabited

/-- What a pass over an engine's memory, or the engine's own read, finds (R127, R128). -/
structure EccRead where
  corrected : Bool := false
  /-- It is the engine's own read. -/
  stall : Bool := false
  deriving DecidableEq, Repr, Inhabited

/-- A sample of IMON in an on-time (R63, R66): 20 ps steps since the turn-on, and 1/256 of the DAC's LSB. -/
structure TripSample where
  steps : Nat := 0
  imon : BitVec 20 := 0
  deriving DecidableEq, Repr, Inhabited

/-- A read at the alert response address (R354): does the target win the arbitration, and is a PEC clocked for? -/
structure AlertRead where
  won : Bool := true
  pec : Bool := false
  deriving DecidableEq, Repr, Inhabited

/-- How a stage's status read ends (R363): the word that it gives within 2 ms, retries included, and the PEC byte that follows the
word where PEC is on. -/
structure StageAnswer where
  word : Option (BitVec 16) := none
  pec : Byte := 0
  deriving DecidableEq, Repr, Inhabited

/-- What the checks of a qualification measure (R225). -/
structure QualResult where
  /-- The group's SG line went below 0.20 V during the qualification. -/
  sgDip : Bool := false
  /-- Mean of the 64 offset conversions, µV, and max − min, LSB of 0.4 mV. -/
  offMean : Int := 0
  offSpread : Nat := 0
  /-- Peak current of the pulse (2^−8 A) and VIN at its turn-on (2^−16 V). -/
  ip : Int := 512
  vin : Int := 786432
  /-- Fine steps of 20 ps from turn-off to the zero crossing. -/
  zero : Nat := 0
  /-- At MID within the offset band within 20 µs of turn-off. -/
  drained : Bool := true
  deriving DecidableEq, Repr, Inhabited

/-- What wakes the device from DOME (R430, R450). -/
inductive WakeCause where
  | timer (t : Fin 16) | event (s : Fin 128) (code : Fin 256) | monitor (w : Fin 24) | vinPresent | button | svc
  deriving DecidableEq, Repr, Inhabited

/-- The part of NVM outside the log (R437, R449). -/
inductive NvmArea where
  | imageA | imageB | other
  deriving DecidableEq, Repr, Inhabited

/-- An ECC error that a read of NVM outside the log finds (R449). -/
structure NvmEcc where
  area : NvmArea := .other
  corrected : Bool := false
  addr : BitVec 32 := 0
  deriving DecidableEq, Repr, Inhabited

/-- What a boot reads from the board (R23, R40, R259, R314, R316, R414, R503). -/
structure BootInputs where
  /-- The eight conversions of each strap, in 1/65536 of VDDIO_H (R501). -/
  addrsel : Vector (BitVec 16) 8 := Vector.replicate 8 2048
  nodesel : Vector (BitVec 16) 8 := Vector.replicate 8 4096
  /-- VIN is judged valid when the supervisor runs (R316). -/
  vinValid : Bool := true
  /-- The first judgement of the cell: thermistor in range, BAT at 2.0 V or more (R325). -/
  tsOk : Bool := true
  batOk : Bool := true
  /-- The chosen firmware slot fails its CRC (R448). -/
  slotBad : Bool := false
  /-- What the position reads of a record that a loss of power tore, where one was being written (R414). -/
  torn : Option (List Byte) := none
  /-- The ECC errors that the reads of NVM outside the log find (R438, R449). -/
  ecc : List NvmEcc := []
  /-- The point that this boot reaches (R23, R514); a further BOOT goes on from there. -/
  upTo : BootPoint := .complete
  deriving DecidableEq, Repr, Inhabited

end Sys2Proof.Machine
end

