-- ==== Sys2Proof/Syntax.lean ====
section
/-! DEFINITION. The commands of the device: one constructor for each row of spec/opcode_table.json (395 rows), with the
operands the rule of the row names. `port` is the host port that sends an operation (R453), `data` the bytes of the
value written, little-endian (R372). Rows of the Nymren instruction set carry the engine that executes them. -/

namespace Sys2Proof

open Machine

/-- The commands. -/
inductive Instr where
/-- TICK_EDGE (R24). -/
| tickEdge (x : EdgeSamples)
/-- KEEP_EDGE (R302). -/
| keepEdge
/-- OVERRUN (R125). -/
| overrun (e : Fin 16)
/-- NOP (R107). -/
| nyNop (e : Fin 16)
/-- END (R107). -/
| nyEnd (e : Fin 16)
/-- COMMIT (R94). -/
| nyCommit (e : Fin 16)
/-- BR (R107). -/
| nyBr (e : Fin 16) (t : Fin 4096)
/-- BCC (R107). -/
| nyBcc (e : Fin 16) (cc : Fin 6) (ra : Fin 32) (t : Fin 4096)
/-- LOOP (R109). -/
| nyLoop (e : Fin 16) (n : Fin 256) (t : Fin 4096)
/-- CALL (R107). -/
| nyCall (e : Fin 16) (t : Fin 4096)
/-- RET (R107). -/
| nyRet (e : Fin 16)
/-- SIG (R107). -/
| nySig (e : Fin 16) (code : Fin 256)
/-- BRK (R107). -/
| nyBrk (e : Fin 16)
/-- ADD (R107). -/
| nyAdd (e : Fin 16) (rd ra rb : Fin 32)
/-- SUB (R107). -/
| nySub (e : Fin 16) (rd ra rb : Fin 32)
/-- ADDW (R107). -/
| nyAddw (e : Fin 16) (rd ra rb : Fin 32)
/-- ADDI (R107). -/
| nyAddi (e : Fin 16) (rd ra : Fin 32) (imm : BitVec 16)
/-- AND (R107). -/
| nyAnd (e : Fin 16) (rd ra rb : Fin 32)
/-- OR (R107). -/
| nyOr (e : Fin 16) (rd ra rb : Fin 32)
/-- XOR (R107). -/
| nyXor (e : Fin 16) (rd ra rb : Fin 32)
/-- ANDI (R107). -/
| nyAndi (e : Fin 16) (rd ra : Fin 32) (imm : BitVec 16)
/-- SHL (R107). -/
| nyShl (e : Fin 16) (rd ra sh : Fin 32)
/-- SHR (R107). -/
| nyShr (e : Fin 16) (rd ra sh : Fin 32)
/-- SHLV (R107). -/
| nyShlv (e : Fin 16) (rd ra rb : Fin 32)
/-- MIN (R107). -/
| nyMin (e : Fin 16) (rd ra rb : Fin 32)
/-- MAX (R107). -/
| nyMax (e : Fin 16) (rd ra rb : Fin 32)
/-- CLAMP (R107). -/
| nyClamp (e : Fin 16) (rd ra rb : Fin 32)
/-- ABS (R107). -/
| nyAbs (e : Fin 16) (rd ra : Fin 32)
/-- NEG (R107). -/
| nyNeg (e : Fin 16) (rd ra : Fin 32)
/-- SLT (R107). -/
| nySlt (e : Fin 16) (rd ra rb : Fin 32)
/-- SEL (R107). -/
| nySel (e : Fin 16) (rd ra rb : Fin 32)
/-- MOV (R107). -/
| nyMov (e : Fin 16) (rd ra : Fin 32)
/-- MOVI (R107). -/
| nyMovi (e : Fin 16) (rd : Fin 32) (imm : BitVec 16)
/-- MOVHI (R107). -/
| nyMovhi (e : Fin 16) (rd : Fin 32) (imm : BitVec 16)
/-- MUL (R107). -/
| nyMul (e : Fin 16) (rd ra rb sh : Fin 32)
/-- DIVQ (R107). -/
| nyDivq (e : Fin 16) (rd ra rb sh : Fin 32)
/-- LD (R93). -/
| nyLd (e : Fin 16) (rd ra : Fin 32) (imm : BitVec 16)
/-- ST (R94). -/
| nySt (e : Fin 16) (rd ra : Fin 32) (imm : BitVec 16)
/-- LDC (R107). -/
| nyLdc (e : Fin 16) (rd ra : Fin 32) (c : BitVec 8)
/-- LDCM (R107). -/
| nyLdcm (e : Fin 16) (rd ra : Fin 32) (c : BitVec 8)
/-- CLRA (R107). -/
| nyClra (e : Fin 16) (a : Fin 4)
/-- LDA (R104). -/
| nyLda (e : Fin 16) (a : Fin 4) (ra : Fin 32)
/-- MAC (R105). -/
| nyMac (e : Fin 16) (a : Fin 4) (ra rb : Fin 32) (c : BitVec 8)
/-- MSC (R105). -/
| nyMsc (e : Fin 16) (a : Fin 4) (ra rb : Fin 32) (c : BitVec 8)
/-- MACW (R107). -/
| nyMacw (e : Fin 16) (a : Fin 4) (ra rb sh : Fin 32)
/-- ACX (R104). -/
| nyAcx (e : Fin 16) (rd : Fin 32) (a : Fin 4) (sh : BitVec 6)
/-- ADDA (R107). -/
| nyAdda (e : Fin 16) (a b : Fin 4)
/-- IN (R107). -/
| nyIn (e : Fin 16) (rd ra : Fin 32) (p : BitVec 9)
/-- OUT (R97). -/
| nyOut (e : Fin 16) (rd ra q : Fin 32)
/-- OUTD (R100). -/
| nyOutd (e : Fin 16) (rd ra : Fin 32) (w : BitVec 9)
/-- PERF_PROFILE_WRITE (R30). -/
| perfProfileWrite (port : Src) (data : List Byte)
/-- TICK_RATE_WRITE (R30). -/
| tickRateWrite (port : Src) (data : List Byte)
/-- PROFILE_AT_TICK_WRITE (R37). -/
| profileAtTickWrite (port : Src) (data : List Byte)
/-- PROFILE_SCHED_WRITE (R37). -/
| profileSchedWrite (port : Src) (data : List Byte)
/-- SYNCIN_EDGE (R35). -/
| syncinEdge (at_ : Nat) (width : Nat) (offset : Int)
/-- SYNC_LOST (R36). -/
| syncLost
/-- XO_FAULT (R39). -/
| xoFault (code : Fin 4)
/-- XO_FAULT_CLEAR (R39). -/
| xoFaultClear
/-- LF_XTAL_FAIL (R40). -/
| lfXtalFail
/-- LF_CALIBRATION (R40). -/
| lfCalibration (error : BitVec 16)
/-- FROZEN_ADC (R45). -/
| frozenAdc (n : Fin 8)
/-- HK_CONVERSION (R46). -/
| hkConversion (ch : Fin 32) (code : BitVec 12)
/-- READ_IOUT_PEAK_READ (R47). -/
| readIoutPeakRead (port : Src) (n : Fin 8)
/-- CAP_ARM (R49). -/
| capArm (port : Src)
/-- CAP_FORCE_TRIGGER (R49). -/
| capForceTrigger (port : Src)
/-- CAP_ABORT (R49). -/
| capAbort (port : Src)
/-- CAPTURE_DONE (R49). -/
| captureDone
/-- RAIL_PERIOD_START (R79). -/
| railPeriodStart (n : Fin 8)
/-- SLOT_TURN_ON (R63). -/
| slotTurnOn (p : Fin 32)
/-- DEFERRED_TURN_ON (R61). -/
| deferredTurnOn (p : Fin 32)
/-- PEAK_COMPARATOR_TRIP (R63, R66): the sample of IMON that trips. -/
| peakComparatorTrip (p : Fin 32) (sample : TripSample)
/-- BLANKING_END (R66). -/
| blankingEnd (p : Fin 32)
/-- TON_MAX_EXPIRY (R66). -/
| tonMaxExpiry (p : Fin 32)
/-- TIMED_TURN_OFF (R67). -/
| timedTurnOff (p : Fin 32)
/-- ZERO_CROSSING (R69). -/
| zeroCrossing (p : Fin 32) (steps : Nat)
/-- TIMED_ZERO_CROSSING (R69). -/
| timedZeroCrossing (p : Fin 32)
/-- IMON_CONVERSION (R70). -/
| imonConversion (p : Fin 32) (code : BitVec 12)
/-- PLACED_HOLD (R71). -/
| placedHold (p : Fin 32) (late : Bool)
/-- ASYNC_TRIP (R68). -/
| asyncTrip (w : Fin 24) (upper : Bool) (p : Fin 32)
/-- TRIP_RELEASE (R68). -/
| tripRelease (w : Fin 24) (upper : Bool) (p : Fin 32)
/-- SG_FAULT_COMPARATOR (R85). -/
| sgFaultComparator (g : Fin 8)
/-- REALIGN (R58). -/
| realign (port : Src) (p : Fin 32)
/-- FORCE_MID (R88). -/
| forceMid (port : Src) (p : Fin 32)
/-- RELEASE (R68). -/
| release (port : Src) (p : Fin 32)
/-- SINGLE_PULSE (R87). -/
| singlePulse (port : Src) (p : Fin 32)
/-- SINGLE_PULSE_TURN_OFF (R87). -/
| singlePulseTurnOff (p : Fin 32)
/-- PHASE_RAIL_WRITE (R73). -/
| phaseRailWrite (port : Src) (p : Fin 32) (data : List Byte)
/-- PHASE_STATUS_READ (R88). -/
| phaseStatusRead (port : Src) (p : Fin 32)
/-- PROG_SHADOW_SEL (R116). -/
| progShadowSel (port : Src) (e : Fin 16) (data : List Byte)
/-- PROG_IMAGE (R116). -/
| progImage (port : Src) (e : Fin 16) (data : List Byte)
/-- PROGRAM_CHECK_DONE (R110). -/
| programCheckDone (e : Fin 16)
/-- PROG_SWAP_REQ (R116). -/
| progSwapReq (port : Src) (e : Fin 16) (data : List Byte)
/-- BANK_SWAP_REQ (R121). -/
| bankSwapReq (port : Src) (e : Fin 16)
/-- BANK_COPY (R121). -/
| bankCopy (port : Src) (e : Fin 16)
/-- COEF_WRITE (R119). -/
| coefWrite (port : Src) (e : Fin 16) (bankB : Bool) (entry : Fin 257) (data : List Byte)
/-- LIB_STORE (R118). -/
| libStore (port : Src) (data : List Byte)
/-- LIB_STORE_DONE (R118). -/
| libStoreDone (ok : Bool)
/-- MAILBOX_POST (R102). -/
| mailboxPost (port : Src) (e : Fin 16)
/-- ECC_SCRUB (R128). -/
| eccScrub (e : Fin 16) (found : EccRead)
/-- ECC_UNCORRECTABLE (R129). -/
| eccUncorrectable (e : Fin 16) (loc : EccLoc)
/-- ENGINE_RELOAD_DONE (R129). -/
| engineReloadDone (e : Fin 16)
/-- ENG_STATUS_READ (R103). -/
| engStatusRead (port : Src) (e : Fin 16)
/-- ENG_CYCLES_MAX_READ (R132). -/
| engCyclesMaxRead (port : Src) (e : Fin 16)
/-- LOOP_MODE_WRITE (R150). -/
| loopModeWrite (port : Src) (n : Fin 8) (data : List Byte)
/-- POLICY_ENTRY_WRITE (R163). -/
| policyEntryWrite (port : Src) (n : Fin 8) (index : BitVec 16) (sub : BitVec 8) (data : List Byte)
/-- POLICY_HOLD_WRITE (R164). -/
| policyHoldWrite (port : Src) (n : Fin 8) (data : List Byte)
/-- POLICY_ENTRY_POST (R162). -/
| policyEntryPost
/-- VOUT_COMMAND_WRITE (R169). -/
| voutCommandWrite (port : Src) (n : Fin 8) (data : List Byte)
/-- MARGIN_STATE_WRITE (R181). -/
| marginStateWrite (port : Src) (n : Fin 8) (data : List Byte)
/-- AVS_WRITE_AND_COMMIT (R176). -/
| avsWriteAndCommit (sel type : Fin 16) (data : BitVec 16)
/-- AVS_WRITE_AND_HOLD (R176). -/
| avsWriteAndHold (sel type : Fin 16) (data : BitVec 16)
/-- AVS_TARGET_VOLTAGE (R176). -/
| avsTargetVoltage (sel : Fin 16) (hold : Bool) (data : BitVec 16)
/-- AVS_TRANSITION_RATE (R176). -/
| avsTransitionRate (sel : Fin 16) (hold : Bool) (data : BitVec 16)
/-- AVS_RESET_VOLTAGE (R176). -/
| avsResetVoltage (sel : Fin 16) (hold : Bool) (data : BitVec 16)
/-- AVS_STATUS_WRITE (R176). -/
| avsStatusWrite (sel : Fin 16) (hold : Bool) (data : BitVec 16)
/-- AVS_READ_VOLTAGE (R176). -/
| avsReadVoltage (sel : Fin 16)
/-- AVS_READ_RATE (R176). -/
| avsReadRate (sel : Fin 16)
/-- AVS_READ_CURRENT (R176). -/
| avsReadCurrent (sel : Fin 16)
/-- AVS_READ_TEMPERATURE (R176). -/
| avsReadTemperature (sel : Fin 16)
/-- AVS_READ_STATUS (R178). -/
| avsReadStatus (sel : Fin 16)
/-- AVS_UNSUPPORTED (R177). -/
| avsUnsupported (cmd : Fin 8) (sel type : Fin 16)
/-- AVS_BAD_CRC (R177). -/
| avsBadCrc
/-- AVS_HELD_ENTRY (R179). -/
| avsHeldEntry (sel : Fin 16)
/-- LIL_EN_WRITE (R185). -/
| lilEnWrite (port : Src) (data : List Byte)
/-- LIL_UP (R185). -/
| lilUp
/-- LIL_TRAIN_TIMEOUT (R185). -/
| lilTrainTimeout
/-- LIL_WORD_ERROR (R185). -/
| lilWordError
/-- LIL_LINK_DROP (R185). -/
| lilLinkDrop
/-- LIL_FRAME (R186). -/
| lilFrame (w : BitVec 40)
/-- INTENT_RETRACT (R187). -/
| intentRetract (n : Fin 8) (slot : Fin 8)
/-- INTENT_RESUME (R188). -/
| intentResume (port : Src) (n : Fin 8)
/-- THROTTLE_GRACE_EXPIRY (R189). -/
| throttleGraceExpiry (n : Fin 8)
/-- THROTTLE_RELEASE (R189). -/
| throttleRelease
/-- PFW_RELEASE (R190). -/
| pfwRelease
/-- RDY_ASSERT (R174). -/
| rdyAssert (n : Fin 8)
/-- QUALIFY_PHASE (R225). -/
| qualifyPhase (p : Fin 32) (r : QualResult)
/-- SENSE_TEST_DUE (R210). -/
| senseTestDue (n : Fin 8)
/-- GLOVE_EXIT (R216). -/
| gloveExit (n : Fin 8)
/-- GLOVE_TIMER_EXPIRY (R217). -/
| gloveTimerExpiry (n : Fin 8)
/-- OV_TRIP (R218). -/
| ovTrip (n : Fin 8)
/-- UV_TRIP (R218). -/
| uvTrip (n : Fin 8)
/-- OC_TRIP (R218). -/
| ocTrip (n : Fin 8)
/-- STAGE_OT_TRIP (R218). -/
| stageOtTrip (g : Fin 8)
/-- SG_OT_WARNING (R219). -/
| sgOtWarning (g : Fin 8)
/-- RETRY_ENABLE (R221). -/
| retryEnable (n : Fin 8)
/-- RETRY_COUNT_RESET (R221). -/
| retryCountReset (u : Fin 18)
/-- CLEAR_FAULTS_WRITE (R234). -/
| clearFaultsWrite (port : Src) (u : Fin 18)
/-- DRAIN (R227). -/
| drain (port : Src) (p : Fin 32)
/-- DRAIN_FORCE (R227). -/
| drainForce (port : Src) (p : Fin 32)
/-- ADMIT (R227). -/
| admitPhase (port : Src) (p : Fin 32)
/-- GROUP_DRAIN (R227). -/
| groupDrain (port : Src) (g : Fin 8)
/-- GROUP_DRAIN_FORCE (R227). -/
| groupDrainForce (port : Src) (g : Fin 8)
/-- GROUP_ADMIT (R227). -/
| groupAdmit (port : Src) (g : Fin 8)
/-- AUTO_READMIT (R223). -/
| autoReadmit (p : Fin 32)
/-- WEAR_BIT_SET (R229). -/
| wearBitSet (p : Fin 32) (bit : Fin 3)
/-- TEMP_HIST_MINUTE (R230). -/
| tempHistMinute
/-- WEAR_SNAPSHOT (R230). -/
| wearSnapshot
/-- UNIT_ENABLE (R247). -/
| unitEnable (port : Src) (u : Fin 18)
/-- UNIT_DISABLE (R248). -/
| unitDisable (port : Src) (u : Fin 18)
/-- BK_VOUT_COMMAND_WRITE (R239). -/
| bkVoutCommandWrite (port : Src) (b : Fin 6) (data : List Byte)
/-- BUCK_PERIOD_START (R237). -/
| buckPeriodStart (b : Fin 6) (code : BitVec 12)
/-- BUCK_TURN_OFF (R237). -/
| buckTurnOff (b : Fin 6) (limit : Bool) (mA : Nat)
/-- BUCK_VIN_UV (R240). -/
| buckVinUv
/-- BUCK_VIN_RESUME (R240). -/
| buckVinResume
/-- BK_OC_TRIP (R241). -/
| bkOcTrip (b : Fin 6)
/-- BK_OV_TRIP (R241). -/
| bkOvTrip (b : Fin 6)
/-- BK_UV_TRIP (R241). -/
| bkUvTrip (b : Fin 6)
/-- BK_THERMAL_TRIP (R241). -/
| bkThermalTrip (b : Fin 6)
/-- BK_RETRY_ENABLE (R241). -/
| bkRetryEnable (b : Fin 6)
/-- LDO_RAMP_DONE (R243). -/
| ldoRampDone (l : Fin 4)
/-- LDO_OC_TRIP (R245). -/
| ldoOcTrip (l : Fin 4)
/-- LDO_UV_TRIP (R245). -/
| ldoUvTrip (l : Fin 4)
/-- LDO_THERMAL_TRIP (R245). -/
| ldoThermalTrip (l : Fin 4)
/-- LDO_RETRY_ENABLE (R245). -/
| ldoRetryEnable (l : Fin 4)
/-- KEEP_RAIL_START (R244). -/
| keepRailStart (l : Fin 4)
/-- KEEP_RAIL_STOP (R244). -/
| keepRailStop (l : Fin 4)
/-- SEQ_NOP (R251). -/
| seqNop
/-- SEQ_ENABLE (R251). -/
| seqEnable
/-- SEQ_DISABLE (R251). -/
| seqDisable
/-- SEQ_SET_VOUT (R251). -/
| seqSetVout
/-- SEQ_OUT (R251). -/
| seqOut
/-- SEQ_SIGNAL (R251). -/
| seqSignal
/-- SEQ_STEP_TIMEOUT (R253). -/
| seqStepTimeout
/-- SEQ_PROGRAM_END (R257). -/
| seqProgramEnd
/-- POWER_UP (R257). -/
| powerUp (port : Src)
/-- POWER_DOWN (R257). -/
| powerDown (port : Src)
/-- ABORT (R257). -/
| abort (port : Src)
/-- SQI_EDGE (R259). -/
| sqiEdge (i : Fin 4) (level : Bool)
/-- WM_COMPARATOR_ASSERT (R267). -/
| wmComparatorAssert (w : Fin 24) (upper : Bool) (uv : Int)
/-- WM_COMPARATOR_RELEASE (R267). -/
| wmComparatorRelease (w : Fin 24) (upper : Bool) (uv : Int)
/-- DAC_SETTLE_END (R269). -/
| dacSettleEnd (w : Fin 24) (upper : Bool) (uv : Int)
/-- WM_SAMPLE_WINDOW (R272). -/
| wmSampleWindow (w : Fin 24) (uv : Int)
/-- SWAP (R281). -/
| wmSwap (port : Src) (w : Fin 24)
/-- TIE (R282). -/
| wmTie (port : Src) (w : Fin 24)
/-- WM_TEST_DONE (R280). -/
| wmTestDone (w : Fin 24) (uv : Int) (checks : BitVec 12)
/-- PK_TEST_CMD (R283). -/
| pkTestCmd (port : Src) (p : Fin 32) (data : List Byte)
/-- PK_TEST_DONE (R283). -/
| pkTestDone (p : Fin 32) (high low slope : Bool) (time : BitVec 16)
/-- TIMER_CLOCK_EDGE (R286, R291): base clocks that pass at most. -/
| timerClockEdge (clocks : Nat)
/-- LF_TIMER_STEP (R287). -/
| lfTimerStep
/-- START (R293). -/
| tmStart (port : Src) (t : Fin 16)
/-- STOP (R293). -/
| tmStop (port : Src) (t : Fin 16)
/-- RESET (R293). -/
| tmReset (port : Src) (t : Fin 16)
/-- TM_GLOBAL_START (R295). -/
| tmGlobalStart (port : Src) (data : List Byte)
/-- TM_GLOBAL_STOP (R295). -/
| tmGlobalStop (port : Src) (data : List Byte)
/-- TM_PERIOD_WRITE (R289). -/
| tmPeriodWrite (port : Src) (t : Fin 16) (data : List Byte)
/-- TM_COMPARE_WRITE (R290). -/
| tmCompareWrite (port : Src) (t : Fin 16) (data : List Byte)
/-- TM_CAPTURE_READ (R292). -/
| tmCaptureRead (port : Src) (t : Fin 16)
/-- TM_STATUS_READ (R310). -/
| tmStatusRead (port : Src) (t : Fin 16)
/-- EVENT_DISPATCH (R306). -/
| eventDispatch
/-- EVENT_LOSS (R303). -/
| eventLoss
/-- INT_ACK (R305). -/
| intAck (port : Src) (line : Fin 4) (data : List Byte)
/-- EV_TEST (R311). -/
| evTest (port : Src) (data : List Byte)
/-- INPUT_CONVERTER_START (R312). -/
| inputConverterStart
/-- INPUT_CONVERTER_STOP (R312). -/
| inputConverterStop
/-- VIN_PRESENT_CHANGE (R314). -/
| vinPresentChange (present : Bool)
/-- PP_RETURN (R315). -/
| ppReturn
/-- DISCH_OC (R313). -/
| dischOc
/-- CHG_EN_WRITE (R319). -/
| chgEnWrite (port : Src) (data : List Byte)
/-- CHG_CHEM_WRITE (R318). -/
| chgChemWrite (port : Src) (data : List Byte)
/-- CHG_PRECHARGE_DONE (R319). -/
| chgPrechargeDone
/-- CHG_CV_ENTRY (R319). -/
| chgCvEntry
/-- CHG_TERMINATION (R319). -/
| chgTermination
/-- CHG_PRE_TIMEOUT (R319). -/
| chgPreTimeout
/-- CHG_SAFETY_TIMEOUT (R320). -/
| chgSafetyTimeout
/-- CHG_RECHARGE (R319). -/
| chgRecharge
/-- TS_ZONE_CHANGE (R322). -/
| tsZoneChange (zone : Fin 5)
/-- BAT_OV (R323). -/
| batOv
/-- TS_SHORT (R323). -/
| tsShort
/-- VIN_OV (R323). -/
| vinOv
/-- CHG_THERMAL (R323). -/
| chgThermal
/-- DISCH_HOT (R323). -/
| dischHot
/-- BAT_UV (R323). -/
| batUv
/-- CHG_FAULT_READ (R323). -/
| chgFaultRead (port : Src)
/-- BATTERY_REMOVAL (R324). -/
| batteryRemoval (byBat : Bool)
/-- BATTERY_PRESENT (R325). -/
| batteryPresent
/-- ACC_SHORT (R327). -/
| accShort
/-- ACC_RETRY (R327). -/
| accRetry
/-- ACC_RESTART (R327). -/
| accRestart (port : Src)
/-- BTN_PRESS (R328). -/
| btnPress
/-- BTN_RELEASE (R328). -/
| btnRelease
/-- BTN_LONG_WARNING (R328). -/
| btnLongWarning
/-- LONG_PRESS_RESET (R329). -/
| longPressReset
/-- SHIP_CMD (R330). -/
| shipCmd (port : Src) (data : List Byte)
/-- SHIP_ENTRY (R330). -/
| shipEntry
/-- SHIP_EXIT (R331). -/
| shipExit
/-- SHIP_STATUS_READ (R335). -/
| shipStatusRead (port : Src)
/-- PAGE (R349). -/
| pmbPage (x : TwFrame) (data : Option Byte)
/-- OPERATION_ON_OFF (R350). -/
| pmbOperation (x : TwFrame) (data : Option Byte)
/-- OPERATION_MARGIN (R180). -/
| pmbOperationMargin (x : TwFrame) (data : Byte)
/-- ON_OFF_CONFIG (R350). -/
| pmbOnOffConfig (x : TwFrame)
/-- CLEAR_FAULTS (R353). -/
| pmbClearFaults (x : TwFrame)
/-- WRITE_PROTECT (R345). -/
| pmbWriteProtect (x : TwFrame) (data : Option Byte)
/-- STORE_USER_ALL (R436). -/
| pmbStoreUserAll (x : TwFrame)
/-- RESTORE_USER_ALL (R440). -/
| pmbRestoreUserAll (x : TwFrame)
/-- CAPABILITY (R350). -/
| pmbCapability (x : TwFrame)
/-- VOUT_MODE (R350). -/
| pmbVoutMode (x : TwFrame)
/-- VOUT_COMMAND (R180). -/
| pmbVoutCommand (x : TwFrame) (data : Option (BitVec 16))
/-- VOUT_MAX (R180). -/
| pmbVoutMax (x : TwFrame) (data : Option (BitVec 16))
/-- VOUT_MARGIN_HIGH (R181). -/
| pmbVoutMarginHigh (x : TwFrame) (data : Option (BitVec 16))
/-- VOUT_MARGIN_LOW (R181). -/
| pmbVoutMarginLow (x : TwFrame) (data : Option (BitVec 16))
/-- VOUT_TRANSITION_RATE (R180). -/
| pmbVoutTransitionRate (x : TwFrame) (data : Option (BitVec 16))
/-- VOUT_MIN (R180). -/
| pmbVoutMin (x : TwFrame) (data : Option (BitVec 16))
/-- VOUT_OV_FAULT_LIMIT (R350). -/
| pmbVoutOvFaultLimit (x : TwFrame) (data : Option (BitVec 16))
/-- VOUT_UV_FAULT_LIMIT (R350). -/
| pmbVoutUvFaultLimit (x : TwFrame) (data : Option (BitVec 16))
/-- IOUT_OC_FAULT_LIMIT (R350). -/
| pmbIoutOcFaultLimit (x : TwFrame) (data : Option (BitVec 16))
/-- STATUS_BYTE (R352). -/
| pmbStatusByte (x : TwFrame)
/-- STATUS_WORD (R352). -/
| pmbStatusWord (x : TwFrame)
/-- STATUS_VOUT (R352). -/
| pmbStatusVout (x : TwFrame) (data : Option Byte)
/-- STATUS_IOUT (R352). -/
| pmbStatusIout (x : TwFrame) (data : Option Byte)
/-- STATUS_INPUT (R352). -/
| pmbStatusInput (x : TwFrame) (data : Option Byte)
/-- STATUS_TEMPERATURE (R352). -/
| pmbStatusTemperature (x : TwFrame) (data : Option Byte)
/-- STATUS_CML (R352). -/
| pmbStatusCml (x : TwFrame) (data : Option Byte)
/-- STATUS_MFR_SPECIFIC (R352). -/
| pmbStatusMfrSpecific (x : TwFrame) (data : Option Byte)
/-- READ_VIN (R350). -/
| pmbReadVin (x : TwFrame)
/-- READ_VOUT (R350). -/
| pmbReadVout (x : TwFrame)
/-- READ_IOUT (R350). -/
| pmbReadIout (x : TwFrame)
/-- READ_TEMPERATURE_1 (R350). -/
| pmbReadTemperature1 (x : TwFrame)
/-- PMBUS_REVISION (R350). -/
| pmbRevision (x : TwFrame)
/-- MFR_ID (R350). -/
| pmbMfrId (x : TwFrame)
/-- MFR_MODEL (R350). -/
| pmbMfrModel (x : TwFrame)
/-- MFR_REVISION (R350). -/
| pmbMfrRevision (x : TwFrame)
/-- OBJ_SELECT (R357). -/
| objSelect (x : TwFrame) (data : List Byte)
/-- OBJ_DATA (R357). -/
| objData (x : TwFrame) (data : Option (List Byte))
/-- OBJ_RESULT (R357). -/
| objResult (x : TwFrame)
/-- BULK_ACCESS (R358). -/
| bulkAccess (write : Bool) (ptr : BitVec 16) (data : List Byte) (n : BulkGet)
/-- QUICK_COMMAND (R344). -/
| quickCommand (t : TwPort)
/-- ALERT_RESPONSE (R354). -/
| alertResponse (read : AlertRead)
/-- TARGET_TIMEOUT (R338). -/
| targetTimeout (t : TwPort)
/-- UNEXPECTED_START (R339). -/
| unexpectedStart (t : TwPort)
/-- PMB_XFER (R355). -/
| pmbXfer (port : Src) (data : List Byte)
/-- LB_XFER (R355). -/
| lbXfer (port : Src) (data : List Byte)
/-- XFER_COMPLETE (R355). -/
| xferComplete (lb : Bool) (status : BitVec 8) (data : List Byte)
/-- ARBITRATION_LOST (R356). -/
| arbitrationLost (lb : Bool) (own : Bool)
/-- BUS_ERROR (R340). -/
| busError (lb : Bool)
/-- CONTROLLER_TIMEOUT (R341). -/
| controllerTimeout (lb : Bool)
/-- BUS_RECOVERY (R342). -/
| busRecovery (lb : Bool) (freed : Bool) (sclLow : Bool)
/-- STAGE_STATUS_READ (R363). -/
| stageStatusRead (p : Fin 32) (answer : StageAnswer)
/-- LB_ALERT_SERVICE (R365). -/
| lbAlertService (served : List (BitVec 7 × BitVec 16)) (released : Bool)
/-- BULK_WRITE (R360). -/
| bulkWrite (ptr : BitVec 16) (data : List Byte)
/-- BULK_READ (R358). -/
| bulkRead (n : BulkGet)
/-- BULK_WINDOW_WRITE (R361). -/
| bulkWindowWrite (port : Src) (sub : Fin 256) (data : List Byte)
/-- BULK_OBJECT_WRITE (R361). -/
| bulkObjectWrite (port : Src) (sub : Fin 256) (data : List Byte)
/-- BULK_LOAD (R361). -/
| bulkLoad (port : Src) (sub : Fin 256) (data : List Byte)
/-- NMT_START (R384). -/
| nmtStart (f : CanFrame) (node : BitVec 8)
/-- NMT_STOP (R384). -/
| nmtStop (f : CanFrame) (node : BitVec 8)
/-- NMT_ENTER_PRE_OPERATIONAL (R384). -/
| nmtEnterPreOperational (f : CanFrame) (node : BitVec 8)
/-- NMT_RESET_NODE (R385). -/
| nmtResetNode (f : CanFrame) (node : BitVec 8)
/-- NMT_RESET_COMMUNICATION (R384). -/
| nmtResetCommunication (f : CanFrame) (node : BitVec 8)
/-- HEARTBEAT_PRODUCE (R386). -/
| heartbeatProduce
/-- HEARTBEAT_RECEIVED (R386). -/
| heartbeatReceived (f : CanFrame) (node : BitVec 8)
/-- HEARTBEAT_TIMEOUT (R386). -/
| heartbeatTimeout (i : Fin 4)
/-- SDO_INITIATE_DOWNLOAD (R387). -/
| sdoInitiateDownload (f : SdoFrame) (index : BitVec 16) (sub : BitVec 8) (expedited : Bool) (size : Option Nat) (data :
      List Byte)
/-- SDO_DOWNLOAD_SEGMENT (R387). -/
| sdoDownloadSegment (f : SdoFrame) (toggle last : Bool) (data : List Byte)
/-- SDO_INITIATE_UPLOAD (R387). -/
| sdoInitiateUpload (f : SdoFrame) (index : BitVec 16) (sub : BitVec 8)
/-- SDO_UPLOAD_SEGMENT (R387). -/
| sdoUploadSegment (f : SdoFrame) (toggle : Bool)
/-- SDO_ABORT_TRANSFER (R387). -/
| sdoAbortTransfer (f : CanFrame)
/-- SDO_TIMEOUT (R387). -/
| sdoTimeout (b : Bus)
/-- RPDO (R390). -/
| rpdo (f : CanFrame) (r : Fin 4) (data : List Byte)
/-- TPDO_EVENT_TIMER (R388). -/
| tpdoEventTimer (r : Fin 4)
/-- TPDO_INHIBIT_END (R388). -/
| tpdoInhibitEnd (r : Fin 4)
/-- EMCY_TRANSMIT (R391). -/
| emcyTransmit
/-- STORE_PARAMETERS (R393). -/
| storeParameters (port : Src) (data : List Byte)
/-- RESTORE_DEFAULT_PARAMETERS (R393). -/
| restoreDefaultParameters (port : Src) (data : List Byte)
/-- ERROR_HISTORY_CLEAR (R402). -/
| errorHistoryClear (port : Src)
/-- CAN_ERROR_PASSIVE (R400). -/
| canErrorPassive (b : Bus)
/-- CAN_BUS_OFF (R400). -/
| canBusOff (b : Bus)
/-- CAN_BUSOFF_RECOVERY (R400). -/
| canBusoffRecovery (b : Bus)
/-- CAN_RX_OVERRUN (R400). -/
| canRxOverrun (b : Bus)
/-- CAN_TX_TIMEOUT (R400). -/
| canTxTimeout (b : Bus)
/-- NODE_ID_CONFLICT (R400). -/
| nodeIdConflict (b : Bus)
/-- ID_CONFLICT_RESUME (R400). -/
| idConflictResume (b : Bus)
/-- ACTIVE_BUS_SWITCH (R383). -/
| activeBusSwitch
/-- READ_START (R397). -/
| bxtReadStart (f : CanFrame) (tag kind unit : BitVec 8) (index block : BitVec 16) (off len : BitVec 32)
/-- WRITE_START (R398). -/
| bxtWriteStart (f : CanFrame) (tag kind unit : BitVec 8) (index block : BitVec 16) (off len : BitVec 32)
/-- CONTINUE (R397). -/
| bxtContinue (f : CanFrame) (tag : BitVec 8) (ctr : BitVec 16)
/-- BXT_DATA_FRAME (R398). -/
| bxtDataFrame (f : CanFrame) (tag : BitVec 8) (ctr : BitVec 16) (data : List Byte)
/-- BXT_COMMIT (R398). -/
| bxtCommit (f : CanFrame) (tag : BitVec 8) (len crc : BitVec 32)
/-- BXT_ABORT (R399). -/
| bxtAbort (f : CanFrame) (tag : BitVec 8)
/-- BXT_TIMEOUT (R399). -/
| bxtTimeout (b : Bus)
/-- OP_QUERY_OSN (R379). -/
| opQueryOsn (port : Src) (data : List Byte)
/-- OBJECT_WRITE (R373). -/
| objectWrite (port : Src) (index : BitVec 16) (sub : BitVec 8) (data : List Byte)
/-- LOG_RECORD_WRITE (R412). -/
| logRecordWrite (ok : Bool)
/-- LOG_WINDOW_READ (R415). -/
| logWindowRead (port : Src) (ecc : Bool)
/-- LOG_SEEK_ESN (R415). -/
| logSeekEsn (port : Src) (data : List Byte)
/-- LOG_TIME_MARK (R410). -/
| logTimeMark (port : Src) (data : List Byte)
/-- LOG_CLEAR (R420). -/
| logClear (port : Src) (data : List Byte)
/-- LOG_CLEAR_DONE (R420). -/
| logClearDone
/-- ECONOMY_EXIT (R426). -/
| economyExit
/-- DOME_CMD (R428). -/
| domeCmd (port : Src) (data : List Byte)
/-- KEEP_DOME_TIMEOUT (R428). -/
| keepDomeTimeout
/-- DOME_WAKE (R430). -/
| domeWake (cause : WakeCause)
/-- POWER_ON_RESET (R431). -/
| powerOnReset
/-- CORE_BROWN_OUT (R431). -/
| coreBrownOut (sys : Bool)
/-- RESET_PIN (R431). -/
| resetPin
/-- SUPERVISOR_WATCHDOG (R431). -/
| supervisorWatchdog (detail : Fin 3)
/-- SOFT_RESET (R431). -/
| softReset (port : Src) (data : List Byte)
/-- BOOT (R23). -/
| boot (x : BootInputs)
/-- SUPERVISOR_RESUME (R22). -/
| supervisorResume
/-- STORE_DONE (R436). -/
| storeDone (verified : Bool)
/-- RESTORE_DONE (R440). -/
| restoreDone
/-- FACTORY_SETTINGS (R441). -/
| factorySettings (port : Src) (data : List Byte)
/-- FW_ERASE (R445). -/
| fwErase (port : Src) (data : List Byte)
/-- FW_ERASE_DONE (R445). -/
| fwEraseDone
/-- FW_WRITE (R445). -/
| fwWrite (port : Src) (data : List Byte)
/-- FW_VERIFY (R445). -/
| fwVerify (port : Src) (data : List Byte)
/-- FW_VERIFY_DONE (R445). -/
| fwVerifyDone
/-- FW_SWITCH (R446). -/
| fwSwitch (port : Src) (data : List Byte)
/-- FW_START (R447). -/
| fwStart (ok : Bool) (gapUs : Nat)
/-- FW_CONFIRM (R448). -/
| fwConfirm (port : Src) (data : List Byte)
/-- FW_AUTO_CONFIRM (R448). -/
| fwAutoConfirm
/-- AUTH_NONCE_READ (R461). -/
| authNonceRead (port : Src)
/-- AUTH_RESPONSE (R461). -/
| authResponse (port : Src) (data : List Byte)
/-- AUTH_PASSWORD_ENTRY (R460). -/
| authPasswordEntry (port : Src) (data : List Byte)
/-- AUTH_CLOSE (R463). -/
| authClose (port : Src)
/-- SESSION_TIMEOUT (R463). -/
| sessionTimeout (i : Fin 4)
/-- NONCE_EXPIRY (R461). -/
| nonceExpiry (i : Fin 4)
/-- BACKOFF_EXPIRY (R462). -/
| backoffExpiry
/-- AUTH_PASSWORD_WRITE (R457). -/
| authPasswordWrite (port : Src) (sub : BitVec 8) (data : List Byte)
/-- AUTH_KEY_WRITE (R457). -/
| authKeyWrite (port : Src) (data : List Byte)
/-- LOCK_STATE_WRITE (R456). -/
| lockStateWrite (port : Src) (data : List Byte)
/-- DEBUG_OPEN (R465). -/
| debugOpen (port : Src) (data : List Byte)
/-- BYPASS (R464). -/
| jtagBypass
/-- IDCODE (R464). -/
| jtagIdcode
/-- SAMPLE_PRELOAD (R464). -/
| jtagSamplePreload
/-- EXTEST (R464). -/
| jtagExtest
/-- JTAG_CLAMP (R464). -/
| jtagClamp
/-- HIGHZ (R464). -/
| jtagHighz
/-- DEBUG_HALT (R464). -/
| debugHalt (target : Option (Fin 16))
/-- DEBUG_BREAKPOINT (R464). -/
| debugBreakpoint (target : Option (Fin 16)) (address : Nat) (set : Bool)
/-- DEBUG_MEMORY_ACCESS (R464). -/
| debugMemoryAccess (e : Fin 16) (address : BitVec 16) (write : Option (BitVec 32))
/-- IO_GROUP_SUPPLY_CHANGE (R500). -/
| ioGroupSupplyChange (h up : Bool)
/-- CAN_ERROR_ACTIVE (R400). -/
| canErrorActive (b : Bus)
/-- UNSUPPORTED_COMMAND (R345). -/
| unsupportedCommand (t : TwPort) (code : Byte)
/-- DEBUG_RESUME (R127). -/
| debugResume (target : Option (Fin 16))
/-- RAW_CAPTURE_SAMPLE (R48). -/
| rawCaptureSample (slots : List RawSlot)
  deriving DecidableEq, Repr

end Sys2Proof
end

