-- ==== Sys2Proof/Decode.lean ====
section
/-! DEFINITION. The rows of the table give no bits: the commands are not words. The Nymren rows stand for instructions of a
program, whose words R106 and R107 give. -/

namespace Sys2Proof

/-- A word of format R or W with its opcode (R106). -/
def wordR (op rd ra rb sh : Nat) : Nat := op * 2 ^ 26 + rd * 2 ^ 21 + ra * 2 ^ 16 + rb * 2 ^ 11 + sh * 2 ^ 6
/-- A word of format I, and of formats Z, J and S with no registers. -/
def wordI (op rd ra imm : Nat) : Nat := op * 2 ^ 26 + rd * 2 ^ 21 + ra * 2 ^ 16 + imm
/-- A word of formats A, C and W: an accumulator in bits 25 and 24, then two registers and a low field. -/
def wordA (op acc ra rb low : Nat) : Nat := op * 2 ^ 26 + acc * 2 ^ 24 + ra * 2 ^ 16 + rb * 2 ^ 11 + low

/-- The word of a Nymren instruction (R106, R107); none for every other command. -/
def nymrenWord : Instr → Option Nat
  | .nyNop _ => some (wordI 0x00 0 0 0)
  | .nyEnd _ => some (wordI 0x01 0 0 0)
  | .nyCommit _ => some (wordI 0x02 0 0 0)
  | .nyBr _ t => some (wordI 0x03 0 0 t)
  | .nyBcc _ cc ra t => some (0x04 * 2 ^ 26 + cc.val * 2 ^ 23 + ra.val * 2 ^ 16 + t.val)
  | .nyLoop _ n e => some (0x05 * 2 ^ 26 + n.val * 2 ^ 18 + e.val)
  | .nyCall _ t => some (wordI 0x06 0 0 t)
  | .nyRet _ => some (wordI 0x07 0 0 0)
  | .nySig _ code => some (wordI 0x08 0 0 code)
  | .nyBrk _ => some (wordI 0x09 0 0 0)
  | .nyAdd _ rd ra rb => some (wordR 0x10 rd ra rb 0)
  | .nySub _ rd ra rb => some (wordR 0x11 rd ra rb 0)
  | .nyAddw _ rd ra rb => some (wordR 0x12 rd ra rb 0)
  | .nyAddi _ rd ra imm => some (wordI 0x13 rd ra imm.toNat)
  | .nyAnd _ rd ra rb => some (wordR 0x14 rd ra rb 0)
  | .nyOr _ rd ra rb => some (wordR 0x15 rd ra rb 0)
  | .nyXor _ rd ra rb => some (wordR 0x16 rd ra rb 0)
  | .nyAndi _ rd ra imm => some (wordI 0x17 rd ra imm.toNat)
  | .nyShl _ rd ra sh => some (wordR 0x18 rd ra 0 sh)
  | .nyShr _ rd ra sh => some (wordR 0x19 rd ra 0 sh)
  | .nyShlv _ rd ra rb => some (wordR 0x1A rd ra rb 0)
  | .nyMin _ rd ra rb => some (wordR 0x1B rd ra rb 0)
  | .nyMax _ rd ra rb => some (wordR 0x1C rd ra rb 0)
  | .nyClamp _ rd ra rb => some (wordR 0x1D rd ra rb 0)
  | .nyAbs _ rd ra => some (wordR 0x1E rd ra 0 0)
  | .nyNeg _ rd ra => some (wordR 0x1F rd ra 0 0)
  | .nySlt _ rd ra rb => some (wordR 0x20 rd ra rb 0)
  | .nySel _ rd ra rb => some (wordR 0x21 rd ra rb 0)
  | .nyMov _ rd ra => some (wordR 0x22 rd ra 0 0)
  | .nyMovi _ rd imm => some (wordI 0x23 rd 0 imm.toNat)
  | .nyMovhi _ rd imm => some (wordI 0x24 rd 0 imm.toNat)
  | .nyMul _ rd ra rb sh => some (wordR 0x25 rd ra rb sh)
  | .nyDivq _ rd ra rb sh => some (wordR 0x26 rd ra rb sh)
  | .nyLd _ rd ra imm => some (wordI 0x28 rd ra imm.toNat)
  | .nySt _ rd ra imm => some (wordI 0x29 rd ra imm.toNat)
  | .nyLdc _ rd ra c => some (wordI 0x2A rd ra c.toNat)
  | .nyLdcm _ rd ra c => some (wordI 0x2B rd ra c.toNat)
  | .nyClra _ a => some (wordA 0x30 a 0 0 0)
  | .nyLda _ a ra => some (wordA 0x31 a ra 0 0)
  | .nyMac _ a ra rb c => some (wordA 0x32 a ra rb c.toNat)
  | .nyMsc _ a ra rb c => some (wordA 0x33 a ra rb c.toNat)
  | .nyMacw _ a ra rb sh => some (wordA 0x34 a ra rb (sh.val * 2 ^ 6))
  | .nyAcx _ rd a sh => some (0x35 * 2 ^ 26 + rd.val * 2 ^ 21 + a.val * 2 ^ 16 + sh.toNat * 2 ^ 10)
  | .nyAdda _ a b => some (0x36 * 2 ^ 26 + a.val * 2 ^ 24 + b.val * 2 ^ 14)
  | .nyIn _ rd ra p => some (wordI 0x38 rd ra p.toNat)
  | .nyOut _ rd ra q => some (wordI 0x39 rd ra q)
  | .nyOutd _ rd ra w => some (wordI 0x3A rd ra w.toNat)
  | _ => none

/-- No row of the table gives bits, so no word spells a command. Notes, log 3. -/
def decodeTableWord (_nbits _w : Nat) : Option Instr := none

end Sys2Proof
end

