-- ==== Sys2Proof/Config.lean ====
section
/-! DEFINITION. What one device fixes at production, and the free values: opaque constants, so that no proof can
see a value of them. -/

namespace Sys2Proof.Config

/-- `1018h:04 SERIAL_NUMBER`: any U32, written at production (R513, R402). Notes, log 6. -/
opaque serialNumber : BitVec 32

/-- Byte `i` of `2001h:00 UNIQUE_ID` (R403, R513). Notes, log 6. -/
opaque uniqueId : Nat → BitVec 8

/-- `2000h:00 ORDERING_CODE`: true for the tape-and-reel code, false for the tray code (R403; the two codes of
00_scope.md). Notes, log 6. -/
opaque tapeAndReel : Bool

/-- `2207h VADC_OFFSET_TRIM` of rail `n` as trimmed at production, plus 64: −64 to +64 (R51, R513). Notes, log 6. -/
opaque vadcTrim : Nat → Fin 129

/-- Sign of the dither that rail `n`'s 9-bit LFSR gives at place `k` of its sequence (R45): true for +2 LSB. The spec gives
neither the polynomial nor the seed. Notes, log 6. -/
opaque dither : Nat → Nat → Bool

/-- Draw number `k` of an open value of width 32, one for each use that the spec leaves open. Notes, log 6. -/
opaque freeValue : Nat → BitVec 32

/-- Draw number `k` of the internal random source of R461, as 16 bytes. Notes, log 6. -/
opaque nonceDraw : Nat → BitVec 128

/-- The measured value that housekeeping code `c` of channel `i` (0 for sub-index 01, R46) stands for, as an I32 in the
unit of the object that shows it: mV, 0.0625 °C for the die sensors, 0.01 % of the bias for TS. The spec gives the scale
of VIN alone. Notes, log 6. -/
opaque hkValue : Nat → Nat → BitVec 32

/-- A quotient of the standard programs' equations whose divisor is not positive, as a function of the operands: the
equations of R138 to R211 state no result there. Notes, log 6. -/
opaque quotient : Int → Int → Int

/-- Byte `i` of the header of standard program `id`, where R131 does not give it. Notes, log 6. -/
opaque stdHeader : Nat → Nat → BitVec 8

/-- Link slot `s` of standard program `id`: the spec does not list its imports. Notes, log 6. -/
opaque stdLink : Nat → Nat → BitVec 16

/-- Length in bytes of the firmware image that slot A ships with (R444). Notes, log 6. -/
opaque shippedLength : BitVec 18

/-- The firmware key of the trim and security area (R444). Notes, log 6. -/
opaque firmwareKey : List (BitVec 8)

end Sys2Proof.Config
end

