-- ==== Sys2Proof/Machine/ObjTable.lean ====
section
/-! DEFINITION. The object tables of the spec as data (R3, R371): one row for each row of the chapters' object
tables, in pages of 256 indices, and for every object the name of its key. A key is index * 256 + sub-index. -/

namespace Sys2Proof.Machine

/-- The types of R3. -/
inductive Ty where
  | bool | u8 | u16 | u32 | i16 | i32 | coef | str | domain
  deriving DecidableEq, Repr

/-- The access kinds of R4. -/
inductive Acc where
  | ro | rw | wo
  deriving DecidableEq, Repr

/-- The classes of R5. -/
inductive Keeps where
  | n | k | v
  deriving DecidableEq, Repr

/-- The apply points of R8; `none` for an object that takes no write. -/
inductive Apply where
  | none | i | t | s | b | u
  deriving DecidableEq, Repr

/-- The default of a row: a number, one number for each sub-index or unit, a linear rule in the sub-index, the
standard coefficients, a COB-ID that follows the node-ID, a response that follows `LDO_KEEP` (R245), a production value (R513), or
bytes. -/
inductive Dflt where
  | c (v : Int)
  | tab (vs : List Int)
  | unitTab (vs : List Int)
  | lin (a b : Int)
  | evRoute
  | coef
  | nodeId (bases : List Int)
  | nodeIdU (bases : List Int)
  | keepResp
  | tpdoMap
  | serial
  | trim
  | prodBytes (n : Nat)
  | lit (bs : List Nat)
  | zeros (n : Nat)
  deriving DecidableEq, Repr

/-- The range of values a write may carry (R373 step 5); for bytes, the range of the length (step 4). -/
inductive Range where
  | any
  | iv (lo hi : Int)
  | set (vs : List Int)
  | ivOr (lo hi x : Int)
  | step (lo hi st : Int)
  | mask (m : Nat)
  | devV
  | wmConfig
  | wmRoute
  | codes (noZero : List Nat)
  | chgVreg
  | page
  | window
  | bxtBase
  | libStore
  | len (lo hi : Nat)
  deriving DecidableEq, Repr

/-- One row of an object table: units `u < n` stand at index `base + stride * u`, sub-indices `lo` to `hi`. -/
structure ObjRow where
  base : Nat
  n : Nat
  stride : Nat
  lo : Nat
  hi : Nat
  ty : Ty
  acc : Acc
  level : Nat
  dflt : Dflt
  keeps : Keeps
  app : Apply
  range : Range
  deriving DecidableEq, Repr

/-- Objects 10xxh, part 1. -/
def page10_1 : List ObjRow := [
  ⟨0x1000, 1, 0x1, 0, 0, .u32, .ro, 0, .c 0x0, .v, .none, .any⟩,
  ⟨0x1001, 1, 0x1, 0, 0, .u8, .ro, 0, .c 0x0, .v, .none, .any⟩,
  ⟨0x1003, 1, 0x1, 0, 0, .u8, .rw, 1, .c 0, .v, .i, .iv 0 0⟩,
  ⟨0x1003, 1, 0x1, 1, 16, .u32, .ro, 0, .c 0, .v, .none, .any⟩,
  ⟨0x1008, 1, 0x1, 0, 0, .str, .ro, 0, .lit [67, 80, 76, 52, 56, 51, 50], .v, .none, .any⟩,
  ⟨0x1009, 1, 0x1, 0, 0, .str, .ro, 0, .lit [66, 49], .v, .none, .any⟩,
  ⟨0x100A, 1, 0x1, 0, 0, .str, .ro, 0, .lit [51, 46, 50, 46, 48, 32, 32, 32], .v, .none, .any⟩,
  ⟨0x1010, 1, 0x1, 1, 1, .u32, .rw, 2, .c 0x1, .v, .i, .any⟩,
  ⟨0x1011, 1, 0x1, 1, 1, .u32, .rw, 2, .c 0x1, .v, .i, .any⟩,
  ⟨0x1014, 1, 0x1, 0, 0, .u32, .rw, 2, .nodeId [0x80], .n, .t, .any⟩,
  ⟨0x1015, 1, 0x1, 0, 0, .u16, .rw, 2, .c 10, .n, .t, .any⟩,
  ⟨0x1016, 1, 0x1, 1, 4, .u32, .rw, 2, .c 0, .n, .t, .any⟩,
  ⟨0x1017, 1, 0x1, 0, 0, .u16, .rw, 2, .c 1000, .n, .t, .any⟩,
  ⟨0x1018, 1, 0x1, 1, 1, .u32, .ro, 0, .c 0xA5D0E1, .v, .none, .any⟩,
  ⟨0x1018, 1, 0x1, 2, 2, .u32, .ro, 0, .c 0x4832, .v, .none, .any⟩,
  ⟨0x1018, 1, 0x1, 3, 3, .u32, .ro, 0, .c 0xB10302, .v, .none, .any⟩,
  ⟨0x1018, 1, 0x1, 4, 4, .u32, .ro, 0, .serial, .v, .none, .any⟩,
  ⟨0x1029, 1, 0x1, 1, 1, .u8, .rw, 2, .c 0, .n, .t, .iv 0 2⟩]

/-- Objects 10xxh. -/
def page10 : List ObjRow := page10_1

/-- Objects 12xxh, part 1. -/
def page12_1 : List ObjRow := [
  ⟨0x1200, 1, 0x1, 1, 2, .u32, .ro, 0, .nodeId [0x600, 0x580], .v, .none, .any⟩]

/-- Objects 12xxh. -/
def page12 : List ObjRow := page12_1

/-- Objects 14xxh, part 1. -/
def page14_1 : List ObjRow := [
  ⟨0x1400, 4, 0x1, 1, 1, .u32, .rw, 2, .nodeIdU [0x80000200, 0x80000300, 0x80000400, 0x80000500], .n, .t, .any⟩,
  ⟨0x1400, 4, 0x1, 2, 2, .u8, .rw, 2, .c 255, .n, .t, .iv 254 255⟩]

/-- Objects 14xxh. -/
def page14 : List ObjRow := page14_1

/-- Objects 16xxh, part 1. -/
def page16_1 : List ObjRow := [
  ⟨0x1600, 4, 0x1, 0, 0, .u8, .rw, 2, .c 0, .n, .t, .iv 0 8⟩,
  ⟨0x1600, 4, 0x1, 1, 8, .u32, .rw, 2, .c 0, .n, .t, .any⟩]

/-- Objects 16xxh. -/
def page16 : List ObjRow := page16_1

/-- Objects 18xxh, part 1. -/
def page18_1 : List ObjRow := [
  ⟨0x1800, 4, 0x1, 1, 1, .u32, .rw, 2, .nodeIdU [0x180, 0x80000280, 0x80000380, 0x80000480], .n, .t, .any⟩,
  ⟨0x1800, 4, 0x1, 2, 2, .u8, .rw, 2, .c 255, .n, .t, .iv 254 255⟩,
  ⟨0x1800, 4, 0x1, 3, 3, .u16, .rw, 2, .c 0, .n, .t, .any⟩,
  ⟨0x1800, 4, 0x1, 5, 5, .u16, .rw, 2, .unitTab [100, 0, 0, 0], .n, .t, .any⟩]

/-- Objects 18xxh. -/
def page18 : List ObjRow := page18_1

/-- Objects 1Axxh, part 1. -/
def page1A_1 : List ObjRow := [
  ⟨0x1A00, 4, 0x1, 0, 0, .u8, .rw, 2, .unitTab [2, 0, 0, 0], .n, .t, .iv 0 8⟩,
  ⟨0x1A00, 4, 0x1, 1, 8, .u32, .rw, 2, .tpdoMap, .n, .t, .any⟩]

/-- Objects 1Axxh. -/
def page1A : List ObjRow := page1A_1

/-- Objects 20xxh, part 1. -/
def page20_1 : List ObjRow := [
  ⟨0x2000, 1, 0x1, 0, 0, .str, .ro, 0, .prodBytes 18, .v, .none, .any⟩,
  ⟨0x2001, 1, 0x1, 0, 0, .domain, .ro, 0, .prodBytes 16, .v, .none, .any⟩,
  ⟨0x2080, 1, 0x1, 0, 0, .bool, .rw, 2, .c 1, .n, .t, .iv 0 1⟩,
  ⟨0x2081, 1, 0x1, 1, 5, .u32, .ro, 0, .c 0, .v, .none, .any⟩,
  ⟨0x2082, 1, 0x1, 0, 0, .u32, .rw, 0, .c 0, .v, .i, .any⟩,
  ⟨0x2083, 1, 0x1, 0, 0, .domain, .ro, 0, .lit [], .v, .none, .any⟩,
  ⟨0x2084, 1, 0x1, 1, 6, .u8, .ro, 0, .c 0, .v, .none, .any⟩,
  ⟨0x2085, 1, 0x1, 0, 0, .u32, .ro, 0, .c 0, .v, .none, .any⟩,
  ⟨0x2086, 1, 0x1, 0, 0, .u32, .ro, 0, .c 1, .v, .none, .any⟩]

/-- Objects 20xxh. -/
def page20 : List ObjRow := page20_1

/-- Objects 21xxh, part 1. -/
def page21_1 : List ObjRow := [
  ⟨0x2100, 1, 0x1, 0, 0, .u8, .rw, 2, .c 2, .n, .t, .set [1, 2, 4]⟩,
  ⟨0x2101, 1, 0x1, 0, 0, .u8, .rw, 2, .c 1, .n, .t, .iv 0 3⟩,
  ⟨0x2102, 1, 0x1, 0, 0, .u32, .ro, 0, .c 0, .v, .none, .any⟩,
  ⟨0x2103, 1, 0x1, 1, 1, .bool, .rw, 2, .c 0, .v, .i, .iv 0 1⟩,
  ⟨0x2103, 1, 0x1, 2, 2, .u32, .rw, 2, .c 0, .v, .i, .any⟩,
  ⟨0x2104, 1, 0x1, 0, 0, .u16, .ro, 0, .c 384, .v, .none, .any⟩,
  ⟨0x2105, 1, 0x1, 0, 0, .u16, .ro, 0, .c 0x0, .v, .none, .any⟩,
  ⟨0x2106, 1, 0x1, 1, 1, .bool, .rw, 2, .c 0, .n, .t, .iv 0 1⟩,
  ⟨0x2106, 1, 0x1, 2, 2, .bool, .rw, 2, .c 0, .n, .t, .iv 0 1⟩,
  ⟨0x2106, 1, 0x1, 3, 3, .u8, .rw, 2, .c 1, .n, .t, .iv 0 2⟩,
  ⟨0x2106, 1, 0x1, 4, 4, .bool, .rw, 2, .c 0, .n, .t, .iv 0 1⟩,
  ⟨0x2107, 1, 0x1, 0, 0, .u16, .ro, 0, .c 0x0, .v, .none, .any⟩,
  ⟨0x2108, 1, 0x1, 0, 0, .u8, .rw, 2, .c 0, .n, .u, .iv 0 2⟩,
  ⟨0x2109, 1, 0x1, 0, 0, .u8, .ro, 0, .c 0x0, .v, .none, .any⟩,
  ⟨0x210A, 1, 0x1, 0, 0, .u16, .ro, 0, .c 0, .v, .none, .any⟩,
  ⟨0x210B, 1, 0x1, 0, 0, .bool, .rw, 2, .c 0, .n, .t, .iv 0 1⟩,
  ⟨0x2110, 1, 0x1, 0, 0, .u8, .rw, 3, .c 0, .n, .u, .iv 0 1⟩,
  ⟨0x2111, 1, 0x1, 0, 0, .u8, .rw, 2, .c 0, .n, .u, .iv 0 1⟩,
  ⟨0x2112, 1, 0x1, 0, 0, .u16, .ro, 0, .c 0x0, .v, .none, .any⟩,
  ⟨0x2113, 1, 0x1, 0, 0, .i16, .ro, 0, .c 0, .v, .none, .any⟩,
  ⟨0x2114, 1, 0x1, 0, 0, .u16, .ro, 0, .c 0, .k, .none, .any⟩,
  ⟨0x2118, 1, 0x1, 1, 3, .u8, .rw, 2, .c 0, .n, .s, .iv 0 8⟩,
  ⟨0x2119, 1, 0x1, 1, 3, .u8, .rw, 2, .c 0, .n, .s, .iv 0 1⟩,
  ⟨0x211A, 1, 0x1, 1, 3, .u16, .rw, 2, .c 200, .n, .s, .iv 50 500⟩,
  ⟨0x21C0, 1, 0x1, 0, 0, .u8, .ro, 0, .c 0, .v, .none, .any⟩,
  ⟨0x21C1, 1, 0x1, 0, 0, .bool, .rw, 2, .c 0, .n, .t, .iv 0 1⟩,
  ⟨0x21C2, 1, 0x1, 0, 0, .bool, .rw, 2, .c 1, .n, .t, .iv 0 1⟩,
  ⟨0x21C3, 1, 0x1, 0, 0, .u8, .ro, 0, .c 0x0, .v, .none, .any⟩,
  ⟨0x21C4, 1, 0x1, 0, 0, .u32, .wo, 2, .c 0, .v, .i, .any⟩,
  ⟨0x21C5, 1, 0x1, 0, 0, .bool, .rw, 2, .c 1, .n, .t, .iv 0 1⟩]

/-- Objects 21xxh, part 2. -/
def page21_2 : List ObjRow := [
  ⟨0x21C6, 1, 0x1, 0, 0, .bool, .rw, 2, .c 0, .n, .t, .iv 0 1⟩,
  ⟨0x21C7, 1, 0x1, 0, 0, .u16, .rw, 2, .c 600, .n, .t, .iv 1 65535⟩,
  ⟨0x21C8, 1, 0x1, 0, 0, .u16, .ro, 0, .c 0x0, .k, .none, .any⟩,
  ⟨0x21C9, 1, 0x1, 0, 0, .u16, .ro, 0, .c 0, .v, .none, .any⟩,
  ⟨0x21D0, 1, 0x1, 0, 0, .u32, .wo, 2, .c 0, .v, .i, .any⟩,
  ⟨0x21D1, 1, 0x1, 0, 0, .u8, .ro, 0, .c 0, .v, .none, .any⟩,
  ⟨0x21D2, 1, 0x1, 0, 0, .domain, .ro, 0, .zeros 16, .k, .none, .any⟩]

/-- Objects 21xxh. -/
def page21 : List ObjRow := page21_1 ++ page21_2

/-- Objects 22xxh, part 1. -/
def page22_1 : List ObjRow := [
  ⟨0x2201, 1, 0x1, 1, 8, .u8, .rw, 2, .c 1, .n, .t, .set [1, 4]⟩,
  ⟨0x2202, 1, 0x1, 1, 8, .i32, .ro, 0, .c 0, .v, .none, .any⟩,
  ⟨0x2203, 1, 0x1, 1, 8, .i32, .ro, 0, .c 0, .v, .none, .any⟩,
  ⟨0x2204, 1, 0x1, 1, 8, .u8, .ro, 0, .c 0, .v, .none, .any⟩,
  ⟨0x2205, 1, 0x1, 1, 8, .bool, .rw, 3, .c 1, .n, .t, .iv 0 1⟩,
  ⟨0x2206, 1, 0x1, 1, 8, .u8, .ro, 0, .c 0, .v, .none, .any⟩,
  ⟨0x2207, 1, 0x1, 1, 8, .i16, .rw, 3, .trim, .n, .u, .iv (-256) 255⟩,
  ⟨0x2208, 1, 0x1, 0, 0, .i32, .ro, 0, .c 0, .v, .none, .any⟩,
  ⟨0x2209, 1, 0x1, 1, 31, .u16, .ro, 0, .c 0, .v, .none, .any⟩,
  ⟨0x220A, 1, 0x1, 0, 0, .u32, .rw, 2, .c 0x7FFFFFFF, .n, .t, .any⟩,
  ⟨0x220B, 1, 0x1, 1, 2, .i16, .ro, 0, .c 0, .v, .none, .any⟩,
  ⟨0x2210, 1, 0x1, 1, 8, .u8, .rw, 1, .c 8, .n, .t, .iv 0 12⟩,
  ⟨0x2211, 1, 0x1, 1, 8, .i32, .ro, 0, .c 0, .v, .none, .any⟩,
  ⟨0x2212, 1, 0x1, 1, 8, .u16, .ro, 0, .c 0, .v, .none, .any⟩,
  ⟨0x2213, 1, 0x1, 1, 8, .u16, .ro, 0, .c 0, .v, .none, .any⟩,
  ⟨0x2214, 1, 0x1, 0, 0, .domain, .ro, 0, .lit [], .v, .none, .any⟩,
  ⟨0x2220, 1, 0x1, 0, 0, .u8, .rw, 2, .c 0, .n, .i, .iv 0 1⟩,
  ⟨0x2221, 1, 0x1, 0, 0, .u16, .rw, 2, .c 1, .n, .i, .iv 1 256⟩,
  ⟨0x2222, 1, 0x1, 0, 0, .u16, .rw, 2, .c 4096, .n, .i, .iv 0 24576⟩,
  ⟨0x2223, 1, 0x1, 0, 0, .u16, .rw, 2, .c 1024, .n, .i, .iv 0 24575⟩,
  ⟨0x2224, 1, 0x1, 1, 8, .u16, .rw, 2, .c 0xFFFF, .n, .i, .any⟩,
  ⟨0x2225, 1, 0x1, 0, 0, .u16, .rw, 2, .c 0x0, .n, .i, .any⟩,
  ⟨0x2226, 1, 0x1, 0, 0, .i16, .rw, 2, .c 0, .n, .i, .any⟩,
  ⟨0x2227, 1, 0x1, 0, 0, .u8, .rw, 2, .c 0, .n, .i, .iv 0 2⟩,
  ⟨0x2228, 1, 0x1, 0, 0, .u8, .wo, 2, .c 0, .v, .i, .iv 1 3⟩,
  ⟨0x2229, 1, 0x1, 0, 0, .u8, .ro, 0, .c 0, .v, .none, .any⟩,
  ⟨0x222A, 1, 0x1, 0, 0, .domain, .ro, 0, .lit [], .v, .none, .any⟩,
  ⟨0x222B, 1, 0x1, 0, 0, .domain, .ro, 2, .lit [], .v, .none, .any⟩]

/-- Objects 22xxh. -/
def page22 : List ObjRow := page22_1

/-- Objects 23xxh, part 1. -/
def page23_1 : List ObjRow := [
  ⟨0x2300, 1, 0x1, 1, 32, .u8, .rw, 2, .c 0xFF, .n, .t, .set [0, 1, 2, 3, 4, 5, 6, 7, 255]⟩,
  ⟨0x2301, 1, 0x1, 1, 32, .u16, .rw, 2, .c 5000, .n, .t, .iv 500 20000⟩,
  ⟨0x2302, 1, 0x1, 1, 32, .i32, .rw, 2, .c 30720, .n, .t, .any⟩,
  ⟨0x2303, 1, 0x1, 1, 32, .u8, .rw, 2, .c 40, .n, .s, .iv 10 200⟩,
  ⟨0x2304, 1, 0x1, 1, 32, .u16, .rw, 2, .c 30, .n, .s, .iv 20 500⟩,
  ⟨0x2305, 1, 0x1, 1, 32, .u16, .rw, 2, .c 1000, .n, .s, .iv 50 6000⟩,
  ⟨0x2306, 1, 0x1, 1, 32, .u16, .rw, 2, .c 60, .n, .s, .iv 40 1000⟩,
  ⟨0x2307, 1, 0x1, 1, 32, .i16, .rw, 2, .c 128, .n, .t, .iv 0 2560⟩,
  ⟨0x2308, 1, 0x1, 1, 32, .u8, .rw, 2, .c 1, .n, .s, .iv 0 3⟩,
  ⟨0x2309, 1, 0x1, 1, 32, .u16, .rw, 2, .c 100, .n, .s, .iv 0 4095⟩,
  ⟨0x230A, 1, 0x1, 1, 32, .u8, .rw, 2, .c 1, .n, .t, .iv 0 3⟩,
  ⟨0x230B, 1, 0x1, 1, 32, .u8, .wo, 2, .c 0, .v, .i, .iv 1 4⟩,
  ⟨0x230C, 1, 0x1, 1, 32, .u16, .rw, 2, .c 200, .v, .i, .iv 20 2000⟩,
  ⟨0x230D, 1, 0x1, 1, 32, .domain, .ro, 0, .lit [], .v, .none, .any⟩,
  ⟨0x2310, 1, 0x1, 1, 32, .i32, .ro, 0, .c 0, .v, .none, .any⟩,
  ⟨0x2311, 1, 0x1, 1, 32, .u16, .ro, 0, .c 0, .v, .none, .any⟩,
  ⟨0x2312, 1, 0x1, 1, 32, .i32, .ro, 0, .c 0, .v, .none, .any⟩,
  ⟨0x2313, 1, 0x1, 1, 32, .i32, .ro, 0, .c 0, .v, .none, .any⟩,
  ⟨0x2314, 1, 0x1, 1, 32, .u32, .ro, 0, .c 0, .v, .none, .any⟩,
  ⟨0x2315, 1, 0x1, 1, 32, .u16, .ro, 0, .c 0x200, .v, .none, .any⟩,
  ⟨0x2316, 1, 0x1, 1, 32, .u16, .ro, 0, .c 0, .v, .none, .any⟩,
  ⟨0x2317, 1, 0x1, 1, 32, .i16, .ro, 0, .c 0, .v, .none, .any⟩,
  ⟨0x2318, 1, 0x1, 1, 32, .u16, .ro, 0, .c 0, .v, .none, .any⟩,
  ⟨0x2319, 1, 0x1, 1, 32, .u16, .ro, 0, .c 0, .v, .none, .any⟩,
  ⟨0x231A, 1, 0x1, 1, 32, .u16, .ro, 0, .c 0, .v, .none, .any⟩,
  ⟨0x23C0, 1, 0x1, 1, 8, .u16, .rw, 2, .c 600, .n, .s, .iv 150 3000⟩,
  ⟨0x23C1, 1, 0x1, 1, 8, .bool, .rw, 2, .c 1, .n, .s, .iv 0 1⟩,
  ⟨0x23C2, 1, 0x1, 1, 8, .u8, .rw, 2, .c 4, .n, .t, .iv 1 255⟩,
  ⟨0x23C3, 1, 0x1, 1, 8, .u8, .rw, 2, .c 8, .n, .t, .iv 1 255⟩,
  ⟨0x23C4, 1, 0x1, 1, 8, .i32, .rw, 2, .c 2560, .n, .t, .any⟩]

/-- Objects 23xxh, part 2. -/
def page23_2 : List ObjRow := [
  ⟨0x23C5, 1, 0x1, 1, 8, .u32, .ro, 0, .c 0, .v, .none, .any⟩,
  ⟨0x23C6, 1, 0x1, 1, 8, .u32, .ro, 0, .c 0, .v, .none, .any⟩,
  ⟨0x23C7, 1, 0x1, 1, 8, .u8, .ro, 0, .c 0, .v, .none, .any⟩,
  ⟨0x23C8, 1, 0x1, 1, 8, .u8, .ro, 0, .c 0, .v, .none, .any⟩,
  ⟨0x23E0, 1, 0x1, 1, 8, .u8, .ro, 0, .c 4, .v, .none, .any⟩,
  ⟨0x23E1, 1, 0x1, 1, 8, .i16, .ro, 0, .c 0, .v, .none, .any⟩,
  ⟨0x23E2, 1, 0x1, 1, 8, .u16, .rw, 2, .c 5000, .n, .t, .iv 1000 20000⟩,
  ⟨0x23E3, 1, 0x1, 1, 8, .u16, .rw, 2, .c 600, .n, .t, .iv 100 1000⟩]

/-- Objects 23xxh. -/
def page23 : List ObjRow := page23_1 ++ page23_2

/-- Objects 24xxh, part 1. -/
def page24_1 : List ObjRow := [
  ⟨0x2400, 1, 0x1, 1, 16, .u16, .rw, 3, .tab [1, 1, 1, 1, 1, 1, 1, 1, 2, 2, 2, 2, 3, 4, 4, 5], .n, .u, .set [0, 1, 2, 3, 4, 5, 32768, 32769, 32770, 32771]⟩,
  ⟨0x2401, 1, 0x1, 1, 16, .u8, .ro, 0, .c 0, .v, .none, .any⟩,
  ⟨0x2402, 1, 0x1, 1, 16, .u16, .ro, 0, .c 0x0, .v, .none, .any⟩,
  ⟨0x2403, 1, 0x1, 1, 16, .u16, .ro, 0, .c 0, .v, .none, .any⟩,
  ⟨0x2404, 1, 0x1, 1, 16, .u16, .ro, 0, .c 0, .v, .none, .any⟩,
  ⟨0x2405, 1, 0x1, 1, 16, .u16, .ro, 0, .c 0, .v, .none, .any⟩,
  ⟨0x2406, 1, 0x1, 1, 16, .u32, .ro, 0, .c 0, .k, .none, .any⟩,
  ⟨0x2407, 1, 0x1, 1, 16, .u8, .rw, 2, .c 3, .n, .t, .iv 1 15⟩,
  ⟨0x2408, 1, 0x1, 1, 16, .u8, .ro, 0, .c 0, .v, .none, .any⟩,
  ⟨0x2409, 1, 0x1, 1, 16, .u16, .ro, 0, .c 0x0, .v, .none, .any⟩,
  ⟨0x240A, 1, 0x1, 1, 16, .u8, .ro, 0, .c 0, .v, .none, .any⟩,
  ⟨0x240B, 1, 0x1, 1, 16, .bool, .wo, 2, .c 0, .v, .t, .iv 0 1⟩,
  ⟨0x240C, 1, 0x1, 1, 16, .bool, .wo, 2, .c 0, .v, .i, .iv 0 1⟩,
  ⟨0x240D, 1, 0x1, 1, 16, .u8, .rw, 2, .tab [2, 2, 2, 2, 2, 2, 2, 2, 0, 0, 0, 0, 0, 2, 2, 0], .n, .b, .set [0, 1, 2, 4]⟩,
  ⟨0x240E, 1, 0x1, 1, 16, .u8, .rw, 2, .tab [4, 4, 4, 4, 4, 4, 4, 4, 0, 0, 0, 0, 0, 4, 4, 0], .n, .b, .set [0, 1, 2, 4]⟩,
  ⟨0x240F, 1, 0x1, 1, 16, .u32, .ro, 0, .c 0, .v, .none, .any⟩,
  ⟨0x2410, 1, 0x1, 1, 16, .u16, .wo, 3, .c 0, .v, .i, .set [0, 1, 2, 3, 4, 5, 32768, 32769, 32770, 32771]⟩,
  ⟨0x2411, 1, 0x1, 1, 16, .u8, .ro, 0, .c 0, .v, .none, .any⟩,
  ⟨0x2412, 1, 0x1, 1, 16, .u32, .ro, 0, .c 0, .v, .none, .any⟩,
  ⟨0x2413, 1, 0x1, 1, 16, .u8, .wo, 3, .c 0, .v, .t, .iv 1 2⟩,
  ⟨0x2414, 1, 0x1, 1, 16, .u16, .ro, 0, .c 0, .v, .none, .any⟩,
  ⟨0x2415, 1, 0x1, 1, 16, .bool, .rw, 3, .c 0, .v, .i, .iv 0 1⟩,
  ⟨0x2416, 1, 0x1, 1, 16, .u16, .ro, 0, .c 0, .k, .none, .any⟩,
  ⟨0x2417, 1, 0x1, 1, 16, .u16, .ro, 0, .c 0x0, .v, .none, .any⟩,
  ⟨0x2440, 1, 0x1, 1, 8, .u8, .rw, 3, .tab [0, 1, 2, 3, 4, 5, 6, 7], .n, .t, .iv 0 15⟩,
  ⟨0x2441, 1, 0x1, 1, 6, .u8, .rw, 3, .tab [13, 13, 13, 14, 14, 14], .n, .t, .iv 0 15⟩,
  ⟨0x2442, 1, 0x1, 0, 0, .u8, .rw, 3, .c 12, .n, .t, .iv 0 15⟩,
  ⟨0x2443, 1, 0x1, 0, 0, .u8, .rw, 3, .c 15, .n, .t, .iv 0 15⟩,
  ⟨0x2444, 1, 0x1, 0, 0, .domain, .ro, 0, .lit [], .v, .none, .any⟩,
  ⟨0x2445, 1, 0x1, 0, 0, .u16, .ro, 0, .c 0x0, .v, .none, .any⟩]

/-- Objects 24xxh, part 2. -/
def page24_2 : List ObjRow := [
  ⟨0x2446, 1, 0x1, 0, 0, .u16, .wo, 3, .c 0, .v, .i, .libStore⟩]

/-- Objects 24xxh. -/
def page24 : List ObjRow := page24_1 ++ page24_2

/-- Objects 25xxh, part 1. -/
def page25_1 : List ObjRow := [
  ⟨0x2500, 8, 0x20, 0, 0, .u8, .rw, 2, .c 0, .v, .t, .iv 0 1⟩,
  ⟨0x2501, 8, 0x20, 0, 0, .u16, .ro, 0, .c 0x0, .v, .none, .any⟩,
  ⟨0x2502, 8, 0x20, 0, 0, .i32, .rw, 2, .c 0, .v, .t, .any⟩,
  ⟨0x2503, 8, 0x20, 1, 1, .i32, .ro, 0, .c 0, .v, .none, .any⟩,
  ⟨0x2503, 8, 0x20, 2, 2, .i32, .ro, 0, .c 0, .v, .none, .any⟩,
  ⟨0x2503, 8, 0x20, 3, 3, .i32, .ro, 0, .c 0, .v, .none, .any⟩,
  ⟨0x2504, 8, 0x20, 0, 0, .u16, .rw, 2, .c 0, .n, .t, .iv 0 1000⟩,
  ⟨0x2505, 8, 0x20, 0, 0, .u16, .rw, 2, .c 100, .n, .t, .iv 1 10000⟩,
  ⟨0x2506, 8, 0x20, 0, 0, .i32, .rw, 2, .c 5120, .n, .t, .iv 0 262144⟩,
  ⟨0x2507, 8, 0x20, 1, 1, .u8, .rw, 2, .c 4, .n, .t, .iv 1 64⟩,
  ⟨0x2507, 8, 0x20, 2, 2, .u8, .rw, 2, .c 32, .n, .t, .iv 1 255⟩,
  ⟨0x2508, 8, 0x20, 1, 32, .u16, .rw, 2, .lin 1120 0, .n, .t, .any⟩,
  ⟨0x2509, 8, 0x20, 1, 32, .u16, .rw, 2, .lin 640 (-640), .n, .t, .any⟩,
  ⟨0x250A, 8, 0x20, 1, 32, .u16, .rw, 2, .lin 1440 0, .n, .t, .any⟩,
  ⟨0x250B, 8, 0x20, 1, 32, .u16, .rw, 2, .c 32768, .n, .t, .iv 8192 32768⟩,
  ⟨0x250C, 8, 0x20, 1, 1, .u16, .rw, 2, .c 160, .n, .t, .any⟩,
  ⟨0x250C, 8, 0x20, 2, 2, .u16, .rw, 2, .c 480, .n, .t, .any⟩,
  ⟨0x250C, 8, 0x20, 3, 3, .u16, .rw, 2, .c 1000, .n, .t, .iv 10 60000⟩,
  ⟨0x250C, 8, 0x20, 4, 4, .u8, .rw, 2, .c 0, .n, .t, .iv 0 1⟩,
  ⟨0x250D, 8, 0x20, 0, 0, .bool, .rw, 2, .c 0, .v, .t, .iv 0 1⟩,
  ⟨0x250E, 8, 0x20, 1, 1, .u8, .ro, 0, .c 0, .v, .none, .any⟩,
  ⟨0x250E, 8, 0x20, 2, 2, .u8, .ro, 0, .c 0, .v, .none, .any⟩,
  ⟨0x250E, 8, 0x20, 3, 3, .u16, .ro, 0, .c 0, .v, .none, .any⟩,
  ⟨0x250E, 8, 0x20, 4, 4, .u16, .ro, 0, .c 0, .v, .none, .any⟩,
  ⟨0x2510, 8, 0x20, 1, 1, .u16, .rw, 1, .c 3277, .v, .t, .devV⟩,
  ⟨0x2510, 8, 0x20, 2, 2, .u16, .ro, 0, .c 0, .v, .none, .any⟩,
  ⟨0x2510, 8, 0x20, 3, 3, .u16, .rw, 2, .c 3277, .n, .u, .devV⟩,
  ⟨0x2510, 8, 0x20, 4, 4, .u16, .rw, 2, .c 3441, .n, .t, .devV⟩,
  ⟨0x2510, 8, 0x20, 5, 5, .u16, .rw, 2, .c 3113, .n, .t, .devV⟩,
  ⟨0x2510, 8, 0x20, 6, 6, .u16, .rw, 2, .c 7373, .n, .t, .devV⟩]

/-- Objects 25xxh, part 2. -/
def page25_2 : List ObjRow := [
  ⟨0x2510, 8, 0x20, 7, 7, .u16, .rw, 2, .c 819, .n, .t, .devV⟩,
  ⟨0x2511, 8, 0x20, 1, 1, .u16, .rw, 2, .c 100, .n, .i, .iv 1 25500⟩,
  ⟨0x2511, 8, 0x20, 2, 2, .u16, .rw, 2, .c 500, .n, .i, .iv 1 25500⟩,
  ⟨0x2511, 8, 0x20, 3, 3, .u16, .rw, 2, .c 500, .n, .i, .iv 1 25500⟩,
  ⟨0x2511, 8, 0x20, 4, 4, .u16, .rw, 2, .c 100, .n, .i, .iv 1 25500⟩,
  ⟨0x2512, 8, 0x20, 0, 0, .u8, .rw, 2, .c 0, .n, .t, .iv 0 3⟩,
  ⟨0x2513, 8, 0x20, 0, 0, .u8, .rw, 1, .c 0, .v, .t, .iv 0 2⟩,
  ⟨0x2514, 8, 0x20, 0, 0, .u16, .ro, 0, .c 0x0, .v, .none, .any⟩,
  ⟨0x2515, 8, 0x20, 1, 1, .u8, .rw, 2, .c 0, .n, .t, .iv 0 1⟩,
  ⟨0x2515, 8, 0x20, 2, 2, .u8, .rw, 2, .c 0xFF, .n, .t, .ivOr 0 23 255⟩,
  ⟨0x2515, 8, 0x20, 3, 3, .u16, .rw, 2, .c 20, .n, .t, .iv 0 10000⟩,
  ⟨0x2515, 8, 0x20, 4, 4, .bool, .rw, 2, .c 0, .n, .t, .iv 0 1⟩,
  ⟨0x2516, 8, 0x20, 0, 0, .u16, .ro, 0, .c 0, .v, .none, .any⟩]

/-- Objects 25xxh. -/
def page25 : List ObjRow := page25_1 ++ page25_2

/-- Objects 26xxh, part 1. -/
def page26_1 : List ObjRow := [
  ⟨0x2600, 1, 0x1, 0, 0, .bool, .rw, 2, .c 0, .n, .u, .iv 0 1⟩,
  ⟨0x2601, 1, 0x1, 1, 8, .u8, .rw, 2, .tab [0, 1, 2, 3, 4, 5, 6, 7], .n, .t, .ivOr 0 14 255⟩,
  ⟨0x2602, 1, 0x1, 0, 0, .u32, .ro, 0, .c 0, .v, .none, .any⟩,
  ⟨0x2603, 1, 0x1, 0, 0, .u16, .ro, 0, .c 0, .v, .none, .any⟩,
  ⟨0x2610, 1, 0x1, 0, 0, .bool, .rw, 2, .c 0, .n, .t, .iv 0 1⟩,
  ⟨0x2611, 1, 0x1, 0, 0, .u8, .ro, 0, .c 0, .v, .none, .any⟩,
  ⟨0x2612, 1, 0x1, 0, 0, .u8, .rw, 2, .c 0xFF, .n, .t, .any⟩,
  ⟨0x2613, 1, 0x1, 1, 8, .u8, .rw, 2, .c 8, .n, .t, .iv 1 64⟩,
  ⟨0x2614, 1, 0x1, 1, 8, .u8, .rw, 2, .c 16, .n, .t, .iv 1 255⟩,
  ⟨0x2615, 1, 0x1, 1, 8, .u8, .ro, 0, .c 0, .v, .none, .any⟩,
  ⟨0x2616, 1, 0x1, 1, 8, .bool, .wo, 1, .c 0, .v, .t, .iv 0 1⟩,
  ⟨0x2617, 1, 0x1, 1, 8, .u8, .ro, 0, .c 0, .v, .none, .any⟩,
  ⟨0x2618, 1, 0x1, 1, 8, .u32, .ro, 0, .c 0, .v, .none, .any⟩,
  ⟨0x2619, 1, 0x1, 1, 8, .u32, .ro, 0, .c 0, .v, .none, .any⟩,
  ⟨0x261A, 1, 0x1, 1, 8, .u16, .ro, 0, .c 0, .v, .none, .any⟩,
  ⟨0x261B, 1, 0x1, 1, 8, .u16, .ro, 0, .c 0, .v, .none, .any⟩,
  ⟨0x261C, 1, 0x1, 1, 3, .u32, .ro, 0, .c 0, .v, .none, .any⟩,
  ⟨0x2620, 1, 0x1, 0, 0, .u8, .rw, 2, .c 0xFF, .n, .t, .any⟩,
  ⟨0x2621, 1, 0x1, 0, 0, .u16, .rw, 2, .c 50, .n, .t, .iv 0 1000⟩,
  ⟨0x2622, 1, 0x1, 0, 0, .u16, .rw, 2, .c 10, .n, .t, .iv 0 1000⟩,
  ⟨0x2623, 1, 0x1, 0, 0, .bool, .rw, 1, .c 0, .v, .t, .iv 0 1⟩,
  ⟨0x2624, 1, 0x1, 0, 0, .u16, .ro, 0, .c 0x0, .v, .none, .any⟩,
  ⟨0x2628, 1, 0x1, 0, 0, .u16, .rw, 2, .c 8500, .n, .t, .iv 4500 15000⟩,
  ⟨0x2629, 1, 0x1, 0, 0, .u16, .rw, 2, .c 500, .n, .t, .iv 50 2000⟩,
  ⟨0x262A, 1, 0x1, 0, 0, .u16, .rw, 2, .c 1, .n, .t, .iv 1 1000⟩,
  ⟨0x262B, 1, 0x1, 0, 0, .bool, .rw, 1, .c 0, .v, .t, .iv 0 1⟩,
  ⟨0x262C, 1, 0x1, 0, 0, .u8, .ro, 0, .c 0x0, .v, .none, .any⟩]

/-- Objects 26xxh. -/
def page26 : List ObjRow := page26_1

/-- Objects 27xxh, part 1. -/
def page27_1 : List ObjRow := [
  ⟨0x2700, 1, 0x1, 1, 32, .u8, .ro, 0, .c 0, .v, .none, .any⟩,
  ⟨0x2701, 1, 0x1, 1, 32, .u8, .wo, 2, .c 0, .v, .i, .iv 1 3⟩,
  ⟨0x2702, 1, 0x1, 1, 32, .u8, .ro, 0, .c 0, .v, .none, .any⟩,
  ⟨0x2703, 1, 0x1, 1, 32, .u8, .ro, 0, .c 128, .v, .none, .any⟩,
  ⟨0x2704, 1, 0x1, 1, 32, .i32, .ro, 0, .c 0, .v, .none, .any⟩,
  ⟨0x2705, 1, 0x1, 1, 32, .i32, .ro, 0, .c 0, .v, .none, .any⟩,
  ⟨0x2706, 1, 0x1, 1, 32, .u32, .ro, 0, .c 0, .v, .none, .any⟩,
  ⟨0x2707, 1, 0x1, 1, 32, .u16, .ro, 0, .c 0, .v, .none, .any⟩,
  ⟨0x2708, 1, 0x1, 1, 32, .u32, .ro, 0, .c 0, .k, .none, .any⟩,
  ⟨0x2709, 1, 0x1, 1, 32, .u8, .ro, 0, .c 0x0, .v, .none, .any⟩,
  ⟨0x270A, 1, 0x1, 1, 32, .u8, .ro, 0, .c 0x0, .k, .none, .any⟩,
  ⟨0x270B, 1, 0x1, 1, 32, .u16, .ro, 0, .c 0, .k, .none, .any⟩,
  ⟨0x270C, 1, 0x1, 1, 32, .u16, .ro, 0, .c 0, .k, .none, .any⟩,
  ⟨0x2720, 1, 0x1, 1, 8, .u8, .wo, 2, .c 0, .v, .i, .iv 1 3⟩,
  ⟨0x2721, 1, 0x1, 1, 8, .bool, .rw, 2, .c 1, .n, .t, .iv 0 1⟩,
  ⟨0x2722, 1, 0x1, 1, 8, .i16, .rw, 2, .c 1600, .n, .t, .any⟩,
  ⟨0x2723, 1, 0x1, 1, 8, .i16, .rw, 2, .c 1920, .n, .t, .any⟩,
  ⟨0x2724, 1, 0x1, 1, 8, .domain, .ro, 0, .lit [0, 0, 0, 0, 0, 0, 0, 0, 0, 0, 0, 0, 0, 0, 0, 0, 0, 0, 0, 0, 0, 128, 0, 0], .k, .none, .any⟩,
  ⟨0x2725, 1, 0x1, 1, 8, .u16, .ro, 0, .c 0, .k, .none, .any⟩,
  ⟨0x2740, 1, 0x1, 1, 1, .i32, .rw, 2, .c 2048, .n, .t, .iv 256 25600⟩,
  ⟨0x2740, 1, 0x1, 2, 2, .u8, .rw, 2, .c 64, .n, .t, .any⟩,
  ⟨0x2740, 1, 0x1, 3, 3, .u8, .rw, 2, .c 8, .n, .t, .iv 1 64⟩,
  ⟨0x2740, 1, 0x1, 4, 4, .u8, .rw, 2, .c 2, .n, .t, .iv 1 16⟩,
  ⟨0x2740, 1, 0x1, 5, 5, .u8, .rw, 2, .c 8, .n, .t, .iv 2 64⟩,
  ⟨0x2740, 1, 0x1, 6, 6, .u8, .rw, 2, .c 2, .n, .t, .iv 1 16⟩,
  ⟨0x2740, 1, 0x1, 7, 7, .u8, .rw, 2, .c 3, .n, .t, .iv 2 16⟩,
  ⟨0x2740, 1, 0x1, 8, 8, .i32, .rw, 2, .c 512, .n, .t, .iv 128 5120⟩,
  ⟨0x2741, 1, 0x1, 1, 1, .u8, .rw, 2, .c 60, .n, .t, .iv 20 100⟩,
  ⟨0x2741, 1, 0x1, 2, 2, .u8, .rw, 2, .c 8, .n, .t, .iv 1 64⟩,
  ⟨0x2742, 1, 0x1, 1, 1, .u16, .rw, 2, .c 15000, .n, .t, .iv 1000 32000⟩]

/-- Objects 27xxh, part 2. -/
def page27_2 : List ObjRow := [
  ⟨0x2742, 1, 0x1, 2, 2, .u8, .rw, 2, .c 30, .n, .t, .iv 5 80⟩,
  ⟨0x2742, 1, 0x1, 3, 3, .u16, .rw, 2, .c 1000, .n, .t, .iv 1 60000⟩,
  ⟨0x2743, 1, 0x1, 1, 1, .u8, .rw, 2, .c 15, .n, .t, .iv 1 80⟩,
  ⟨0x2743, 1, 0x1, 2, 2, .u8, .rw, 2, .c 50, .n, .t, .iv 5 250⟩,
  ⟨0x2743, 1, 0x1, 3, 3, .u32, .rw, 2, .c 100000, .n, .t, .iv 1 10000000⟩,
  ⟨0x2743, 1, 0x1, 4, 4, .u16, .rw, 2, .c 24, .n, .t, .iv 1 8760⟩,
  ⟨0x2760, 1, 0x1, 1, 8, .u8, .rw, 2, .c 20, .n, .t, .iv 5 50⟩,
  ⟨0x2761, 1, 0x1, 1, 8, .u16, .rw, 2, .c 1000, .n, .t, .iv 100 10000⟩,
  ⟨0x2762, 1, 0x1, 1, 8, .u16, .rw, 2, .c 10, .n, .t, .iv 1 100⟩,
  ⟨0x2763, 1, 0x1, 1, 8, .u16, .rw, 2, .c 25, .n, .t, .iv 1 500⟩,
  ⟨0x2764, 1, 0x1, 1, 8, .u8, .rw, 2, .c 16, .n, .t, .iv 1 255⟩,
  ⟨0x2765, 1, 0x1, 1, 8, .u16, .rw, 2, .c 15, .n, .t, .iv 1 500⟩,
  ⟨0x2766, 1, 0x1, 1, 8, .u8, .rw, 2, .c 32, .n, .t, .iv 1 255⟩,
  ⟨0x2767, 1, 0x1, 1, 8, .u16, .rw, 2, .c 2000, .n, .t, .iv 0 60000⟩,
  ⟨0x2768, 1, 0x1, 1, 8, .u16, .rw, 2, .c 64, .n, .t, .iv 1 1023⟩,
  ⟨0x2769, 1, 0x1, 1, 8, .u32, .ro, 0, .c 0, .v, .none, .any⟩,
  ⟨0x276A, 1, 0x1, 1, 8, .u16, .ro, 0, .c 0, .k, .none, .any⟩,
  ⟨0x276B, 1, 0x1, 1, 8, .u16, .rw, 2, .c 3932, .n, .t, .devV⟩,
  ⟨0x276C, 1, 0x1, 1, 8, .u16, .rw, 2, .c 2621, .n, .t, .devV⟩,
  ⟨0x276D, 1, 0x1, 1, 8, .u8, .rw, 2, .c 2, .n, .t, .iv 1 16⟩,
  ⟨0x276E, 1, 0x1, 1, 8, .u8, .rw, 2, .c 8, .n, .t, .iv 1 255⟩,
  ⟨0x276F, 1, 0x1, 1, 8, .u16, .rw, 2, .c 40000, .n, .t, .any⟩,
  ⟨0x2770, 1, 0x1, 1, 8, .u8, .rw, 2, .c 4, .n, .t, .iv 1 255⟩,
  ⟨0x2771, 1, 0x1, 1, 8, .u8, .rw, 2, .c 3, .n, .t, .iv 0 15⟩,
  ⟨0x2772, 1, 0x1, 1, 8, .u16, .rw, 2, .c 100, .n, .t, .iv 1 10000⟩,
  ⟨0x2773, 1, 0x1, 1, 8, .u8, .rw, 2, .c 1, .n, .t, .iv 1 32⟩,
  ⟨0x2774, 1, 0x1, 1, 8, .u16, .ro, 0, .c 0x0, .k, .none, .any⟩,
  ⟨0x2775, 1, 0x1, 1, 8, .bool, .wo, 1, .c 0, .v, .t, .iv 0 1⟩,
  ⟨0x2780, 8, 0x1, 1, 9, .u8, .rw, 2, .tab [1, 1, 2, 2, 2, 1, 1, 1, 0], .n, .t, .codes [1, 2, 4, 5, 6, 7]⟩]

/-- Objects 27xxh. -/
def page27 : List ObjRow := page27_1 ++ page27_2

/-- Objects 28xxh, part 1. -/
def page28_1 : List ObjRow := [
  ⟨0x2800, 1, 0x1, 1, 6, .u16, .rw, 1, .c 7373, .v, .t, .iv 2458 20480⟩,
  ⟨0x2801, 1, 0x1, 1, 6, .u16, .rw, 2, .c 7373, .n, .u, .iv 2458 20480⟩,
  ⟨0x2802, 1, 0x1, 1, 6, .u16, .ro, 0, .c 0, .v, .none, .any⟩,
  ⟨0x2803, 1, 0x1, 1, 6, .u8, .rw, 2, .c 0, .n, .t, .iv 0 1⟩,
  ⟨0x2804, 1, 0x1, 1, 6, .u16, .rw, 2, .c 100, .n, .t, .iv 1 10000⟩,
  ⟨0x2805, 1, 0x1, 1, 6, .u16, .rw, 2, .c 100, .n, .i, .iv 1 10000⟩,
  ⟨0x2806, 1, 0x1, 1, 6, .u8, .rw, 2, .c 16, .n, .s, .iv 4 18⟩,
  ⟨0x2807, 1, 0x1, 1, 6, .u8, .rw, 2, .c 32, .n, .t, .iv 1 255⟩,
  ⟨0x2808, 1, 0x1, 1, 6, .u8, .rw, 2, .c 10, .n, .t, .iv 3 30⟩,
  ⟨0x2809, 1, 0x1, 1, 6, .u8, .rw, 2, .c 10, .n, .t, .iv 3 30⟩,
  ⟨0x280A, 1, 0x1, 1, 6, .u8, .rw, 2, .c 5, .n, .t, .iv 1 20⟩,
  ⟨0x280B, 1, 0x1, 1, 6, .bool, .rw, 2, .c 1, .n, .t, .iv 0 1⟩,
  ⟨0x280C, 1, 0x1, 1, 6, .u8, .rw, 2, .c 3, .n, .t, .iv 0 15⟩,
  ⟨0x280D, 1, 0x1, 1, 6, .u16, .rw, 2, .c 100, .n, .t, .iv 1 10000⟩,
  ⟨0x280E, 1, 0x1, 1, 6, .i32, .ro, 0, .c 0, .v, .none, .any⟩,
  ⟨0x280F, 1, 0x1, 1, 6, .u16, .ro, 0, .c 0, .v, .none, .any⟩,
  ⟨0x2810, 1, 0x1, 1, 6, .u8, .ro, 0, .c 0x0, .v, .none, .any⟩,
  ⟨0x2811, 1, 0x1, 1, 6, .u16, .ro, 0, .c 0x0, .k, .none, .any⟩,
  ⟨0x2812, 1, 0x1, 1, 6, .bool, .wo, 1, .c 0, .v, .t, .iv 0 1⟩,
  ⟨0x2818, 6, 0x1, 1, 5, .u8, .rw, 2, .tab [2, 1, 2, 1, 1], .n, .t, .codes [2, 5]⟩,
  ⟨0x2840, 1, 0x1, 1, 4, .u16, .rw, 2, .c 13517, .n, .t, .iv 3277 20480⟩,
  ⟨0x2841, 1, 0x1, 1, 4, .u16, .rw, 2, .c 1000, .n, .t, .iv 100 10000⟩,
  ⟨0x2842, 1, 0x1, 1, 4, .bool, .rw, 2, .c 0, .n, .u, .iv 0 1⟩,
  ⟨0x2843, 1, 0x1, 1, 4, .bool, .rw, 2, .c 1, .n, .t, .iv 0 1⟩,
  ⟨0x2844, 1, 0x1, 1, 4, .u8, .rw, 2, .c 10, .n, .t, .iv 3 30⟩,
  ⟨0x2845, 1, 0x1, 1, 4, .u8, .ro, 0, .c 0x0, .v, .none, .any⟩,
  ⟨0x2846, 1, 0x1, 1, 4, .u16, .ro, 0, .c 0x0, .k, .none, .any⟩,
  ⟨0x2847, 1, 0x1, 1, 4, .bool, .wo, 1, .c 0, .v, .t, .iv 0 1⟩,
  ⟨0x2848, 4, 0x1, 1, 2, .u8, .rw, 2, .keepResp, .n, .t, .codes [1, 3]⟩,
  ⟨0x2848, 4, 0x1, 3, 3, .u8, .rw, 2, .c 1, .n, .t, .codes [1, 3]⟩]

/-- Objects 28xxh. -/
def page28 : List ObjRow := page28_1

/-- Objects 29xxh, part 1. -/
def page29_1 : List ObjRow := [
  ⟨0x2900, 1, 0x1, 1, 64, .u32, .rw, 2, .c 0, .n, .i, .any⟩,
  ⟨0x2901, 1, 0x1, 1, 64, .u32, .rw, 2, .c 0, .n, .i, .any⟩,
  ⟨0x2902, 1, 0x1, 1, 4, .u8, .rw, 2, .c 0, .n, .i, .iv 0 63⟩,
  ⟨0x2903, 1, 0x1, 1, 4, .u8, .rw, 2, .c 0, .n, .i, .iv 0 64⟩,
  ⟨0x2904, 1, 0x1, 0, 0, .u8, .wo, 1, .c 0, .v, .t, .iv 1 3⟩,
  ⟨0x2905, 1, 0x1, 0, 0, .u16, .ro, 0, .c 0x0, .v, .none, .any⟩,
  ⟨0x2906, 1, 0x1, 0, 0, .u8, .rw, 2, .c 0x3, .n, .u, .iv 0 3⟩,
  ⟨0x2907, 1, 0x1, 0, 0, .u8, .ro, 0, .c 0x0, .v, .none, .any⟩,
  ⟨0x2908, 1, 0x1, 0, 0, .u16, .ro, 0, .c 0, .k, .none, .any⟩,
  ⟨0x2910, 1, 0x1, 1, 18, .bool, .rw, 1, .c 0, .v, .t, .iv 0 1⟩,
  ⟨0x2911, 1, 0x1, 1, 18, .u8, .ro, 0, .c 0, .v, .none, .any⟩,
  ⟨0x2912, 1, 0x1, 1, 18, .u8, .rw, 2, .c 0, .n, .t, .iv 0 3⟩,
  ⟨0x2913, 1, 0x1, 1, 18, .u16, .rw, 2, .c 1229, .n, .t, .any⟩,
  ⟨0x2920, 1, 0x1, 1, 16, .u8, .rw, 2, .c 0x0, .n, .u, .iv 0 3⟩,
  ⟨0x2921, 1, 0x1, 1, 16, .bool, .ro, 0, .c 0, .v, .none, .iv 0 1⟩,
  ⟨0x2922, 1, 0x1, 1, 16, .u8, .rw, 2, .c 0xFF, .n, .t, .ivOr 0 3 255⟩,
  ⟨0x2928, 1, 0x1, 1, 4, .u8, .rw, 2, .c 0, .n, .u, .iv 0 4⟩,
  ⟨0x2929, 1, 0x1, 1, 4, .bool, .ro, 0, .c 0, .v, .none, .iv 0 1⟩]

/-- Objects 29xxh. -/
def page29 : List ObjRow := page29_1

/-- Objects 2Axxh, part 1. -/
def page2A_1 : List ObjRow := [
  ⟨0x2A00, 1, 0x1, 1, 24, .u8, .rw, 2, .c 0xFF, .n, .t, .ivOr 0 33 255⟩,
  ⟨0x2A01, 1, 0x1, 1, 24, .u16, .rw, 2, .c 0, .n, .t, .any⟩,
  ⟨0x2A02, 1, 0x1, 1, 24, .u16, .rw, 2, .c 0xFFFF, .n, .t, .any⟩,
  ⟨0x2A03, 1, 0x1, 1, 24, .u16, .rw, 2, .c 41, .n, .t, .iv 0 4095⟩,
  ⟨0x2A04, 1, 0x1, 1, 24, .u32, .rw, 2, .c 0x3300, .n, .t, .wmConfig⟩,
  ⟨0x2A05, 1, 0x1, 1, 24, .u32, .rw, 2, .c 0x0, .n, .t, .wmRoute⟩,
  ⟨0x2A06, 1, 0x1, 1, 24, .u32, .rw, 2, .c 0x0, .n, .t, .any⟩,
  ⟨0x2A07, 1, 0x1, 1, 24, .u8, .rw, 3, .c 0xFF, .n, .t, .ivOr 0 15 255⟩,
  ⟨0x2A08, 1, 0x1, 1, 24, .u16, .rw, 2, .c 50, .n, .t, .iv 1 500⟩,
  ⟨0x2A09, 1, 0x1, 1, 24, .u16, .ro, 0, .c 0x0, .v, .none, .any⟩,
  ⟨0x2A0A, 1, 0x1, 1, 24, .u32, .ro, 0, .c 0, .v, .none, .any⟩,
  ⟨0x2A0B, 1, 0x1, 1, 24, .u16, .ro, 0, .c 0, .k, .none, .any⟩,
  ⟨0x2A0C, 1, 0x1, 1, 24, .u8, .wo, 2, .c 0, .v, .i, .iv 1 2⟩,
  ⟨0x2A0D, 1, 0x1, 1, 24, .u16, .ro, 0, .c 0x0, .v, .none, .any⟩,
  ⟨0x2A20, 1, 0x1, 0, 0, .u16, .rw, 2, .c 150, .n, .t, .iv 100 200⟩,
  ⟨0x2A21, 1, 0x1, 0, 0, .u32, .ro, 0, .c 0, .v, .none, .any⟩,
  ⟨0x2A22, 1, 0x1, 0, 0, .u32, .ro, 0, .c 0, .v, .none, .any⟩,
  ⟨0x2A40, 1, 0x1, 1, 32, .u8, .wo, 2, .c 0, .v, .i, .iv 1 1⟩,
  ⟨0x2A41, 1, 0x1, 1, 32, .u32, .ro, 0, .c 0, .v, .none, .any⟩]

/-- Objects 2Axxh. -/
def page2A : List ObjRow := page2A_1

/-- Objects 2Bxxh, part 1. -/
def page2B_1 : List ObjRow := [
  ⟨0x2B00, 1, 0x1, 1, 16, .u32, .rw, 2, .c 0, .k, .i, .any⟩,
  ⟨0x2B01, 1, 0x1, 1, 16, .u32, .rw, 2, .c 0xFFFFFFFF, .k, .i, .any⟩,
  ⟨0x2B02, 1, 0x1, 1, 16, .u16, .rw, 2, .c 0x40, .n, .i, .mask 0xE0⟩,
  ⟨0x2B03, 1, 0x1, 1, 16, .u16, .rw, 2, .c 1, .n, .i, .iv 1 65535⟩,
  ⟨0x2B04, 1, 0x1, 1, 16, .u16, .rw, 2, .c 0x0, .n, .i, .mask 0xEE⟩,
  ⟨0x2B05, 1, 0x1, 1, 16, .u8, .rw, 2, .tab [0, 1, 2, 3, 4, 5, 6, 7, 8, 9, 10, 11, 12, 13, 14, 15], .n, .i, .iv 0 15⟩,
  ⟨0x2B06, 1, 0x1, 1, 16, .u32, .ro, 0, .c 0, .k, .none, .any⟩,
  ⟨0x2B07, 1, 0x1, 1, 16, .u32, .ro, 0, .c 0, .k, .none, .any⟩,
  ⟨0x2B08, 1, 0x1, 1, 16, .u8, .wo, 2, .c 0, .v, .i, .iv 1 3⟩,
  ⟨0x2B09, 1, 0x1, 1, 16, .u16, .ro, 0, .c 0x0, .k, .none, .any⟩,
  ⟨0x2B0A, 1, 0x1, 1, 16, .u8, .rw, 2, .c 0x0, .n, .i, .any⟩,
  ⟨0x2B0B, 1, 0x1, 1, 16, .u32, .ro, 0, .c 0, .k, .none, .any⟩,
  ⟨0x2B20, 1, 0x1, 0, 0, .u16, .wo, 2, .c 0, .v, .i, .any⟩,
  ⟨0x2B21, 1, 0x1, 0, 0, .u16, .wo, 2, .c 0, .v, .i, .any⟩,
  ⟨0x2B22, 1, 0x1, 0, 0, .bool, .rw, 2, .c 0, .n, .i, .iv 0 1⟩,
  ⟨0x2B23, 1, 0x1, 0, 0, .u16, .ro, 0, .c 0x0, .v, .none, .any⟩]

/-- Objects 2Bxxh. -/
def page2B : List ObjRow := page2B_1

/-- Objects 2Cxxh, part 1. -/
def page2C_1 : List ObjRow := [
  ⟨0x2C00, 1, 0x1, 1, 128, .u16, .rw, 2, .evRoute, .n, .t, .mask 0xFFF0⟩,
  ⟨0x2C01, 1, 0x1, 0, 0, .u32, .ro, 0, .c 0, .v, .none, .any⟩,
  ⟨0x2C02, 1, 0x1, 1, 4, .u8, .rw, 2, .c 0, .n, .t, .iv 0 7⟩,
  ⟨0x2C03, 1, 0x1, 1, 4, .domain, .ro, 0, .lit [], .v, .none, .any⟩,
  ⟨0x2C04, 1, 0x1, 1, 4, .u32, .wo, 1, .c 0, .v, .i, .any⟩,
  ⟨0x2C05, 1, 0x1, 1, 4, .u16, .ro, 0, .c 0x0, .v, .none, .any⟩,
  ⟨0x2C06, 1, 0x1, 1, 4, .u32, .ro, 0, .c 0, .v, .none, .any⟩,
  ⟨0x2C07, 1, 0x1, 0, 0, .u8, .rw, 2, .c 4, .n, .t, .iv 0 7⟩,
  ⟨0x2C08, 1, 0x1, 0, 0, .u8, .rw, 2, .c 4, .n, .t, .iv 0 7⟩,
  ⟨0x2C09, 1, 0x1, 0, 0, .u8, .rw, 2, .c 0, .n, .t, .iv 0 7⟩,
  ⟨0x2C0A, 1, 0x1, 0, 0, .u16, .rw, 3, .c 0x0, .n, .t, .any⟩,
  ⟨0x2C0B, 1, 0x1, 0, 0, .u16, .ro, 0, .c 0, .v, .none, .any⟩,
  ⟨0x2C0C, 1, 0x1, 0, 0, .u32, .ro, 0, .c 0, .k, .none, .any⟩,
  ⟨0x2C0D, 1, 0x1, 0, 0, .u16, .wo, 2, .c 0, .v, .t, .any⟩]

/-- Objects 2Cxxh. -/
def page2C : List ObjRow := page2C_1

/-- Objects 2Dxxh, part 1. -/
def page2D_1 : List ObjRow := [
  ⟨0x2D00, 1, 0x1, 0, 0, .u8, .ro, 0, .c 0, .v, .none, .any⟩,
  ⟨0x2D01, 1, 0x1, 0, 0, .u16, .rw, 2, .c 8000, .n, .t, .iv 4500 15000⟩,
  ⟨0x2D02, 1, 0x1, 0, 0, .u16, .rw, 2, .c 400, .n, .t, .iv 100 2000⟩,
  ⟨0x2D03, 1, 0x1, 0, 0, .u16, .rw, 2, .c 50, .n, .t, .iv 10 500⟩,
  ⟨0x2D04, 1, 0x1, 0, 0, .u16, .ro, 0, .c 0, .v, .none, .any⟩,
  ⟨0x2D05, 1, 0x1, 0, 0, .u16, .rw, 2, .c 2000, .n, .t, .step 100 4000 50⟩,
  ⟨0x2D06, 1, 0x1, 0, 0, .u16, .rw, 2, .c 3600, .n, .t, .iv 3000 4000⟩,
  ⟨0x2D07, 1, 0x1, 0, 0, .u16, .ro, 0, .c 0x0, .v, .none, .any⟩,
  ⟨0x2D08, 1, 0x1, 0, 0, .u32, .ro, 0, .c 0, .k, .none, .any⟩,
  ⟨0x2D10, 1, 0x1, 0, 0, .bool, .rw, 2, .c 1, .n, .t, .iv 0 1⟩,
  ⟨0x2D11, 1, 0x1, 0, 0, .u8, .rw, 2, .c 0, .n, .t, .iv 0 1⟩,
  ⟨0x2D12, 1, 0x1, 0, 0, .u16, .rw, 2, .c 4200, .n, .t, .chgVreg⟩,
  ⟨0x2D13, 1, 0x1, 0, 0, .u16, .rw, 2, .c 1000, .n, .t, .step 100 3000 50⟩,
  ⟨0x2D14, 1, 0x1, 0, 0, .u16, .rw, 2, .c 200, .n, .t, .iv 50 500⟩,
  ⟨0x2D15, 1, 0x1, 0, 0, .u16, .rw, 2, .c 150, .n, .t, .iv 50 500⟩,
  ⟨0x2D16, 1, 0x1, 0, 0, .u16, .rw, 2, .c 3000, .n, .t, .iv 2000 3200⟩,
  ⟨0x2D17, 1, 0x1, 0, 0, .u16, .rw, 2, .c 100, .n, .t, .iv 50 300⟩,
  ⟨0x2D18, 1, 0x1, 0, 0, .u8, .rw, 2, .c 10, .n, .t, .iv 1 20⟩,
  ⟨0x2D19, 1, 0x1, 0, 0, .u8, .rw, 2, .c 60, .n, .t, .iv 10 120⟩,
  ⟨0x2D1A, 1, 0x1, 0, 0, .u8, .rw, 2, .c 50, .n, .t, .iv 10 100⟩,
  ⟨0x2D1B, 1, 0x1, 0, 0, .u16, .rw, 2, .c 100, .n, .t, .iv 0 150⟩,
  ⟨0x2D1C, 1, 0x1, 0, 0, .u16, .rw, 2, .c 3000, .n, .t, .iv 2300 3400⟩,
  ⟨0x2D1D, 1, 0x1, 0, 0, .u8, .ro, 0, .c 0, .v, .none, .any⟩,
  ⟨0x2D1E, 1, 0x1, 0, 0, .u16, .ro, 0, .c 0x0, .v, .none, .any⟩,
  ⟨0x2D1F, 1, 0x1, 0, 0, .u16, .ro, 0, .c 0x0, .k, .none, .any⟩,
  ⟨0x2D20, 1, 0x1, 0, 0, .u32, .ro, 0, .c 0, .k, .none, .any⟩,
  ⟨0x2D21, 1, 0x1, 0, 0, .u16, .ro, 0, .c 0, .v, .none, .any⟩,
  ⟨0x2D22, 1, 0x1, 0, 0, .i16, .ro, 0, .c 0, .v, .none, .any⟩,
  ⟨0x2D23, 1, 0x1, 0, 0, .u16, .ro, 0, .c 0, .k, .none, .any⟩,
  ⟨0x2D30, 1, 0x1, 1, 4, .u16, .rw, 2, .tab [7420, 6480, 3260, 2300], .n, .t, .any⟩]

/-- Objects 2Dxxh, part 2. -/
def page2D_2 : List ObjRow := [
  ⟨0x2D31, 1, 0x1, 0, 0, .u16, .rw, 2, .c 100, .n, .t, .iv 20 500⟩,
  ⟨0x2D32, 1, 0x1, 0, 0, .u16, .rw, 2, .c 1810, .n, .t, .any⟩,
  ⟨0x2D33, 1, 0x1, 0, 0, .u16, .ro, 0, .c 0, .v, .none, .any⟩,
  ⟨0x2D34, 1, 0x1, 0, 0, .u8, .ro, 0, .c 4, .v, .none, .any⟩,
  ⟨0x2D40, 1, 0x1, 0, 0, .u8, .rw, 1, .c 1, .n, .t, .iv 0 1⟩,
  ⟨0x2D41, 1, 0x1, 0, 0, .u16, .rw, 2, .c 1500, .n, .t, .step 500 1500 50⟩,
  ⟨0x2D42, 1, 0x1, 0, 0, .u16, .rw, 2, .c 3400, .n, .t, .iv 3000 3800⟩,
  ⟨0x2D43, 1, 0x1, 0, 0, .u8, .ro, 0, .c 0x0, .v, .none, .any⟩,
  ⟨0x2D44, 1, 0x1, 0, 0, .bool, .wo, 1, .c 0, .v, .t, .iv 0 1⟩,
  ⟨0x2D50, 1, 0x1, 0, 0, .u8, .rw, 2, .c 8, .n, .t, .iv 4 16⟩,
  ⟨0x2D51, 1, 0x1, 0, 0, .u8, .ro, 0, .c 0x0, .v, .none, .any⟩,
  ⟨0x2D52, 1, 0x1, 0, 0, .u32, .wo, 2, .c 0, .v, .i, .any⟩,
  ⟨0x2D53, 1, 0x1, 0, 0, .u16, .rw, 2, .c 1000, .n, .t, .iv 100 60000⟩,
  ⟨0x2D54, 1, 0x1, 0, 0, .u8, .ro, 0, .c 0x0, .v, .none, .any⟩]

/-- Objects 2Dxxh. -/
def page2D : List ObjRow := page2D_1 ++ page2D_2

/-- Objects 2Exxh, part 1. -/
def page2E_1 : List ObjRow := [
  ⟨0x2E00, 1, 0x1, 0, 0, .u8, .ro, 0, .c 0, .v, .none, .any⟩,
  ⟨0x2E01, 1, 0x1, 0, 0, .u8, .rw, 2, .c 0x1, .n, .u, .iv 0 7⟩,
  ⟨0x2E02, 1, 0x1, 0, 0, .u8, .rw, 2, .c 1, .n, .t, .iv 0 2⟩,
  ⟨0x2E03, 1, 0x1, 0, 0, .u8, .rw, 1, .c 0x0, .v, .i, .page⟩,
  ⟨0x2E04, 1, 0x1, 0, 0, .u8, .rw, 2, .c 0x0, .n, .i, .set [0, 32, 64, 128]⟩,
  ⟨0x2E05, 1, 0x1, 0, 0, .u16, .ro, 0, .c 0x0, .v, .none, .any⟩,
  ⟨0x2E06, 1, 0x1, 1, 7, .u32, .ro, 0, .c 0, .v, .none, .any⟩,
  ⟨0x2E07, 1, 0x1, 0, 0, .u8, .rw, 2, .c 3, .n, .t, .iv 0 15⟩,
  ⟨0x2E08, 1, 0x1, 0, 0, .u16, .rw, 2, .c 100, .n, .t, .iv 10 10000⟩,
  ⟨0x2E09, 1, 0x1, 0, 0, .domain, .wo, 2, .lit [], .v, .i, .len 4 36⟩,
  ⟨0x2E0A, 1, 0x1, 0, 0, .domain, .ro, 0, .lit [], .v, .none, .any⟩,
  ⟨0x2E0B, 1, 0x1, 0, 0, .domain, .ro, 0, .lit [], .v, .none, .any⟩,
  ⟨0x2E20, 1, 0x1, 0, 0, .u8, .rw, 2, .c 1, .n, .t, .iv 0 2⟩,
  ⟨0x2E21, 1, 0x1, 0, 0, .u8, .rw, 2, .c 0x3, .n, .u, .iv 0 3⟩,
  ⟨0x2E22, 1, 0x1, 1, 32, .u8, .rw, 2, .c 0xFF, .n, .t, .ivOr 8 119 255⟩,
  ⟨0x2E23, 1, 0x1, 0, 0, .u8, .rw, 2, .c 0x79, .n, .t, .any⟩,
  ⟨0x2E24, 1, 0x1, 0, 0, .u16, .rw, 2, .c 0x3C, .n, .t, .any⟩,
  ⟨0x2E25, 1, 0x1, 0, 0, .u16, .ro, 0, .c 0x0, .v, .none, .any⟩,
  ⟨0x2E26, 1, 0x1, 1, 7, .u32, .ro, 0, .c 0, .v, .none, .any⟩,
  ⟨0x2E27, 1, 0x1, 0, 0, .u8, .rw, 2, .c 2, .n, .t, .iv 0 15⟩,
  ⟨0x2E28, 1, 0x1, 0, 0, .u8, .rw, 2, .c 8, .n, .t, .iv 1 32⟩,
  ⟨0x2E29, 1, 0x1, 0, 0, .domain, .wo, 2, .lit [], .v, .i, .len 4 36⟩,
  ⟨0x2E2A, 1, 0x1, 0, 0, .domain, .ro, 0, .lit [], .v, .none, .any⟩,
  ⟨0x2E2C, 1, 0x1, 1, 8, .u8, .ro, 0, .c 0xFF, .v, .none, .any⟩,
  ⟨0x2E40, 1, 0x1, 0, 0, .bool, .rw, 2, .c 1, .n, .u, .iv 0 1⟩,
  ⟨0x2E41, 1, 0x1, 0, 0, .bool, .rw, 2, .c 1, .n, .t, .iv 0 1⟩,
  ⟨0x2E42, 1, 0x1, 0, 0, .u8, .rw, 1, .c 0x0, .v, .i, .page⟩,
  ⟨0x2E43, 1, 0x1, 1, 7, .u32, .ro, 0, .c 0, .v, .none, .any⟩,
  ⟨0x2E60, 1, 0x1, 1, 2, .u16, .rw, 0, .c 0x100, .v, .i, .window⟩,
  ⟨0x2E61, 1, 0x1, 1, 2, .u32, .rw, 0, .c 0, .v, .i, .any⟩]

/-- Objects 2Exxh, part 2. -/
def page2E_2 : List ObjRow := [
  ⟨0x2E62, 1, 0x1, 1, 2, .u16, .ro, 0, .c 0x0, .v, .none, .any⟩,
  ⟨0x2E63, 1, 0x1, 1, 2, .u16, .wo, 0, .c 0, .v, .i, .iv 1 19200⟩,
  ⟨0x2E64, 1, 0x1, 1, 2, .u32, .ro, 0, .c 0, .v, .none, .any⟩,
  ⟨0x2E65, 1, 0x1, 1, 2, .u16, .ro, 0, .c 0, .v, .none, .any⟩]

/-- Objects 2Exxh. -/
def page2E : List ObjRow := page2E_1 ++ page2E_2

/-- Objects 2Fxxh, part 1. -/
def page2F_1 : List ObjRow := [
  ⟨0x2F00, 1, 0x1, 0, 0, .u8, .rw, 2, .c 0, .n, .u, .iv 0 127⟩,
  ⟨0x2F01, 1, 0x1, 0, 0, .u8, .ro, 0, .c 0, .v, .none, .any⟩,
  ⟨0x2F02, 1, 0x1, 0, 0, .u16, .rw, 2, .c 500, .n, .u, .set [125, 250, 500, 1000]⟩,
  ⟨0x2F03, 1, 0x1, 0, 0, .u8, .rw, 2, .c 8, .n, .u, .set [2, 4, 5, 8]⟩,
  ⟨0x2F04, 1, 0x1, 0, 0, .u8, .rw, 2, .c 0x3, .n, .u, .iv 0 3⟩,
  ⟨0x2F05, 1, 0x1, 0, 0, .u8, .rw, 2, .c 0, .n, .t, .iv 0 1⟩,
  ⟨0x2F06, 1, 0x1, 0, 0, .u16, .rw, 2, .c 10, .n, .t, .iv 1 3600⟩,
  ⟨0x2F07, 1, 0x1, 0, 0, .u8, .ro, 0, .c 0, .v, .none, .any⟩,
  ⟨0x2F08, 1, 0x1, 1, 2, .u16, .ro, 0, .c 0x0, .v, .none, .any⟩,
  ⟨0x2F09, 1, 0x1, 1, 2, .domain, .ro, 0, .lit [], .v, .none, .any⟩,
  ⟨0x2F0A, 1, 0x1, 0, 0, .u16, .rw, 2, .c 100, .n, .t, .iv 1 10000⟩,
  ⟨0x2F0B, 1, 0x1, 0, 0, .u16, .rw, 2, .c 100, .n, .t, .iv 10 10000⟩,
  ⟨0x2F0C, 1, 0x1, 0, 0, .bool, .rw, 2, .c 0, .n, .u, .iv 0 1⟩,
  ⟨0x2F0D, 1, 0x1, 0, 0, .bool, .rw, 2, .c 1, .n, .t, .iv 0 1⟩,
  ⟨0x2F0E, 1, 0x1, 0, 0, .u8, .ro, 0, .c 0, .v, .none, .any⟩,
  ⟨0x2F0F, 1, 0x1, 0, 0, .u16, .rw, 2, .c 1000, .n, .t, .iv 10 60000⟩,
  ⟨0x2F10, 1, 0x1, 0, 0, .u16, .rw, 2, .c 100, .n, .t, .iv 10 10000⟩,
  ⟨0x2F20, 1, 0x1, 0, 0, .u32, .rw, 2, .c 0x1C5A0000, .n, .u, .bxtBase⟩,
  ⟨0x2F21, 1, 0x1, 0, 0, .u16, .rw, 2, .c 500, .n, .t, .iv 1 10000⟩,
  ⟨0x2F22, 1, 0x1, 1, 2, .domain, .ro, 0, .lit [], .v, .none, .any⟩]

/-- Objects 2Fxxh. -/
def page2F : List ObjRow := page2F_1

/-- Objects 30xxh, part 1. -/
def page30_1 : List ObjRow := [
  ⟨0x3000, 1, 0x1, 1, 4, .u32, .rw, 0, .c 0, .v, .i, .any⟩,
  ⟨0x3001, 1, 0x1, 1, 4, .u32, .wo, 0, .c 0, .v, .i, .any⟩,
  ⟨0x3002, 1, 0x1, 1, 4, .domain, .ro, 0, .lit [], .v, .none, .any⟩,
  ⟨0x3003, 1, 0x1, 0, 0, .u16, .ro, 0, .c 0, .v, .none, .any⟩,
  ⟨0x3004, 1, 0x1, 0, 0, .u16, .ro, 0, .c 6912, .v, .none, .any⟩,
  ⟨0x3005, 1, 0x1, 0, 0, .u16, .ro, 0, .c 0x0, .v, .none, .any⟩,
  ⟨0x3006, 1, 0x1, 0, 0, .u32, .ro, 0, .c 0, .v, .none, .any⟩,
  ⟨0x3007, 1, 0x1, 0, 0, .u32, .ro, 0, .c 0, .v, .none, .any⟩,
  ⟨0x3008, 1, 0x1, 0, 0, .u32, .ro, 0, .c 0, .k, .none, .any⟩,
  ⟨0x3009, 1, 0x1, 0, 0, .u32, .wo, 2, .c 0, .v, .i, .any⟩,
  ⟨0x300A, 1, 0x1, 0, 0, .domain, .wo, 1, .lit [], .v, .t, .len 12 12⟩,
  ⟨0x300B, 1, 0x1, 0, 0, .domain, .ro, 0, .lit [], .v, .none, .any⟩,
  ⟨0x300C, 1, 0x1, 0, 0, .u16, .ro, 0, .c 0, .v, .none, .any⟩]

/-- Objects 30xxh. -/
def page30 : List ObjRow := page30_1

/-- Objects 31xxh, part 1. -/
def page31_1 : List ObjRow := [
  ⟨0x3100, 1, 0x1, 0, 0, .u16, .ro, 0, .c 0x0, .v, .none, .any⟩,
  ⟨0x3101, 1, 0x1, 0, 0, .u32, .ro, 0, .c 0, .n, .none, .any⟩,
  ⟨0x3102, 1, 0x1, 1, 2, .domain, .ro, 0, .lit [], .v, .none, .any⟩,
  ⟨0x3103, 1, 0x1, 0, 0, .u32, .wo, 3, .c 0, .v, .i, .any⟩,
  ⟨0x3110, 1, 0x1, 1, 2, .u8, .ro, 0, .c 0, .v, .none, .any⟩,
  ⟨0x3111, 1, 0x1, 0, 0, .u8, .ro, 0, .c 0, .v, .none, .any⟩,
  ⟨0x3112, 1, 0x1, 1, 2, .domain, .ro, 0, .lit [], .v, .none, .any⟩,
  ⟨0x3113, 1, 0x1, 0, 0, .u8, .wo, 3, .c 0, .v, .i, .iv 1 1⟩,
  ⟨0x3114, 1, 0x1, 0, 0, .domain, .wo, 3, .lit [], .v, .i, .len 9 16392⟩,
  ⟨0x3115, 1, 0x1, 0, 0, .bool, .wo, 3, .c 0, .v, .i, .iv 0 1⟩,
  ⟨0x3116, 1, 0x1, 0, 0, .u32, .wo, 3, .c 0, .v, .t, .any⟩,
  ⟨0x3117, 1, 0x1, 0, 0, .bool, .wo, 3, .c 0, .v, .i, .iv 0 1⟩,
  ⟨0x3118, 1, 0x1, 0, 0, .bool, .rw, 3, .c 1, .n, .t, .iv 0 1⟩,
  ⟨0x3119, 1, 0x1, 0, 0, .u32, .rw, 3, .c 600, .n, .t, .iv 1 86400⟩,
  ⟨0x311A, 1, 0x1, 0, 0, .u8, .ro, 0, .c 0, .v, .none, .any⟩,
  ⟨0x311B, 1, 0x1, 0, 0, .u32, .ro, 0, .c 0, .k, .none, .any⟩]

/-- Objects 31xxh. -/
def page31 : List ObjRow := page31_1

/-- Objects 32xxh, part 1. -/
def page32_1 : List ObjRow := [
  ⟨0x3200, 1, 0x1, 0, 0, .u8, .rw, 3, .c 0, .n, .i, .iv 0 1⟩,
  ⟨0x3202, 1, 0x1, 1, 2, .domain, .wo, 3, .zeros 8, .n, .i, .len 8 8⟩,
  ⟨0x3203, 1, 0x1, 0, 0, .domain, .wo, 3, .zeros 32, .n, .i, .len 32 32⟩,
  ⟨0x3204, 1, 0x1, 0, 0, .u8, .ro, 0, .c 0x0, .v, .none, .any⟩,
  ⟨0x3205, 1, 0x1, 1, 4, .domain, .ro, 0, .lit [], .v, .none, .any⟩,
  ⟨0x3206, 1, 0x1, 1, 4, .domain, .wo, 0, .lit [], .v, .i, .len 17 17⟩,
  ⟨0x3207, 1, 0x1, 1, 4, .domain, .wo, 0, .lit [], .v, .i, .len 9 9⟩,
  ⟨0x3208, 1, 0x1, 1, 4, .bool, .wo, 0, .c 0, .v, .i, .iv 0 1⟩,
  ⟨0x3209, 1, 0x1, 1, 4, .u16, .ro, 0, .c 0x4000, .v, .none, .any⟩,
  ⟨0x320A, 1, 0x1, 0, 0, .u8, .ro, 0, .c 0, .k, .none, .any⟩,
  ⟨0x320B, 1, 0x1, 0, 0, .u16, .ro, 0, .c 0, .k, .none, .any⟩,
  ⟨0x320C, 1, 0x1, 0, 0, .bool, .rw, 3, .c 0, .v, .i, .iv 0 1⟩,
  ⟨0x320D, 1, 0x1, 0, 0, .u8, .ro, 0, .c 0x0, .v, .none, .any⟩]

/-- Objects 32xxh. -/
def page32 : List ObjRow := page32_1

/-- Objects 40xxh, part 1. -/
def page40_1 : List ObjRow := [
  ⟨0x4000, 16, 0x100, 1, 128, .coef, .rw, 2, .coef, .n, .b, .any⟩,
  ⟨0x4001, 16, 0x100, 1, 128, .coef, .rw, 2, .coef, .n, .b, .any⟩,
  ⟨0x4002, 16, 0x100, 1, 128, .coef, .rw, 2, .coef, .n, .b, .any⟩,
  ⟨0x4003, 16, 0x100, 1, 128, .coef, .rw, 2, .coef, .n, .b, .any⟩,
  ⟨0x4008, 16, 0x100, 1, 32, .u32, .rw, 3, .c 0, .v, .i, .any⟩,
  ⟨0x4009, 16, 0x100, 0, 0, .bool, .wo, 3, .c 0, .v, .t, .iv 0 1⟩,
  ⟨0x400A, 16, 0x100, 1, 32, .u32, .ro, 0, .c 0, .v, .none, .any⟩,
  ⟨0x400B, 16, 0x100, 1, 32, .u32, .ro, 0, .c 0, .v, .none, .any⟩,
  ⟨0x400C, 16, 0x100, 0, 0, .u32, .ro, 0, .c 0, .v, .none, .any⟩,
  ⟨0x4010, 16, 0x100, 1, 192, .u16, .ro, 0, .c 0xFFFF, .v, .none, .any⟩,
  ⟨0x4020, 16, 0x100, 0, 0, .domain, .wo, 3, .lit [], .v, .i, .len 64 19200⟩,
  ⟨0x4021, 16, 0x100, 0, 0, .domain, .ro, 0, .lit [], .v, .none, .any⟩,
  ⟨0x4022, 16, 0x100, 0, 0, .domain, .ro, 3, .lit [], .v, .none, .any⟩,
  ⟨0x4023, 16, 0x100, 0, 0, .domain, .ro, 0, .lit [], .v, .none, .any⟩]

/-- Objects 40xxh. -/
def page40 : List ObjRow := page40_1

/-- The page of an index: its high byte; every engine window shares the page of SP0 (R12). -/
def objPage (idx : Nat) : List ObjRow :=
  match idx / 256 with
  | 0x10 => page10
  | 0x12 => page12
  | 0x14 => page14
  | 0x16 => page16
  | 0x18 => page18
  | 0x1A => page1A
  | 0x20 => page20
  | 0x21 => page21
  | 0x22 => page22
  | 0x23 => page23
  | 0x24 => page24
  | 0x25 => page25
  | 0x26 => page26
  | 0x27 => page27
  | 0x28 => page28
  | 0x29 => page29
  | 0x2A => page2A
  | 0x2B => page2B
  | 0x2C => page2C
  | 0x2D => page2D
  | 0x2E => page2E
  | 0x2F => page2F
  | 0x30 => page30
  | 0x31 => page31
  | 0x32 => page32
  | n => if 0x40 ≤ n ∧ n ≤ 0x4F then page40 else []

/-- Does the row have this index? -/
def ObjRow.hasIdx (r : ObjRow) (idx : Nat) : Bool :=
  decide (r.base ≤ idx) && decide ((idx - r.base) % r.stride = 0) && decide ((idx - r.base) / r.stride < r.n)

/-- Does the row have this index and sub-index? -/
def ObjRow.covers (r : ObjRow) (idx sub : Nat) : Bool :=
  r.hasIdx idx && decide (r.lo ≤ sub) && decide (sub ≤ r.hi)

/-- The unit an index names in its row (R12). -/
def ObjRow.unit (r : ObjRow) (idx : Nat) : Nat := (idx - r.base) / r.stride

/-- The row of an object, by key. -/
def objRow (key : Nat) : Option ObjRow :=
  (objPage (key / 256)).find? (fun r => r.covers (key / 256) (key % 256))

/-- Does the index exist (R373 step 1)? -/
def idxExists (idx : Nat) : Bool := (objPage idx).any (fun r => r.hasIdx idx)

/-- What sub-index 00 of an array reads: its highest sub-index (R12). Notes, log 11. -/
def arrayCount (idx : Nat) : Nat :=
  (objPage idx).foldl (fun m r => if r.hasIdx idx then max m r.hi else m) 0


/-- `1000h:00` (R402). -/
abbrev K.DEVICE_TYPE : Nat := 0x100000
/-- `1001h:00` (R402). -/
abbrev K.ERROR_REGISTER : Nat := 0x100100
/-- `1003h:00` (R402). -/
abbrev K.ERROR_HISTORY_COUNT : Nat := 0x100300
/-- `1003h:01–10`, entry `i` from 0 (R402). -/
abbrev K.PRE_DEFINED_ERROR_FIELD (i : Nat) : Nat := 0x100301 + i
/-- `1008h:00` (R402). -/
abbrev K.MFR_DEVICE_NAME : Nat := 0x100800
/-- `1009h:00` (R402). -/
abbrev K.MFR_HW_VERSION : Nat := 0x100900
/-- `100Ah:00` (R402). -/
abbrev K.MFR_SW_VERSION : Nat := 0x100A00
/-- `1010h:01` (R402). -/
abbrev K.STORE_PARAMETERS : Nat := 0x101001
/-- `1011h:01` (R402). -/
abbrev K.RESTORE_DEFAULT_PARAMETERS : Nat := 0x101101
/-- `1014h:00` (R402). -/
abbrev K.COB_ID_EMCY : Nat := 0x101400
/-- `1015h:00` (R402). -/
abbrev K.INHIBIT_TIME_EMCY : Nat := 0x101500
/-- `1016h:01–04`, entry `i` from 0 (R402). -/
abbrev K.CONSUMER_HEARTBEAT_TIME (i : Nat) : Nat := 0x101601 + i
/-- `1017h:00` (R402). -/
abbrev K.PRODUCER_HEARTBEAT_TIME : Nat := 0x101700
/-- `1018h:01` (R402). -/
abbrev K.VENDOR_ID : Nat := 0x101801
/-- `1018h:02` (R402). -/
abbrev K.PRODUCT_CODE : Nat := 0x101802
/-- `1018h:03` (R402). -/
abbrev K.REVISION_NUMBER : Nat := 0x101803
/-- `1018h:04` (R402). -/
abbrev K.SERIAL_NUMBER : Nat := 0x101804
/-- `1029h:01` (R402). -/
abbrev K.ERROR_BEHAVIOUR : Nat := 0x102901
/-- `1200h:01–02`, entry `i` from 0 (R402). -/
abbrev K.SDO_SERVER_COB_ID (i : Nat) : Nat := 0x120001 + i
/-- `1400h:01` of unit `u` (R402). -/
abbrev K.RPDO_COB_ID (u : Nat) : Nat := 0x140001 + 0x100 * u
/-- `1400h:02` of unit `u` (R402). -/
abbrev K.RPDO_TRANS_TYPE (u : Nat) : Nat := 0x140002 + 0x100 * u
/-- `1600h:00` of unit `u` (R402). -/
abbrev K.RPDO_MAP_COUNT (u : Nat) : Nat := 0x160000 + 0x100 * u
/-- `1600h:01–08` of unit `u`, entry `i` from 0 (R402). -/
abbrev K.RPDO_MAPPING (u i : Nat) : Nat := 0x160001 + 0x100 * u + i
/-- `1800h:01` of unit `u` (R402). -/
abbrev K.TPDO_COB_ID (u : Nat) : Nat := 0x180001 + 0x100 * u
/-- `1800h:02` of unit `u` (R402). -/
abbrev K.TPDO_TRANS_TYPE (u : Nat) : Nat := 0x180002 + 0x100 * u
/-- `1800h:03` of unit `u` (R402). -/
abbrev K.TPDO_INHIBIT (u : Nat) : Nat := 0x180003 + 0x100 * u
/-- `1800h:05` of unit `u` (R402). -/
abbrev K.TPDO_EVENT_TIMER (u : Nat) : Nat := 0x180005 + 0x100 * u
/-- `1A00h:00` of unit `u` (R402). -/
abbrev K.TPDO_MAP_COUNT (u : Nat) : Nat := 0x1A0000 + 0x100 * u
/-- `1A00h:01–08` of unit `u`, entry `i` from 0 (R402). -/
abbrev K.TPDO_MAPPING (u i : Nat) : Nat := 0x1A0001 + 0x100 * u + i
/-- `2000h:00` (R403). -/
abbrev K.ORDERING_CODE : Nat := 0x200000
/-- `2001h:00` (R403). -/
abbrev K.UNIQUE_ID : Nat := 0x200100
/-- `2080h:00` (R403). -/
abbrev K.OP_RECORD : Nat := 0x208000
/-- `2081h:01–05`, entry `i` from 0 (R403). -/
abbrev K.OP_LAST (i : Nat) : Nat := 0x208101 + i
/-- `2082h:00` (R403). -/
abbrev K.OP_QUERY_OSN : Nat := 0x208200
/-- `2083h:00` (R403). -/
abbrev K.OP_QUERY_RESULT : Nat := 0x208300
/-- `2084h:01–06`, entry `i` from 0 (R403). -/
abbrev K.OP_IN_USE (i : Nat) : Nat := 0x208401 + i
/-- `2085h:00` (R403). -/
abbrev K.OP_OVERLOAD_COUNT : Nat := 0x208500
/-- `2086h:00` (R403). -/
abbrev K.OSN_NEXT : Nat := 0x208600
/-- `2100h:00` (R50). -/
abbrev K.TICK_RATE : Nat := 0x210000
/-- `2101h:00` (R50). -/
abbrev K.PERF_PROFILE : Nat := 0x210100
/-- `2102h:00` (R50). -/
abbrev K.TICK_COUNT : Nat := 0x210200
/-- `2103h:01` (R50). -/
abbrev K.PROFILE_SCHED : Nat := 0x210301
/-- `2103h:02` (R50). -/
abbrev K.PROFILE_AT_TICK : Nat := 0x210302
/-- `2104h:00` (R50). -/
abbrev K.ENG_BUDGET : Nat := 0x210400
/-- `2105h:00` (R50). -/
abbrev K.PROFILE_STATUS : Nat := 0x210500
/-- `2106h:01` (R50). -/
abbrev K.OBS_DECIMATE : Nat := 0x210601
/-- `2106h:02` (R50). -/
abbrev K.MITTEN_ALLOW : Nat := 0x210602
/-- `2106h:03` (R50). -/
abbrev K.SHED_POLICY_SET : Nat := 0x210603
/-- `2106h:04` (R50). -/
abbrev K.WM_SAMPLED : Nat := 0x210604
/-- `2107h:00` (R50). -/
abbrev K.PROFILE_BLOCKER : Nat := 0x210700
/-- `2108h:00` (R50). -/
abbrev K.SYNC_MODE : Nat := 0x210800
/-- `2109h:00` (R50). -/
abbrev K.SYNC_STATUS : Nat := 0x210900
/-- `210Ah:00` (R50). -/
abbrev K.SYNC_LOST_COUNT : Nat := 0x210A00
/-- `210Bh:00` (R50). -/
abbrev K.TICKOUT_EN : Nat := 0x210B00
/-- `2110h:00` (R50). -/
abbrev K.XO_SOURCE : Nat := 0x211000
/-- `2111h:00` (R50). -/
abbrev K.LF_SOURCE : Nat := 0x211100
/-- `2112h:00` (R50). -/
abbrev K.CLOCK_STATUS : Nat := 0x211200
/-- `2113h:00` (R50). -/
abbrev K.LF_CAL_ERROR : Nat := 0x211300
/-- `2114h:00` (R50). -/
abbrev K.CLOCK_FAULT_COUNT : Nat := 0x211400
/-- `2118h:01–03`, entry `i` from 0 (R50). -/
abbrev K.SS_DEPTH (i : Nat) : Nat := 0x211801 + i
/-- `2119h:01–03`, entry `i` from 0 (R50). -/
abbrev K.SS_SHAPE (i : Nat) : Nat := 0x211901 + i
/-- `211Ah:01–03`, entry `i` from 0 (R50). -/
abbrev K.SS_RATE (i : Nat) : Nat := 0x211A01 + i
/-- `21C0h:00` (R450). -/
abbrev K.POWER_STATE : Nat := 0x21C000
/-- `21C1h:00` (R450). -/
abbrev K.ECONOMY_EN : Nat := 0x21C100
/-- `21C2h:00` (R450). -/
abbrev K.ECONOMY_TICK_LOW : Nat := 0x21C200
/-- `21C3h:00` (R450). -/
abbrev K.ECONOMY_STATUS : Nat := 0x21C300
/-- `21C4h:00` (R450). -/
abbrev K.DOME_CMD : Nat := 0x21C400
/-- `21C5h:00` (R450). -/
abbrev K.DOME_WAKE_PWRUP : Nat := 0x21C500
/-- `21C6h:00` (R450). -/
abbrev K.KEEP_DOME_EN : Nat := 0x21C600
/-- `21C7h:00` (R450). -/
abbrev K.KEEP_DOME_TIME : Nat := 0x21C700
/-- `21C8h:00` (R450). -/
abbrev K.WAKE_CAUSE : Nat := 0x21C800
/-- `21C9h:00` (R450). -/
abbrev K.DOME_DELTA_USED : Nat := 0x21C900
/-- `21D0h:00` (R450). -/
abbrev K.SOFT_RESET : Nat := 0x21D000
/-- `21D1h:00` (R450). -/
abbrev K.RESET_KIND : Nat := 0x21D100
/-- `21D2h:00` (R450). -/
abbrev K.RESET_INFO : Nat := 0x21D200
/-- `2201h:01–08`, entry `i` from 0 (R51). -/
abbrev K.VSENSE_DIV (i : Nat) : Nat := 0x220101 + i
/-- `2202h:01–08`, entry `i` from 0 (R51). -/
abbrev K.VREM (i : Nat) : Nat := 0x220201 + i
/-- `2203h:01–08`, entry `i` from 0 (R51). -/
abbrev K.VLOC (i : Nat) : Nat := 0x220301 + i
/-- `2204h:01–08`, entry `i` from 0 (R51). -/
abbrev K.SENSE_SLOTS (i : Nat) : Nat := 0x220401 + i
/-- `2205h:01–08`, entry `i` from 0 (R51). -/
abbrev K.DITHER_EN (i : Nat) : Nat := 0x220501 + i
/-- `2206h:01–08`, entry `i` from 0 (R51). -/
abbrev K.DITHER_MISS (i : Nat) : Nat := 0x220601 + i
/-- `2207h:01–08`, entry `i` from 0 (R51). -/
abbrev K.VADC_OFFSET_TRIM (i : Nat) : Nat := 0x220701 + i
/-- `2208h:00` (R51). -/
abbrev K.VIN_VALUE : Nat := 0x220800
/-- `2209h:01–1F`, entry `i` from 0 (R51). -/
abbrev K.HK_RAW (i : Nat) : Nat := 0x220901 + i
/-- `220Ah:00` (R51). -/
abbrev K.HK_SCAN_MASK : Nat := 0x220A00
/-- `220Bh:01–02`, entry `i` from 0 (R51). -/
abbrev K.DIE_TEMP (i : Nat) : Nat := 0x220B01 + i
/-- `2210h:01–08`, entry `i` from 0 (R51). -/
abbrev K.TELEM_TAU (i : Nat) : Nat := 0x221001 + i
/-- `2211h:01–08`, entry `i` from 0 (R51). -/
abbrev K.READ_VOUT (i : Nat) : Nat := 0x221101 + i
/-- `2212h:01–08`, entry `i` from 0 (R51). -/
abbrev K.READ_IOUT (i : Nat) : Nat := 0x221201 + i
/-- `2213h:01–08`, entry `i` from 0 (R51). -/
abbrev K.READ_IOUT_PEAK (i : Nat) : Nat := 0x221301 + i
/-- `2214h:00` (R51). -/
abbrev K.TELEM_SNAPSHOT : Nat := 0x221400
/-- `2220h:00` (R51). -/
abbrev K.CAP_MODE : Nat := 0x222000
/-- `2221h:00` (R51). -/
abbrev K.CAP_DIV : Nat := 0x222100
/-- `2222h:00` (R51). -/
abbrev K.CAP_LEN : Nat := 0x222200
/-- `2223h:00` (R51). -/
abbrev K.CAP_PRE : Nat := 0x222300
/-- `2224h:01–08`, entry `i` from 0 (R51). -/
abbrev K.CAP_SRC (i : Nat) : Nat := 0x222401 + i
/-- `2225h:00` (R51). -/
abbrev K.CAP_TRIG_SRC : Nat := 0x222500
/-- `2226h:00` (R51). -/
abbrev K.CAP_TRIG_LEVEL : Nat := 0x222600
/-- `2227h:00` (R51). -/
abbrev K.CAP_TRIG_EDGE : Nat := 0x222700
/-- `2228h:00` (R51). -/
abbrev K.CAP_CTRL : Nat := 0x222800
/-- `2229h:00` (R51). -/
abbrev K.CAP_STATE : Nat := 0x222900
/-- `222Ah:00` (R51). -/
abbrev K.CAP_INFO : Nat := 0x222A00
/-- `222Bh:00` (R51). -/
abbrev K.CAP_DATA : Nat := 0x222B00
/-- `2300h:01–20`, entry `i` from 0 (R88). -/
abbrev K.PHASE_RAIL (i : Nat) : Nat := 0x230001 + i
/-- `2301h:01–20`, entry `i` from 0 (R88). -/
abbrev K.IMON_GAIN (i : Nat) : Nat := 0x230101 + i
/-- `2302h:01–20`, entry `i` from 0 (R88). -/
abbrev K.IPK_LIMIT (i : Nat) : Nat := 0x230201 + i
/-- `2303h:01–20`, entry `i` from 0 (R88). -/
abbrev K.LEB_NS (i : Nat) : Nat := 0x230301 + i
/-- `2304h:01–20`, entry `i` from 0 (R88). -/
abbrev K.TON_MIN (i : Nat) : Nat := 0x230401 + i
/-- `2305h:01–20`, entry `i` from 0 (R88). -/
abbrev K.TON_MAX (i : Nat) : Nat := 0x230501 + i
/-- `2306h:01–20`, entry `i` from 0 (R88). -/
abbrev K.TOFF_MIN (i : Nat) : Nat := 0x230601 + i
/-- `2307h:01–20`, entry `i` from 0 (R88). -/
abbrev K.ZC_OFFSET (i : Nat) : Nat := 0x230701 + i
/-- `2308h:01–20`, entry `i` from 0 (R88). -/
abbrev K.ISAMPLE_MODE (i : Nat) : Nat := 0x230801 + i
/-- `2309h:01–20`, entry `i` from 0 (R88). -/
abbrev K.ISAMPLE_DELAY (i : Nat) : Nat := 0x230901 + i
/-- `230Ah:01–20`, entry `i` from 0 (R88). -/
abbrev K.EDGE_RATE (i : Nat) : Nat := 0x230A01 + i
/-- `230Bh:01–20`, entry `i` from 0 (R88). -/
abbrev K.PHASE_CMD (i : Nat) : Nat := 0x230B01 + i
/-- `230Ch:01–20`, entry `i` from 0 (R88). -/
abbrev K.PULSE_TON (i : Nat) : Nat := 0x230C01 + i
/-- `230Dh:01–20`, entry `i` from 0 (R88). -/
abbrev K.PULSE_RESULT (i : Nat) : Nat := 0x230D01 + i
/-- `2310h:01–20`, entry `i` from 0 (R88). -/
abbrev K.IPK_REF (i : Nat) : Nat := 0x231001 + i
/-- `2311h:01–20`, entry `i` from 0 (R88). -/
abbrev K.SLOPE_CODE (i : Nat) : Nat := 0x231101 + i
/-- `2312h:01–20`, entry `i` from 0 (R88). -/
abbrev K.ISENSE (i : Nat) : Nat := 0x231201 + i
/-- `2313h:01–20`, entry `i` from 0 (R88). -/
abbrev K.ISENSE_PLACED (i : Nat) : Nat := 0x231301 + i
/-- `2314h:01–20`, entry `i` from 0 (R88). -/
abbrev K.TON_LAST (i : Nat) : Nat := 0x231401 + i
/-- `2315h:01–20`, entry `i` from 0 (R88). -/
abbrev K.PHASE_STATUS (i : Nat) : Nat := 0x231501 + i
/-- `2316h:01–20`, entry `i` from 0 (R88). -/
abbrev K.RAMP_W (i : Nat) : Nat := 0x231601 + i
/-- `2317h:01–20`, entry `i` from 0 (R88). -/
abbrev K.IMON_OFFSET_MEAS (i : Nat) : Nat := 0x231701 + i
/-- `2318h:01–20`, entry `i` from 0 (R88). -/
abbrev K.TONMAX_COUNT (i : Nat) : Nat := 0x231801 + i
/-- `2319h:01–20`, entry `i` from 0 (R88). -/
abbrev K.ISAMPLE_LATE_COUNT (i : Nat) : Nat := 0x231901 + i
/-- `231Ah:01–20`, entry `i` from 0 (R88). -/
abbrev K.DEFER_COUNT (i : Nat) : Nat := 0x231A01 + i
/-- `23C0h:01–08`, entry `i` from 0 (R89). -/
abbrev K.RAIL_FSW (i : Nat) : Nat := 0x23C001 + i
/-- `23C1h:01–08`, entry `i` from 0 (R89). -/
abbrev K.ROTATE_EN (i : Nat) : Nat := 0x23C101 + i
/-- `23C2h:01–08`, entry `i` from 0 (R89). -/
abbrev K.ADD_RAMP (i : Nat) : Nat := 0x23C201 + i
/-- `23C3h:01–08`, entry `i` from 0 (R89). -/
abbrev K.SHED_RAMP (i : Nat) : Nat := 0x23C301 + i
/-- `23C4h:01–08`, entry `i` from 0 (R89). -/
abbrev K.MITTEN_IPK_MIN (i : Nat) : Nat := 0x23C401 + i
/-- `23C5h:01–08`, entry `i` from 0 (R89). -/
abbrev K.RAIL_PERIOD (i : Nat) : Nat := 0x23C501 + i
/-- `23C6h:01–08`, entry `i` from 0 (R89). -/
abbrev K.ACTIVE_MASK (i : Nat) : Nat := 0x23C601 + i
/-- `23C7h:01–08`, entry `i` from 0 (R89). -/
abbrev K.ROT_INDEX (i : Nat) : Nat := 0x23C701 + i
/-- `23C8h:01–08`, entry `i` from 0 (R89). -/
abbrev K.MOD_STATE (i : Nat) : Nat := 0x23C801 + i
/-- `23E0h:01–08`, entry `i` from 0 (R90). -/
abbrev K.SG_STATE (i : Nat) : Nat := 0x23E001 + i
/-- `23E1h:01–08`, entry `i` from 0 (R90). -/
abbrev K.SG_TEMP (i : Nat) : Nat := 0x23E101 + i
/-- `23E2h:01–08`, entry `i` from 0 (R90). -/
abbrev K.SG_TEMP_GAIN (i : Nat) : Nat := 0x23E201 + i
/-- `23E3h:01–08`, entry `i` from 0 (R90). -/
abbrev K.SG_TEMP_V0 (i : Nat) : Nat := 0x23E301 + i
/-- `2400h:01–10`, entry `i` from 0 (R132). -/
abbrev K.ENG_PROG_SEL (i : Nat) : Nat := 0x240001 + i
/-- `2401h:01–10`, entry `i` from 0 (R132). -/
abbrev K.ENG_STATE (i : Nat) : Nat := 0x240101 + i
/-- `2402h:01–10`, entry `i` from 0 (R132). -/
abbrev K.ENG_STATUS (i : Nat) : Nat := 0x240201 + i
/-- `2403h:01–10`, entry `i` from 0 (R132). -/
abbrev K.ENG_WCET (i : Nat) : Nat := 0x240301 + i
/-- `2404h:01–10`, entry `i` from 0 (R132). -/
abbrev K.ENG_CYCLES_LAST (i : Nat) : Nat := 0x240401 + i
/-- `2405h:01–10`, entry `i` from 0 (R132). -/
abbrev K.ENG_CYCLES_MAX (i : Nat) : Nat := 0x240501 + i
/-- `2406h:01–10`, entry `i` from 0 (R132). -/
abbrev K.OVERRUN_COUNT (i : Nat) : Nat := 0x240601 + i
/-- `2407h:01–10`, entry `i` from 0 (R132). -/
abbrev K.OVERRUN_LIMIT (i : Nat) : Nat := 0x240701 + i
/-- `2408h:01–10`, entry `i` from 0 (R132). -/
abbrev K.OVERRUN_CONSEC (i : Nat) : Nat := 0x240801 + i
/-- `2409h:01–10`, entry `i` from 0 (R132). -/
abbrev K.ENG_RAIL_MASK (i : Nat) : Nat := 0x240901 + i
/-- `240Ah:01–10`, entry `i` from 0 (R132). -/
abbrev K.BANK_ACTIVE (i : Nat) : Nat := 0x240A01 + i
/-- `240Bh:01–10`, entry `i` from 0 (R132). -/
abbrev K.BANK_SWAP_REQ (i : Nat) : Nat := 0x240B01 + i
/-- `240Ch:01–10`, entry `i` from 0 (R132). -/
abbrev K.BANK_COPY (i : Nat) : Nat := 0x240C01 + i
/-- `240Dh:01–10`, entry `i` from 0 (R132). -/
abbrev K.BANK_TAG_A (i : Nat) : Nat := 0x240D01 + i
/-- `240Eh:01–10`, entry `i` from 0 (R132). -/
abbrev K.BANK_TAG_B (i : Nat) : Nat := 0x240E01 + i
/-- `240Fh:01–10`, entry `i` from 0 (R132). -/
abbrev K.BANK_SWAP_COUNT (i : Nat) : Nat := 0x240F01 + i
/-- `2410h:01–10`, entry `i` from 0 (R132). -/
abbrev K.PROG_SHADOW_SEL (i : Nat) : Nat := 0x241001 + i
/-- `2411h:01–10`, entry `i` from 0 (R132). -/
abbrev K.PROG_SHADOW_STATE (i : Nat) : Nat := 0x241101 + i
/-- `2412h:01–10`, entry `i` from 0 (R132). -/
abbrev K.PROG_CHECK_RESULT (i : Nat) : Nat := 0x241201 + i
/-- `2413h:01–10`, entry `i` from 0 (R132). -/
abbrev K.PROG_SWAP_REQ (i : Nat) : Nat := 0x241301 + i
/-- `2414h:01–10`, entry `i` from 0 (R132). -/
abbrev K.SHADOW_WCET (i : Nat) : Nat := 0x241401 + i
/-- `2415h:01–10`, entry `i` from 0 (R132). -/
abbrev K.CHECK_BYPASS (i : Nat) : Nat := 0x241501 + i
/-- `2416h:01–10`, entry `i` from 0 (R132). -/
abbrev K.ENG_ECC_COUNT (i : Nat) : Nat := 0x241601 + i
/-- `2417h:01–10`, entry `i` from 0 (R132). -/
abbrev K.ENG_PROG_ACTIVE (i : Nat) : Nat := 0x241701 + i
/-- `2440h:01–08`, entry `i` from 0 (R133). -/
abbrev K.RAIL_ENGINE (i : Nat) : Nat := 0x244001 + i
/-- `2441h:01–06`, entry `i` from 0 (R133). -/
abbrev K.AUX_ENGINE (i : Nat) : Nat := 0x244101 + i
/-- `2442h:00` (R133). -/
abbrev K.SHED_ENGINE : Nat := 0x244200
/-- `2443h:00` (R133). -/
abbrev K.PLAUS_ENGINE : Nat := 0x244300
/-- `2444h:00` (R133). -/
abbrev K.LIBRARY_INDEX : Nat := 0x244400
/-- `2445h:00` (R133). -/
abbrev K.ENG_OVERRUN_MASK : Nat := 0x244500
/-- `2446h:00` (R133). -/
abbrev K.LIB_STORE : Nat := 0x244600
/-- `2500h:00` of unit `u` (R167). -/
abbrev K.LOOP_MODE (u : Nat) : Nat := 0x250000 + 0x2000 * u
/-- `2501h:00` of unit `u` (R167). -/
abbrev K.LOOP_STATUS (u : Nat) : Nat := 0x250100 + 0x2000 * u
/-- `2502h:00` of unit `u` (R167). -/
abbrev K.MANUAL_IREF (u : Nat) : Nat := 0x250200 + 0x2000 * u
/-- `2503h:01` of unit `u` (R167). -/
abbrev K.IC_TOTAL (u : Nat) : Nat := 0x250301 + 0x2000 * u
/-- `2503h:02` of unit `u` (R167). -/
abbrev K.IC_INTEGRATOR (u : Nat) : Nat := 0x250302 + 0x2000 * u
/-- `2503h:03` of unit `u` (R167). -/
abbrev K.IC_FEEDFWD (u : Nat) : Nat := 0x250303 + 0x2000 * u
/-- `2504h:00` of unit `u` (R167). -/
abbrev K.LOADLINE (u : Nat) : Nat := 0x250400 + 0x2000 * u
/-- `2505h:00` of unit `u` (R167). -/
abbrev K.SS_SLEW (u : Nat) : Nat := 0x250500 + 0x2000 * u
/-- `2506h:00` of unit `u` (R167). -/
abbrev K.I_NEG_MAX (u : Nat) : Nat := 0x250600 + 0x2000 * u
/-- `2507h:01` of unit `u` (R167). -/
abbrev K.INTENT_STEP_TICKS (u : Nat) : Nat := 0x250701 + 0x2000 * u
/-- `2507h:02` of unit `u` (R167). -/
abbrev K.INTENT_SLOPE_TICKS (u : Nat) : Nat := 0x250702 + 0x2000 * u
/-- `2508h:01–20` of unit `u`, entry `i` from 0 (R167). -/
abbrev K.ADD_AT (u i : Nat) : Nat := 0x250801 + 0x2000 * u + i
/-- `2509h:01–20` of unit `u`, entry `i` from 0 (R167). -/
abbrev K.SHED_AT (u i : Nat) : Nat := 0x250901 + 0x2000 * u + i
/-- `250Ah:01–20` of unit `u`, entry `i` from 0 (R167). -/
abbrev K.ILIM_AT (u i : Nat) : Nat := 0x250A01 + 0x2000 * u + i
/-- `250Bh:01–20` of unit `u`, entry `i` from 0 (R167). -/
abbrev K.BAL_WEIGHT (u i : Nat) : Nat := 0x250B01 + 0x2000 * u + i
/-- `250Ch:01` of unit `u` (R167). -/
abbrev K.MITTEN_ENTER (u : Nat) : Nat := 0x250C01 + 0x2000 * u
/-- `250Ch:02` of unit `u` (R167). -/
abbrev K.MITTEN_EXIT (u : Nat) : Nat := 0x250C02 + 0x2000 * u
/-- `250Ch:03` of unit `u` (R167). -/
abbrev K.MITTEN_DWELL (u : Nat) : Nat := 0x250C03 + 0x2000 * u
/-- `250Ch:04` of unit `u` (R167). -/
abbrev K.SHED_ORDER (u : Nat) : Nat := 0x250C04 + 0x2000 * u
/-- `250Dh:00` of unit `u` (R167). -/
abbrev K.POLICY_HOLD (u : Nat) : Nat := 0x250D00 + 0x2000 * u
/-- `250Eh:01` of unit `u` (R167). -/
abbrev K.ACTIVE_COUNT (u : Nat) : Nat := 0x250E01 + 0x2000 * u
/-- `250Eh:02` of unit `u` (R167). -/
abbrev K.AVAIL_COUNT (u : Nat) : Nat := 0x250E02 + 0x2000 * u
/-- `250Eh:03` of unit `u` (R167). -/
abbrev K.CAPACITY (u : Nat) : Nat := 0x250E03 + 0x2000 * u
/-- `250Eh:04` of unit `u` (R167). -/
abbrev K.POLICY_PENDING (u : Nat) : Nat := 0x250E04 + 0x2000 * u
/-- `2510h:01` of unit `u` (R191). -/
abbrev K.VOUT_COMMAND (u : Nat) : Nat := 0x251001 + 0x2000 * u
/-- `2510h:02` of unit `u` (R191). -/
abbrev K.VOUT_TARGET (u : Nat) : Nat := 0x251002 + 0x2000 * u
/-- `2510h:03` of unit `u` (R191). -/
abbrev K.VOUT_BOOT (u : Nat) : Nat := 0x251003 + 0x2000 * u
/-- `2510h:04` of unit `u` (R191). -/
abbrev K.VOUT_MARGIN_HIGH (u : Nat) : Nat := 0x251004 + 0x2000 * u
/-- `2510h:05` of unit `u` (R191). -/
abbrev K.VOUT_MARGIN_LOW (u : Nat) : Nat := 0x251005 + 0x2000 * u
/-- `2510h:06` of unit `u` (R191). -/
abbrev K.VOUT_MAX (u : Nat) : Nat := 0x251006 + 0x2000 * u
/-- `2510h:07` of unit `u` (R191). -/
abbrev K.VOUT_MIN (u : Nat) : Nat := 0x251007 + 0x2000 * u
/-- `2511h:01` of unit `u` (R191). -/
abbrev K.VOUT_TRANSITION_RATE (u : Nat) : Nat := 0x251101 + 0x2000 * u
/-- `2511h:02` of unit `u` (R191). -/
abbrev K.AVS_RATE_RISE (u : Nat) : Nat := 0x251102 + 0x2000 * u
/-- `2511h:03` of unit `u` (R191). -/
abbrev K.AVS_RATE_FALL (u : Nat) : Nat := 0x251103 + 0x2000 * u
/-- `2511h:04` of unit `u` (R191). -/
abbrev K.SEQ_SLEW (u : Nat) : Nat := 0x251104 + 0x2000 * u
/-- `2512h:00` of unit `u` (R191). -/
abbrev K.VOUT_OWNER (u : Nat) : Nat := 0x251200 + 0x2000 * u
/-- `2513h:00` of unit `u` (R191). -/
abbrev K.MARGIN_STATE (u : Nat) : Nat := 0x251300 + 0x2000 * u
/-- `2514h:00` of unit `u` (R191). -/
abbrev K.VOUT_STATUS (u : Nat) : Nat := 0x251400 + 0x2000 * u
/-- `2515h:01` of unit `u` (R191). -/
abbrev K.RDY_MODE (u : Nat) : Nat := 0x251501 + 0x2000 * u
/-- `2515h:02` of unit `u` (R191). -/
abbrev K.RDY_MONITOR (u : Nat) : Nat := 0x251502 + 0x2000 * u
/-- `2515h:03` of unit `u` (R191). -/
abbrev K.RDY_DELAY (u : Nat) : Nat := 0x251503 + 0x2000 * u
/-- `2515h:04` of unit `u` (R191). -/
abbrev K.RDY_GLOVE (u : Nat) : Nat := 0x251504 + 0x2000 * u
/-- `2516h:00` of unit `u` (R191). -/
abbrev K.VOUT_REFUSE_COUNT (u : Nat) : Nat := 0x251600 + 0x2000 * u
/-- `2600h:00` (R192). -/
abbrev K.AVS_EN : Nat := 0x260000
/-- `2601h:01–08`, entry `i` from 0 (R192). -/
abbrev K.AVS_SELECT (i : Nat) : Nat := 0x260101 + i
/-- `2602h:00` (R192). -/
abbrev K.AVS_FRAME_COUNT : Nat := 0x260200
/-- `2603h:00` (R192). -/
abbrev K.AVS_CRC_ERR_COUNT : Nat := 0x260300
/-- `2610h:00` (R192). -/
abbrev K.LIL_EN : Nat := 0x261000
/-- `2611h:00` (R192). -/
abbrev K.LIL_STATE : Nat := 0x261100
/-- `2612h:00` (R192). -/
abbrev K.LIL_RAIL_EN : Nat := 0x261200
/-- `2613h:01–08`, entry `i` from 0 (R192). -/
abbrev K.INTENT_WINDOW (i : Nat) : Nat := 0x261301 + i
/-- `2614h:01–08`, entry `i` from 0 (R192). -/
abbrev K.INTENT_DISTRUST (i : Nat) : Nat := 0x261401 + i
/-- `2615h:01–08`, entry `i` from 0 (R192). -/
abbrev K.INTENT_STATE (i : Nat) : Nat := 0x261501 + i
/-- `2616h:01–08`, entry `i` from 0 (R192). -/
abbrev K.INTENT_RESUME (i : Nat) : Nat := 0x261601 + i
/-- `2617h:01–08`, entry `i` from 0 (R192). -/
abbrev K.INTENT_PENDING (i : Nat) : Nat := 0x261701 + i
/-- `2618h:01–08`, entry `i` from 0 (R192). -/
abbrev K.INTENT_MATCH_COUNT (i : Nat) : Nat := 0x261801 + i
/-- `2619h:01–08`, entry `i` from 0 (R192). -/
abbrev K.INTENT_RETRACT_COUNT (i : Nat) : Nat := 0x261901 + i
/-- `261Ah:01–08`, entry `i` from 0 (R192). -/
abbrev K.INTENT_DROP_COUNT (i : Nat) : Nat := 0x261A01 + i
/-- `261Bh:01–08`, entry `i` from 0 (R192). -/
abbrev K.INTENT_CANCEL_COUNT (i : Nat) : Nat := 0x261B01 + i
/-- `261Ch:01–03`, entry `i` from 0 (R192). -/
abbrev K.LIL_ERR_COUNT (i : Nat) : Nat := 0x261C01 + i
/-- `2620h:00` (R192). -/
abbrev K.THROTTLE_MASK : Nat := 0x262000
/-- `2621h:00` (R192). -/
abbrev K.THROTTLE_GRACE : Nat := 0x262100
/-- `2622h:00` (R192). -/
abbrev K.THROTTLE_HOLD : Nat := 0x262200
/-- `2623h:00` (R192). -/
abbrev K.THROTTLE_FORCE : Nat := 0x262300
/-- `2624h:00` (R192). -/
abbrev K.THROTTLE_STATUS : Nat := 0x262400
/-- `2628h:00` (R192). -/
abbrev K.PFW_VIN_TH : Nat := 0x262800
/-- `2629h:00` (R192). -/
abbrev K.PFW_HYST : Nat := 0x262900
/-- `262Ah:00` (R192). -/
abbrev K.PFW_RELEASE : Nat := 0x262A00
/-- `262Bh:00` (R192). -/
abbrev K.PFW_FORCE : Nat := 0x262B00
/-- `262Ch:00` (R192). -/
abbrev K.PFW_STATUS : Nat := 0x262C00
/-- `2700h:01–20`, entry `i` from 0 (R231). -/
abbrev K.PHASE_SVC_STATE (i : Nat) : Nat := 0x270001 + i
/-- `2701h:01–20`, entry `i` from 0 (R231). -/
abbrev K.PHASE_SVC_CMD (i : Nat) : Nat := 0x270101 + i
/-- `2702h:01–20`, entry `i` from 0 (R231). -/
abbrev K.PHASE_CLASS (i : Nat) : Nat := 0x270201 + i
/-- `2703h:01–20`, entry `i` from 0 (R231). -/
abbrev K.PHASE_DERATE (i : Nat) : Nat := 0x270301 + i
/-- `2704h:01–20`, entry `i` from 0 (R231). -/
abbrev K.I_VALLEY (i : Nat) : Nat := 0x270401 + i
/-- `2705h:01–20`, entry `i` from 0 (R231). -/
abbrev K.RESIDUAL (i : Nat) : Nat := 0x270501 + i
/-- `2706h:01–20`, entry `i` from 0 (R231). -/
abbrev K.L_EST (i : Nat) : Nat := 0x270601 + i
/-- `2707h:01–20`, entry `i` from 0 (R231). -/
abbrev K.R_EST (i : Nat) : Nat := 0x270701 + i
/-- `2708h:01–20`, entry `i` from 0 (R231). -/
abbrev K.L_QUAL (i : Nat) : Nat := 0x270801 + i
/-- `2709h:01–20`, entry `i` from 0 (R231). -/
abbrev K.QUAL_RESULT (i : Nat) : Nat := 0x270901 + i
/-- `270Ah:01–20`, entry `i` from 0 (R231). -/
abbrev K.PHASE_WEAR (i : Nat) : Nat := 0x270A01 + i
/-- `270Bh:01–20`, entry `i` from 0 (R231). -/
abbrev K.SUBST_COUNT (i : Nat) : Nat := 0x270B01 + i
/-- `270Ch:01–20`, entry `i` from 0 (R231). -/
abbrev K.OPEN_COUNT (i : Nat) : Nat := 0x270C01 + i
/-- `2720h:01–08`, entry `i` from 0 (R232). -/
abbrev K.GROUP_SVC_CMD (i : Nat) : Nat := 0x272001 + i
/-- `2721h:01–08`, entry `i` from 0 (R232). -/
abbrev K.AUTO_ADMIT (i : Nat) : Nat := 0x272101 + i
/-- `2722h:01–08`, entry `i` from 0 (R232). -/
abbrev K.SG_OT_WARN (i : Nat) : Nat := 0x272201 + i
/-- `2723h:01–08`, entry `i` from 0 (R232). -/
abbrev K.SG_OT_FAULT (i : Nat) : Nat := 0x272301 + i
/-- `2724h:01–08`, entry `i` from 0 (R232). -/
abbrev K.TEMP_HIST (i : Nat) : Nat := 0x272401 + i
/-- `2725h:01–08`, entry `i` from 0 (R232). -/
abbrev K.SG_FAULT_COUNT (i : Nat) : Nat := 0x272501 + i
/-- `2740h:01` (R233). -/
abbrev K.RES_ABS : Nat := 0x274001
/-- `2740h:02` (R233). -/
abbrev K.RES_REL : Nat := 0x274002
/-- `2740h:03` (R233). -/
abbrev K.RES_COUNT : Nat := 0x274003
/-- `2740h:04` (R233). -/
abbrev K.RES_GROSS_COUNT : Nat := 0x274004
/-- `2740h:05` (R233). -/
abbrev K.STUCK_TICKS : Nat := 0x274005
/-- `2740h:06` (R233). -/
abbrev K.TONMAX_SENSE_COUNT : Nat := 0x274006
/-- `2740h:07` (R233). -/
abbrev K.OPEN_PERIODS : Nat := 0x274007
/-- `2740h:08` (R233). -/
abbrev K.OPEN_I_TH : Nat := 0x274008
/-- `2741h:01` (R233). -/
abbrev K.SUBST_DERATE : Nat := 0x274101
/-- `2741h:02` (R233). -/
abbrev K.SUBST_RAMP : Nat := 0x274102
/-- `2742h:01` (R233). -/
abbrev K.QUAL_OFFSET_MAX : Nat := 0x274201
/-- `2742h:02` (R233). -/
abbrev K.QUAL_L_TOL : Nat := 0x274202
/-- `2742h:03` (R233). -/
abbrev K.SG_REFAULT_WINDOW : Nat := 0x274203
/-- `2743h:01` (R233). -/
abbrev K.WEAR_L_TOL : Nat := 0x274301
/-- `2743h:02` (R233). -/
abbrev K.WEAR_R_TOL : Nat := 0x274302
/-- `2743h:03` (R233). -/
abbrev K.WEAR_HOT_LIMIT : Nat := 0x274303
/-- `2743h:04` (R233). -/
abbrev K.WEAR_LOG_PERIOD : Nat := 0x274304
/-- `2760h:01–08`, entry `i` from 0 (R234). -/
abbrev K.SENSE_TEST_CURRENT (i : Nat) : Nat := 0x276001 + i
/-- `2761h:01–08`, entry `i` from 0 (R234). -/
abbrev K.SENSE_TEST_PERIOD (i : Nat) : Nat := 0x276101 + i
/-- `2762h:01–08`, entry `i` from 0 (R234). -/
abbrev K.SENSE_TEST_TH (i : Nat) : Nat := 0x276201 + i
/-- `2763h:01–08`, entry `i` from 0 (R234). -/
abbrev K.REMLOC_TOL (i : Nat) : Nat := 0x276301 + i
/-- `2764h:01–08`, entry `i` from 0 (R234). -/
abbrev K.REMLOC_COUNT (i : Nat) : Nat := 0x276401 + i
/-- `2765h:01–08`, entry `i` from 0 (R234). -/
abbrev K.RAIL_RES_TOL (i : Nat) : Nat := 0x276501 + i
/-- `2766h:01–08`, entry `i` from 0 (R234). -/
abbrev K.RAIL_RES_COUNT (i : Nat) : Nat := 0x276601 + i
/-- `2767h:01–08`, entry `i` from 0 (R234). -/
abbrev K.GLOVE_TIME (i : Nat) : Nat := 0x276701 + i
/-- `2768h:01–08`, entry `i` from 0 (R234). -/
abbrev K.GLOVE_RECOVER (i : Nat) : Nat := 0x276801 + i
/-- `2769h:01–08`, entry `i` from 0 (R234). -/
abbrev K.PLAUS_STATUS (i : Nat) : Nat := 0x276901 + i
/-- `276Ah:01–08`, entry `i` from 0 (R234). -/
abbrev K.GLOVE_COUNT (i : Nat) : Nat := 0x276A01 + i
/-- `276Bh:01–08`, entry `i` from 0 (R234). -/
abbrev K.VOUT_OV_FAULT_LIMIT (i : Nat) : Nat := 0x276B01 + i
/-- `276Ch:01–08`, entry `i` from 0 (R234). -/
abbrev K.VOUT_UV_FAULT_LIMIT (i : Nat) : Nat := 0x276C01 + i
/-- `276Dh:01–08`, entry `i` from 0 (R234). -/
abbrev K.OV_COUNT (i : Nat) : Nat := 0x276D01 + i
/-- `276Eh:01–08`, entry `i` from 0 (R234). -/
abbrev K.UV_COUNT (i : Nat) : Nat := 0x276E01 + i
/-- `276Fh:01–08`, entry `i` from 0 (R234). -/
abbrev K.IOUT_OC_FAULT_LIMIT (i : Nat) : Nat := 0x276F01 + i
/-- `2770h:01–08`, entry `i` from 0 (R234). -/
abbrev K.OC_COUNT (i : Nat) : Nat := 0x277001 + i
/-- `2771h:01–08`, entry `i` from 0 (R234). -/
abbrev K.RETRY_COUNT (i : Nat) : Nat := 0x277101 + i
/-- `2772h:01–08`, entry `i` from 0 (R234). -/
abbrev K.RETRY_DELAY (i : Nat) : Nat := 0x277201 + i
/-- `2773h:01–08`, entry `i` from 0 (R234). -/
abbrev K.MIN_PHASES (i : Nat) : Nat := 0x277301 + i
/-- `2774h:01–08`, entry `i` from 0 (R234). -/
abbrev K.FAULT_STATUS (i : Nat) : Nat := 0x277401 + i
/-- `2775h:01–08`, entry `i` from 0 (R234). -/
abbrev K.CLEAR_FAULTS (i : Nat) : Nat := 0x277501 + i
/-- `2780h:01–09` of unit `u`, entry `i` from 0 (R235). -/
abbrev K.FAULT_RESP (u i : Nat) : Nat := 0x278001 + 0x100 * u + i
/-- `2800h:01–06`, entry `i` from 0 (R261). -/
abbrev K.BK_VOUT_COMMAND (i : Nat) : Nat := 0x280001 + i
/-- `2801h:01–06`, entry `i` from 0 (R261). -/
abbrev K.BK_VOUT_BOOT (i : Nat) : Nat := 0x280101 + i
/-- `2802h:01–06`, entry `i` from 0 (R261). -/
abbrev K.BK_VOUT_TARGET (i : Nat) : Nat := 0x280201 + i
/-- `2803h:01–06`, entry `i` from 0 (R261). -/
abbrev K.BK_FSW (i : Nat) : Nat := 0x280301 + i
/-- `2804h:01–06`, entry `i` from 0 (R261). -/
abbrev K.BK_SS_SLEW (i : Nat) : Nat := 0x280401 + i
/-- `2805h:01–06`, entry `i` from 0 (R261). -/
abbrev K.BK_SLEW (i : Nat) : Nat := 0x280501 + i
/-- `2806h:01–06`, entry `i` from 0 (R261). -/
abbrev K.BK_ILIM (i : Nat) : Nat := 0x280601 + i
/-- `2807h:01–06`, entry `i` from 0 (R261). -/
abbrev K.BK_OC_COUNT (i : Nat) : Nat := 0x280701 + i
/-- `2808h:01–06`, entry `i` from 0 (R261). -/
abbrev K.BK_OV_PCT (i : Nat) : Nat := 0x280801 + i
/-- `2809h:01–06`, entry `i` from 0 (R261). -/
abbrev K.BK_UV_PCT (i : Nat) : Nat := 0x280901 + i
/-- `280Ah:01–06`, entry `i` from 0 (R261). -/
abbrev K.BK_PG_PCT (i : Nat) : Nat := 0x280A01 + i
/-- `280Bh:01–06`, entry `i` from 0 (R261). -/
abbrev K.BK_DISCHARGE (i : Nat) : Nat := 0x280B01 + i
/-- `280Ch:01–06`, entry `i` from 0 (R261). -/
abbrev K.BK_RETRY_COUNT (i : Nat) : Nat := 0x280C01 + i
/-- `280Dh:01–06`, entry `i` from 0 (R261). -/
abbrev K.BK_RETRY_DELAY (i : Nat) : Nat := 0x280D01 + i
/-- `280Eh:01–06`, entry `i` from 0 (R261). -/
abbrev K.BK_READ_VOUT (i : Nat) : Nat := 0x280E01 + i
/-- `280Fh:01–06`, entry `i` from 0 (R261). -/
abbrev K.BK_READ_IOUT (i : Nat) : Nat := 0x280F01 + i
/-- `2810h:01–06`, entry `i` from 0 (R261). -/
abbrev K.BK_STATUS (i : Nat) : Nat := 0x281001 + i
/-- `2811h:01–06`, entry `i` from 0 (R261). -/
abbrev K.BK_FAULT_STATUS (i : Nat) : Nat := 0x281101 + i
/-- `2812h:01–06`, entry `i` from 0 (R261). -/
abbrev K.BK_CLEAR_FAULTS (i : Nat) : Nat := 0x281201 + i
/-- `2818h:01–05` of unit `u`, entry `i` from 0 (R261). -/
abbrev K.BK_FAULT_RESP (u i : Nat) : Nat := 0x281801 + 0x100 * u + i
/-- `2840h:01–04`, entry `i` from 0 (R262). -/
abbrev K.LDO_VOUT (i : Nat) : Nat := 0x284001 + i
/-- `2841h:01–04`, entry `i` from 0 (R262). -/
abbrev K.LDO_SS_TIME (i : Nat) : Nat := 0x284101 + i
/-- `2842h:01–04`, entry `i` from 0 (R262). -/
abbrev K.LDO_KEEP (i : Nat) : Nat := 0x284201 + i
/-- `2843h:01–04`, entry `i` from 0 (R262). -/
abbrev K.LDO_DISCHARGE (i : Nat) : Nat := 0x284301 + i
/-- `2844h:01–04`, entry `i` from 0 (R262). -/
abbrev K.LDO_UV_PCT (i : Nat) : Nat := 0x284401 + i
/-- `2845h:01–04`, entry `i` from 0 (R262). -/
abbrev K.LDO_STATUS (i : Nat) : Nat := 0x284501 + i
/-- `2846h:01–04`, entry `i` from 0 (R262). -/
abbrev K.LDO_FAULT_STATUS (i : Nat) : Nat := 0x284601 + i
/-- `2847h:01–04`, entry `i` from 0 (R262). -/
abbrev K.LDO_CLEAR_FAULTS (i : Nat) : Nat := 0x284701 + i
/-- `2848h:01–03` of unit `u`, entry `i` from 0 (R262). -/
abbrev K.LDO_FAULT_RESP (u i : Nat) : Nat := 0x284801 + 0x100 * u + i
/-- `2900h:01–40`, entry `i` from 0 (R263). -/
abbrev K.SEQ_STEP_ACTION (i : Nat) : Nat := 0x290001 + i
/-- `2901h:01–40`, entry `i` from 0 (R263). -/
abbrev K.SEQ_STEP_WAIT (i : Nat) : Nat := 0x290101 + i
/-- `2902h:01–04`, entry `i` from 0 (R263). -/
abbrev K.SEQ_PROG_START (i : Nat) : Nat := 0x290201 + i
/-- `2903h:01–04`, entry `i` from 0 (R263). -/
abbrev K.SEQ_PROG_LEN (i : Nat) : Nat := 0x290301 + i
/-- `2904h:00` (R263). -/
abbrev K.SEQ_CMD : Nat := 0x290400
/-- `2905h:00` (R263). -/
abbrev K.SEQ_STATE : Nat := 0x290500
/-- `2906h:00` (R263). -/
abbrev K.SEQ_AUTO : Nat := 0x290600
/-- `2907h:00` (R263). -/
abbrev K.SEQ_FAULT_GROUPS : Nat := 0x290700
/-- `2908h:00` (R263). -/
abbrev K.SEQ_TIMEOUT_COUNT : Nat := 0x290800
/-- `2910h:01–12`, entry `i` from 0 (R263). -/
abbrev K.UNIT_ON (i : Nat) : Nat := 0x291001 + i
/-- `2911h:01–12`, entry `i` from 0 (R263). -/
abbrev K.UNIT_STATE (i : Nat) : Nat := 0x291101 + i
/-- `2912h:01–12`, entry `i` from 0 (R263). -/
abbrev K.FAULT_GROUP (i : Nat) : Nat := 0x291201 + i
/-- `2913h:01–12`, entry `i` from 0 (R263). -/
abbrev K.OFF_THRESHOLD (i : Nat) : Nat := 0x291301 + i
/-- `2920h:01–10`, entry `i` from 0 (R263). -/
abbrev K.SEQ_OUT_MODE (i : Nat) : Nat := 0x292001 + i
/-- `2921h:01–10`, entry `i` from 0 (R263). -/
abbrev K.SEQ_OUT_STATE (i : Nat) : Nat := 0x292101 + i
/-- `2922h:01–10`, entry `i` from 0 (R263). -/
abbrev K.SEQ_OUT_GROUP (i : Nat) : Nat := 0x292201 + i
/-- `2928h:01–04`, entry `i` from 0 (R263). -/
abbrev K.SQI_FUNC (i : Nat) : Nat := 0x292801 + i
/-- `2929h:01–04`, entry `i` from 0 (R263). -/
abbrev K.SQI_STATE (i : Nat) : Nat := 0x292901 + i
/-- `2A00h:01–18`, entry `i` from 0 (R284). -/
abbrev K.WM_SOURCE (i : Nat) : Nat := 0x2A0001 + i
/-- `2A01h:01–18`, entry `i` from 0 (R284). -/
abbrev K.WM_UV_TH (i : Nat) : Nat := 0x2A0101 + i
/-- `2A02h:01–18`, entry `i` from 0 (R284). -/
abbrev K.WM_OV_TH (i : Nat) : Nat := 0x2A0201 + i
/-- `2A03h:01–18`, entry `i` from 0 (R284). -/
abbrev K.WM_HYST (i : Nat) : Nat := 0x2A0301 + i
/-- `2A04h:01–18`, entry `i` from 0 (R284). -/
abbrev K.WM_CONFIG (i : Nat) : Nat := 0x2A0401 + i
/-- `2A05h:01–18`, entry `i` from 0 (R284). -/
abbrev K.WM_ROUTE (i : Nat) : Nat := 0x2A0501 + i
/-- `2A06h:01–18`, entry `i` from 0 (R284). -/
abbrev K.WM_TRIP_MASK (i : Nat) : Nat := 0x2A0601 + i
/-- `2A07h:01–18`, entry `i` from 0 (R284). -/
abbrev K.WM_ENGINE (i : Nat) : Nat := 0x2A0701 + i
/-- `2A08h:01–18`, entry `i` from 0 (R284). -/
abbrev K.WM_TRACK (i : Nat) : Nat := 0x2A0801 + i
/-- `2A09h:01–18`, entry `i` from 0 (R284). -/
abbrev K.WM_STATUS (i : Nat) : Nat := 0x2A0901 + i
/-- `2A0Ah:01–18`, entry `i` from 0 (R284). -/
abbrev K.WM_APPLIED (i : Nat) : Nat := 0x2A0A01 + i
/-- `2A0Bh:01–18`, entry `i` from 0 (R284). -/
abbrev K.WM_ASSERT_COUNT (i : Nat) : Nat := 0x2A0B01 + i
/-- `2A0Ch:01–18`, entry `i` from 0 (R284). -/
abbrev K.WM_TEST_CMD (i : Nat) : Nat := 0x2A0C01 + i
/-- `2A0Dh:01–18`, entry `i` from 0 (R284). -/
abbrev K.WM_TEST_RESULT (i : Nat) : Nat := 0x2A0D01 + i
/-- `2A20h:00` (R285). -/
abbrev K.WM_SAMPLE_WIN : Nat := 0x2A2000
/-- `2A21h:00` (R285). -/
abbrev K.WM_SYNC_UNDER : Nat := 0x2A2100
/-- `2A22h:00` (R285). -/
abbrev K.WM_SYNC_OVER : Nat := 0x2A2200
/-- `2A40h:01–20`, entry `i` from 0 (R285). -/
abbrev K.PK_TEST_CMD (i : Nat) : Nat := 0x2A4001 + i
/-- `2A41h:01–20`, entry `i` from 0 (R285). -/
abbrev K.PK_TEST_RESULT (i : Nat) : Nat := 0x2A4101 + i
/-- `2B00h:01–10`, entry `i` from 0 (R310). -/
abbrev K.TM_PERIOD (i : Nat) : Nat := 0x2B0001 + i
/-- `2B01h:01–10`, entry `i` from 0 (R310). -/
abbrev K.TM_COMPARE (i : Nat) : Nat := 0x2B0101 + i
/-- `2B02h:01–10`, entry `i` from 0 (R310). -/
abbrev K.TM_CONFIG (i : Nat) : Nat := 0x2B0201 + i
/-- `2B03h:01–10`, entry `i` from 0 (R310). -/
abbrev K.TM_PRESCALE (i : Nat) : Nat := 0x2B0301 + i
/-- `2B04h:01–10`, entry `i` from 0 (R310). -/
abbrev K.TM_ACTION (i : Nat) : Nat := 0x2B0401 + i
/-- `2B05h:01–10`, entry `i` from 0 (R310). -/
abbrev K.TM_LINK (i : Nat) : Nat := 0x2B0501 + i
/-- `2B06h:01–10`, entry `i` from 0 (R310). -/
abbrev K.TM_COUNT (i : Nat) : Nat := 0x2B0601 + i
/-- `2B07h:01–10`, entry `i` from 0 (R310). -/
abbrev K.TM_CAPTURE (i : Nat) : Nat := 0x2B0701 + i
/-- `2B08h:01–10`, entry `i` from 0 (R310). -/
abbrev K.TM_CTRL (i : Nat) : Nat := 0x2B0801 + i
/-- `2B09h:01–10`, entry `i` from 0 (R310). -/
abbrev K.TM_STATUS (i : Nat) : Nat := 0x2B0901 + i
/-- `2B0Ah:01–10`, entry `i` from 0 (R310). -/
abbrev K.TM_EVENT_MASK (i : Nat) : Nat := 0x2B0A01 + i
/-- `2B0Bh:01–10`, entry `i` from 0 (R310). -/
abbrev K.TM_MATCH_COUNT (i : Nat) : Nat := 0x2B0B01 + i
/-- `2B20h:00` (R310). -/
abbrev K.TM_GLOBAL_START : Nat := 0x2B2000
/-- `2B21h:00` (R310). -/
abbrev K.TM_GLOBAL_STOP : Nat := 0x2B2100
/-- `2B22h:00` (R310). -/
abbrev K.TM_GLOBAL_SYNC : Nat := 0x2B2200
/-- `2B23h:00` (R310). -/
abbrev K.TM_GLOBAL_RESULT : Nat := 0x2B2300
/-- `2C00h:01–80`, entry `i` from 0 (R311). -/
abbrev K.EV_ROUTE (i : Nat) : Nat := 0x2C0001 + i
/-- `2C01h:00` (R311). -/
abbrev K.ESN_NEXT : Nat := 0x2C0100
/-- `2C02h:01–04`, entry `i` from 0 (R311). -/
abbrev K.INT_MIN_PRIO (i : Nat) : Nat := 0x2C0201 + i
/-- `2C03h:01–04`, entry `i` from 0 (R311). -/
abbrev K.INT_NEXT (i : Nat) : Nat := 0x2C0301 + i
/-- `2C04h:01–04`, entry `i` from 0 (R311). -/
abbrev K.INT_ACK (i : Nat) : Nat := 0x2C0401 + i
/-- `2C05h:01–04`, entry `i` from 0 (R311). -/
abbrev K.INT_STATUS (i : Nat) : Nat := 0x2C0501 + i
/-- `2C06h:01–04`, entry `i` from 0 (R311). -/
abbrev K.INT_LOST_ESN (i : Nat) : Nat := 0x2C0601 + i
/-- `2C07h:00` (R311). -/
abbrev K.ALERT_MIN_PRIO : Nat := 0x2C0700
/-- `2C08h:00` (R311). -/
abbrev K.EMCY_MIN_PRIO : Nat := 0x2C0800
/-- `2C09h:00` (R311). -/
abbrev K.LOG_MIN_PRIO : Nat := 0x2C0900
/-- `2C0Ah:00` (R311). -/
abbrev K.EV_ENGINE_EN : Nat := 0x2C0A00
/-- `2C0Bh:00` (R311). -/
abbrev K.EVQ_FILL : Nat := 0x2C0B00
/-- `2C0Ch:00` (R311). -/
abbrev K.EV_LOSS_COUNT : Nat := 0x2C0C00
/-- `2C0Dh:00` (R311). -/
abbrev K.EV_TEST : Nat := 0x2C0D00
/-- `2D00h:00` (R333). -/
abbrev K.PP_STATE : Nat := 0x2D0000
/-- `2D01h:00` (R333). -/
abbrev K.VIN_VALID_TH : Nat := 0x2D0100
/-- `2D02h:00` (R333). -/
abbrev K.VIN_VALID_HYST : Nat := 0x2D0200
/-- `2D03h:00` (R333). -/
abbrev K.T_RETURN : Nat := 0x2D0300
/-- `2D04h:00` (R333). -/
abbrev K.VIN_VALID_TIME : Nat := 0x2D0400
/-- `2D05h:00` (R333). -/
abbrev K.VIN_ILIM : Nat := 0x2D0500
/-- `2D06h:00` (R333). -/
abbrev K.SYS_MIN : Nat := 0x2D0600
/-- `2D07h:00` (R333). -/
abbrev K.PP_STATUS : Nat := 0x2D0700
/-- `2D08h:00` (R333). -/
abbrev K.HANDOVER_COUNT : Nat := 0x2D0800
/-- `2D10h:00` (R334). -/
abbrev K.CHG_EN : Nat := 0x2D1000
/-- `2D11h:00` (R334). -/
abbrev K.CHG_CHEM : Nat := 0x2D1100
/-- `2D12h:00` (R334). -/
abbrev K.CHG_VREG : Nat := 0x2D1200
/-- `2D13h:00` (R334). -/
abbrev K.CHG_ICHG : Nat := 0x2D1300
/-- `2D14h:00` (R334). -/
abbrev K.CHG_IPRE : Nat := 0x2D1400
/-- `2D15h:00` (R334). -/
abbrev K.CHG_ITERM : Nat := 0x2D1500
/-- `2D16h:00` (R334). -/
abbrev K.CHG_VPRE : Nat := 0x2D1600
/-- `2D17h:00` (R334). -/
abbrev K.CHG_RECHG_DELTA : Nat := 0x2D1700
/-- `2D18h:00` (R334). -/
abbrev K.CHG_SAFETY_TIME : Nat := 0x2D1800
/-- `2D19h:00` (R334). -/
abbrev K.CHG_PRE_TIME : Nat := 0x2D1900
/-- `2D1Ah:00` (R334). -/
abbrev K.CHG_ICOOL_PCT : Nat := 0x2D1A00
/-- `2D1Bh:00` (R334). -/
abbrev K.CHG_VWARM_DELTA : Nat := 0x2D1B00
/-- `2D1Ch:00` (R334). -/
abbrev K.BAT_CUTOFF : Nat := 0x2D1C00
/-- `2D1Dh:00` (R334). -/
abbrev K.CHG_STATE : Nat := 0x2D1D00
/-- `2D1Eh:00` (R334). -/
abbrev K.CHG_STATUS : Nat := 0x2D1E00
/-- `2D1Fh:00` (R334). -/
abbrev K.CHG_FAULT : Nat := 0x2D1F00
/-- `2D20h:00` (R334). -/
abbrev K.CHG_TIMER : Nat := 0x2D2000
/-- `2D21h:00` (R334). -/
abbrev K.BAT_VOLTAGE : Nat := 0x2D2100
/-- `2D22h:00` (R334). -/
abbrev K.BAT_CURRENT : Nat := 0x2D2200
/-- `2D23h:00` (R334). -/
abbrev K.BAT_REMOVE_COUNT : Nat := 0x2D2300
/-- `2D30h:01–04`, entry `i` from 0 (R335). -/
abbrev K.TS_TH (i : Nat) : Nat := 0x2D3001 + i
/-- `2D31h:00` (R335). -/
abbrev K.TS_HYST : Nat := 0x2D3100
/-- `2D32h:00` (R335). -/
abbrev K.TS_DISCH_HOT : Nat := 0x2D3200
/-- `2D33h:00` (R335). -/
abbrev K.TS_RATIO : Nat := 0x2D3300
/-- `2D34h:00` (R335). -/
abbrev K.TS_ZONE : Nat := 0x2D3400
/-- `2D40h:00` (R335). -/
abbrev K.ACC_MODE : Nat := 0x2D4000
/-- `2D41h:00` (R335). -/
abbrev K.ACC_ILIM : Nat := 0x2D4100
/-- `2D42h:00` (R335). -/
abbrev K.ACC_BAT_MIN : Nat := 0x2D4200
/-- `2D43h:00` (R335). -/
abbrev K.ACC_STATUS : Nat := 0x2D4300
/-- `2D44h:00` (R335). -/
abbrev K.ACC_RESTART : Nat := 0x2D4400
/-- `2D50h:00` (R335). -/
abbrev K.BTN_LONG_TIME : Nat := 0x2D5000
/-- `2D51h:00` (R335). -/
abbrev K.BTN_STATE : Nat := 0x2D5100
/-- `2D52h:00` (R335). -/
abbrev K.SHIP_CMD : Nat := 0x2D5200
/-- `2D53h:00` (R335). -/
abbrev K.SHIP_DELAY : Nat := 0x2D5300
/-- `2D54h:00` (R335). -/
abbrev K.SHIP_STATUS : Nat := 0x2D5400
/-- `2E00h:00` (R368). -/
abbrev K.PMB_ADDR : Nat := 0x2E0000
/-- `2E01h:00` (R368). -/
abbrev K.PMB_CONFIG : Nat := 0x2E0100
/-- `2E02h:00` (R368). -/
abbrev K.PMB_CTRL_SPEED : Nat := 0x2E0200
/-- `2E03h:00` (R368). -/
abbrev K.PMB_PAGE : Nat := 0x2E0300
/-- `2E04h:00` (R368). -/
abbrev K.PMB_WRITE_PROTECT : Nat := 0x2E0400
/-- `2E05h:00` (R368). -/
abbrev K.PMB_COMM_STATUS : Nat := 0x2E0500
/-- `2E06h:01–07`, entry `i` from 0 (R368). -/
abbrev K.PMB_ERR_COUNT (i : Nat) : Nat := 0x2E0601 + i
/-- `2E07h:00` (R368). -/
abbrev K.PMB_RETRY_COUNT : Nat := 0x2E0700
/-- `2E08h:00` (R368). -/
abbrev K.RECOVERY_INTERVAL : Nat := 0x2E0800
/-- `2E09h:00` (R368). -/
abbrev K.PMB_XFER : Nat := 0x2E0900
/-- `2E0Ah:00` (R368). -/
abbrev K.PMB_XFER_RESULT : Nat := 0x2E0A00
/-- `2E0Bh:00` (R368). -/
abbrev K.PMB_STATUS_VIEW : Nat := 0x2E0B00
/-- `2E20h:00` (R369). -/
abbrev K.LB_SPEED : Nat := 0x2E2000
/-- `2E21h:00` (R369). -/
abbrev K.LB_CONFIG : Nat := 0x2E2100
/-- `2E22h:01–20`, entry `i` from 0 (R369). -/
abbrev K.LB_STAGE_ADDR (i : Nat) : Nat := 0x2E2201 + i
/-- `2E23h:00` (R369). -/
abbrev K.LB_STAGE_STATUS_CMD : Nat := 0x2E2300
/-- `2E24h:00` (R369). -/
abbrev K.LB_STAGE_FAULT_MASK : Nat := 0x2E2400
/-- `2E25h:00` (R369). -/
abbrev K.LB_STATUS : Nat := 0x2E2500
/-- `2E26h:01–07`, entry `i` from 0 (R369). -/
abbrev K.LB_ERR_COUNT (i : Nat) : Nat := 0x2E2601 + i
/-- `2E27h:00` (R369). -/
abbrev K.LB_RETRY_COUNT : Nat := 0x2E2700
/-- `2E28h:00` (R369). -/
abbrev K.LB_ALERT_MAX : Nat := 0x2E2800
/-- `2E29h:00` (R369). -/
abbrev K.LB_XFER : Nat := 0x2E2900
/-- `2E2Ah:00` (R369). -/
abbrev K.LB_XFER_RESULT : Nat := 0x2E2A00
/-- `2E2Ch:01–08`, entry `i` from 0 (R369). -/
abbrev K.LB_ALERT_ADDR (i : Nat) : Nat := 0x2E2C01 + i
/-- `2E40h:00` (R368). -/
abbrev K.SVC_EN : Nat := 0x2E4000
/-- `2E41h:00` (R368). -/
abbrev K.SVC_WAKE : Nat := 0x2E4100
/-- `2E42h:00` (R368). -/
abbrev K.SVC_PAGE : Nat := 0x2E4200
/-- `2E43h:01–07`, entry `i` from 0 (R368). -/
abbrev K.SVC_ERR_COUNT (i : Nat) : Nat := 0x2E4301 + i
/-- `2E60h:01–02`, entry `i` from 0 (R370). -/
abbrev K.BULK_WINDOW (i : Nat) : Nat := 0x2E6001 + i
/-- `2E61h:01–02`, entry `i` from 0 (R370). -/
abbrev K.BULK_OBJECT (i : Nat) : Nat := 0x2E6101 + i
/-- `2E62h:01–02`, entry `i` from 0 (R370). -/
abbrev K.BULK_POINTER (i : Nat) : Nat := 0x2E6201 + i
/-- `2E63h:01–02`, entry `i` from 0 (R370). -/
abbrev K.BULK_LOAD (i : Nat) : Nat := 0x2E6301 + i
/-- `2E64h:01–02`, entry `i` from 0 (R370). -/
abbrev K.BULK_LAST_CRC (i : Nat) : Nat := 0x2E6401 + i
/-- `2E65h:01–02`, entry `i` from 0 (R370). -/
abbrev K.BULK_STAGED (i : Nat) : Nat := 0x2E6501 + i
/-- `2F00h:00` (R404). -/
abbrev K.CAN_NODE_ID : Nat := 0x2F0000
/-- `2F01h:00` (R404). -/
abbrev K.NODE_ID_ACTIVE : Nat := 0x2F0100
/-- `2F02h:00` (R404). -/
abbrev K.CAN_NOMINAL_RATE : Nat := 0x2F0200
/-- `2F03h:00` (R404). -/
abbrev K.CAN_DATA_RATE : Nat := 0x2F0300
/-- `2F04h:00` (R404). -/
abbrev K.CAN_PORT_EN : Nat := 0x2F0400
/-- `2F05h:00` (R404). -/
abbrev K.CAN_REDUNDANCY : Nat := 0x2F0500
/-- `2F06h:00` (R404). -/
abbrev K.CAN_SWITCHBACK : Nat := 0x2F0600
/-- `2F07h:00` (R404). -/
abbrev K.CAN_ACTIVE_BUS : Nat := 0x2F0700
/-- `2F08h:01–02`, entry `i` from 0 (R404). -/
abbrev K.CAN_STATUS (i : Nat) : Nat := 0x2F0801 + i
/-- `2F09h:01–02`, entry `i` from 0 (R404). -/
abbrev K.CAN_ERR_COUNT (i : Nat) : Nat := 0x2F0901 + i
/-- `2F0Ah:00` (R404). -/
abbrev K.CAN_TX_TIMEOUT : Nat := 0x2F0A00
/-- `2F0Bh:00` (R404). -/
abbrev K.CAN_BUSOFF_DELAY : Nat := 0x2F0B00
/-- `2F0Ch:00` (R404). -/
abbrev K.NMT_STARTUP : Nat := 0x2F0C00
/-- `2F0Dh:00` (R404). -/
abbrev K.NMT_GUARD : Nat := 0x2F0D00
/-- `2F0Eh:00` (R404). -/
abbrev K.NMT_STATE : Nat := 0x2F0E00
/-- `2F0Fh:00` (R404). -/
abbrev K.SDO_TIMEOUT : Nat := 0x2F0F00
/-- `2F10h:00` (R404). -/
abbrev K.RPDO_MIN_INTERVAL : Nat := 0x2F1000
/-- `2F20h:00` (R404). -/
abbrev K.BXT_BASE : Nat := 0x2F2000
/-- `2F21h:00` (R404). -/
abbrev K.BXT_TIMEOUT : Nat := 0x2F2100
/-- `2F22h:01–02`, entry `i` from 0 (R404). -/
abbrev K.BXT_STATUS (i : Nat) : Nat := 0x2F2201 + i
/-- `3000h:01–04`, entry `i` from 0 (R423). -/
abbrev K.LOG_CURSOR (i : Nat) : Nat := 0x300001 + i
/-- `3001h:01–04`, entry `i` from 0 (R423). -/
abbrev K.LOG_SEEK_ESN (i : Nat) : Nat := 0x300101 + i
/-- `3002h:01–04`, entry `i` from 0 (R423). -/
abbrev K.LOG_WINDOW (i : Nat) : Nat := 0x300201 + i
/-- `3003h:00` (R423). -/
abbrev K.LOG_COUNT : Nat := 0x300300
/-- `3004h:00` (R423). -/
abbrev K.LOG_CAPACITY : Nat := 0x300400
/-- `3005h:00` (R423). -/
abbrev K.LOG_STATUS : Nat := 0x300500
/-- `3006h:00` (R423). -/
abbrev K.LOG_FIRST_ESN : Nat := 0x300600
/-- `3007h:00` (R423). -/
abbrev K.LOG_LAST_ESN : Nat := 0x300700
/-- `3008h:00` (R423). -/
abbrev K.LOG_DROPPED : Nat := 0x300800
/-- `3009h:00` (R423). -/
abbrev K.LOG_CLEAR : Nat := 0x300900
/-- `300Ah:00` (R423). -/
abbrev K.LOG_TIME_MARK : Nat := 0x300A00
/-- `300Bh:00` (R423). -/
abbrev K.LOG_MEDIA_MAP : Nat := 0x300B00
/-- `300Ch:00` (R423). -/
abbrev K.LOG_TORN_COUNT : Nat := 0x300C00
/-- `3100h:00` (R451). -/
abbrev K.STORE_STATUS : Nat := 0x310000
/-- `3101h:00` (R451). -/
abbrev K.STORE_COUNT : Nat := 0x310100
/-- `3102h:01–02`, entry `i` from 0 (R451). -/
abbrev K.IMAGE_INFO (i : Nat) : Nat := 0x310201 + i
/-- `3103h:00` (R451). -/
abbrev K.FACTORY_SETTINGS : Nat := 0x310300
/-- `3110h:01–02`, entry `i` from 0 (R451). -/
abbrev K.FW_SLOT_STATE (i : Nat) : Nat := 0x311001 + i
/-- `3111h:00` (R451). -/
abbrev K.FW_RUNNING : Nat := 0x311100
/-- `3112h:01–02`, entry `i` from 0 (R451). -/
abbrev K.FW_INFO (i : Nat) : Nat := 0x311201 + i
/-- `3113h:00` (R451). -/
abbrev K.FW_ERASE : Nat := 0x311300
/-- `3114h:00` (R451). -/
abbrev K.FW_WRITE : Nat := 0x311400
/-- `3115h:00` (R451). -/
abbrev K.FW_VERIFY : Nat := 0x311500
/-- `3116h:00` (R451). -/
abbrev K.FW_SWITCH : Nat := 0x311600
/-- `3117h:00` (R451). -/
abbrev K.FW_CONFIRM : Nat := 0x311700
/-- `3118h:00` (R451). -/
abbrev K.FW_AUTO_CONFIRM : Nat := 0x311800
/-- `3119h:00` (R451). -/
abbrev K.FW_CONFIRM_TIME : Nat := 0x311900
/-- `311Ah:00` (R451). -/
abbrev K.FW_RESULT : Nat := 0x311A00
/-- `311Bh:00` (R451). -/
abbrev K.FW_LAST_GAP : Nat := 0x311B00
/-- `3200h:00` (R468). -/
abbrev K.LOCK_STATE : Nat := 0x320000
/-- `3202h:01–02`, entry `i` from 0 (R468). -/
abbrev K.AUTH_PASSWORD (i : Nat) : Nat := 0x320201 + i
/-- `3203h:00` (R468). -/
abbrev K.AUTH_KEY : Nat := 0x320300
/-- `3204h:00` (R468). -/
abbrev K.AUTH_CRED_SET : Nat := 0x320400
/-- `3205h:01–04`, entry `i` from 0 (R468). -/
abbrev K.AUTH_NONCE (i : Nat) : Nat := 0x320501 + i
/-- `3206h:01–04`, entry `i` from 0 (R468). -/
abbrev K.AUTH_RESPONSE (i : Nat) : Nat := 0x320601 + i
/-- `3207h:01–04`, entry `i` from 0 (R468). -/
abbrev K.AUTH_PASSWORD_ENTRY (i : Nat) : Nat := 0x320701 + i
/-- `3208h:01–04`, entry `i` from 0 (R468). -/
abbrev K.AUTH_CLOSE (i : Nat) : Nat := 0x320801 + i
/-- `3209h:01–04`, entry `i` from 0 (R468). -/
abbrev K.SESSION_STATUS (i : Nat) : Nat := 0x320901 + i
/-- `320Ah:00` (R468). -/
abbrev K.AUTH_FAIL_COUNT : Nat := 0x320A00
/-- `320Bh:00` (R468). -/
abbrev K.AUTH_BACKOFF : Nat := 0x320B00
/-- `320Ch:00` (R468). -/
abbrev K.DEBUG_OPEN : Nat := 0x320C00
/-- `320Dh:00` (R468). -/
abbrev K.DEBUG_STATUS : Nat := 0x320D00
/-- `4000h:01–80` of unit `u`, entry `i` from 0 (R134). -/
abbrev K.COEF_A_LO (u i : Nat) : Nat := 0x400001 + 0x10000 * u + i
/-- `4001h:01–80` of unit `u`, entry `i` from 0 (R134). -/
abbrev K.COEF_A_HI (u i : Nat) : Nat := 0x400101 + 0x10000 * u + i
/-- `4002h:01–80` of unit `u`, entry `i` from 0 (R134). -/
abbrev K.COEF_B_LO (u i : Nat) : Nat := 0x400201 + 0x10000 * u + i
/-- `4003h:01–80` of unit `u`, entry `i` from 0 (R134). -/
abbrev K.COEF_B_HI (u i : Nat) : Nat := 0x400301 + 0x10000 * u + i
/-- `4008h:01–20` of unit `u`, entry `i` from 0 (R134). -/
abbrev K.MAILBOX_STAGE (u i : Nat) : Nat := 0x400801 + 0x10000 * u + i
/-- `4009h:00` of unit `u` (R134). -/
abbrev K.MAILBOX_POST (u : Nat) : Nat := 0x400900 + 0x10000 * u
/-- `400Ah:01–20` of unit `u`, entry `i` from 0 (R134). -/
abbrev K.MAILBOX_IN (u i : Nat) : Nat := 0x400A01 + 0x10000 * u + i
/-- `400Bh:01–20` of unit `u`, entry `i` from 0 (R134). -/
abbrev K.PORT_OUT (u i : Nat) : Nat := 0x400B01 + 0x10000 * u + i
/-- `400Ch:00` of unit `u` (R134). -/
abbrev K.PORT_STAMP (u : Nat) : Nat := 0x400C00 + 0x10000 * u
/-- `4010h:01–C0` of unit `u`, entry `i` from 0 (R134). -/
abbrev K.LINK_MAP (u i : Nat) : Nat := 0x401001 + 0x10000 * u + i
/-- `4020h:00` of unit `u` (R134). -/
abbrev K.PROG_IMAGE (u : Nat) : Nat := 0x402000 + 0x10000 * u
/-- `4021h:00` of unit `u` (R134). -/
abbrev K.PROG_HEADER (u : Nat) : Nat := 0x402100 + 0x10000 * u
/-- `4022h:00` of unit `u` (R134). -/
abbrev K.STATE_VIEW (u : Nat) : Nat := 0x402200 + 0x10000 * u
/-- `4023h:00` of unit `u` (R134). -/
abbrev K.DRIVE_DECL (u : Nat) : Nat := 0x402300 + 0x10000 * u

end Sys2Proof.Machine
end

