-- ==== Sys2Proof/Machine/PartsB.lean ====
section
/-! DEFINITION. What phases, rails, stage-group lines and the load interface hold beside the object dictionary.
Currents named "fine" are in 2^−24 A and voltages named "fine" in 2^−32 V: an engine LSB in accumulator units (R104).
Notes, log 13. -/

namespace Sys2Proof.Machine

/-- Output levels of a phase (R52), buck or switch node. -/
inductive Level where
  | low | high | mid
  deriving DecidableEq, Repr, Inhabited

/-- Ramps of a phase (R76, R77). -/
inductive Ramp where
  | none | adding | shedding
  deriving DecidableEq, Repr, Inhabited

/-- States of a single pulse (R87). -/
inductive Pulse where
  | none | on | drain
  deriving DecidableEq, Repr, Inhabited

/-- One phase channel, with its observer account (R52–R90, R193–R205) and its service data (R223–R228). -/
structure Phase where
  out : Level := .mid
  /-- Mode of the on-time in progress or last begun: timed (R67). -/
  timed : Bool := false
  /-- DISABLE latch (R68). -/
  latch : Bool := false
  /-- Asserted TERMINATE inputs, by monitor comparator (R68). -/
  terms : List Nat := []
  /-- In the committed active set, and in the slot grid of the period in progress (R75, R79). -/
  inSet : Bool := false
  inGrid : Bool := false
  /-- Ramp weight, LSB 2^−15, and the ramp that moves it from `w0` by `rampJ` steps of `rampLen` (R76–R78). -/
  w : Int := 0
  ramp : Ramp := .none
  w0 : Int := 0
  rampJ : Nat := 0
  rampLen : Nat := 1
  /-- The stage's status word that its qualification has read over LB, `none` where the read failed (R225, R363). -/
  qualStage : Option (Option (BitVec 16)) := none
  /-- Drains by diode emulation after a shed or a single pulse (R69). -/
  draining : Bool := false
  pulse : Pulse := .none
  /-- IMON at the turn-off of a single pulse once it is converted, and the time to the zero crossing of a pulse whose result
  waits for that conversion (R87). -/
  pulseI : Option Int := none
  pulseZero : Option Int := none
  pulseVin : Int := 0
  /-- On-time of the single pulse in progress, ns (R87). -/
  pulseTon : Int := 0
  realign : Bool := false
  /-- A placed hold is requested and not yet converted (R71). -/
  placed : Bool := false
  fired : Bool := false
  /-- Codes in the DAC: peak and slope (R63, R64); the level is the peak less slope times steps since turn-on. -/
  dacPeak : Int := 0
  dacSlope : Int := 0
  /-- Comparator asserted before it may act (R66). -/
  early : Bool := false
  skip : Bool := false
  /-- The latest reference exceeded `IPK_LIMIT` (R88). -/
  clamped : Bool := false
  pkTest : Bool := false
  /-- Weight committed for the slot grid, LSB 2^−15 (R75, R99). -/
  wc : Int := 0
  /-- Output slew in force (R54). -/
  slew : Int := 1
  /-- On-time command of the latest turn-on in timed mode, fine steps (R67). -/
  tonCmd : Int := 0
  /-- Latest turn-on and turn-off and the end of the latest drain, in fine steps from the start of the rail period in progress
  (R61). -/
  onAt : Int := -1000000000
  offAt : Int := -1000000000
  restAt : Int := -1000000000
  /-- A turn-on waits for `TOFF_MIN` or a drain (R61). -/
  deferred : Bool := false
  /-- Output, membership and DISABLE latch at the latest edge (R68, R88, R89). -/
  stOut : Level := .mid
  stIn : Bool := false
  stLatch : Bool := false
  /-- Observer: model current (fine), 1/L in 2^−20 per µH, resistance in 2^−16 µΩ, trim (fine). -/
  iHat : Int := 0
  lam : Int := 10485760
  rHat : Int := 32768000
  iPrev : Int := 0
  trim : Int := 0
  iValley : Int := 0
  res : Int := 0
  firedObs : Bool := false
  observed : Bool := false
  cDev : Nat := 0
  cGross : Nat := 0
  cStuck : Int := 0
  cRange : Nat := 0
  cRun : Nat := 0
  cOpen : Nat := 0
  stuckVal : Int := 0
  /-- Code of the latest IMON conversion (R48, R70). -/
  imonCode : Nat := 0
  /-- Consecutive conversions at a range end (R198 class 3); a reseed restarts it (R197). -/
  rangeN : Nat := 0
  subst : Bool := false
  openDet : Bool := false
  suspect : Bool := false
  cls : Nat := 0
  /-- Reseed posted for the next observation, with its inductance in pH (R197). -/
  reseed : Option Int := none
  /-- Step of the derating ramp, and its length in ticks (R32, R201). -/
  deratJ : Nat := 0
  deratLen : Nat := 0
  afterSg : Bool := false
  afterOt : Bool := false
  /-- The phase has been EMPTY since its latest ADMIT (R229). -/
  replaced : Bool := false
  deriving DecidableEq, Repr, Inhabited

/-- Loop states of a rail (R149, R167). -/
inductive LoopState where
  | off | softStart | auto | manual | glove
  deriving DecidableEq, Repr, Inhabited

/-- The code of a loop state (R167). -/
def LoopState.code : LoopState → Nat
  | .off => 0 | .softStart => 1 | .auto => 2 | .manual => 3 | .glove => 4

/-- One entry of an intent queue (R96, R140, R187, R516): edges are counts of ticks since its latch. -/
structure Intent where
  slope : Bool := false
  delta : Int := 0
  lead : Nat := 0
  tag : Nat := 0
  /-- Ticks since the edge that latched it. -/
  age : Nat := 0
  /-- The age at its first tick that contributes, k0 of R140; N_r, and the age of the deadline. All are fixed at the latch. -/
  start : Nat := 0
  nr : Nat := 1
  deadline : Nat := 0
  /-- Baseline of the match test, fine; formed in the tick after the latch. -/
  base : Option Int := none
  deriving DecidableEq, Repr, Inhabited

/-- A withdrawal in progress (R141): the value to withdraw from, its ramp length, steps made. -/
structure Withdrawal where
  ff : Int := 0
  nr : Nat := 1
  j : Nat := 0
  deriving DecidableEq, Repr, Inhabited

/-- LP-MAIN's state for its rail (R135–R150). `vSp` is in 2^−24 V; `iInt`, `iLl`, `dTerm` are fine. -/
structure Lp where
  st : LoopState := .off
  vSp : Int := 0
  iInt : Int := 0
  iLl : Int := 0
  dTerm : Int := 0
  yPrev : Int := 0
  iC : Int := 0
  iM : Int := 0
  iFf : Int := 0
  u : Int := 0
  inhibit : Bool := false
  ssDone : Bool := false
  thr : Bool := false
  clampHigh : Bool := false
  clampLow : Bool := false
  wdr : List Withdrawal := []
  /-- ff of each queue entry in the latest tick, fine, with its N_r and the tag of its intent (R140). -/
  ff : Vector (Option (Int × Nat × Nat)) 8 := Vector.replicate 8 none
  deriving DecidableEq, Repr, Inhabited

/-- RM-PLAUS' account of one rail (R208–R213). `vHat` and `rhoF` are fine volts; `iLd`, `iTel` fine amperes; `rp` is in
2^−16 µΩ; `vTel` fine volts. -/
structure Plaus where
  vHat : Int := 0
  iLd : Int := 0
  rhoF : Int := 0
  rp : Int := 0
  vDrop : Int := 0
  iTel : Int := 0
  vTel : Int := 0
  frozen : Bool := false
  testOpen : Bool := false
  disagree : Bool := false
  resOut : Bool := false
  localBad : Bool := false
  remoteBad : Bool := false
  widened : Bool := false
  frozenClr : Int := 0
  openClr : Int := 0
  disN : Int := 0
  disClr : Int := 0
  resN : Int := 0
  resClr : Int := 0
  localClr : Int := 0
  /-- Disagree has judged the local input (R209), the remote input. -/
  disLocal : Bool := false
  disRemote : Bool := false
  remoteOk : Int := 0
  verdict : Nat := 0
  fresh : Bool := true
  /-- Sense test: 0 none, else 1 + ticks since its edge t; the value latched at t and the sum since (R210). -/
  test : Nat := 0
  testBase : Int := 0
  testSum : Int := 0
  /-- The test's own result did not count: RM-PLAUS overran (R210). -/
  testDrop : Bool := false
  deriving DecidableEq, Repr, Inhabited

/-- A target that waits for its edge (R170): clamped value in 2^−12 V, slew in 10 µV/µs, source, OSN. -/
structure Target where
  value : Int := 0
  rate : Int := 0
  src : Nat := 0
  osn : Nat := 0
  deriving DecidableEq, Repr, Inhabited

/-- One multiphase rail (R55–R82, R135–R222). -/
structure Rail where
  on : Bool := false
  /-- The enable mask LP-MAIN saw in its latest tick. -/
  wasOn : Bool := false
  tBase : Int := 83333
  /-- Phases of the slot grid of the period in progress, ascending (R59). -/
  grid : List Nat := []
  /-- The first slot of the period in progress that has not fired (R60). -/
  slot : Nat := 0
  mittenMod : Bool := false
  basePost : Int := 83333
  lp : Lp := {}
  intents : Vector (Option Intent) 8 := Vector.replicate 8 none
  intentCount : Nat := 0
  retractRun : Nat := 0
  matched : Nat := 0
  cancelled : Nat := 0
  newIntents : Nat := 0
  /-- PM-SHED: filtered current (fine), dwell and Mitten dwell in ns, Mitten state, capacity (LSB 2^−8 A). -/
  iF : Int := 0
  dwell : Nat := 0
  mitDwell : Nat := 0
  mitten : Bool := false
  cap : Int := 0
  nact : Nat := 0
  avail : Nat := 0
  /-- Capacity and sum of derating factors at the edge that latched the hold (R164). -/
  holdCap : Option (Int × Int) := none
  hold : Bool := false
  plaus : Plaus := {}
  target : Option Target := none
  /-- Target in force: value in 2^−12 V and command step rate (R171). -/
  tgt : Int := 0
  tgtRate : Int := 100
  tgtSrc : Nat := 0
  done : Bool := false
  /-- A sense test waits to be posted (R210). -/
  testDue : Bool := false
  /-- The frozen-ADC flag of the rail (R45). -/
  adcFrozen : Bool := false
  /-- Place in the dither sequence of the next raw slot, and whether the tick in progress is dithered (R45). -/
  dithPos : Nat := 0
  dithOn : Bool := true
  /-- Latest raw codes of the remote and the local input (R42, R48). -/
  rawRem : Nat := 0
  rawLoc : Nat := 0
  vClamped : Bool := false
  vRefused : Bool := false
  /-- Status bits that wait for the supervisor (R22): STATUS_IOUT of a THROTTLE# request, STATUS_MFR of a local verdict. -/
  stThr : Bool := false
  stLoc : Bool := false
  ovN : Int := 0
  uvN : Int := 0
  ocN : Int := 0
  thrN : Nat := 0
  /-- Fault kinds that trip at the next edge, or whose count the latest edge has reached: bit s−1 for sub-index s (R222). -/
  due : Nat := 0
  /-- Fault kinds whose condition has not been absent since they were recorded (R221 code 0). -/
  present : Nat := 0
  glove : Bool := false
  gloveLeft : Nat := 0
  gloveFb : Bool := false
  gloveClear : Int := 0
  engForced : Bool := false
  retried : Bool := false
  rdy : Bool := false
  rdyN : Nat := 0
  leftSs : Bool := false
  /-- AVSBus sticky alerts: bits 14–12 and 10 of the status word (R178). -/
  avsAlerts : Nat := 0
  deriving DecidableEq, Repr, Inhabited

/-- Classes of a stage-group line, with the codes of `SG_STATE` (R83, R84, R90). -/
inductive SgClass where
  | absent | present | fault | invalid | unknown
  deriving DecidableEq, Repr, Inhabited

/-- The code of `SG_STATE` (R90). -/
def SgClass.code : SgClass → Nat
  | .absent => 0 | .present => 1 | .fault => 2 | .invalid => 3 | .unknown => 4

/-- One stage-group line (R83–R85, R218, R219, R228, R230). -/
structure SgLine where
  st : SgClass := .unknown
  cand : SgClass := .unknown
  run : Nat := 0
  otRun : Nat := 0
  warnRun : Nat := 0
  coolRun : Nat := 0
  warn : Bool := false
  /-- Time left of `SG_REFAULT_WINDOW` since a readmission, ns (R228). -/
  window : Nat := 0
  deriving DecidableEq, Repr, Inhabited

/-- States of the LIL receiver (R185). -/
inductive LilState where
  | down | training | up
  deriving DecidableEq, Repr, Inhabited

/-- The code of `LIL_STATE` (R192). -/
def LilState.code : LilState → Nat
  | .down => 0 | .training => 1 | .up => 2

/-- The load-intent link (R183–R186). -/
structure Lil where
  st : LilState := .down
  trainFail : Bool := false
  /-- Frames whose check has completed, oldest first (R186). -/
  frames : List (BitVec 40) := []
  deriving DecidableEq, Repr

/-- One AVSBus write: select, type, data (R176). -/
structure AvsWrite where
  sel : Nat := 0
  type : Nat := 0
  data : Nat := 0
  /-- Its command: 0 and 1 write, 2 unsupported, 3 read. -/
  cmd : Nat := 0
  deriving DecidableEq, Repr, Inhabited

/-- AVSBus and the handshake pins (R174–R179, R189, R190). -/
structure Load where
  held : List AvsWrite := []
  /-- Last frame held per select while the supervisor is absent (R179). -/
  waiting : List AvsWrite := []
  throttle : Bool := false
  throttleN : Nat := 0
  /-- PFW# and its causes: VIN low, power path, program (R190). -/
  pfw : Bool := true
  pfwVin : Bool := false
  /-- VIN has stayed at or above `PFW_VIN_TH` + `PFW_HYST` for `PFW_RELEASE` (R190). -/
  pfwOk : Bool := false
  pfwProg : Bool := false
  pfwRun : Nat := 0
  deriving DecidableEq, Repr

/-- One buck regulator (R236–R241, R151). `vSp` in 2^−24 V; `iB` and duty with LSB 2^−32. -/
structure Buck where
  on : Bool := false
  wasOn : Bool := false
  /-- Stopped by a fault whose response has not run yet (R241). -/
  stop : Bool := false
  out : Level := .mid
  vSp : Int := 0
  iB : Int := 0
  duty : Int := 0
  softStart : Bool := false
  diode : Bool := false
  done : Bool := false
  tgt : Int := 0
  tgtRate : Int := 100
  target : Option Target := none
  /-- Fault kinds whose condition has not been absent since they were recorded (R221 code 0). -/
  present : Nat := 0
  fb : Int := 0
  limited : Bool := false
  ocN : Nat := 0
  ovN : Int := 0
  uvN : Int := 0
  retried : Bool := false
  period : Int := 0
  vinStop : Bool := false
  /-- The internal load discharges the output (R248), as it does in reset (R504). -/
  discharge : Bool := true
  deriving DecidableEq, Repr, Inhabited

/-- One LDO (R243–R245). -/
structure Ldo where
  on : Bool := false
  ramping : Bool := false
  ilim : Bool := false
  present : Nat := 0
  uvN : Nat := 0
  retried : Bool := false
  /-- The internal load discharges the output (R248), as it does in reset (R504). -/
  discharge : Bool := true
  deriving DecidableEq, Repr, Inhabited

end Sys2Proof.Machine
end

