-- ==== Sys2Proof/Machine/PartsC.lean ====
section
/-! DEFINITION. What monitors, the sequencer, the power path, the charger, storage and the boot hold beside the object
dictionary. -/

namespace Sys2Proof.Machine

/-- One comparator of a window monitor (R267–R271). -/
structure Cmp where
  /-- Enabled, as of the latest edge. -/
  on : Bool := false
  /-- ASSERTED; a disabled comparator is released (R268). -/
  asserted : Bool := false
  /-- Asserted at some instant since the latest edge (R271). -/
  hit : Bool := false
  /-- Synchronous output latched at the latest edge. -/
  sync : Bool := false
  settling : Bool := false
  /-- Threshold and release codes at the resolution in force (R265). -/
  thr : Nat := 0
  rel : Nat := 0
  deriving DecidableEq, Repr, Inhabited

/-- One window monitor (R264–R282). -/
structure Wm where
  under : Cmp := {}
  upper : Cmp := {}
  /-- Divider of the source, read when the monitor is enabled (R264). -/
  div : Nat := 1
  /-- Self-test in progress: 0 none, 1 SWAP, 2 TIE (R280), and `WM_STATUS` from before it. -/
  test : Nat := 0
  held : Int := 0
  deriving DecidableEq, Repr, Inhabited

/-- The sequencer (R250–R260). Programs: 0 idle, 1 power-up, 2 power-down, 3 keep-entry, 4 fault. -/
structure Seqr where
  prog : Nat := 0
  /-- The power-down in progress was started by the power path (R20, R255). -/
  byPath : Bool := false
  /-- 0 action, 1 wait, 2 delay (R263). -/
  phase : Nat := 0
  step : Nat := 0
  /-- First step and length of the program when it started, and steps left, the one in progress included (R250). -/
  first : Nat := 0
  len : Nat := 0
  left : Nat := 0
  /-- The program's first step starts at the next edge (R257). -/
  starting : Bool := false
  /-- Ticks since edge s+1, and ticks of delay left (R253). -/
  waitN : Nat := 0
  delayN : Nat := 0
  held : Bool := false
  /-- The last program ended by abandonment or abort; a timeout occurred in it, and in the program in progress (R263). -/
  abandoned : Bool := false
  timedOut : Bool := false
  timeoutNow : Bool := false
  reqUp : Bool := false
  /-- The power-up request of a boot, a wake or a return from KEEP waits for the qualifications (R315, R427, R430). -/
  autoUp : Bool := false
  reqDown : Bool := false
  /-- Fault groups requested; 0 for no request. -/
  reqFault : Nat := 0
  /-- Power path left ON_INPUT: keep-entry (true) or power-down (false), per R20. -/
  reqPath : Option Bool := none
  groups : Nat := 0
  /-- Levels of SEQ0–SEQ15, high impedance before the settings are verified, and changes for the next edge. -/
  out : Nat := 0
  outOff : Bool := true
  /-- The first step of a power-up program waits for the qualifications of a boot (R224). -/
  qualWait : Bool := true
  outNext : List (Nat × Bool) := []
  /-- Pins SQI0–SQI3 and their samples of the latest edge. -/
  sqiPin : Nat := 0
  sqi : Nat := 0
  sqiSeen : Bool := false
  deriving DecidableEq, Repr

/-- States of the power-path machine (R315). -/
inductive PpState where
  | onInput | handover | onBattery
  deriving DecidableEq, Repr, Inhabited

/-- The code of `PP_STATE` (R333). -/
def PpState.code : PpState → Nat
  | .onInput => 0 | .handover => 1 | .onBattery => 2

/-- Sources and SYS (R312–R317). -/
structure Path where
  st : PpState := .onInput
  /-- Consecutive VIN conversions at or above, and below, the thresholds of R314. -/
  hiRun : Nat := 0
  loRun : Nat := 0
  valid : Bool := false
  present : Bool := false
  /-- VIN has risen to 4.60 V and not fallen below 4.40 V since: the input converter may run (R312). -/
  vinHigh : Bool := false
  /-- The target of SYS in force, mV (R312): none where SYS follows the cell, or no converter runs. -/
  sysTgt : Option Int := none
  /-- VIN valid count, ns. -/
  validNs : Nat := 0
  /-- VIN conversions in a row below `PFW_VIN_TH` (R190). -/
  pfwRun : Nat := 0
  /-- The battery switch is open: until the presence test passes, by a discharge fault, by the long press or by ship. -/
  open_ : Bool := false
  /-- A forbidden discharge in ON_BATTERY opens the switch once its event has been recorded (R323). -/
  openDue : Bool := false
  inIlim : Bool := false
  deriving DecidableEq, Repr

/-- States of `CHG_STATE` (R319). -/
inductive ChgState where
  | disabled | waitBattery | precharge | cc | cv | done | paused | blocked
  deriving DecidableEq, Repr, Inhabited

/-- The code of `CHG_STATE` (R334). -/
def ChgState.code : ChgState → Nat
  | .disabled => 0 | .waitBattery => 1 | .precharge => 2 | .cc => 3 | .cv => 4 | .done => 5 | .paused => 6 | .blocked => 7

/-- The charger (R318–R325). -/
structure Charger where
  st : ChgState := .disabled
  /-- The phase left by PAUSED. -/
  left : ChgState := .waitBattery
  pauseTemp : Bool := false
  pauseInput : Bool := false
  preNs : Nat := 0
  /-- Fraction of a second of `CHG_TIMER`, ns. -/
  safeNs : Nat := 0
  absent : Bool := false
  presTest : Bool := false
  judged : Bool := false
  /-- What the last three TS conversions call for, latest first: the zone of the ratio, and of the ratio less `TS_HYST` (R322). -/
  tsRun : List (Nat × Nat) := []
  /-- Charge current, mA (R319). -/
  iNow : Int := 0
  shortRun : Nat := 0
  hotRun : Nat := 0
  thermalReg : Bool := false
  /-- `CHG_EN` has been 0 since the boot or wake and no start followed it (R320). -/
  enOff : Bool := false
  /-- Length of the switching period of the input converter and the ACC boost, 20 ps (R41). -/
  period : Int := 50000
  deriving DecidableEq, Repr

/-- Judgements of the die sensors: scans in a row beyond each level, and the events given (R493). -/
structure Die where
  run125 : Nat := 0
  run120 : Nat := 0
  run150 : Nat := 0
  over125 : Bool := false
  over150 : Bool := false
  deriving DecidableEq, Repr

/-- The ACC boost (R327). -/
structure Boost where
  on : Bool := false
  ilim : Bool := false
  retrying : Bool := false
  latched : Bool := false
  batLow : Bool := false
  retries : Nat := 0
  /-- Time since the boost was last turned on, ns. -/
  onNs : Nat := 0
  deriving DecidableEq, Repr

/-- Button and ship mode (R328–R331). `longTime` is the copy in the Dome hardware, s. -/
structure Button where
  pressed : Bool := false
  warned : Bool := false
  /-- The press has reached the long-press time (R328, R329). -/
  long : Bool := false
  longTime : Nat := 8
  shipPending : Bool := false
  shipCancelled : Bool := false
  deriving DecidableEq, Repr

/-- A settings image in NVM (R437), erased where nothing is written; entries by rising key. -/
structure SetImage where
  magic : Nat := 0xFFFFFFFF
  seq : Nat := 0xFFFFFFFF
  count : Nat := 0
  esn : Nat := 0
  osn : Nat := 0
  /-- Its data length and its CRC as they are written. -/
  len : Nat := 0xFFFFFFFF
  crcHeld : Nat := 0xFFFFFFFF
  entries : List (Nat × Val) := []
  /-- A read has found an uncorrectable ECC error in it (R438). -/
  ecc : Bool := false
  deriving DecidableEq, Repr, Inhabited

/-- What a storage operation in progress is (R436–R441, R118). -/
inductive StoreRun where
  | none | store | factory | restore
  deriving DecidableEq, Repr, Inhabited

/-- Settings storage (R436–R442). -/
structure Storage where
  a : SetImage := {}
  b : SetImage := {}
  activeB : Bool := false
  run : StoreRun := .none
  /-- The image that a store in progress writes (R436). -/
  snap : SetImage := {}
  lastFailed : Bool := false
  factoryVals : Bool := false
  deriving DecidableEq, Repr

/-- A supervisor firmware slot (R443–R445): state code, and the chunks written since the erase. -/
structure FwSlot where
  st : Nat := 0
  chunks : List (Nat × List Byte) := []
  /-- The slot holds the image it was shipped with (R443). -/
  shipped : Bool := false
  deriving DecidableEq, Repr, Inhabited

/-- What a firmware operation in progress is (R445). -/
inductive FwRun where
  | none | erase (slot : Fin 2) | verify (slot : Fin 2)
  deriving DecidableEq, Repr, Inhabited

/-- Supervisor firmware (R443–R448). -/
structure Firmware where
  slots : Vector FwSlot 2 := #v[⟨4, [], true⟩, ⟨0, [], false⟩]
  runningB : Bool := false
  result : Nat := 0
  run : FwRun := .none
  /-- A switch-over is due at the next edge; the gap of R447 runs. -/
  switchDue : Bool := false
  gap : Bool := false
  deriving DecidableEq, Repr

/-- Keep-rail record of one LDO (R244). -/
structure KeepRec where
  keep : Bool := false
  vout : Int := 13517
  deriving DecidableEq, Repr, Inhabited

/-- Non-volatile records and retained memory beside the settings and the log. -/
structure Nvm where
  lib : Vector Image 4 := Vector.replicate 4 Image.none
  /-- A library store runs: engine and slot (R118). -/
  libRun : Option (Nat × Nat) := none
  /-- The image it stores: the shadow at the write. -/
  libImage : Image := Image.none
  keepRec : Vector KeepRec 4 := Vector.replicate 4 {}
  /-- N deltas in the retained SRAM (R429). -/
  deltas : List (Nat × Val) := []
  /-- Code and detail of the latest reset (R431, R433). -/
  resetKind : Nat := 1
  resetDetail : Nat := 0
  deriving DecidableEq, Repr

/-- The environment a boot reads: straps (R503), supplies of the I/O groups (R500), crystal (R40). -/
structure Board where
  addrsel : Option Nat := some 0
  nodesel : Option Nat := some 0
  ioS : Bool := true
  ioH : Bool := true
  deriving DecidableEq, Repr

end Sys2Proof.Machine
end

