-- ==== Sys2Proof/Machine/Dev.lean ====
section
/-! DEFINITION. The device: everything the spec gives the machine but the queue of commands, which State adds. -/

namespace Sys2Proof.Machine

/-- The device. -/
structure Dev where
  /-- The object dictionary: every object whose value is held (R371). Unlisted keys read as their default. -/
  objs : Assoc Val := []
  /-- Values in force of the objects of apply point U, taken at boot (R8, R9). -/
  eff : Assoc Val := []
  /-- Accepted writes of apply point T and S that wait for their moment (R8), oldest first. -/
  pendT : List (Nat × Val) := []
  pendS : List (Nat × Val) := []
  /-- Draws made from the free values so far: the model's own field. Notes, log 6. -/
  free : Nat := 0
  /-- What the latest command put out. Notes, log 7. -/
  answer : Answer := .none
  osnNext : Nat := 1
  ops : List OpEntry := []
  boot : BootPoint := .held
  power : Power := .active
  /-- The supervisor does not run (R22): a gap, or held by the debugger (R464). -/
  supAbsent : Bool := false
  supHalted : Bool := false
  /-- A soft reset waits for its edge (R431). -/
  softDue : Bool := false
  clk : Clk := {}
  hk : HkScan := {}
  cap : Capture := {}
  ev : EventCtl := {}
  eng : Vector Engine 16 := Vector.replicate 16 Engine.init
  /-- Sample words latched at the latest edge, common to all engines (R96). -/
  sample : Assoc Int := []
  /-- Drive words released (R99). -/
  drive : Assoc Int := []
  tms : Vector Tm 16 := Vector.replicate 16 {}
  pmb : TwTarget := {}
  svc : TwTarget := {}
  pages : Vector PageStatus 50 := Vector.replicate 50 {}
  alert : Bool := false
  pmbCtrl : TwCtrl := {}
  lbCtrl : TwCtrl := {}
  /-- Transfers that wait for LB, in the order of their requests (R364). -/
  lbWait : List LbJob := []
  canA : CanPort := {}
  canB : CanPort := {}
  node : Node := {}
  log : Log := {}
  acc : Access := {}
  phases : Vector Phase 32 := Vector.replicate 32 {}
  rails : Vector Rail 8 := Vector.replicate 8 {}
  sgs : Vector SgLine 8 := Vector.replicate 8 {}
  lil : Lil := {}
  load : Load := {}
  bucks : Vector Buck 6 := Vector.replicate 6 {}
  ldos : Vector Ldo 4 := Vector.replicate 4 {}
  wms : Vector Wm 24 := Vector.replicate 24 {}
  /-- Policy table as posted to PM-SHED, and the keys of entries that wait to be posted (R162). -/
  pol : Assoc Val := []
  polWait : List (Nat × Val) := []
  /-- Entries posted for the next edge, at most 11 (R162). -/
  polPost : List (Nat × Val) := []
  seqr : Seqr := {}
  path : Path := {}
  chg : Charger := {}
  boost : Boost := {}
  die : Die := {}
  btn : Button := {}
  store : Storage := {}
  fw : Firmware := {}
  nvm : Nvm := {}
  board : Board := {}
  /-- Responses whose supervisor part waits until the supervisor runs (R222): unit, code. -/
  lateResp : List (Nat × Nat) := []
  deriving DecidableEq, Repr

end Sys2Proof.Machine
end

