-- ==== Sys2Proof/Machine/StdCoef.lean ====
section
/-! DEFINITION. The factory coefficients of the standard programs (R154–R157), as mantissa and shift. -/

namespace Sys2Proof.Machine

/-- The standard program the factory settings put on an engine (R15). -/
def factoryProg (e : Nat) : Nat :=
  if e < 8 then 1 else if e < 12 then 2 else if e = 12 then 3 else if e < 15 then 4 else 5

/-- LP-MAIN entry `c`; bank A holds the 2 MHz values, bank B the 4 MHz values (R154). -/
def coefLpMain (bankB : Bool) (c : Nat) : Int × Nat :=
  match c with
  | 0 => (10, 0)
  | 1 => if bankB then (1, 4) else (1, 3)
  | 2 => if bankB then (8, 0) else (0x55555555, 28)
  | 3 => if bankB then (1, 1) else (0x15555555, 30)
  | 4 => if bankB then (1, 3) else (1, 2)
  | 5 => (3, 2)
  | 7 => (1, 0)
  | _ => (0, 0)

/-- LP-AUX entry `c` (R155). -/
def coefLpAux (bankB : Bool) (c : Nat) : Int × Nat :=
  if c < 192 then (roundDiv ((20 + 2 * (c % 64 : Nat)) * 2 ^ 31) 1000, 31)
  else if c < 195 then (1, if bankB then 11 else 10)
  else if c < 198 then (131, 0)
  else if c < 201 then (0x73333333, 31)
  else (0, 0)

/-- PM-SHED entry `c` (R156). -/
def coefPmShed (c : Nat) : Int × Nat :=
  match c with
  | 0 => (1, 2)
  | 1 => (0x0CCCCCCD, 31)
  | 3 => (2000, 0)
  | 4 => (500, 0)
  | 5 => (100, 0)
  | 6 => (20, 0)
  | _ => (0, 0)

/-- OB-PHASE entry `c` (R157). -/
def coefObPhase (c : Nat) : Int × Nat :=
  match c with
  | 0 => (1, 2)
  | 1 => (1, 10)
  | 2 => (1, 12)
  | 3 => (1, 6)
  | 4 => (2048, 0)
  | 5 => (100000, 0)
  | 6 => (500, 0)
  | _ => (0, 0)

/-- RM-PLAUS entry `c` (R157). -/
def coefRmPlaus (c : Nat) : Int × Nat :=
  match c with
  | 0 => (20000, 0)
  | 1 => (1, 4)
  | 2 => (1, 12)
  | 3 => (3, 1)
  | _ => (0, 0)

/-- Factory entry `c` of a bank of an engine that runs program `id` (R154–R157, R134). -/
def stdCoef (id : Nat) (bankB : Bool) (c : Nat) : Int × Nat :=
  match id with
  | 1 => coefLpMain bankB c
  | 2 => coefObPhase c
  | 3 => coefPmShed c
  | 4 => coefLpAux bankB c
  | 5 => coefRmPlaus c
  | _ => (0, 0)

end Sys2Proof.Machine
end

