-- ==== Sys2Proof/Machine/Ops.lean ====
section
/-! DEFINITION. The operations every meaning is written with: the object dictionary, pending writes, free draws,
causes of events, access levels and entries of the operation table. -/

namespace Sys2Proof.Machine

/-- Factory value of `EV_ROUTE` of source `s` (R304). -/
def evRouteDefault (s : Nat) : Int :=
  if s < 32 then 0x7800 else if s < 50 then 0xBC10 else if s < 74 then 0x5800 else if s < 90 then 0x3000
  else if s < 98 then 0xBC10 else if s < 104 then 0x5800 else if s < 112 then 0xDC10
  else if s < 120 then 0x7800 else 0xDC10

/-- The ordering code of the device, 18 bytes padded with spaces (R403; 00_scope.md). -/
def orderingCode : List Nat :=
  [67, 80, 76, 52, 56, 51, 50, 45, 66, 49, 45, 70, 52, 56, 52, 45, 84] ++
    (if Config.tapeAndReel then [82] else [32])

/-- The default of a row at an index and sub-index (R6). -/
def Dflt.val (r : ObjRow) (idx sub : Nat) : Val :=
  match r.dflt with
  | .c v => .num v
  | .tab vs => .num (vs.getD (sub - r.lo) 0)
  | .unitTab vs => .num (vs.getD (r.unit idx) 0)
  | .lin a b => .num (a * sub + b)
  | .evRoute => .num (evRouteDefault (sub - 1))
  | .coef => .bytes []
  | .nodeId _ => .bytes []
  | .nodeIdU _ => .bytes []
  | .keepResp => .bytes []
  | .tpdoMap => .num (if idx = 0x1A00 then (if sub = 1 then 0x22110120 else if sub = 2 then 0x22120110 else 0) else 0)
  | .serial => .num Config.serialNumber.toNat
  | .trim => .num ((Config.vadcTrim (sub - 1)).val - 64)
  | .prodBytes n => .bytes (if idx = 0x2000 then orderingCode.map (BitVec.ofNat 8) else (List.range n).map Config.uniqueId)
  | .lit bs => .bytes (bs.map (BitVec.ofNat 8))
  | .zeros n => .bytes (List.replicate n 0)

/-- What an unlisted key of the dictionary reads as (R6). -/
def objDefault (key : Nat) : Val :=
  match objRow key with
  | some r => Dflt.val r (key / 256) (key % 256)
  | none => .num 0

namespace Dev

/-- The value an object holds. -/
def obj (d : Dev) (key : Nat) : Val := Assoc.get objDefault d.objs key

/-- The number an object holds. -/
def num (d : Dev) (key : Nat) : Int := (d.obj key).int

/-- The number as a natural. -/
def nat (d : Dev) (key : Nat) : Nat := (d.num key).toNat

/-- A BOOL object. -/
def flag (d : Dev) (key : Nat) : Bool := decide (d.num key ≠ 0)

/-- Write an object. -/
def setObj (d : Dev) (key : Nat) (v : Val) : Dev := { d with objs := Assoc.set objDefault d.objs key v }

/-- Write a numeric object. -/
def setNum (d : Dev) (key : Nat) (v : Int) : Dev := d.setObj key (.num v)

/-- Change a numeric object. -/
def modNum (d : Dev) (key : Nat) (f : Int → Int) : Dev := d.setNum key (f (d.num key))

/-- Count one up, saturating at `n` bits. -/
def bump (d : Dev) (key : Nat) (n : Nat) : Dev := d.modNum key (fun x => satU n (x + 1))

/-- A bit of a status word. -/
def bit (d : Dev) (key i : Nat) : Bool := bitAt (d.num key) i

/-- Set or clear a bit of a status word. -/
def putBit (d : Dev) (key i : Nat) (b : Bool) : Dev := d.modNum key (fun w => Machine.putBit w i b)

/-- The value in force of an object of apply point U (R8): the one the boot took. -/
def effNum (d : Dev) (key : Nat) : Int := (Assoc.get objDefault d.eff key).int

/-- A draw from the free values: the value, and the device with the draw made. Notes, log 6. -/
def draw (d : Dev) : Int × Dev := ((Config.freeValue d.free).toNat, { d with free := d.free + 1 })

/-- The value of an object as accepted so far: a waiting write before the value held. Relations between objects and
stored images are judged on it. Notes, log 12. -/
def accepted (d : Dev) (key : Nat) : Val :=
  match (d.pendT ++ d.pendS).reverse.find? (fun e => e.1 == key) with
  | some e => e.2
  | none => d.obj key

/-- The number accepted so far. -/
def accNum (d : Dev) (key : Nat) : Int := (d.accepted key).int

/-- What has occurred in DOME, with one more code of a source (R308). -/
def seenWith (d : Dev) (src code : Nat) : List (Nat × Nat) :=
  if d.ev.domeSeen.contains (src, code) then d.ev.domeSeen else d.ev.domeSeen ++ [(src, code)]

/-- Hand a cause to the event controller (R300): occurrences of one code of one source with one OSN between two
edges are one event. In DOME it is held with its LF count, at most 64 of them; what comes beyond is only counted (R302). -/
def causeArg (d : Dev) (src code osn : Nat) (arg : List Byte) : Dev :=
  if d.power = .dome then
    if d.ev.dome.length < 64 then
      { d with ev := { d.ev with dome := d.ev.dome ++ [(d.clk.lfCount, ⟨src, code, osn, 1, arg⟩)], domeSeen := d.seenWith src code } }
    else { d with ev := { d.ev with domeLost := d.ev.domeLost + 1, domeSeen := d.seenWith src code } }
  else
  let same := fun c : Cause => c.src == src && c.code == code && c.osn == osn
  { d with
    ev := { d.ev with
      causes :=
        if d.ev.causes.any same then
          d.ev.causes.map (fun c => if same c then { c with count := min 255 (c.count + 1), arg := arg } else c)
        else d.ev.causes ++ [⟨src, code, osn, 1, arg⟩] } }

/-- A cause without details of its own. -/
def cause (d : Dev) (src code : Nat) : Dev := d.causeArg src code 0 []

/-- A cause with an OSN. -/
def causeOsn (d : Dev) (src code osn : Nat) : Dev := d.causeArg src code osn []

/-- A cause when a condition holds. -/
def causeIf (d : Dev) (b : Bool) (src code : Nat) : Dev := if b then d.cause src code else d

/-- The causes that an operation has added to those before it carry its OSN (R300). -/
def stampCauses (d : Dev) (old : List Cause) (osn : Nat) : Dev :=
  { d with ev := { d.ev with causes := old ++ d.ev.causes.map (fun c => if c.osn = 0 then { c with osn := osn } else c) } }

/-- No cause waits: what comes next is told apart (R300). -/
def noCauses (d : Dev) : Dev := { d with ev := { d.ev with causes := [] } }

/-- Something done by a host operation: the events that it causes carry its OSN (R300). -/
def withOsn (d : Dev) (osn : Nat) (f : Dev → Dev) : Dev := (f d.noCauses).stampCauses d.ev.causes osn

/-- Leave an answer on the port. -/
def answering (d : Dev) (a : Answer) : Dev := { d with answer := a }

/-- Is the state one with a tick (R38, R424)? -/
def ticking (d : Dev) : Bool := decide (d.power = .active) || decide (d.power = .economy)

/-- Does the supervisor run now (R22, R514)? -/
def supRuns (d : Dev) : Bool :=
  !d.supAbsent && !d.supHalted && decide (d.boot.rank ≥ 1) && decide (d.power ≠ .dome) && decide (d.power ≠ .ship)

/-- Are operations entered now: the supervisor runs and the settings image is verified (R22, R514)? -/
def opsOpen (d : Dev) : Bool := d.supRuns && decide (d.boot.rank ≥ 2)

end Dev

/-- The interface of a source (R453): PMBus 1, SVC 2, CANA 3, CANB 4; the others have none. -/
def Src.iface : Src → Option Nat
  | .pmbus => some 1 | .svc => some 2 | .canA => some 3 | .canB => some 4 | _ => none

/-- The place of a source among the interfaces: 0 for the first. -/
def Src.ownIx (p : Src) : Nat := (p.iface.getD 1) - 1

/-- The event source of a port's operation records (R378). -/
def Src.evSource : Src → Nat
  | .pmbus => 98 | .svc => 100 | .avs => 101 | .canA => 103 | .canB => 103 | .seq => 113

/-- The source code of `OP_QUERY_RESULT` (R403). -/
def Src.code : Src → Nat
  | .avs => 1 | .pmbus => 2 | .canA => 3 | .canB => 3 | .svc => 4 | .seq => 5

/-- The bus code of R403 and R409. -/
def Src.busCode : Src → Nat
  | .canA => 0 | .canB => 1 | _ => 255

/-- The sub-index of `OP_LAST` and `OP_IN_USE` entries of a source (R403). -/
def Src.lastIx : Src → Option Nat
  | .pmbus => some 0 | .svc => some 1 | .canA => some 2 | .canB => some 3 | .avs => some 4 | .seq => none

namespace Dev

/-- The level a source holds (R453, R454). -/
def level (d : Dev) (p : Src) : Nat :=
  match p with
  | .avs => 1
  | .seq => 3
  | _ => if d.num K.LOCK_STATE = 0 then 3 else max 1 (vget d.acc.ifs ((p.iface.getD 1) - 1)).level

/-- Entries of the table that a group of sources holds: those neither FREE nor completed (R376, R403). -/
def running (d : Dev) (f : Src → Bool) : Nat :=
  (d.ops.filter (fun e => f e.src && (e.st == .running || e.st == .waiting || e.st == .reserved))).length

/-- Entries that a source holds WAITING or RUNNING (R377); every operation is decided as it is entered, so only RUNNING ones
last. -/
def underWay (d : Dev) (p : Src) : Nat := (d.ops.filter (fun e => e.src == p && (e.st == .running || e.st == .waiting))).length

/-- Is there an entry for an operation of this source (R377)? -/
def hasEntry (d : Dev) (p : Src) : Bool :=
  match p with
  | .avs => decide (d.running (· == .avs) < 16)
  | .seq => decide (d.running (· == .seq) < 16)
  | _ => decide (d.underWay p < 64) && decide (d.running (fun q => q != .avs && q != .seq) < 224)

/-- Do two sources share their entries (R377)? AVS and SEQ have entries of their own. -/
def sharesWith (p q : Src) : Bool := (p == q) || (p != .avs && p != .seq && q != .avs && q != .seq)

/-- The entries that a source uses (R377). -/
def poolSize (p : Src) : Nat := match p with | .avs => 16 | .seq => 16 | _ => 224

/-- Room for one more entry of a source: FREE entries are used first, then the oldest completed one of those that the source may use
(R377, R379). `ops` is oldest first. -/
def dropOldest (p : Src) (l : List OpEntry) : List OpEntry :=
  if (l.filter (fun e => sharesWith p e.src)).length < poolSize p then l
  else l.eraseP (fun e => sharesWith p e.src && (e.st == .done || e.st == .refused))

/-- A port knows that an operation is coming: an entry is RESERVED for it, without an OSN (R375). -/
def reserve (d : Dev) (p : Src) (key : Nat) : Dev := { d with ops := dropOldest p d.ops ++ [⟨0, .reserved, p, key, .none, []⟩] }

/-- The entry that a port reserved returns to FREE: the operation is abandoned, or about to be entered (R376). -/
def unreserve (d : Dev) (p : Src) (key : Nat) : Dev :=
  { d with ops := d.ops.eraseP (fun e => e.st == .reserved && e.src == p && e.key == key) }

/-- Enter an operation with its record bytes: it receives the next OSN (R375) and its state (R376). -/
def enterWith (d : Dev) (p : Src) (key : Nat) (st : OpState) (r : Reason) (first : List Byte) : Dev :=
  { d with
    osnNext := nextNo d.osnNext,
    ops := dropOldest p d.ops ++ [⟨d.osnNext, st, p, key, r, first⟩] }

/-- Enter an operation (R375, R376). -/
def enter (d : Dev) (p : Src) (key : Nat) (st : OpState) (r : Reason) : Dev := d.enterWith p key st r []

/-- The record of an operation of a port, 40h or 41h (R378, R409); the sequencer's operations have records of their own. -/
def recordOp (d : Dev) (p : Src) (code osn key : Nat) (r : Reason) (first : List Byte) : Dev :=
  if p = .seq then d
  else d.causeArg p.evSource code osn
    (leBytes 2 (key / 256 : Nat) ++ leBytes 1 (key % 256 : Nat) ++ leBytes 1 r.code ++ slice first 0 4 ++ leBytes 1 p.busCode)

/-- Is a source's port kept from transmitting answers: a CAN port that is off its bus or sees its node-ID used by another node
(R400)? -/
def muted (d : Dev) (p : Src) : Bool :=
  let off := fun c : CanPort => c.idConflict || c.busOff || c.offRepeated || !c.enabled
  match p with
  | .canA => off d.canA
  | .canB => off d.canB
  | _ => false

/-- The answer of a source's port, where it may transmit. -/
def reply (d : Dev) (p : Src) (a : Answer) : Dev := if d.muted p then d else d.answering a

/-- An SDO abort (R387): sent, and told by EV103 17h. -/
def sdoAbort (d : Dev) (p : Src) (code : Nat) : Dev :=
  if d.muted p then d else (d.answering (.sdoAbort code)).causeArg 103 0x17 0 (leBytes 4 code)

/-- The answer to an SDO write that waits for its operation (R393): it comes when a store or restore ends. -/
def sdoLate (d : Dev) (p : Src) (r : Reason) : Dev :=
  if p = .canA ∨ p = .canB then if r = .none then d.reply p .ack else d.sdoAbort p r.abort else d

/-- End the RUNNING operation on an object (R376); one that ends refused is recorded (R378). -/
def endOp (d : Dev) (key : Nat) (r : Reason) : Dev :=
  let mine := fun e : OpEntry => e.key == key && e.st == .running
  let d1 := { d with
    ops := d.ops.map (fun e => if mine e then { e with st := (if r = .none then .done else .refused), reason := r } else e) }
  (d.ops.filter mine).foldl (fun d e =>
    let late := fun t : TwTarget => if t.lastOsn = e.osn then { t with lastReason := r } else t
    let d2 := if r = .none then d else { d.recordOp e.src 0x41 e.osn key r e.first with pmb := late d.pmb, svc := late d.svc }
    if key = K.STORE_PARAMETERS ∨ key = K.RESTORE_DEFAULT_PARAMETERS then d2.sdoLate e.src r else d2) d1

/-- The OSN of the operation that runs on an object, 0 if none runs. -/
def runningOsn (d : Dev) (key : Nat) : Nat :=
  match d.ops.find? (fun e => e.key == key && e.st == .running) with
  | some e => e.osn
  | none => 0

/-- Does an operation on the object run (R376)? -/
def busyOn (d : Dev) (key : Nat) : Bool := d.ops.any (fun e => e.key == key && e.st == .running)

end Dev

/-- The transferred size of a type, where it is fixed (R372). -/
def Ty.size : Ty → Option Nat
  | .bool => some 1 | .u8 => some 1 | .u16 => some 2 | .u32 => some 4 | .i16 => some 2 | .i32 => some 4
  | .coef => some 8 | .str => none | .domain => none

/-- The bytes of a value (R120, R372). -/
def Val.encode (ty : Ty) (v : Val) : List Byte :=
  match v with
  | .num i => leBytes (ty.size.getD 4) i
  | .coef m sh => leBytes 4 m ++ [BitVec.ofNat 8 sh, 0, 0, 0]
  | .bytes bs => bs

/-- The value of bytes of the right length (R120, R372). -/
def Ty.decode (ty : Ty) (bs : List Byte) : Val :=
  match ty with
  | .i16 => .num (ofLeSigned bs)
  | .i32 => .num (ofLeSigned bs)
  | .coef => .coef (ofLeSigned (bs.take 4)) (bs.getD 4 0).toNat
  | .str => .bytes bs
  | .domain => .bytes bs
  | _ => .num (ofLe bs)

/-- Does the length fit the object (R373 step 4)? -/
def lengthOk (r : ObjRow) (bs : List Byte) : Bool :=
  match r.ty.size with
  | some n => decide (bs.length = n)
  | none => match r.range with
    | .len lo hi => decide (lo ≤ bs.length) && decide (bs.length ≤ hi)
    | _ => true

/-- The window codes of R359. -/
def windowOk (w : Nat) : Bool :=
  decide (w ≤ 5) || decide (w = 0x100) || (decide (0x200 ≤ w) && decide (w ≤ 0x20F)) ||
    (decide (0x400 ≤ w) && decide (w ≤ 0x40F)) || decide (w = 0xFF00)

/-- The page values of R349. -/
def pageOk (p : Nat) : Bool :=
  decide (p ≤ 0x11) || (decide (0x20 ≤ p) && decide (p ≤ 0x3F)) || decide (p = 0xFF)

/-- Does the value lie in the object's range and resolution (R373 step 5)? -/
def rangeOk (d : Dev) (r : ObjRow) (key : Nat) (v : Val) : Bool :=
  let x := v.int
  match r.range with
  | .any => match v with
    | .coef _ sh => decide (sh ≤ 31)
    | _ => true
  | .iv lo hi => decide (lo ≤ x) && decide (x ≤ hi)
  | .set vs => vs.contains x
  | .ivOr lo hi o => (decide (lo ≤ x) && decide (x ≤ hi)) || decide (x = o)
  | .step lo hi st => decide (lo ≤ x) && decide (x ≤ hi) && decide ((x - lo) % st = 0)
  | .mask m => decide (x.toNat &&& m = x.toNat)
  | .devV =>
    let n := (key / 256 - 0x2500) / 0x20
    let unit := if key / 256 < 0x2600 then n else key % 256 - 1
    decide (819 ≤ x) && decide (x ≤ (if d.num (K.VSENSE_DIV unit) = 4 then 22528 else 7373))
  | .wmConfig => decide (x.toNat % 32 = 0) && decide (x ≤ 65535) && decide (fieldAt x 11 3 ≠ 7) && decide (fieldAt x 7 2 ≠ 3)
  | .wmRoute => [0, 16].all (fun i =>
      let h := fieldAt x i 16
      decide (h / 16384 ≠ 3) && decide (h % 4 = 0) && (decide (h / 16384 = 0) || decide (h / 1024 % 16 ≤ 8)))
  | .codes noZero => decide (0 ≤ x) && decide (x ≤ 3) && (decide (x ≠ 0) || !noZero.contains (key % 256))
  | .chgVreg =>
    decide (x % 10 = 0) &&
      (if d.accNum K.CHG_CHEM = 0 then decide (4100 ≤ x) && decide (x ≤ 4400) else decide (3500 ≤ x) && decide (x ≤ 3650))
  | .page => pageOk x.toNat
  | .window => windowOk x.toNat
  | .bxtBase => decide (x.toNat % 256 = 0) && decide (x ≤ 0x1FFFFF00)
  | .libStore => decide (x.toNat % 256 < 16) && decide (x ≤ 0x3FF)
  | .len _ _ => true

end Sys2Proof.Machine
end

