-- ==== Sys2Proof/Machine/Units.lean ====
section
/-! DEFINITION. Access to the device's units, its assignments and its drive words. -/

namespace Sys2Proof.Machine

namespace Dev

/-- Phase channel `p`. -/
def ph (d : Dev) (p : Nat) : Phase := vget d.phases p
/-- Change a phase channel. -/
def modPh (d : Dev) (p : Nat) (f : Phase → Phase) : Dev := { d with phases := vmod d.phases p f }
/-- Rail `n`. -/
def rl (d : Dev) (n : Nat) : Rail := vget d.rails n
/-- Change a rail. -/
def modRl (d : Dev) (n : Nat) (f : Rail → Rail) : Dev := { d with rails := vmod d.rails n f }
/-- Buck `b`. -/
def bk (d : Dev) (b : Nat) : Buck := vget d.bucks b
/-- Change a buck. -/
def modBk (d : Dev) (b : Nat) (f : Buck → Buck) : Dev := { d with bucks := vmod d.bucks b f }
/-- LDO `l`. -/
def ld (d : Dev) (l : Nat) : Ldo := vget d.ldos l
/-- Change an LDO. -/
def modLd (d : Dev) (l : Nat) (f : Ldo → Ldo) : Dev := { d with ldos := vmod d.ldos l f }
/-- Stage-group line `g`. -/
def sg (d : Dev) (g : Nat) : SgLine := vget d.sgs g
/-- Change a stage-group line. -/
def modSg (d : Dev) (g : Nat) (f : SgLine → SgLine) : Dev := { d with sgs := vmod d.sgs g f }
/-- Window monitor `w`. -/
def wm (d : Dev) (w : Nat) : Wm := vget d.wms w
/-- Change a window monitor. -/
def modWm (d : Dev) (w : Nat) (f : Wm → Wm) : Dev := { d with wms := vmod d.wms w f }
/-- Timer `t`. -/
def tm (d : Dev) (t : Nat) : Tm := vget d.tms t
/-- Change a timer. -/
def modTm (d : Dev) (t : Nat) (f : Tm → Tm) : Dev := { d with tms := vmod d.tms t f }
/-- Engine `e`. -/
def engine (d : Dev) (e : Nat) : Engine := vget d.eng e
/-- Change an engine. -/
def modEng (d : Dev) (e : Nat) (f : Engine → Engine) : Dev := { d with eng := vmod d.eng e f }

/-- A drive word as released (R99). -/
def driveWord (d : Dev) (w : Nat) : Int := Assoc.get zeroAt d.drive w
/-- Write a drive word. -/
def setDrive (d : Dev) (w : Nat) (v : Int) : Dev := { d with drive := Assoc.set zeroAt d.drive w v }

/-- A sample word common to all engines (R96). -/
def sampleWord (d : Dev) (a : Nat) : Int := Assoc.get zeroAt d.sample a

/-- Is the XO fault of R39 active? -/
def xoFaulty (d : Dev) : Bool := d.bit K.CLOCK_STATUS 3

/-- One second in the unit of the back-off, 1/64 ns, of which an LF period has 1953125 (R462). -/
def backoffSecond : Nat := 64 * 10 ^ 9

/-- What is left of the back-off, and the seconds of it that `AUTH_BACKOFF` shows, rounded up (R462). -/
def backoffSet (d : Dev) (n : Nat) : Dev :=
  { d with acc := { d.acc with wait := n } }.setNum K.AUTH_BACKOFF ((n + (backoffSecond - 1)) / backoffSecond : Nat)

/-- The back-off counts down (R462). -/
def backoffPass (d : Dev) (u : Nat) : Dev := if d.acc.wait = 0 then d else d.backoffSet (d.acc.wait - u)

/-- The oscillator and lock bits of `CLOCK_STATUS` follow the power state (R38, R425, R427): XO, PLL_E, PLL_H, PLL_A in bits
7 to 4. While `xo_fault` is set a bit that the fault cleared stays 0 (R39). -/
def clockFollow (d : Dev) : Dev :=
  let runs := match d.power with | .active => 15 | .economy => 13 | .keep => 12 | .dome => 0 | .ship => 0
  d.modNum K.CLOCK_STATUS (fun w => putField w 4 4 (if d.xoFaulty then runs &&& fieldAt w 4 4 else runs))

/-- The rail a phase is assigned to (R73). -/
def railOf (d : Dev) (p : Nat) : Option Nat :=
  let r := d.nat (K.PHASE_RAIL p)
  if r < 8 then some r else none

/-- Is the phase assigned to the rail? -/
def assigned (d : Dev) (n p : Nat) : Bool := d.railOf p == some n

/-- The phases assigned to a rail, ascending. -/
def railPhases (d : Dev) (n : Nat) : List Nat := (List.range 32).filter (d.assigned n)

/-- The active set of a rail (R75). -/
def activeSet (d : Dev) (n : Nat) : List Nat := (d.railPhases n).filter (fun p => (d.ph p).inSet)

/-- Tick period in ps (R26). -/
def tickPs (d : Dev) : Nat := 1000000 / max 1 d.clk.rate

/-- Tick period in ns, as the multiple of 250 ns it is (R26). -/
def tickNs (d : Dev) : Nat := 1000 / max 1 d.clk.rate

/-- Ticks that cover a time in ns, rounded up. -/
def ticksOf (d : Dev) (ns : Nat) : Nat := (ns + d.tickNs - 1) / d.tickNs

/-- Is the unit, by its code, enabled (R236, R246)? -/
def unitOn (d : Dev) (u : Nat) : Bool := d.flag (K.UNIT_ON u)

/-- Is some multiphase rail enabled? -/
def anyRailOn (d : Dev) : Bool := (List.range 8).any d.unitOn

/-- Does the LDO act as a keep rail (R244)? -/
def keepRail (d : Dev) (l : Nat) : Bool := decide (d.effNum (K.LDO_KEEP l) ≠ 0)

/-- Is a multiphase rail, buck or non-keep LDO enabled (R428, R440)? -/
def anyUnitOn (d : Dev) : Bool := (List.range 18).any (fun u => d.unitOn u && !(decide (u ≥ 14) && d.keepRail (u - 14)))

/-- Is the controller enabled and live (R355, R368, R369, R503)? -/
def ctrlOn (d : Dev) (lb : Bool) : Bool :=
  d.board.ioH && d.ticking && (if lb then decide (d.effNum K.LB_CONFIG % 2 = 1) else decide (d.effNum K.PMB_CONFIG / 2 % 2 = 1) && decide (d.num K.PMB_ADDR ≠ 0))

/-- Is the phase's stage listed on LB (R363)? -/
def stageListed (d : Dev) (p : Nat) : Bool := decide (d.num (K.LB_STAGE_ADDR p) ≠ 255)

/-- Can LB carry transfers of the supervisor (R342, R363)? -/
def lbLive (d : Dev) : Bool := d.ctrlOn true && !d.lbCtrl.busStuck && !d.lbCtrl.sclStuck

/-- A transfer is requested on LB (R364). -/
def lbAsk (d : Dev) (j : LbJob) : Dev := if !d.lbLive || d.lbWait.contains j then d else { d with lbWait := d.lbWait ++ [j] }

/-- A request on LB is done or dropped; `LB_XFER` starts when no other transfer waits (R364). -/
def lbDrop (d : Dev) (j : LbJob) : Dev :=
  let w := d.lbWait.filter (· ≠ j)
  { d with lbWait := w, lbCtrl := { d.lbCtrl with tries := 0, started := d.lbCtrl.started || (d.lbCtrl.busy && w.isEmpty) } }

/-- The read of a qualification is over (R225, R363). -/
def qualRead (d : Dev) (p : Nat) (w : Option (BitVec 16)) : Dev := d.modPh p (fun c => { c with qualStage := some w })

/-- A request on LB fails: a qualification takes that for its read's answer (R363). -/
def lbFail (d : Dev) (j : LbJob) : Dev :=
  match j with
  | .qualRead p => (d.lbDrop j).qualRead p none
  | _ => d.lbDrop j

/-- A qualification asks for its stage's status (R225, R364): on a bus that carries none the read fails (R363). -/
def lbAskQual (d : Dev) (p : Nat) : Dev := if d.lbLive then d.lbAsk (.qualRead p) else d.qualRead p none

/-- The transfer that LB starts next (R364): of the lowest class, the oldest request. -/
def lbNext (d : Dev) : Option LbJob :=
  (d.lbWait.find? (fun j => decide (j.rank = 0))) <|> (d.lbWait.find? (fun j => decide (j.rank = 1))) <|> d.lbWait.head?

/-- Is it the request's turn on LB (R364)? No transfer in progress is interrupted. -/
def lbTurn (d : Dev) (j : LbJob) : Bool := !d.lbCtrl.started && decide (d.lbNext = some j)

/-- Is some unit enabled, a keep rail included (R464)? -/
def anythingOn (d : Dev) : Bool := d.anyUnitOn || (List.range 4).any (fun l => (d.ld l).on)

end Dev

end Sys2Proof.Machine
end

