-- ==== Sys2Proof/Machine/Phase.lean ====
section
/-! DEFINITION. The phase channels and the modulator (R52–R82, R87). On-times are in fine steps of 20 ps. -/

namespace Sys2Proof.Machine

namespace Dev

/-- An engine current as a DAC code (R64): I in 2^−8 A, gain in µV/A, offset in µV, LSB 0.4 mV. -/
def peakCode (d : Dev) (p : Nat) (i : Int) : Int :=
  clampI 0 4095
    (roundDiv (min i (d.num (K.IPK_LIMIT p)) * d.num (K.IMON_GAIN p) + 256 * d.num (K.IMON_OFFSET_MEAS p)) 102400)

/-- A slope as a code in 1/256 DAC LSB per 4 ns step (R64). -/
def slopeCode (d : Dev) (p : Nat) (m : Int) : Int := clampI 0 65535 (roundDiv (m * d.num (K.IMON_GAIN p)) 100000)

/-- The zero-cross level the DAC takes at turn-off (R69). -/
def zcCode (d : Dev) (p : Nat) : Int := d.peakCode p (d.num (K.ZC_OFFSET p))

/-- A conversion of IMON in engine units (R70, R72). -/
def imonCurrent (d : Dev) (p : Nat) (code : Int) : Int :=
  sat32 (roundDiv ((code * 400 - 204800 - d.num (K.IMON_OFFSET_MEAS p)) * 256) (d.num (K.IMON_GAIN p)))

/-- The peak reference committed for a phase, with the Mitten minimum (R81). -/
def peakRef (d : Dev) (p : Nat) : Int :=
  let i := d.driveWord p
  match d.railOf p with
  | some n => if (d.rl n).mittenMod then max i (d.num (K.MITTEN_IPK_MIN n)) else i
  | none => i

/-- Timed mode selected for the next turn-on (R67, R99). -/
def timedNext (d : Dev) (p : Nat) : Bool := decide (d.driveWord (0x40 + p) % 4294967296 ≥ 2147483648)

/-- The slot of a phase in the slot grid of its rail (R60). -/
def slotOf (d : Dev) (n p : Nat) : Nat :=
  let k := (d.rl n).grid.length
  ((d.rl n).grid.idxOf p + k - d.nat (K.ROT_INDEX n) % max 1 k) % max 1 k

/-- Start of a slot in fine steps from the start of the rail period (R59). -/
def slotAt (d : Dev) (n s : Nat) : Int := (s * d.num (K.RAIL_PERIOD n)) / max 1 (d.rl n).grid.length

/-- The commanded on-time, clamped (R67). -/
def timedOn (d : Dev) (p : Nat) : Int :=
  clampI (d.num (K.TON_MIN p) * 50) (d.num (K.TON_MAX p) * 50) (d.driveWord (0x40 + p) % 2147483648)

/-- Does diode emulation apply (R69)? -/
def diode (d : Dev) (p : Nat) : Bool :=
  (d.ph p).draining || (match d.railOf p with
    | some n => (d.rl n).mittenMod || bitAt (d.driveWord (0xD0 + n) % 4294967296) 1
    | none => false)

/-- The first moment at which the comparator may end an on-time (R66). -/
def comparatorFrom (d : Dev) (p : Nat) : Int := max (d.num (K.LEB_NS p)) (d.num (K.TON_MIN p)) * 50

/-- The first moment of `TON_MAX` (R66): not before `TON_MIN`, and not beyond the phase's next slot less `TOFF_MIN`. -/
def tonMaxAt (d : Dev) (p : Nat) : Int :=
  let lim := match d.railOf p with
    | some n =>
      let k := (d.rl n).grid.length
      let s := d.slotOf n p
      let s' := if k ≥ 3 && d.flag (K.ROTATE_EN n) then (s + k - 1) % k else s
      if k = 0 then d.num (K.TON_MAX p) * 50
      else d.num (K.RAIL_PERIOD n) - d.slotAt n s + d.slotAt n s' - d.num (K.TOFF_MIN p) * 50
    | none => d.num (K.TON_MAX p) * 50
  max (d.num (K.TON_MIN p) * 50) (min (d.num (K.TON_MAX p) * 50) lim)

/-- End an on-time: LOW from here with the slew of `EDGE_RATE`, the measured on-time kept, the zero-cross level loaded where
diode emulation applies (R54, R66, R69, R72). -/
def endOn (d : Dev) (p : Nat) (steps : Int) : Dev :=
  let z := d.zcCode p
  let de := d.diode p
  let sl := d.num (K.EDGE_RATE p)
  (d.setNum (K.TON_LAST p) steps).modPh p (fun c =>
    { c with
      out := .low, early := false, dacPeak := if de then z else c.dacPeak, dacSlope := if de then 0 else c.dacSlope, slew := sl,
      offAt := c.onAt + steps })

/-- An on-time is cut at a moment that no command measures: its length, which the channel does measure (R72), is a free value.
Notes, log 6. -/
def cutOn (d : Dev) (p : Nat) : Dev :=
  if (d.ph p).out = .high then
    let r := d.draw
    (r.2.setNum (K.TON_LAST p) r.1).modPh p (fun c => { c with offAt := c.onAt + r.1 })
  else d

/-- An output goes to MID and what was in progress on it ends (R52). -/
def toMid (d : Dev) (p : Nat) : Dev :=
  (d.cutOn p).modPh p (fun c => { c with out := .mid, draining := false, pulse := .none, early := false, deferred := false })

/-- Every output goes to MID (R39, R52, R427, R428). -/
def allMid (d : Dev) : Dev := forUnits 32 (fun p d => d.toMid p) d

/-- Load the DAC with the committed references (R63–R65). -/
def loadDac (d : Dev) (p : Nat) : Dev :=
  let i := d.peakRef p
  let pk := d.peakCode p i
  let sl := d.slopeCode p (d.driveWord (0x20 + p))
  d.modPh p (fun c => { c with dacPeak := pk, dacSlope := sl })

/-- The DAC in 1/256 of its LSB, some fine steps after turn-on (R63, R65): it steps down every 4 ns and stops at code 0. -/
def dacLevel (d : Dev) (p : Nat) (steps : Nat) : Int := max 0 ((d.ph p).dacPeak * 256 - (d.ph p).dacSlope * (steps / 200 : Nat))

/-- Are turn-ons of the phase free of a clock fault, a DISABLE latch and a TERMINATE input (R39, R68)? -/
def unblocked (d : Dev) (p : Nat) : Bool := !d.xoFaulty && !(d.ph p).latch && (d.ph p).terms.isEmpty

/-- May the phase turn on in its slot (R52, R59, R68, R75, R76, R79)? One whose single pulse is still on waits for its drain
(R61). -/
def mayFire (d : Dev) (p : Nat) : Bool :=
  let c := d.ph p
  d.unblocked p && c.inGrid && c.inSet && decide (c.wc ≠ 0) && !c.skip && (decide (c.out ≠ .high) || decide (c.pulse = .on))
    && !c.pkTest && d.board.ioS

/-- Does the phase still drain (R61, R69)? A single pulse drains after its on-time (R87). -/
def drains (d : Dev) (p : Nat) : Bool := (d.ph p).draining || decide ((d.ph p).pulse ≠ .none)

/-- Turn-on `at_` fine steps into the rail period (R63). A turn-on whose peak reference is zero leaves MID (R52). -/
def turnOn (d : Dev) (p : Nat) (at_ : Int) : Dev :=
  if d.peakRef p ≤ 0 then d.modPh p (fun c => { c with out := .mid, deferred := false })
  else
    let t := d.timedNext p
    let cmd := d.timedOn p
    let sl := d.num (K.EDGE_RATE p)
    (d.loadDac p).modPh p (fun c =>
      { c with
        out := .high, timed := t, early := false, draining := false, fired := true, realign := false, deferred := false, onAt := at_,
        slew := sl, tonCmd := cmd })

/-- The earliest moment at which a phase may turn on again (R61): `TOFF_MIN` after its turn-off, and not before its drain's
end. -/
def freeAt (d : Dev) (p : Nat) : Int := max ((d.ph p).offAt + d.num (K.TOFF_MIN p) * 50) (d.ph p).restAt

/-- A turn-on of a phase in slot `s` of its rail (R60, R61, R63): the slots of a period fire in order, each once. It is put
off where the phase drains or has not been off for `TOFF_MIN`. Notes, log 64. -/
def fireSlot (d : Dev) (n p s : Nat) : Dev :=
  let t := d.slotAt n s
  let d1 := d.modRl n (fun r => { r with slot := s + 1 })
  if d.drains p || decide (t < d.freeAt p) then d1.modPh p (fun c => { c with deferred := true, onAt := t }) else d1.turnOn p t

/-- SLOT_TURN_ON (R60, R63). -/
def slotTurnOn (d : Dev) (p : Nat) : Dev :=
  match d.railOf p with
  | some n => if d.mayFire p && decide ((d.rl n).slot ≤ d.slotOf n p) then d.fireSlot n p (d.slotOf n p) else d
  | none => d

/-- DEFERRED_TURN_ON (R61): a turn-on that was put off comes at the end of the wait. -/
def deferredTurnOn (d : Dev) (p : Nat) : Dev :=
  if d.mayFire p && (d.ph p).deferred && !d.drains p then
    (d.turnOn p (max (d.ph p).onAt (d.freeAt p))).bump (K.DEFER_COUNT p) 16
  else d

/-- PEAK_COMPARATOR_TRIP (R63, R66): `imon` in 1/256 of the DAC's LSB has reached the DAC's level; before blanking and
`TON_MIN` the output is only noted. -/
def peakTrip (d : Dev) (p steps imon : Nat) : Dev :=
  let c := d.ph p
  if c.out = .high ∧ c.timed = false ∧ c.pulse = .none ∧ (imon : Int) ≥ d.dacLevel p steps then
    if (steps : Int) ≥ d.comparatorFrom p then d.endOn p steps else d.modPh p (fun c => { c with early := true })
  else d

/-- BLANKING_END (R66). -/
def blankingEnd (d : Dev) (p : Nat) : Dev :=
  let c := d.ph p
  if c.out = .high ∧ c.timed = false ∧ c.pulse = .none ∧ c.early = true then d.endOn p (d.comparatorFrom p) else d

/-- TON_MAX_EXPIRY (R66, R86). -/
def tonMaxExpiry (d : Dev) (p : Nat) : Dev :=
  let c := d.ph p
  if c.out = .high ∧ c.timed = false ∧ c.pulse = .none then
    let first := !d.bit (K.PHASE_STATUS p) 10
    let d1 := (d.endOn p (d.tonMaxAt p)).putBit (K.PHASE_STATUS p) 10 true
    (d1.bump (K.TONMAX_COUNT p) 16).causeIf first p 0x04
  else d

/-- TIMED_TURN_OFF (R67): by the command with which the on-time began. -/
def timedTurnOff (d : Dev) (p : Nat) : Dev :=
  let c := d.ph p
  if c.out = .high ∧ c.timed = true ∧ c.pulse = .none then d.endOn p c.tonCmd else d

/-- The result of a single pulse (R87), from IMON at its turn-off and the time to the zero crossing. -/
def pulseResult (d : Dev) (p : Nat) (i zero : Int) : Dev :=
  (d.setObj (K.PULSE_RESULT p) (.bytes (leBytes 4 (d.num (K.TON_LAST p)) ++ leBytes 4 i ++ leBytes 4 zero ++
    leBytes 4 (d.ph p).pulseVin))).modPh p (fun c => { c with pulseI := none, pulseZero := none })

/-- A zero crossing in diode emulation: MID, and the end of a drain (R69). A single pulse then has its result, once the placed
hold of its turn-off is converted (R87). -/
def zeroCross (d : Dev) (p : Nat) (steps : Int) : Dev :=
  let c := d.ph p
  let d1 := if c.pulse = .drain then
      match c.pulseI with
      | some i => d.pulseResult p i steps
      | none => d.modPh p (fun c => { c with pulseZero := some steps })
    else d
  d1.modPh p (fun c => { c with out := .mid, draining := false, pulse := .none, restAt := if c.draining then c.offAt + steps else c.restAt })

/-- ZERO_CROSSING (R69). -/
def zeroCrossing (d : Dev) (p steps : Nat) : Dev :=
  let c := d.ph p
  if c.out = .low ∧ d.diode p = true ∧ (c.timed = false ∨ c.pulse = .drain) then d.zeroCross p steps else d

/-- TIMED_ZERO_CROSSING (R69): the spec gives no time of the model's predicted zero, a free value. Notes, log 6. -/
def timedZeroCrossing (d : Dev) (p : Nat) : Dev :=
  let c := d.ph p
  if c.out = .low ∧ d.diode p = true ∧ c.timed = true ∧ c.pulse = .none then d.draw.2.zeroCross p d.draw.1 else d

/-- Do the modulators and the current converters run (R38, R425, R427)? -/
def hrpRuns (d : Dev) : Bool := decide (d.power = .active) && decide (d.boot ≠ .held)

/-- IMON at the turn-off of a single pulse is known (R87). -/
def pulseImon (d : Dev) (p : Nat) (i : Int) : Dev :=
  let c := d.ph p
  match c.pulseZero with
  | some z => d.pulseResult p i z
  | none => if c.pulse = .drain then d.modPh p (fun c => { c with pulseI := some i }) else d

/-- IMON_CONVERSION (R70–R72) while the converters run; conversions in a row at an end of the range are counted (R198). -/
def imonConversion (d : Dev) (p : Nat) (code : Int) : Dev :=
  if !d.hrpRuns then d
  else
    let i := d.imonCurrent p code
    let d1 := (d.setNum (K.ISENSE p) i).modPh p (fun c =>
      { c with placed := false, imonCode := code.toNat, rangeN := if code ≤ 1 ∨ code ≥ 4094 then c.rangeN + 1 else 0 })
    if (d.ph p).placed then (d1.setNum (K.ISENSE_PLACED p) i).pulseImon p i else d1

/-- PLACED_HOLD (R71, R86): a second request before the first is converted, or one after the next turn-on, is
dropped. -/
def placedHold (d : Dev) (p : Nat) (late : Bool) : Dev :=
  if !d.hrpRuns || decide (d.num (K.ISAMPLE_MODE p) = 0) then d
  else if late || (d.ph p).placed then
    ((d.putBit (K.PHASE_STATUS p) 4 true).bump (K.ISAMPLE_LATE_COUNT p) 16).cause p 0x05
  else d.modPh p (fun c => { c with placed := true })

/-- Force MID at once with a DISABLE latch (R68, R86). The codes: 01h trip, 02h SG fault, 03h command. -/
def disablePhase (d : Dev) (p code : Nat) : Dev :=
  ((d.toMid p).modPh p (fun c => { c with latch := true })).cause p code

/-- A TERMINATE input asserts: the on-time ends, its length a free value as in `cutOn`; new turn-ons are blocked (R68). A
single pulse goes on with its drain (R87); no hold was placed before such a turn-off, and the IMON of its result is a free value.
Notes, log 6. -/
def terminatePhase (d : Dev) (p id : Nat) : Dev :=
  let i := d.draw
  let d0 := if (d.ph p).pulse = .on then i.2.modPh p (fun c => { c with pulse := .drain, draining := true, pulseI := some i.1 }) else d
  let d1 := if (d.ph p).out = .high then (d0.draw.2).endOn p d0.draw.1 else d0
  d1.modPh p (fun c => { c with terms := if c.terms.contains id then c.terms else id :: c.terms, deferred := false })

/-- A TERMINATE input is released: regulation resumes at the next slot (R68). -/
def releaseTerm (d : Dev) (p id : Nat) : Dev := d.modPh p (fun c => { c with terms := c.terms.filter (· ≠ id) })

/-- Put a phase at MID outside every set: its rail is off or it leaves (R52, R248). -/
def parkPhase (d : Dev) (p : Nat) : Dev :=
  (d.toMid p).modPh p (fun c => { c with inSet := false, inGrid := false, w := 0, wc := 0, ramp := .none, skip := false })

/-- May PHASE_CMD = 1 act (R58)? -/
def realignRule (d : Dev) (p : Nat) : Reason :=
  let c := d.ph p
  if c.inSet || c.out = .high || c.pulse ≠ .none || c.draining then .busy else .none

/-- REALIGN (R58). -/
def realign (d : Dev) (p : Nat) : Dev := d.modPh p (fun c => { c with realign := true })

/-- RELEASE (R68). -/
def releaseLatch (d : Dev) (p : Nat) : Dev := d.modPh p (fun c => { c with latch := false })

/-- May PHASE_CMD = 4 act (R87)? A trip-comparator test keeps the output at MID (R283); notes, log 58. -/
def pulseRule (d : Dev) (p : Nat) : Reason :=
  let c := d.ph p
  if c.inSet || c.out ≠ .mid || (d.sg (p / 4)).st ≠ .present || c.pkTest then .busy else .none

/-- SINGLE_PULSE (R87): its on-time and the VIN of the edge before are fixed here. Where turn-ons are blocked, or the modulators
stand still, nothing fires (R68, R425, R427). Notes, log 69. -/
def singlePulse (d : Dev) (p : Nat) : Dev :=
  let v := d.sampleWord 2
  let t := d.num (K.PULSE_TON p)
  let sl := d.num (K.EDGE_RATE p)
  if d.hrpRuns && d.unblocked p then
    d.modPh p (fun c => { c with out := .high, pulse := .on, pulseVin := v, pulseTon := t, pulseI := none, pulseZero := none, slew := sl })
  else d

/-- SINGLE_PULSE_TURN_OFF (R87): the placed hold of the turn-off, then the drain. No command says when in the rail period it
comes: that moment is a free value. Notes, log 6. -/
def singlePulseTurnOff (d : Dev) (p : Nat) : Dev :=
  let z := d.zcCode p
  let sl := d.num (K.EDGE_RATE p)
  let r := d.draw
  if (d.ph p).pulse = .on then
    (r.2.setNum (K.TON_LAST p) ((d.ph p).pulseTon * 50)).modPh p (fun c =>
      { c with out := .low, pulse := .drain, draining := true, placed := true, dacPeak := z, dacSlope := 0, slew := sl, offAt := r.1 })
  else d

/-- May `PHASE_RAIL` be written (R73)? -/
def phaseRailRule (d : Dev) (p : Nat) : Reason :=
  let c := d.ph p
  if c.inSet || c.out ≠ .mid then .inUse else .none

/-- The base period of a rail: its base-period drive word, else `RAIL_FSW` (R55, R99). -/
def basePeriod (d : Dev) (n : Nat) : Int :=
  let w := d.driveWord (0x90 + n) % 4294967296
  if w ≠ 0 then w else roundDiv 50000000 (d.num (K.RAIL_FSW n))

/-- The period with the spread value in 1/65536 % (R41, R55). -/
def spreadPeriod (t v : Int) : Int := roundDiv (t * (6553600 + v)) 6553600

/-- The rotation index at a rail period start (R60, R62). -/
def nextRot (old new : List Nat) (rot : Nat) (rotate : Bool) : Nat :=
  if new.length < 3 then 0
  else if old = new then (if rotate then (rot + 1) % new.length else rot)
  else
    let q := if rotate && decide (old.length ≥ 3) then old.getD ((rot + 1) % old.length) 0 else old.getD 0 0
    match new.findIdx? (fun p => decide (p ≥ q)) with
    | some i => i
    | none => 0

/-- Objects of apply point S that a rail period start of MP n settles: those of its phases and of the rail, and the
phase group's spread (R57, R41). -/
def railS (d : Dev) (n key : Nat) : Bool :=
  let idx := key / 256
  let u := key % 256 - 1
  (decide (0x2300 ≤ idx) && decide (idx < 0x2320) && d.assigned n u) ||
    (decide (0x23C0 ≤ idx) && decide (idx < 0x23D0) && decide (u = n)) ||
    (decide (0x2118 ≤ idx) && decide (idx ≤ 0x211A) && decide (u = 0))

/-- Objects of apply point S of one phase (R57, R88). -/
def phaseS (p key : Nat) : Bool := decide (0x2300 ≤ key / 256) && decide (key / 256 < 0x2320) && decide (key % 256 = p + 1)

/-- Apply the waiting writes of apply point S that a moment settles, oldest first (R8, R57). -/
def applyS (d : Dev) (settles : Nat → Bool) : Dev :=
  let now := d.pendS.filter (fun e => settles e.1)
  let d1 := now.foldl (fun d e => d.setObj e.1 e.2) d
  { d1 with pendS := d.pendS.filter (fun e => !settles e.1) }

/-- The Mitten comparison at a rail period start (R81). -/
def mittenSkip (d : Dev) (n : Nat) (p : Nat) : Bool :=
  (d.rl n).mittenMod && decide (2 * d.driveWord p < d.num (K.MITTEN_IPK_MIN n))

/-- RAIL_PERIOD_START (R79): length, active set, rotation, slots; then Mitten mode (R80–R82). -/
def railPeriodStart (d : Dev) (n : Nat) : Dev :=
  if d.power = .active ∧ d.boot = .complete then
    let d1 := d.applyS (d.railS n)
    let t := d1.basePeriod n
    let len := spreadPeriod t (vget d1.clk.spread 0)
    let gone := d1.num (K.RAIL_PERIOD n)
    let old := (d1.rl n).grid
    let new := d1.activeSet n
    let rot := nextRot old new (d1.nat (K.ROT_INDEX n)) (d1.flag (K.ROTATE_EN n))
    let mit := bitAt (d1.driveWord (0x68 + n) % 4294967296) 0
    let d2 := ((d1.setNum (K.RAIL_PERIOD n) len).setNum (K.ROT_INDEX n) rot).modRl n (fun r =>
      { r with tBase := t, basePost := t, grid := new, mittenMod := mit, slot := 0 })
    (d2.railPhases n).foldl (fun d p =>
      let sk := d.mittenSkip n p
      d.modPh p (fun c => { c with
        inGrid := new.contains p, skip := sk, onAt := c.onAt - gone, offAt := c.offAt - gone, restAt := c.restAt - gone })) d2
  else d

/-- Peak references and slopes committed at an edge reload the DACs of on-times in progress (R65). -/
def reloadDacs (d : Dev) : Dev :=
  forUnits 32 (fun p d => if (d.ph p).out = .high && decide ((d.ph p).pulse = .none) then d.loadDac p else d) d

/-- `MOD_STATE` of a rail (R89). -/
def modState (d : Dev) (n : Nat) : Int :=
  if !d.unitOn n then 0
  else if (d.rl n).mittenMod then 3
  else if bitAt (d.driveWord (0xD0 + n) % 4294967296) 1 then 2 else 1

/-- `ACTIVE_MASK` of a rail (R89): of the latest edge. -/
def activeMask (d : Dev) (n : Nat) : Nat := ((d.railPhases n).filter (fun p => (d.ph p).stIn)).foldl (fun m p => m + 2 ^ p) 0

/-- What the status of a phase reports of an edge is latched at it (R68, R88, R89). -/
def statusLatch (d : Dev) : Dev :=
  forUnits 32 (fun p d =>
    let upper := decide (d.driveWord p > d.num (K.IPK_LIMIT p))
    d.modPh p (fun c => { c with stOut := c.out, stIn := c.inSet, stLatch := c.latch, clamped := upper })) d

/-- `PHASE_STATUS` (R88): the sticky bits 10 and 4 are held, the others are the phase's state. -/
def phaseStatus (d : Dev) (p : Nat) : Int :=
  let c := d.ph p
  let w := d.num (K.PHASE_STATUS p)
  let out := match c.stOut with | .low => 0 | .high => 1 | .mid => 2
  let mit := match d.railOf p with | some n => (d.rl n).mittenMod && c.stIn | none => false
  32768 * b2i c.stIn + 16384 * b2i (c.ramp = .adding) + 8192 * b2i (c.ramp = .shedding) + 4096 * b2i (d.diode p) +
    2048 * b2i mit + 1024 * b2i (bitAt w 10) + 256 * out + 128 * b2i c.stLatch + 64 * b2i c.timed + 32 * b2i c.realign +
    16 * b2i (bitAt w 4) + 8 * b2i c.clamped

end Dev

end Sys2Proof.Machine
end

