-- ==== Sys2Proof/Machine/Own.lean ====
section
/-! DEFINITION. Ownership of drive words (R99–R101), active coefficients (R119), and the standard images. -/

namespace Sys2Proof.Machine

/-- Declared drive ranges of the standard programs, first and last word: the words R99 gives their role
(R131). -/
def stdDrives (id : Nat) : List (Nat × Nat) :=
  match id with
  | 1 => [(0x000, 0x05F), (0x090, 0x097), (0x0D0, 0x0D7)]
  | 3 => [(0x060, 0x08F)]
  | 4 => [(0x098, 0x09D)]
  | 5 => [(0x0A0, 0x0CF), (0x0D8, 0x0DF)]
  | _ => []

/-- A standard program of the library (R133): identity and drive ranges; it carries no code here. -/
def stdImage (id : Nat) : Image :=
  { Image.none with id := id, drives := stdDrives id, version := 0x03020000, flags := if id = 1 ∨ id = 4 then 1 else 0 }

/-- Is the image a standard program (R134: LP-MAIN 1, OB-PHASE 2, PM-SHED 3, LP-AUX 4, RM-PLAUS 5)? -/
def Image.standard (g : Image) : Bool := decide (1 ≤ g.kind) && decide (g.kind ≤ 5)

/-- Does the image declare the drive word (R100)? -/
def Image.declares (g : Image) (w : Nat) : Bool := g.drives.any (fun r => decide (r.1 ≤ w) && decide (w ≤ r.2))

namespace Dev

/-- The owner engine of a drive word (R99). -/
def ownerOf (d : Dev) (w : Nat) : Option Nat :=
  let rail := fun n => some (d.nat (K.RAIL_ENGINE n))
  if w < 0x60 then (d.railOf (w % 32)).bind rail
  else if w < 0x90 then some (d.nat K.SHED_ENGINE)
  else if w < 0x98 then rail (w - 0x90)
  else if w < 0x9E then some (d.nat (K.AUX_ENGINE (w - 0x98)))
  else if w < 0xA0 then none
  else if w < 0xD0 then
    let e := d.nat (K.WM_ENGINE ((w - 0xA0) % 24))
    if e < 16 then some e else none
  else if w < 0xD8 then rail (w - 0xD0)
  else if w < 0xE0 then some (d.nat K.PLAUS_ENGINE)
  else none

/-- Does engine `e` own the word (R100)? -/
def owns (d : Dev) (e w : Nat) : Bool := d.ownerOf w == some e

/-- Does the owner of the word run a program that declares it (R101)? -/
def served (d : Dev) (w : Nat) : Bool :=
  match d.ownerOf w with
  | some e => (d.engine e).prog.declares w && decide ((d.engine e).prog.kind ≠ 0)
  | none => false

/-- The drive words a unit needs (R99, R101). -/
def unitWords (d : Dev) (u : Nat) : List Nat :=
  if u < 8 then
    [0x60 + u, 0x68 + u, 0x90 + u, 0xD0 + u, 0xD8 + u] ++ (d.railPhases u).flatMap (fun p => [p, 0x20 + p, 0x40 + p, 0x70 + p])
  else if u < 14 then [0x98 + (u - 8)]
  else []

/-- Would enabling the unit be refused with NO_ENGINE (R101)? -/
def noEngine (d : Dev) (u : Nat) : Bool := (d.unitWords u).any (fun w => !d.served w)

/-- The library default of a coefficient object (R134): that of the standard program which `ENG_PROG_SEL` in force puts on the
engine, 0 for a customer program. -/
def libCoef (d : Dev) (key : Nat) : Int × Nat :=
  let idx := key / 256
  let e := idx / 256 - 0x40
  stdCoef (d.effNum (K.ENG_PROG_SEL e)).toNat (decide (idx % 4 ≥ 2)) (key % 256 - 1 + 128 * (idx % 2))

/-- The value of a coefficient object as mantissa and shift: its own, else the library default. -/
def coefOf (d : Dev) (key : Nat) (v : Val) : Int × Nat :=
  match v with
  | .coef m sh => (m, sh)
  | _ => d.libCoef key

/-- A coefficient as the object holds it: one equal to the library default is the default. -/
def heldCoef (d : Dev) (key : Nat) (c : Int × Nat) : Val := if c = d.libCoef key then .bytes [] else .coef c.1 c.2

/-- Key of entry `c` of a bank; entry 256 is the tag (R122, R134). -/
def coefKey (e : Nat) (bankB : Bool) (c : Nat) : Nat :=
  if c ≥ 256 then (if bankB then K.BANK_TAG_B e else K.BANK_TAG_A e)
  else if bankB then (if c < 128 then K.COEF_B_LO e c else K.COEF_B_HI e (c - 128))
  else if c < 128 then K.COEF_A_LO e c else K.COEF_A_HI e (c - 128)

/-- Entry `c` of a bank of engine `e`, as mantissa and shift (R119, R120). -/
def coefRaw (d : Dev) (e : Nat) (bankB : Bool) (c : Nat) : Int × Nat :=
  let key := coefKey e bankB c
  d.coefOf key (d.obj key)

/-- A bank of engine `e` takes a value for an entry or the tag (R119, R121, R129). -/
def fillCoef (d : Dev) (e : Nat) (bankB : Bool) (c : Nat) (from_ : Nat) (v : Val) : Dev :=
  let key := coefKey e bankB c
  if c ≥ 256 then d.setObj key v else d.setObj key (d.heldCoef key (d.coefOf from_ v))

/-- Entry `c` of the active bank (R121). -/
def coef (d : Dev) (e c : Nat) : Int × Nat := d.coefRaw e (d.engine e).bankB c

/-- The rounded value of an active entry. -/
def coefInt (d : Dev) (e c : Nat) : Int := let k := d.coef e c; roundShift k.1 k.2

/-- The observer engine of a phase (R15). -/
def obEngine (p : Nat) : Nat := 8 + p / 8

end Dev

end Sys2Proof.Machine
end

