-- ==== Sys2Proof/Machine/Loader.lean ====
section
/-! DEFINITION. The loader: program images (R115), load constants (R114), the check of R110 and the worst-case cycle
count of R111. -/

namespace Sys2Proof.Machine

/-- The opcode of an instruction word (R106). -/
def opOf (w : Nat) : Nat := w / 2 ^ 26

/-- A field of an instruction word. -/
def wordField (w lo len : Nat) : Nat := w / 2 ^ lo % 2 ^ len

/-- Cycles of an opcode, where it is defined (R107); of Bcc and LOOP, the cost not taken. -/
def opCost (op : Nat) : Option Nat :=
  if op = 0x03 ∨ op = 0x06 ∨ op = 0x07 ∨ op = 0x25 ∨ op = 0x28 ∨ op = 0x35 then some 2
  else if op = 0x26 then some 20
  else if op ≤ 0x09 then some 1
  else if 0x10 ≤ op ∧ op ≤ 0x24 then some 1
  else if op = 0x29 ∨ op = 0x2A ∨ op = 0x2B then some 1
  else if 0x30 ≤ op ∧ op ≤ 0x36 then some 1
  else if 0x38 ≤ op ∧ op ≤ 0x3A then some 1
  else none

/-- The bits of an opcode's word that are zero: those the format marks zero, and the fields the operation does not use
(R106). -/
def zeroBits (op : Nat) : Nat :=
  if op = 0x03 ∨ op = 0x06 then 0x03FFF000
  else if op = 0x04 then 0x0060F000
  else if op = 0x05 then 0x0003F000
  else if op = 0x08 then 0x03FFFF00
  else if op < 0x10 then 0x03FFFFFF
  else if op = 0x13 ∨ op = 0x17 ∨ op = 0x28 ∨ op = 0x29 then 0
  else if op = 0x18 ∨ op = 0x19 then 0xF83F
  else if op = 0x1E ∨ op = 0x1F ∨ op = 0x22 then 0xFFFF
  else if op = 0x23 ∨ op = 0x24 then 0x1F0000
  else if op = 0x25 ∨ op = 0x26 then 0x3F
  else if op = 0x2A ∨ op = 0x2B then 0xFF00
  else if op = 0x30 then 0x00FFFFFF
  else if op = 0x31 then 0x00E0FFFF
  else if op = 0x32 ∨ op = 0x33 then 0x00E00700
  else if op = 0x34 then 0x00E0003F
  else if op = 0x35 then 0x001C03FF
  else if op = 0x36 then 0x00FF3FFF
  else if op = 0x38 ∨ op = 0x3A then 0xFE00
  else if op = 0x39 then 0xFFE0
  else 0x7FF

/-- Is the word a defined instruction (R106, R110 code 02h)? A condition code that R106 does not list is refused as an
undefined opcode is. Notes, log 18. -/
def wordOk (w : Nat) : Bool :=
  (opCost (opOf w)).isSome && decide (w &&& zeroBits (opOf w) = 0) &&
    !(decide (opOf w = 0x04) && decide (wordField w 23 3 > 5)) &&
    !(decide (opOf w = 0x35) && decide (32 ≤ wordField w 10 6) && decide (wordField w 10 6 < 48))

/-- An instruction word with its LOOP count (kind 0) or immediate (kind 1) replaced (R114). -/
def patchWord (w kind v : Nat) : Nat :=
  if kind = 0 then w - wordField w 18 8 * 2 ^ 18 + (v % 256) * 2 ^ 18 else w - w % 65536 + v % 65536

/-- The code of an image with its load constants filled in (R114). -/
def Image.patched (g : Image) (const : Nat → Nat) : List Nat :=
  g.patches.foldl (fun code p =>
    code.modify (p % 4096) (fun w => patchWord w (wordField p 15 1) (const (wordField p 16 8)))) g.code

/-- Is the LOOP at an address patched (R110, code 04h)? -/
def Image.loopPatched (g : Image) (a : Nat) : Bool :=
  g.patches.any (fun p => decide (p % 4096 = a) && decide (wordField p 15 1 = 0))

/-- Numbers of `n` bytes each from a byte list. -/
def numbers (n count : Nat) (bs : List Byte) : List Nat := (List.range count).map (fun i => ofLe (slice bs (n * i) n))

/-- The image that its bytes spell (R115). -/
def Image.ofBytes (bs : List Byte) : Image :=
  let n := fun off len => ofLe (slice bs off len)
  let code := n 12 2
  let init := n 18 2
  let imp := n 20 2
  let drv := n 22 2
  let pat := n 24 2
  let o1 := 64 + 4 * code
  let o2 := o1 + 4 * init
  let o3 := o2 + 2 * imp
  let o4 := o3 + 4 * drv
  { id := n 4 2, layout := n 6 2, version := n 8 4, code := numbers 4 code (bs.drop 64), entry := n 14 2, flags := n 16 2,
    init := (numbers 4 init (bs.drop o1)).map (fun (x : Nat) => wrap32 x), imports := numbers 2 imp (bs.drop o2),
    drives := (numbers 4 drv (bs.drop o3)).map (fun x => (x % 65536, x / 65536)),
    patches := numbers 4 pat (bs.drop o4), railMask := n 26 2, header := slice bs 0 64, size := bs.length,
    unchecked := false }

/-- The length that the header of an image implies (R115). -/
def Image.length (g : Image) : Nat :=
  64 + 4 * g.code.length + 4 * g.init.length + 2 * g.imports.length + 4 * g.drives.length + 4 * g.patches.length

/-- Header check (R110, code 01h; R115). Counts above the limits of R115 and patches that name no instruction or no
constant are a wrong header. Notes, log 18. -/
def headerOk (bs : List Byte) : Bool :=
  let g := Image.ofBytes bs
  decide (ofLe (slice bs 0 4) = 0x314D594E) && decide (g.length = bs.length) && decide (bs.length ≤ 19200) &&
    decide (1 ≤ g.code.length) && decide (g.code.length ≤ 4096) && decide (g.entry < g.code.length) &&
    decide (g.drives.length ≤ 16) && decide (g.patches.length ≤ 64) && decide (g.flags < 4) &&
    g.patches.all (fun p => decide (p % 4096 < g.code.length) && decide (1 ≤ wordField p 16 8) && decide (wordField p 16 8 ≤ 8)) &&
    decide (ofLe (slice bs 60 4) = crc32 (bs.take 60 ++ bs.drop 64))

/-- The loops of a code: address, last instruction of the body (R107). -/
def loopsOf (code : List Nat) : List (Nat × Nat) :=
  ((List.range code.length).filter (fun a => opOf (code.getD a 0) == 0x05)).map (fun a => (a, code.getD a 0 % 4096))

/-- How many loop bodies of the code contain an address. -/
def loopDepth (loops : List (Nat × Nat)) (a : Nat) : Nat :=
  (loops.filter (fun l => decide (l.1 < a) && decide (a ≤ l.2))).length

/-- A point of the control flow: address, call depth, loop levels that the callers hold. -/
abbrev FlowPt := Nat × Nat × Nat

/-- The points that follow a point (R107). -/
def flowNext (code : List Nat) (loops : List (Nat × Nat)) (x : FlowPt) : List FlowPt :=
  let (a, cd, ld) := x
  let w := code.getD a 0
  let op := opOf w
  if a ≥ code.length then []
  else if op = 0x01 ∨ op = 0x07 then []
  else if op = 0x03 then [(w % 4096, cd, ld)]
  else if op = 0x04 then [(w % 4096, cd, ld), (a + 1, cd, ld)]
  else if op = 0x05 then [(a + 1, cd, ld), (w % 4096 + 1, cd, ld)]
  else if op = 0x06 then (if cd < 4 then [(w % 4096, cd + 1, min 3 (ld + loopDepth loops a))] else []) ++ [(a + 1, cd, ld)]
  else [(a + 1, cd, ld)]

/-- Every point reached from a work list. -/
def flowReach (code : List Nat) (loops : List (Nat × Nat)) : Nat → List FlowPt → List FlowPt → List FlowPt
  | 0, _, seen => seen
  | _, [], seen => seen
  | n + 1, x :: t, seen =>
    if seen.contains x then flowReach code loops n t seen else flowReach code loops n (flowNext code loops x ++ t) (x :: seen)

/-- The first address of a code that meets a condition. -/
def firstAt (code : List Nat) (f : Nat → Nat → Bool) : Option Nat :=
  (List.range code.length).find? (fun a => f a (code.getD a 0))

/-- Is the drive word reserved (R99)? 09Eh and 09Fh stand in no row of the table: they are taken as reserved words without an
owner. Notes, log 18. -/
def driveReserved (w : Nat) : Bool := decide (w = 0x9E) || decide (w = 0x9F) || decide (w ≥ 0xE0)

/-- Is the sample address reserved (R96)? -/
def sampleReserved (a : Nat) : Bool :=
  decide (a = 0x07) || (decide (0x18 ≤ a) && decide (a ≤ 0x1F)) || decide (a = 0x86) || decide (a = 0x87) ||
    (decide (0x95 ≤ a) && decide (a ≤ 0x97)) || decide (0x1C0 ≤ a)

/-- Does a branch leave or enter the body of a loop (R109)? -/
def crosses (loops : List (Nat × Nat)) (a t : Nat) : Bool :=
  loops.any (fun l => (decide (l.1 < a) && decide (a ≤ l.2)) != (decide (l.1 < t) && decide (t ≤ l.2)))

/-- The subroutines that a code calls anywhere, each entered from outside (R110 code 05h). -/
def callPts (code : List Nat) (loops : List (Nat × Nat)) : List FlowPt :=
  ((List.range code.length).filter (fun a => opOf (code.getD a 0) == 0x06)).map (fun a => (code.getD a 0 % 4096, 1, min 3 (loopDepth loops a)))

/-- The structure of a program, code 02h to 0Ah of R110: the first reason with its address. Call depth and cycles are judged over
every call of the code, reached or not; a cycle is a depth above four. -/
def structureFault (g : Image) (code : List Nat) : Option (Nat × Nat) :=
  let loops := loopsOf code
  let seen := (flowReach code loops 400000 [(g.entry, 0, 0)] []).reverse
  let every := (flowReach code loops 400000 (callPts code loops) seen.reverse).reverse
  let at_ := fun (c : Nat) (o : Option Nat) => o.map (fun a => (c, a))
  let pt := fun (c : Nat) (f : FlowPt → Bool) => (seen.find? f).map (fun x => (c, x.1))
  let branch := fun (op : Nat) => op == 0x03 || op == 0x04
  (at_ 0x02 (firstAt code (fun _ w => !wordOk w)))
  <|> (at_ 0x03 (firstAt code (fun a w => branch (opOf w) && decide (w % 4096 ≤ a))))
  <|> (at_ 0x04 (firstAt code (fun a w =>
      (branch (opOf w) && crosses loops a (w % 4096)) ||
      (opOf w == 0x05 && ((decide (wordField w 18 8 = 0) && !g.loopPatched a) || decide (w % 4096 ≤ a) ||
        loops.any (fun l => decide (l.1 < a) && decide (a ≤ l.2) && decide (w % 4096 > l.2)) || decide (loopDepth loops a ≥ 2) ||
        [0x01, 0x02, 0x03, 0x04, 0x06, 0x07].contains (opOf (code.getD (w % 4096) 0)))))))
  <|> (pt 0x04 (fun x => opOf (code.getD x.1 0) == 0x05 && decide (x.1 < code.length) &&
      decide (x.2.2 + loopDepth loops x.1 ≥ 2)))
  <|> ((every.find? (fun x => decide (x.1 < code.length) && ((opOf (code.getD x.1 0) == 0x06 && decide (x.2.1 ≥ 4)) ||
      (opOf (code.getD x.1 0) == 0x07 && decide (x.2.1 = 0))))).map (fun x => (0x05, x.1)))
  <|> (pt 0x06 (fun x => decide (x.1 ≥ code.length) || (opOf (code.getD x.1 0) == 0x01 && decide (x.2.1 > 0))))
  <|> (at_ 0x06 (firstAt code (fun a w => opOf w == 0x02 && decide (opOf (code.getD (a + 1) 0) ≠ 0x01))))
  <|> (if g.drives.any (fun r => (List.range 512).any (fun w => decide (r.1 ≤ w) && decide (w ≤ r.2) && driveReserved w)) ||
        g.drives.any (fun r => decide (r.2 ≥ 512)) then some (0x07, 0) else none)
  <|> (at_ 0x07 (firstAt code (fun _ w => opOf w == 0x3A && decide (wordField w 16 5 = 0) && !g.declares (w % 512))))
  <|> (if g.imports.length > 192 ∨ g.imports.any (fun i => decide (i ≥ 512)) then some (0x08, 0) else none)
  <|> (at_ 0x09 (firstAt code (fun _ w => decide (wordField w 16 5 = 0) &&
      (((opOf w == 0x28 || opOf w == 0x29) && decide (w % 65536 ≥ 0x600)) || (opOf w == 0x38 && sampleReserved (w % 512))))))
  <|> (if g.init.length > 512 then some (0x0A, 0) else none)

/-- `wc(a, stop)` of R111: the longest cost from an address, up to and including `stop` where one is given. -/
def worst (code : List Nat) : Nat → Nat → Option Nat → Nat
  | 0, _, _ => 0
  | n + 1, a, stop =>
    let w := code.getD a 0
    let op := opOf w
    let t := w % 4096
    let c := (opCost op).getD 0
    if stop = some a then c
    else if a ≥ code.length then 0
    else if op = 0x01 ∨ op = 0x07 then c
    else if op = 0x03 then 2 + worst code n t stop
    else if op = 0x04 then max (2 + worst code n t stop) (1 + worst code n (a + 1) stop)
    else if op = 0x05 then
      let k := wordField w 18 8
      if k = 0 then 1 + worst code n (t + 1) stop else 1 + k * worst code n (a + 1) (some t) + worst code n (t + 1) stop
    else if op = 0x06 then 2 + worst code n t none + worst code n (a + 1) stop
    else c + worst code n (a + 1) stop

/-- The budget of a tick rate in MHz (R26). -/
def budgetAt (rate : Nat) : Nat := 800 / max 1 rate - 16

/-- Image length of a standard program (R131). -/
def stdSize (id : Nat) : Nat :=
  match id with
  | 1 => 2356 | 2 => 2900 | 3 => 3524 | 4 => 1612 | 5 => 3088 | _ => 0

namespace Dev

/-- Multiphase rails whose `RAIL_ENGINE` is the engine. -/
def railsOfEngine (d : Dev) (e : Nat) : List Nat := (List.range 8).filter (fun n => d.nat (K.RAIL_ENGINE n) == e)

/-- Bucks whose `AUX_ENGINE` is the engine. -/
def bucksOfEngine (d : Dev) (e : Nat) : List Nat := (List.range 6).filter (fun b => d.nat (K.AUX_ENGINE b) == e)

/-- The phases an observer engine observes that are assigned (R15, R114). -/
def observedOf (d : Dev) (e : Nat) : List Nat :=
  if 8 ≤ e ∧ e < 12 then ((List.range 8).map (· + 8 * (e - 8))).filter (fun p => (d.railOf p).isSome) else []

/-- The load constant of a code for an engine (R114). -/
def loadConst (d : Dev) (e c : Nat) : Nat :=
  match c with
  | 1 => ((d.railsOfEngine e).map (fun n => (d.railPhases n).length)).sum
  | 2 => ((List.range 8).filter d.unitOn).length
  | 3 => ((List.range 32).filter (fun p => (d.railOf p).isSome)).length
  | 4 => (d.observedOf e).length
  | 5 => if d.flag K.OBS_DECIMATE then ((d.observedOf e).length + 1) / 2 else (d.observedOf e).length
  | 6 => ((d.bucksOfEngine e).filter (fun b => d.unitOn (8 + b))).length
  | 7 => b2n (d.flag K.OBS_DECIMATE)
  | 8 => b2n (d.flag K.MITTEN_ALLOW)
  | _ => 0

/-- W of a program on an engine in the present configuration (R27, R111). -/
def wcet (d : Dev) (e : Nat) (g : Image) : Nat :=
  let k := d.loadConst e
  match g.kind with
  | 0 => 0
  | 1 => 88 + 3 * k 1
  | 2 => 40 + 36 * k 5
  | 3 => 56 + (if k 8 = 1 then 10 else 6) * k 2 + 2 * k 3
  | 4 => 30 + 40 * k 6
  | 5 => 40 + 18 * k 2
  | _ => worst (g.patched k) 40000 g.entry none

/-- `ENG_BUDGET` at the rate in force (R26). -/
def budget (d : Dev) : Nat := budgetAt d.clk.rate

/-- The loader's check of an image on an engine against a budget: reason code and address, or none (R110, R113). The
header check of an image from the host is made on its bytes. -/
def checkImage (d : Dev) (e : Nat) (g : Image) (budget : Nat) (bypass : Bool) : Option (Nat × Nat) :=
  if decide (g.kind ≤ 5) then (if d.wcet e g > budget ∧ !bypass then some (0x0B, 0) else none)
  else
    (structureFault g (g.patched (d.loadConst e))) <|>
      (if d.wcet e g > budget ∧ !bypass then some (0x0B, 0) else none)

/-- The library program of an ID (R118, R131): none for ID 0000h, nothing for an ID that holds no image. -/
def library (d : Dev) (id : Nat) : Option Image :=
  if id = 0 then some Image.none
  else if id ≤ 5 then some { stdImage id with size := stdSize id }
  else if 0x8000 ≤ id ∧ id < 0x8004 then
    let g := vget d.nvm.lib (id - 0x8000)
    if g.size = 0 then none else some g
  else none

/-- The device with every accepted write of apply point T carried out: the configuration that R112 and R30 judge. -/
def settled (d : Dev) : Dev := d.pendT.foldl (fun d e => d.setObj e.1 e.2) d

/-- The configuration of the next edge, with the program swaps that wait (R101, R112, R116). -/
def coming (d : Dev) : Dev :=
  let x := d.settled
  { x with eng := x.eng.map (fun g : Engine => if g.swapProg > 0 then { g with prog := g.shadow } else g) }

/-- The engines whose program exceeds a budget in a configuration (R30, R112): a program that was loaded without the check of its
budget is exempt (R113). Notes, log 18. -/
def overBudget (d : Dev) (budget : Nat) : List Nat :=
  (List.range 16).filter (fun e => !(d.engine e).prog.unchecked && decide (d.wcet e (d.engine e).prog > budget))

/-- Would a write make some program exceed the budget (R112)? -/
def budgetRule (d : Dev) (key : Nat) (v : Val) : Reason :=
  let x := d.coming
  let y := x.setObj key v
  if (y.overBudget d.budget).any (fun e => decide (y.wcet e (y.engine e).prog > x.wcet e (x.engine e).prog)) then .budget else .none

end Dev

end Sys2Proof.Machine
end

