-- ==== Sys2Proof/Machine/Protect.lean ====
section
/-! DEFINITION. Units switched on and off, and the fault responses of rails, bucks and LDOs (R220–R222, R241, R245,
R247–R249). Units by their code (R236): rails 0–7, bucks 8–13, LDOs 14–17. -/

namespace Sys2Proof.Machine

/-- `FAULT_STATUS` of a unit. -/
def faultKey (u : Nat) : Nat :=
  if u < 8 then K.FAULT_STATUS u else if u < 14 then K.BK_FAULT_STATUS (u - 8) else K.LDO_FAULT_STATUS (u - 14)

/-- The response object of a fault kind, by sub-index 1 up. -/
def respKey (u sub : Nat) : Nat :=
  if u < 8 then K.FAULT_RESP u (sub - 1) else if u < 14 then K.BK_FAULT_RESP (u - 8) (sub - 1) else K.LDO_FAULT_RESP (u - 14) (sub - 1)

/-- The event source of a unit (R298). -/
def unitSrc (u : Nat) : Nat := 32 + u

/-- Rank of a response (R222): FAULT_PROGRAM, LATCH_OFF, RETRY, RECORD. -/
def respRank (code : Nat) : Nat := match code with | 3 => 3 | 1 => 2 | 2 => 1 | _ => 0

namespace Dev

/-- The code a response object of a unit stands for: the one written, else the default of OC and UV of an LDO, 2 for a keep
rail (R245). -/
def respOf (d : Dev) (u key : Nat) : Nat :=
  match d.obj key with
  | .num i => i.toNat
  | _ => if d.keepRail (u - 14) then 2 else 1

/-- The response code of a fault kind (R220, R241, R245). -/
def response (d : Dev) (u sub : Nat) : Nat := d.respOf u (respKey u sub)

/-- Kinds recorded and not absent since (R221 code 0). -/
def presentKinds (d : Dev) (u : Nat) : Nat :=
  if u < 8 then (d.rl u).present else if u < 14 then (d.bk (u - 8)).present else (d.ld (u - 14)).present

/-- Mark a kind as present or absent. -/
def markKind (d : Dev) (u sub : Nat) (b : Bool) : Dev :=
  let f := fun m : Nat => (Machine.putBit m (sub - 1) b).toNat
  if u < 8 then d.modRl u (fun r => { r with present := f r.present })
  else if u < 14 then d.modBk (u - 8) (fun r => { r with present := f r.present })
  else d.modLd (u - 14) (fun r => { r with present := f r.present })

/-- Does a retry delay run? -/
def retrying (d : Dev) (u : Nat) : Bool := d.bit (faultKey u) 14

/-- Leave Glove mode (R216): event 12h. -/
def gloveLeave (d : Dev) (n : Nat) : Dev :=
  if (d.rl n).glove then
    (d.modRl n (fun r => { r with glove := false, gloveLeft := 0, gloveFb := false, gloveClear := 0, due := r.due &&& 0x19F })).cause (32 + n) 0x12
  else d

/-- The internal load of a regulator that is off follows its object (R248); in SHIP nothing drives the output (R504). -/
def discharges (d : Dev) (key : Nat) (on : Bool) : Bool := !on && d.flag key && decide (d.power ≠ .ship)

/-- The internal loads of the bucks and LDOs follow their objects (R248, R504). -/
def dischargeFollow (d : Dev) : Dev :=
  { d with
    bucks := (Vector.range 6).map (fun b => let x := vget d.bucks b; { x with discharge := d.discharges (K.BK_DISCHARGE b) x.on })
    ldos := (Vector.range 4).map (fun l => let x := vget d.ldos l; { x with discharge := d.discharges (K.LDO_DISCHARGE l) x.on }) }

/-- A unit goes off at an edge (R248): rail phases at MID, buck switches off, LDO pass device off; the internal load of a buck or
an LDO discharges its output where its object says so. -/
def unitOff (d : Dev) (u : Nat) : Dev :=
  let d1 := d.setNum (K.UNIT_ON u) 0
  if u < 8 then
    let d2 := (d1.railPhases u).foldl parkPhase d1
    (d2.gloveLeave u).modRl u (fun r => { r with on := false, rdy := false, rdyN := 0, thrN := 0, done := false })
  else if u < 14 then
    d1.modBk (u - 8) (fun b => { b with on := false, stop := false, out := .mid, ocN := 0, ovN := 0, uvN := 0, discharge := d.flag (K.BK_DISCHARGE (u - 8)) })
  else d1.modLd (u - 14) (fun l => { l with on := false, ramping := false, ilim := false, uvN := 0, discharge := d.flag (K.LDO_DISCHARGE (u - 14)) })

/-- A unit comes on at an edge: DISABLE latches of READY and DEGRADED phases of a rail are released (R68, R221). -/
def unitEnable (d : Dev) (u : Nat) : Dev :=
  let d1 := if decide (u ≥ 14) && d.keepRail (u - 14) then d else d.setNum (K.UNIT_ON u) 1
  if u < 8 then
    let d2 := (d1.railPhases u).foldl (fun d p =>
      let s := d.nat (K.PHASE_SVC_STATE p)
      if s = 3 ∨ s = 4 then d.releaseLatch p else d) d1
    (d2.setNum (K.INTENT_STATE u) 0).modRl u (fun r =>
      { r with on := true, ovN := 0, uvN := 0, ocN := 0, thrN := 0, leftSs := false, retractRun := 0 })
  else if u < 14 then
    d1.modBk (u - 8) (fun b => { b with on := true, ocN := 0, ovN := 0, uvN := 0, discharge := false })
  else d1.modLd (u - 14) (fun l => { l with on := true, ramping := true, uvN := 0, discharge := false })

/-- Ask for the fault program with a mask of groups (R257). -/
def faultRequest (d : Dev) (groups : Nat) : Dev := { d with seqr := { d.seqr with reqFault := d.seqr.reqFault ||| groups } }

/-- The groups of a unit as a mask (R258). -/
def groupMask (d : Dev) (u : Nat) : Nat := 1 <<< d.nat (K.FAULT_GROUP u)

/-- The hardware part of a response that turns a rail off: every phase at MID with a DISABLE latch (R221, R222). -/
def railMid (d : Dev) (n : Nat) : Dev :=
  (d.railPhases n).foldl (fun d p => if (d.ph p).latch then d else d.disablePhase p 0x01) d

/-- What stops at the edge that decides a response, before the response itself (R218, R241, R245). -/
def hardStop (d : Dev) (u : Nat) : Dev :=
  if u < 8 then d.railMid u
  else if u < 14 then d.modBk (u - 8) (fun b => { b with stop := true, out := .mid })
  else d.modLd (u - 14) (fun l => { l with on := false, ramping := false })

/-- The supervisor part of a response (R221): the enable, the retry, the fault program. -/
def respond (d : Dev) (u code : Nat) : Dev :=
  let k := faultKey u
  let d1 := d.cause (unitSrc u) (0x20 + code)
  match code with
  | 1 => (((d1.unitOff u).putBit k 15 true).putBit k 14 false)
  | 2 => ((d1.unitOff u).putBit k 14 true)
  | 3 => ((((d1.unitOff u).putBit k 15 true).putBit k 14 false).faultRequest (d.groupMask u))
  | _ => d1

/-- The rank of the response in force: that of a latch, of a response that waits for the supervisor, of a pending retry, or
none. -/
def rankNow (d : Dev) (u : Nat) : Nat :=
  (d.lateResp.filter (fun e => e.1 == u)).foldl (fun m e => max m (respRank e.2))
    (if d.bit (faultKey u) 15 then 2 else if d.retrying u then 1 else 0)

/-- Is a kind's condition recorded with the response RECORD and not absent since (R221 code 0)? -/
def persists (d : Dev) (u sub : Nat) : Bool := decide (d.response u sub = 0) && (d.presentKinds u).testBit (sub - 1)

/-- The response of the highest rank among some kinds (R222). -/
def topResponse (d : Dev) (u : Nat) (subs : List Nat) : Nat :=
  subs.foldl (fun m s => if respRank (d.response u s) > respRank m then d.response u s else m) 0

/-- Fault kinds of a unit trip at one moment (R220–R222, R241, R245): each is recorded with its event, in sub-index order; the
response of the highest rank runs unless one of the same or a higher rank already holds the unit. A persisting RECORD condition
is recorded once. While the supervisor is absent only the hardware part of the response takes place. -/
def tripList (d : Dev) (u : Nat) (subs : List Nat) : Dev :=
  let live := subs.filter (fun s => !d.persists u s)
  if live.isEmpty then d
  else
    let d1 := live.foldl (fun d s => ((d.putBit (faultKey u) (s - 1) true).markKind u s true).cause (unitSrc u) s) d
    let code := d.topResponse u live
    if code = 0 then d1.cause (unitSrc u) 0x20
    else if respRank code ≤ d.rankNow u then d1
    else
      let d2 := d1.hardStop u
      if d.supRuns then d2.respond u code else { d2 with lateResp := d2.lateResp ++ [(u, code)] }

/-- One fault kind trips. -/
def trip (d : Dev) (u sub : Nat) : Dev := d.tripList u [sub]

/-- The kinds of a mask trip: bit s−1 for the kind of sub-index s. -/
def tripKinds (d : Dev) (u mask : Nat) : Dev := d.tripList u (((List.range 9).filter (fun i => mask.testBit i)).map (· + 1))

/-- The command of a counted kind (R218, R189, R217): where the latest edge has reached its count, every kind that is due at
that edge trips (R222). -/
def tripDue (d : Dev) (n sub : Nat) : Dev :=
  let m := (d.rl n).due
  if m.testBit (sub - 1) then (d.modRl n (fun r => { r with due := 0 })).tripKinds n m else d

/-- A fault kind of a rail is raised between edges: it trips at the next edge (R276). -/
def raiseKind (d : Dev) (n sub : Nat) : Dev := d.modRl n (fun r => { r with due := (Machine.putBit r.due (sub - 1) true).toNat })

/-- The responses that waited for the supervisor run (R222). -/
def lateResponses (d : Dev) : Dev :=
  d.lateResp.foldl (fun d e => if respRank e.2 ≤ d.rankNow e.1 then d else d.respond e.1 e.2) { d with lateResp := [] }

/-- `RETRY_COUNT` of a unit; LDOs have the fixed count 3 (R245). -/
def retryMax (d : Dev) (u : Nat) : Nat :=
  if u < 8 then d.nat (K.RETRY_COUNT u) else if u < 14 then d.nat (K.BK_RETRY_COUNT (u - 8)) else 3

/-- Mark that a retry of the unit has been made (R221). -/
def markRetried (d : Dev) (u : Nat) (b : Bool) : Dev :=
  if u < 8 then d.modRl u (fun r => { r with retried := b })
  else if u < 14 then d.modBk (u - 8) (fun r => { r with retried := b })
  else d.modLd (u - 14) (fun r => { r with retried := b })

/-- Rule of an enable (R247, R112), for a write that changes the state. -/
def enableRule (d : Dev) (p : Src) (u : Nat) : Reason :=
  if p ≠ .seq ∧ (d.seqr.prog = 2 ∨ d.seqr.prog = 3 ∨ d.seqr.prog = 4) then .seqActive
  else if decide (u ≥ 14) && d.keepRail (u - 14) then .keep
  else if d.path.st ≠ .onInput then .noInput
  else if d.bit (faultKey u) 15 then .faultLatched
  else if d.coming.noEngine u then .noEngine
  else d.budgetRule (K.UNIT_ON u) (.num 1)

/-- Rule of a disable (R247). -/
def disableRule (d : Dev) (p : Src) (u : Nat) : Reason :=
  if p ≠ .seq ∧ (d.seqr.prog = 2 ∨ d.seqr.prog = 3 ∨ d.seqr.prog = 4) then .seqActive
  else if decide (u ≥ 14) && d.keepRail (u - 14) then .keep
  else .none

/-- Rule of a write of `UNIT_ON`; one that repeats the present state is accepted (R246, R247). -/
def unitRule (d : Dev) (p : Src) (u : Nat) (v : Int) : Reason :=
  if decide (u ≥ 14) && d.keepRail (u - 14) then d.disableRule p u
  else if v = d.accNum (K.UNIT_ON u) then .none else if v = 0 then d.disableRule p u else d.enableRule p u

/-- A unit comes on again by a retry; a multiphase rail in ECONOMY waits for ACTIVE (R426). -/
def unitBack (d : Dev) (u : Nat) : Dev :=
  if d.power = .economy ∧ u < 8 then { d with pendT := d.pendT ++ [(K.UNIT_ON u, .num 1)] } else d.unitEnable u

/-- The retry delay ends (R221, R241, R245): enable again with one more retry, as an operation of source SEQ, or stay
latched off when none remains. While `xo_fault` is set no rail or buck restarts by itself (R39). -/
def retryEnable (d : Dev) (u : Nat) : Dev :=
  let k := faultKey u
  if d.retrying u && d.supRuns then
    let n := fieldAt (d.num k) 10 4
    let d1 := d.putBit k 14 false
    if d.xoFaulty && decide (u < 14) then d1
    else if n < d.retryMax u then
      if decide (u ≥ 14) && d1.keepRail (u - 14) then
        ((d1.modNum k (fun w => putField w 10 4 (n + 1))).unitEnable u).markRetried u true |>.cause (unitSrc u) 0x24
      else if d1.enableRule .seq u ≠ .none then d1.enter .seq (K.UNIT_ON u) .refused (d1.enableRule .seq u)
      else
      let d2 := (d1.modNum k (fun w => putField w 10 4 (n + 1))).enter .seq (K.UNIT_ON u) .done .none
      ((d2.unitBack u).markRetried u true).cause (unitSrc u) 0x24
    else d1.putBit k 15 true
  else d

/-- Set the retry count to 0 (R221, R241, R245). -/
def retriesClear (d : Dev) (u : Nat) : Dev := (d.modNum (faultKey u) (fun w => putField w 10 4 0)).markRetried u false

/-- Clear a unit's fault status and retry count; a retry delay in progress runs on (R234). -/
def clearFaults (d : Dev) (u : Nat) : Dev :=
  d.modNum (faultKey u) (fun w => 16384 * b2i (bitAt w 14)) |>.markRetried u false

end Dev

end Sys2Proof.Machine
end

