-- ==== Sys2Proof/Machine/Mon.lean ====
section
/-! DEFINITION. Window monitors and the trip-comparator test (R264–R285). Comparator inputs are in µV at the
comparator, behind the divider of R264. -/

namespace Sys2Proof.Machine

namespace Dev

/-- The configuration word of a monitor. -/
def wmCfg (d : Dev) (w : Nat) : Int := d.num (K.WM_CONFIG w)

/-- The comparator of a side. -/
def wmSide (d : Dev) (w : Nat) (upper : Bool) : Cmp := if upper then (d.wm w).upper else (d.wm w).under

/-- Change the comparator of a side. -/
def modSide (d : Dev) (w : Nat) (upper : Bool) (f : Cmp → Cmp) : Dev :=
  d.modWm w (fun m => if upper then { m with upper := f m.upper } else { m with under := f m.under })

/-- Does a configuration word enable the side? -/
def wmEnabled (cfg : Int) (upper : Bool) : Bool := bitAt cfg (if upper then 14 else 15)

/-- Resolution in bits (R266). -/
def wmRes (cfg : Int) : Nat := 6 + fieldAt cfg 11 3

/-- The divider of a monitor's source (R264). -/
def wmDivider (d : Dev) (w : Nat) : Nat :=
  let s := d.nat (K.WM_SOURCE w)
  if s < 0x10 then d.nat (K.VSENSE_DIV (s % 8)) else if s < 0x1A then 3 else 1

/-- A voltage at the node in 2^−12 V as a DAC code (R265). -/
def wmCode (res div : Nat) (v : Int) : Nat :=
  (clampI 0 (2 ^ res - 1) (roundDiv (v * 2 ^ res * 1000) (8388608 * max 1 div))).toNat

/-- Threshold and release codes of a side (R265, R267, R278). -/
def wmCodes (d : Dev) (w : Nat) (upper : Bool) : Nat × Nat :=
  let cfg := d.wmCfg w
  let r := wmRes cfg
  let div := (d.wm w).div
  let h := d.num (K.WM_HYST w)
  if bitAt cfg 5 then
    let t := (d.driveWord ((if upper then 0xB8 else 0xA0) + w) % 4096).toNat / 2 ^ (12 - r)
    let g := roundDiv (h * 2 ^ r * 1000) (8388608 * max 1 div)
    (t, (clampI 0 (2 ^ r - 1) (if upper then t - g else t + g)).toNat)
  else
    let v := d.num (if upper then K.WM_OV_TH w else K.WM_UV_TH w)
    (wmCode r div v, wmCode r div (if upper then v - h else v + h))

/-- The applied threshold in 2^−12 V at the node (R265). -/
def wmAppliedV (d : Dev) (w : Nat) (upper : Bool) : Int :=
  roundDiv ((d.wmSide w upper).thr * 8388608 * (d.wm w).div) (1000 * 2 ^ wmRes (d.wmCfg w))

/-- The half of a route that belongs to a side (R274). -/
def wmRoute (d : Dev) (w : Nat) (upper : Bool) : Nat := fieldAt (d.num (K.WM_ROUTE w)) (if upper then 16 else 0) 16

/-- Route kinds (R274): 0 SYNC, 1 TERMINATE, 2 DISABLE. -/
def routeKind (h : Nat) : Nat := h / 16384
/-- Route targets (R274). -/
def routeTarget (h : Nat) : Nat := h / 1024 % 16

/-- The phases an asynchronous route acts on (R274, R275). -/
def routePhases (d : Dev) (w : Nat) (upper : Bool) : List Nat :=
  let t := routeTarget (d.wmRoute w upper)
  if t < 8 then d.railPhases t
  else (List.range 32).filter (fun p => (d.nat (K.WM_TRIP_MASK w)).testBit p)

/-- Is the side on an asynchronous route? -/
def wmAsync (d : Dev) (w : Nat) (upper : Bool) : Bool := decide (routeKind (d.wmRoute w upper) ≠ 0)

/-- Is sampled operation in force (R272, R273)? -/
def wmSampled (d : Dev) (w : Nat) : Bool :=
  if d.ticking then
    if d.wmAsync w false || d.wmAsync w true then false
    else match fieldAt (d.wmCfg w) 7 2 with
      | 0 => false
      | 1 => true
      | _ => d.flag K.WM_SAMPLED
  else true

/-- Does the monitor run in the present power state (R273)? -/
def wmRuns (d : Dev) (w : Nat) : Bool :=
  match d.power with
  | .dome => bitAt (d.wmCfg w) 6
  | .ship => false
  | _ => true

/-- The identity of a comparator among trip inputs. -/
def cmpId (w : Nat) (upper : Bool) : Nat := 2 * w + b2n upper

/-- A side's capture route reaches its timer (R277); a stopped timer does not capture (R292). -/
def wmCapture (d : Dev) (w : Nat) (upper asserted : Bool) : Dev :=
  let h := d.wmRoute w upper
  if decide (routeKind h = 0) && h.testBit 7 && (h.testBit 6 != asserted) then
    let t := h / 4 % 16
    if d.bit (K.TM_STATUS t) 15 then d.modTm t (fun m => { m with caps := m.caps ++ [0] }) else d
  else d

/-- The action of an asynchronous assertion on one phase (R275). -/
def wmTripPhase (d : Dev) (w : Nat) (upper : Bool) (p : Nat) : Dev :=
  match routeKind (d.wmRoute w upper) with
  | 1 => d.terminatePhase p (cmpId w upper)
  | 2 => d.disablePhase p 0x01
  | _ => d

/-- A comparator becomes ASSERTED and acts on its route (R267, R274–R277). -/
def wmAssertNow (d : Dev) (w : Nat) (upper : Bool) : Dev :=
  let d1 := (d.modSide w upper (fun c => { c with asserted := true, hit := true, settling := decide (c.thr ≠ c.rel) })).bump
    (K.WM_ASSERT_COUNT w) 16
  let h := d1.wmRoute w upper
  if routeKind h = 0 then d1.wmCapture w upper true
  else
    let d2 := (d1.routePhases w upper).foldl (fun d p => d.wmTripPhase w upper p) d1
    let d3 := d2.cause (50 + w) (if upper then 0x06 else 0x05)
    let n := routeTarget h
    if upper && decide (routeKind h = 2) && decide (n < 8) then d3.raiseKind n 1 else d3

/-- A comparator becomes RELEASED (R267). -/
def wmReleaseNow (d : Dev) (w : Nat) (upper : Bool) : Dev :=
  let d1 := d.modSide w upper (fun c => { c with asserted := false, settling := decide (c.thr ≠ c.rel) })
  (forUnits 32 (fun p d => d.releaseTerm p (cmpId w upper)) d1).wmCapture w upper false

/-- The input against a code: above it. -/
def aboveCode (d : Dev) (w code : Nat) (uv : Int) : Bool := decide (uv * 2 ^ wmRes (d.wmCfg w) > code * 2048000)
/-- The input against a code: below it. -/
def belowCode (d : Dev) (w code : Nat) (uv : Int) : Bool := decide (uv * 2 ^ wmRes (d.wmCfg w) < code * 2048000)

/-- Does the input cross the threshold (R267)? -/
def crossesIn (d : Dev) (w : Nat) (upper : Bool) (uv : Int) : Bool :=
  let c := d.wmSide w upper
  if upper then d.aboveCode w c.thr uv else d.belowCode w c.thr uv

/-- Does the input cross the release level (R267)? -/
def crossesOut (d : Dev) (w : Nat) (upper : Bool) (uv : Int) : Bool :=
  let c := d.wmSide w upper
  if upper then d.belowCode w c.rel uv else d.aboveCode w c.rel uv

/-- The decision of R267 on an input. -/
def wmDecide (d : Dev) (w : Nat) (upper : Bool) (uv : Int) : Dev :=
  let c := d.wmSide w upper
  if c.on && !c.settling then
    if c.asserted then (if d.crossesOut w upper uv then d.wmReleaseNow w upper else d)
    else if d.crossesIn w upper uv then d.wmAssertNow w upper else d
  else d

/-- WM_COMPARATOR_ASSERT (R267): the filtered input crosses the threshold of a continuous comparator. -/
def wmAssert (d : Dev) (w : Nat) (upper : Bool) (uv : Int) : Dev :=
  let c := d.wmSide w upper
  if c.on && !c.asserted && !c.settling && decide ((d.wm w).test = 0) && !d.wmSampled w && d.crossesIn w upper uv then
    d.wmAssertNow w upper
  else d

/-- WM_COMPARATOR_RELEASE (R267). -/
def wmRelease (d : Dev) (w : Nat) (upper : Bool) (uv : Int) : Dev :=
  let c := d.wmSide w upper
  if c.on && c.asserted && !c.settling && decide ((d.wm w).test = 0) && !d.wmSampled w && d.crossesOut w upper uv then
    d.wmReleaseNow w upper
  else d

/-- DAC_SETTLE_END (R266, R269): a continuous comparator then acts on the level now in force. -/
def wmSettled (d : Dev) (w : Nat) (upper : Bool) (uv : Int) : Dev :=
  let d1 := d.modSide w upper (fun c => { c with settling := false })
  if decide ((d.wm w).test = 0) && !d.wmSampled w && (d.wmSide w upper).settling then d1.wmDecide w upper uv else d1

/-- WM_SAMPLE_WINDOW (R272, R273). -/
def wmWindow (d : Dev) (w : Nat) (uv : Int) : Dev :=
  if d.wmSampled w && d.wmRuns w && decide ((d.wm w).test = 0) then (d.wmDecide w false uv).wmDecide w true uv else d

/-- ASYNC_TRIP (R68, R275): an asserted asynchronous route acts on one of its phases. -/
def asyncTrip (d : Dev) (w : Nat) (upper : Bool) (p : Nat) : Dev :=
  let c := d.wmSide w upper
  if c.on && c.asserted && decide ((d.wm w).test = 0) && (d.routePhases w upper).contains p then d.wmTripPhase w upper p else d

/-- TRIP_RELEASE (R68): the input of a released comparator leaves a phase. -/
def tripRelease (d : Dev) (w : Nat) (upper : Bool) (p : Nat) : Dev :=
  if (d.wmSide w upper).asserted && d.wmAsync w upper && (d.routePhases w upper).contains p then d
  else d.releaseTerm p (cmpId w upper)

/-- One side follows its settings at an edge (R264, R268, R269, R278). -/
def wmRefreshSide (d : Dev) (w : Nat) (upper : Bool) : Dev :=
  let c := d.wmSide w upper
  let k := d.wmCodes w upper
  if wmEnabled (d.wmCfg w) upper then
    if c.on then
      let was := if c.asserted then c.rel else c.thr
      let now := if c.asserted then k.2 else k.1
      d.modSide w upper (fun c => { c with thr := k.1, rel := k.2, settling := c.settling || decide (was ≠ now) })
    else d.modSide w upper (fun c => { on := true, asserted := true, hit := true, sync := c.sync, settling := true, thr := k.1, rel := k.2 })
  else d.modSide w upper (fun c => { sync := c.sync, thr := k.1, rel := k.2 })

/-- A monitor follows its settings at an edge; asynchronous inputs that no longer act are released (R274). -/
def wmRefresh (d : Dev) (w : Nat) : Dev :=
  let d1 := if (d.wmSide w false).on || (d.wmSide w true).on then d else d.modWm w (fun m => { m with div := max 1 (d.wmDivider w) })
  (d1.wmRefreshSide w false).wmRefreshSide w true

/-- Does an asserted comparator hold a phase on a route of a kind (R274, R275)? A self-test suspends the routes (R280). -/
def wmHolds (d : Dev) (w : Nat) (upper : Bool) (kind p : Nat) : Bool :=
  (d.wmSide w upper).on && (d.wmSide w upper).asserted && decide ((d.wm w).test = 0) && decide (routeKind (d.wmRoute w upper) = kind) &&
    (d.routePhases w upper).contains p

/-- The TERMINATE inputs of every phase are those of the comparators that hold it (R68, R274, R275). -/
def trimTerms (d : Dev) : Dev :=
  { d with phases := (Vector.range 32).map (fun p =>
      { (vget d.phases p) with terms := (List.range 48).filter (fun k => d.wmHolds (k / 2) (decide (k % 2 = 1)) 1 p) }) }

/-- At an edge the filtered states act on the phases that their routes name now (R275): an on-time that a TERMINATE input meets
ends, and a phase that a DISABLE route holds is forced to MID and latched. Notes, log 57. -/
def routesEdge (d : Dev) : Dev :=
  forUnits 32 (fun p d =>
    let d1 := (d.ph p).terms.foldl (fun d k => d.terminatePhase p k) d
    if !(d1.ph p).latch && (List.range 48).any (fun k => d1.wmHolds (k / 2) (decide (k % 2 = 1)) 2 p) then d1.disablePhase p 0x01 else d1)
    d.trimTerms

/-- The synchronous output of one side is latched at an edge; a change commits its event (R271, R277). -/
def wmSyncSide (d : Dev) (w : Nat) (upper sampled : Bool) : Dev :=
  let c := d.wmSide w upper
  let v := c.on && (if sampled then c.asserted else c.hit || c.asserted)
  let h := d.wmRoute w upper
  let d1 := d.modSide w upper (fun c => { c with sync := v, hit := c.asserted })
  if (c.sync != v) && decide (routeKind h = 0) && h.testBit 9 then
    d1.cause (50 + w) ((if upper then 3 else 1) + b2n (!v))
  else d1

/-- The synchronous outputs of a monitor are latched at an edge; during a self-test they hold (R271, R280). -/
def wmSync (d : Dev) (w : Nat) : Dev :=
  if (d.wm w).test ≠ 0 then d
  else
    let s := d.wmSampled w
    (d.wmSyncSide w false s).wmSyncSide w true s

/-- Neither comparator of the monitor asserts at the edge: power is good (R174, R252). -/
def wmGood (d : Dev) (w : Nat) : Bool := !(d.wm w).under.sync && !(d.wm w).upper.sync

/-- Rule of `WM_TEST_CMD` (R280). -/
def wmTestRule (d : Dev) (w : Nat) : Reason :=
  let aims := fun upper => d.wmAsync w upper && (d.routePhases w upper).any (fun p => (d.ph p).inSet)
  let waits := decide (d.seqr.prog ≠ 0) && decide (d.seqr.phase = 1) &&
    (let x := d.num (K.SEQ_STEP_WAIT d.seqr.step)
     (decide (fieldAt x 28 4 = 1) || decide (fieldAt x 28 4 = 2)) && decide (fieldAt x 22 6 = w))
  if aims false || aims true || (List.range 8).any (fun n => d.unitOn n && decide (d.nat (K.RDY_MONITOR n) = w)) || waits || !d.ticking
  then .inUse
  else if (d.wm w).test ≠ 0 then .busy
  else .none

/-- `WM_STATUS` outside a self-test (R284). -/
def wmStatusLive (d : Dev) (w : Nat) : Int :=
  let m := d.wm w
  let act := (d.wmAsync w false && m.under.asserted) || (d.wmAsync w true && m.upper.asserted)
  32768 * b2i m.under.sync + 16384 * b2i m.upper.sync + 8192 * b2i m.under.settling + 4096 * b2i m.upper.settling +
    2048 * b2i (d.wmSampled w && (m.under.on || m.upper.on)) + 1024 * b2i act

/-- `WM_STATUS` (R284); in a self-test it holds its value from before the test beside the test bit (R280). -/
def wmStatus (d : Dev) (w : Nat) : Int := if (d.wm w).test ≠ 0 then (d.wm w).held + 512 else d.wmStatusLive w

/-- A self-test starts (R280): the status holds and the routes are suspended. -/
def wmTestStart (d : Dev) (w kind : Nat) : Dev :=
  let st := d.wmStatusLive w
  ((d.modWm w (fun m => { m with test := kind, held := st })).setNum (K.WM_TEST_RESULT w) (4096 * kind)).trimTerms

/-- WM_TEST_DONE (R280–R282): the checks made, or not applicable where SWAP finds the input outside the release
levels. An inapplicable test is reported as failed (notes, log 16). -/
def wmTestDone (d : Dev) (w : Nat) (uv : Int) (checks : Nat) : Dev :=
  let k := (d.wm w).test
  if k = 0 then d
  else
    let inside := d.aboveCode w (d.wm w).under.rel uv && d.belowCode w (d.wm w).upper.rel uv
    let na := decide (k = 1) && !inside
    let got := if na then 0 else if k = 1 then checks % 4 else checks % 4096
    let pass := decide (got = if k = 1 then 3 else 4095)
    (((d.modWm w (fun m => { m with test := 0 })).setNum (K.WM_TEST_RESULT w) (32768 + 16384 * b2i na + 4096 * k + got)).cause
      (50 + w) (if pass then 0x07 else 0x08)).trimTerms

/-- Rule of a write of `WM_ROUTE` (R274). -/
def wmRouteRule (x : Int) : Reason :=
  let ok := fun h : Nat =>
    if h / 16384 = 0 then decide (h / 1024 % 16 = 0) else decide (h % 1024 = 0)
  if ok (fieldAt x 0 16) && ok (fieldAt x 16 16) then .none else .route

/-- Rule of a write of `WM_CONFIG` (R264, R278). -/
def wmConfigRule (d : Dev) (w : Nat) (x : Int) : Reason :=
  let on := wmEnabled x false || wmEnabled x true
  if on && decide (d.accNum (K.WM_SOURCE w) = 255) then .range
  else if bitAt x 5 && decide (wmRes x > 8) then .resolution
  else if bitAt x 5 && ((wmEnabled x false && !d.coming.served (0xA0 + w)) || (wmEnabled x true && !d.coming.served (0xB8 + w))) then .noEngine
  else .none

/-- Rule of a write of `WM_SOURCE` (R264). -/
def wmSourceRule (d : Dev) (w : Nat) : Reason :=
  let c := d.accNum (K.WM_CONFIG w)
  if wmEnabled c false || wmEnabled c true then .inUse else .none

/-- Rule of a write of `WM_ENGINE` (R284); R284 names no reason, which makes it RANGE (R373). -/
def wmEngineRule (d : Dev) (w : Nat) : Reason :=
  let c := d.accNum (K.WM_CONFIG w)
  if bitAt c 5 && (wmEnabled c false || wmEnabled c true) then .range else .none

/-- A mask of the synchronous outputs of one side (R285). -/
def wmSyncMask (d : Dev) (upper : Bool) : Int :=
  (List.range 24).foldl (fun m w => if (d.wmSide w upper).sync then m + 2 ^ w else m) 0

/-- Rule of `PK_TEST_CMD` (R283). -/
def pkTestRule (d : Dev) (p : Nat) : Reason :=
  let c := d.ph p
  if c.inSet || c.out ≠ .mid || c.realign || c.pulse ≠ .none then .busy else .none

/-- The trip-comparator test starts (R283). -/
def pkTestStart (d : Dev) (p : Nat) : Dev :=
  (d.modPh p (fun c => { c with pkTest := true })).setNum (K.PK_TEST_RESULT p) 0

/-- PK_TEST_DONE (R283). -/
def pkTestDone (d : Dev) (p : Nat) (high low slope : Bool) (time : Nat) : Dev :=
  if (d.ph p).pkTest then
    (d.modPh p (fun c => { c with pkTest := false })).setNum (K.PK_TEST_RESULT p)
      (2147483648 + 1073741824 * b2i high + 536870912 * b2i low + 268435456 * b2i slope + time)
  else d

end Dev

end Sys2Proof.Machine
end

