-- ==== Sys2Proof/Machine/Event.lean ====
section
/-! DEFINITION. The event controller: commit, ESN, INT lines, engine event words, losses (R300–R311), and the detail
bytes of events (R409). -/

namespace Sys2Proof.Machine

/-- The place of a cause in the commit order of one edge (R300): source, code, OSN. -/
def Cause.before (a b : Cause) : Bool :=
  decide (a.src < b.src) || (a.src == b.src && (decide (a.code < b.code) || (a.code == b.code && decide (a.osn ≤ b.osn))))

/-- Insert a cause in order. -/
def insertCause (c : Cause) : List Cause → List Cause
  | [] => [c]
  | x :: t => if c.before x then c :: x :: t else x :: insertCause c t

/-- The causes of one edge in commit order (R300). -/
def sortCauses (cs : List Cause) : List Cause := cs.foldr insertCause []

/-- Insert an event held in DOME by its LF count, then its source (R302). -/
def insertDome (c : Nat × Cause) : List (Nat × Cause) → List (Nat × Cause)
  | [] => [c]
  | x :: t =>
    if decide (c.1 < x.1) || (c.1 == x.1 && decide (c.2.src ≤ x.2.src)) then c :: x :: t else x :: insertDome c t

/-- Bytes cut or padded with zeros to a length. -/
def padTo (n : Nat) (bs : List Byte) : List Byte := slice bs 0 n

namespace Dev

/-- A port word of an engine as released (R97). -/
def portWord (d : Dev) (e w : Nat) : Int := Assoc.get zeroAt (d.engine e).port w

/-- The engine of a rail (R99). -/
def railEngine (d : Dev) (n : Nat) : Nat := d.nat (K.RAIL_ENGINE n)

/-- The verdict committed for a rail (R99, R212). -/
def verdict (d : Dev) (n : Nat) : Nat := (d.driveWord (0xD8 + n) % 4).toNat

/-- The protection voltage (R218), engine units. -/
def protV (d : Dev) (n : Nat) : Int := if d.verdict n = 0 then d.num (K.VREM n) else d.num (K.VLOC n)

/-- The rail current i_m as LP-MAIN published it (R166), engine units. -/
def railCurrent (d : Dev) (n : Nat) : Int := d.portWord (d.railEngine n) 5

/-- `PLAUS_STATUS` of a rail: port word 24 + n of the plausibility engine (R213). -/
def plausStatus (d : Dev) (n : Nat) : Int := d.portWord (d.nat K.PLAUS_ENGINE) (24 + n) % 4294967296

/-- `WM_APPLIED` of a monitor (R284). -/
def wmApplied (d : Dev) (w : Nat) : Int :=
  clampI 0 65535 (d.wmAppliedV w true) * 65536 + clampI 0 65535 (d.wmAppliedV w false)

/-- The engine an engine source and code name (R299). -/
def evEngine (src code : Nat) : Nat := 2 * (src - 104) + code % 2

/-- The detail bytes of an event at its committing edge (R409); `arg` is what the cause itself fixed. -/
def detail (d : Dev) (src code : Nat) (arg : List Byte) : List Byte :=
  if src < 32 then
    if code = 0x22 then
      leBytes 4 (d.num (K.L_EST src)) ++ leBytes 2 (d.num (K.R_EST src)) ++ leBytes 1 (d.num (K.PHASE_WEAR src)) ++ [0] ++
        leBytes 4 (d.num (K.L_QUAL src))
    else
      leBytes 4 (d.num (K.ISENSE src)) ++ leBytes 4 (d.num (K.I_VALLEY src)) ++ leBytes 1 (d.num (K.PHASE_SVC_STATE src)) ++
        leBytes 1 (d.num (K.PHASE_CLASS src)) ++ leBytes 1 (d.num (K.PHASE_DERATE src)) ++ [0]
  else if src < 40 then
    let n := src - 32
    if code < 0x10 || code ≥ 0x20 then leBytes 4 (d.protV n) ++ leBytes 4 (d.railCurrent n) ++ leBytes 4 (d.rl n).cap
    else leBytes 4 (d.num (K.VREM n)) ++ leBytes 4 (d.num (K.VLOC n)) ++ leBytes 4 (d.plausStatus n)
  else if src < 46 then
    let b := src - 40
    leBytes 4 (d.num (K.BK_READ_VOUT b)) ++ leBytes 4 (d.num (K.BK_READ_IOUT b)) ++ leBytes 4 (d.num (K.BK_VOUT_TARGET b))
  else if src < 50 then
    let l := src - 46
    leBytes 4 (d.num (K.HK_RAW (0x17 + l))) ++ padTo 4 arg ++ leBytes 4 (d.num (K.LDO_VOUT l))
  else if src < 74 then
    let w := src - 50
    leBytes 4 (d.wmApplied w) ++ leBytes 2 (d.wmStatus w) ++ [0, 0] ++ leBytes 2 (d.num (K.WM_TEST_RESULT w)) ++ [0, 0]
  else if src < 90 then
    let t := src - 74
    leBytes 4 (d.num (K.TM_COUNT t)) ++ leBytes 4 (d.num (K.TM_CAPTURE t)) ++ leBytes 2 (d.num (K.TM_STATUS t)) ++ [0, 0]
  else if src < 98 then
    leBytes 2 (d.num K.BAT_VOLTAGE) ++ leBytes 2 (d.num K.BAT_CURRENT) ++ leBytes 4 (d.num K.VIN_VALUE) ++
      leBytes 1 d.path.st.code ++ leBytes 1 d.chg.st.code ++ leBytes 2 (d.num K.CHG_FAULT)
  else if 104 ≤ src && src < 112 then
    let e := evEngine src code
    leBytes 4 (d.num (K.OVERRUN_COUNT e)) ++ leBytes 4 (d.num (K.ENG_CYCLES_MAX e)) ++ padTo 4 arg
  else if arg.length > 12 then padTo 16 arg
  else padTo 12 arg

/-- The route word of a source (R304). -/
def route (d : Dev) (s : Nat) : Int := d.num (K.EV_ROUTE s)
/-- The priority of a source (R304). -/
def prio (d : Dev) (s : Nat) : Nat := fieldAt (d.route s) 13 3

/-- Queue an event on one INT line (R305); a full queue keeps the first lost ESN and reports once. -/
def intQueue (d : Dev) (ev : Event) (i : Nat) : Dev :=
  if bitAt (d.route ev.src) (4 + i) && decide ((d.prio ev.src : Int) ≥ d.num (K.INT_MIN_PRIO i)) then
    let l := vget d.ev.ints i
    if l.q.length < 64 then
      { d with ev := { d.ev with ints := vmod d.ev.ints i (fun l => { l with q := l.q ++ [ev] }) } }
    else if l.overflow then d
    else
      ({ d with
        ev := { d.ev with ints := vmod d.ev.ints i (fun l => { l with overflow := true, lost := ev.esn }) } }).cause 126 0x02
  else d

/-- Events lost to the supervisor queue: the span of their ESNs and their number (R303). -/
def loseEvents (d : Dev) (first last n : Nat) : Dev :=
  { d with
    ev := { d.ev with
      lost := some (match d.ev.lost with | some (a, _) => (a, last) | none => (first, last)), lostN := d.ev.lostN + n } }

/-- Queue an event for the supervisor; a full queue loses it (R303). The event that names what was lost takes the place kept for
it. -/
def supQueue (d : Dev) (ev : Event) : Dev :=
  let loss := decide (ev.src = 126) && decide (ev.code = 0x01) && d.ev.lossDue
  if loss then { d with ev := { d.ev with queue := d.ev.queue ++ [ev], lossDue := false } }
  else if d.ev.queue.length + b2n d.ev.lossDue < 1024 then { d with ev := { d.ev with queue := d.ev.queue ++ [ev] } }
  else d.loseEvents ev.esn ev.esn 1

/-- `ESN_NEXT` passes the ESNs of the events that DOME lost (R302). -/
def esnSkip (d : Dev) (next : Nat) : Dev := { d with ev := { d.ev with domeLost := 0, esnNext := next } }

/-- The events DOME could not hold take their ESNs at the first commit edge and are lost (R302). -/
def loseDome (d : Dev) : Dev :=
  let n := d.ev.domeLost
  if n = 0 then d
  else
    let last := (d.ev.esnNext - 1 + (n - 1)) % 4294967295 + 1
    (d.loseEvents d.ev.esnNext last n).esnSkip (nextNo last)

/-- Commit one cause: it takes the next ESN (R300, R301) and enters its queues. -/
def commitOne (flags : Nat) (d : Dev) (c : Cause) : Dev :=
  let esn := d.ev.esnNext
  let (arg, d0) := if 46 ≤ c.src ∧ c.src < 50 then (leBytes 4 d.draw.1, d.draw.2) else (c.arg, d)
  let ev : Event := ⟨esn, c.src, c.code, c.osn, c.count, flags, d0.detail c.src c.code arg⟩
  let d1 := { d0 with ev := { d0.ev with esnNext := nextNo esn, latest := d0.ev.latest ++ [ev] } }
  forUnits 4 (fun i d => d.intQueue ev i) (d1.supQueue ev)

/-- The engine event words of an edge (R307): word 28 + i for the sources of `latest` whose engine bit is set. -/
def engineEventWord (d : Dev) (i : Nat) : Int :=
  (List.range 32).foldl (fun m b =>
    if d.ev.latest.any (fun e => e.src == 32 * i + b) && bitAt (d.route (32 * i + b)) 8 then m + 2 ^ b else m) 0

/-- The event controller writes the engine event words of an edge (R307). -/
def engineEvents (d : Dev) : Dev :=
  forUnits 16 (fun e d =>
    if d.bit K.EV_ENGINE_EN e then
      forUnits 4 (fun i d => d.modEng e (fun g => { g with mailIn := Assoc.set zeroAt g.mailIn (28 + i) (d.engineEventWord i) })) d
    else d) d

/-- Store a further reserve of ESNs when `ESN_NEXT` comes within 2048 of it (R413). -/
def esnReserve (d : Dev) : Dev :=
  if d.supRuns && follows d.ev.esnNext ((d.log.reserve + 4294967296 - 2048) % 4294967296) then
    { d with log := { d.log with reserve := (d.log.reserve + 4096) % 4294967296 } }
  else d

/-- The events of an edge are committed (R300–R305): those held in DOME first, then those of a boot or wake, then the
causes since the previous edge; the INT lines follow their queues. Before `ESN_NEXT` is set by the boot, causes wait (R413). -/
def commitEvents (d : Dev) (keep : Bool) : Dev :=
  let base := b2n (!d.supRuns) + 2 * b2n keep
  let cs := sortCauses d.ev.causes
  let ds := (d.ev.dome.foldr insertDome []).map (·.2)
  if d.ev.esnSet then
    let d1 := { d with ev := { d.ev with causes := [], front := [], dome := [], latest := [] } }
    let d2 := cs.foldl (commitOne base) (d.ev.front.foldl (commitOne base) (ds.foldl (commitOne (base + 4)) d1).loseDome)
    let d3 := { d2 with ev := { d2.ev with ints := d2.ev.ints.map (fun l : IntLine => { l with asserted := !l.q.isEmpty }) } }
    d3.engineEvents.esnReserve
  else { d with ev := { d.ev with latest := [] } }

/-- EVENT_LOSS (R303): space has returned, and the lost ESNs are named; a place of the queue is kept for the event. -/
def eventLoss (d : Dev) : Dev :=
  match d.ev.lost with
  | some (a, b) =>
    if d.ev.queue.length < 1024 ∧ d.ev.lossDue = false then
      let d1 := { d with ev := { d.ev with lost := none, lostN := 0, lossDue := true } }
      (d1.modNum K.EV_LOSS_COUNT (fun x => satU 32 (x + (d.ev.lostN : Int)))).causeArg 126 0x01 0 (leBytes 4 a ++ leBytes 4 b)
    else d
  | none => d

/-- INT_ACK (R305): removes every event of the line with an ESN of `e` or less, in serial order. -/
def intAck (d : Dev) (i e : Nat) : Dev :=
  { d with
    ev := { d.ev with
      ints := vmod d.ev.ints i (fun l =>
        let q := l.q.filter (fun ev => !follows e ev.esn)
        { l with q := q, overflow := l.overflow && !q.isEmpty }) } }

/-- EV_TEST (R311). -/
def evTest (d : Dev) (v : Int) (osn : Nat) : Dev := d.causeArg 126 0x10 osn (leBytes 4 v)

/-- `INT_NEXT` (R311). -/
def intNext (d : Dev) (i : Nat) : List Byte :=
  match (vget d.ev.ints i).q with
  | [] => List.replicate 12 0
  | ev :: _ => leBytes 4 ev.esn ++ leBytes 1 (evClass ev.src) ++ [0] ++ leBytes 1 ev.code ++ leBytes 1 ev.src ++ leBytes 4 ev.osn
where
  /-- The class byte of a source (R298). -/
  evClass (s : Nat) : Nat :=
    if s < 32 then 1 else if s < 40 then 2 else if s < 46 then 3 else if s < 50 then 4 else if s < 74 then 5
    else if s < 90 then 6 else if s < 98 then 7 else if s < 104 then 8 else if s < 112 then 9 else if s < 120 then 10 else 11

/-- `INT_STATUS` (R311). -/
def intStatus (d : Dev) (i : Nat) : Int :=
  let l := vget d.ev.ints i
  32768 * b2i l.asserted + 16384 * b2i l.overflow + l.q.length

end Dev

end Sys2Proof.Machine
end

