-- ==== Sys2Proof/Machine/Regul.lean ====
section
/-! DEFINITION. The bucks and LDOs, keep rails, and the READY, OFF and state views of every unit (R236–R249, R252,
R261–R263). -/

namespace Sys2Proof.Machine

namespace Dev

/-- A feedback code in engine units: 1.25 mV is 81.92 LSB (R238). -/
def buckVolts (code : Int) : Int := roundDiv (code * 8192) 100

/-- The switching period of a buck without spread, in fine steps of 20 ps (R237). -/
def buckBase (d : Dev) (b : Nat) : Int := if d.num (K.BK_FSW b) = 0 then 33333 else 16667

/-- The commanded on-time of the period in progress, in fine steps, at 1/4096 of the period (R237). -/
def buckOnTime (d : Dev) (b : Nat) : Int := (d.bk b).period * ((d.driveWord (0x98 + b) % 65536) / 16) / 4096

/-- Objects of apply point S that a buck's period start settles (R8, R261): its `BK_ILIM`, and the buck group's spread
(R41). -/
def buckS (b key : Nat) : Bool :=
  key == K.BK_ILIM b || key == K.SS_DEPTH 1 || key == K.SS_SHAPE 1 || key == K.SS_RATE 1

/-- May the buck switch (R39, R240, R241)? -/
def buckSwitches (d : Dev) (b : Nat) : Bool :=
  let k := d.bk b
  k.on && !k.vinStop && !k.stop && !d.xoFaulty && d.ticking

/-- BUCK_PERIOD_START (R237, R238, R41): the feedback is converted, the period takes its length, and the on-time begins
unless it is below 50 ns. -/
def buckPeriodStart (d : Dev) (b : Nat) (code : Int) : Dev :=
  if d.ticking then
    let d1 := d.applyS (buckS b)
    let d2 := d1.modBk b (fun k =>
      { k with fb := buckVolts code, period := spreadPeriod (d1.buckBase b) (vget d1.clk.spread 1), limited := false })
    let fires := d2.buckSwitches b && decide (d2.buckOnTime b ≥ 2500)
    d2.modBk b (fun k => if fires then { k with out := .high } else { k with out := .mid, ocN := 0 })
  else d

/-- BUCK_TURN_OFF (R237, R240, R241): at the committed duty, or at the peak limit, which is counted. -/
def buckTurnOff (d : Dev) (b : Nat) (limit : Bool) (mA : Nat) : Dev :=
  if (d.bk b).out = .high then
    let d1 := (d.modBk b (fun k => { k with out := .low, limited := limit, ocN := if limit then k.ocN + 1 else 0 })).setNum
      (K.BK_READ_IOUT b) (satU 16 mA)
    if limit then d1 else d1.markKind (8 + b) 1 false
  else d

/-- BUCK_VIN_UV (R240): every buck stops with both switches off. -/
def buckVinUv (d : Dev) : Dev := forUnits 6 (fun b d => d.modBk b (fun k => { k with vinStop := true, out := .mid })) d

/-- BUCK_VIN_RESUME (R240): enabled bucks resume with a soft-start from the measured output. -/
def buckVinResume (d : Dev) : Dev :=
  forUnits 6 (fun b d => d.modBk b (fun k => if k.vinStop then { k with vinStop := false, wasOn := false, softStart := k.on } else k)) d

/-- In diode emulation the low side of a buck turns off at zero current (R240). No command tells the moment: at an edge it is a
free value whether it has come. Notes, log 6. -/
def buckZero (d : Dev) (b : Nat) : Dev :=
  if (d.bk b).diode && decide ((d.bk b).out = .low) then
    let r := d.draw
    r.2.modBk b (fun k => if r.1 % 2 = 1 then { k with out := .mid } else k)
  else d

/-- The counted kinds of a buck whose number is reached, as a mask (R241). -/
def buckDue (d : Dev) (b : Nat) : Nat :=
  let k := d.bk b
  b2n (decide (k.ocN > 0) && decide ((k.ocN : Int) ≥ d.num (K.BK_OC_COUNT b))) + 2 * b2n (decide (k.ovN ≥ 2)) + 4 * b2n (decide (k.uvN ≥ 8))

/-- Trip of a buck fault kind (R241), together with every counted kind that is due (R222). A fault in a retry delay is taken too
(R221). -/
def buckTrip (d : Dev) (b sub : Nat) (ok : Bool) : Dev :=
  if ((d.bk b).on || d.retrying (8 + b)) && ok then d.tripKinds (8 + b) (2 ^ (sub - 1) ||| d.buckDue b) else d

/-- BK_OC_TRIP (R241). -/
def bkOcTrip (d : Dev) (b : Nat) : Dev := d.buckTrip b 1 ((d.buckDue b).testBit 0)
/-- BK_OV_TRIP (R241). -/
def bkOvTrip (d : Dev) (b : Nat) : Dev := d.buckTrip b 2 ((d.buckDue b).testBit 1)
/-- BK_UV_TRIP (R241). -/
def bkUvTrip (d : Dev) (b : Nat) : Dev := d.buckTrip b 3 ((d.buckDue b).testBit 2)
/-- BK_THERMAL_TRIP (R241, R493). -/
def bkThermalTrip (d : Dev) (b : Nat) : Dev := d.buckTrip b 4 (decide (d.die.run150 ≥ 3))

/-- A buck's target in engine units (R239). -/
def buckTarget (d : Dev) (b : Nat) : Int := (d.bk b).tgt * 16

/-- Does the buck's setpoint still move (R252)? -/
def buckSlewing (d : Dev) (b : Nat) : Bool := decide ((d.bk b).vSp ≠ (d.bk b).tgt * 4096)

/-- OV and UV of a buck are counted at an edge (R241); a buck that the input undervoltage stops raises no UV (R240). -/
def buckCount (d : Dev) (b : Nat) : Dev :=
  let k := d.bk b
  if k.on then
    let y := d.num (K.BK_READ_VOUT b)
    let t := d.buckTarget b
    let ov := decide (100 * y > t * (100 + d.num (K.BK_OV_PCT b)))
    let uv := !k.vinStop && !k.softStart && !d.buckSlewing b && decide (100 * y < t * (100 - d.num (K.BK_UV_PCT b)))
    let d1 := d.modBk b (fun k => { k with ovN := if ov then k.ovN + 1 else 0, uvN := if uv then k.uvN + 1 else 0 })
    let d2 := if ov then d1 else d1.markKind (8 + b) 2 false
    if uv then d2 else d2.markKind (8 + b) 3 false
  else d

/-- The supervisor posts a buck's target: it is latched at the next edge; the latest OSN wins (R239, R171). -/
def postBuck (d : Dev) (b : Nat) (v : Int) (src osn : Nat) : Dev :=
  (d.modBk b (fun k => { k with target := some ⟨v, d.num (K.BK_SLEW b), src, osn⟩ })).setNum (K.BK_VOUT_TARGET b) v

/-- Rule of `BK_VOUT_COMMAND` (R239). -/
def buckCommandRule (d : Dev) (p : Src) : Reason :=
  if p ≠ .seq ∧ (d.seqr.prog = 2 ∨ d.seqr.prog = 3 ∨ d.seqr.prog = 4) then .seqActive else .none

/-- A waiting buck target takes its edge (R239). -/
def buckLatch (d : Dev) (b : Nat) : Dev :=
  d.modBk b (fun k => match k.target with
    | some t => { k with tgt := t.value, tgtRate := t.rate, target := none }
    | none => k)

/-- The measured output of an LDO, mV (R243, R46). -/
def ldoMv (d : Dev) (l : Nat) : Int := (Config.hkValue (0x17 + l) (d.nat (K.HK_RAW (0x17 + l)))).toInt

/-- The setting of an LDO in 2^−12 V: before the image is verified that of its keep-rail record (R244). -/
def ldoSetting (d : Dev) (l : Nat) : Int := if d.boot.rank ≥ 2 then d.num (K.LDO_VOUT l) else (vget d.nvm.keepRec l).vout

/-- The setting rounded to 25 mV steps, mV (R243). -/
def ldoSetMv (d : Dev) (l : Nat) : Int := 25 * roundDiv (d.ldoSetting l * 1000) (25 * 4096)

/-- The value an object holds once a write of it takes effect: `LDO_VOUT` is rounded to the nearest 25 mV step (R243). -/
def heldValue (key : Nat) (v : Val) : Val :=
  if key / 256 = 0x2840 then .num (roundDiv (25 * 4096 * roundDiv (v.int * 1000) (25 * 4096)) 1000) else v

/-- LDO_RAMP_DONE (R243). -/
def ldoRampDone (d : Dev) (l : Nat) : Dev := d.modLd l (fun x => { x with ramping := false })

/-- A new setting of an LDO that is on starts a ramp (R243). -/
def ldoRetarget (d : Dev) (l : Nat) : Dev := d.modLd l (fun x => if x.on then { x with ramping := true } else x)

/-- Trip of an LDO fault kind (R245); a fault in a retry delay is taken too (R221). -/
def ldoTrip (d : Dev) (l sub : Nat) (ok : Bool) : Dev := if ((d.ld l).on || d.retrying (14 + l)) && ok then d.trip (14 + l) sub else d

/-- LDO_OC_TRIP (R245). -/
def ldoOcTrip (d : Dev) (l : Nat) : Dev := (d.modLd l (fun x => { x with ilim := x.on })).ldoTrip l 1 (d.ld l).on
/-- LDO_UV_TRIP (R245). -/
def ldoUvTrip (d : Dev) (l : Nat) : Dev := d.ldoTrip l 2 (decide ((d.ld l).uvN ≥ 3) && !(d.ld l).ramping)
/-- LDO_THERMAL_TRIP (R245, R493). -/
def ldoThermalTrip (d : Dev) (l : Nat) : Dev := d.ldoTrip l 3 (decide (d.die.run150 ≥ 3))

/-- UV of an LDO is counted at its housekeeping conversion, once its ramp has ended (R245). -/
def ldoCount (d : Dev) (l : Nat) : Dev :=
  let low := (d.ld l).on && !(d.ld l).ramping && decide (100 * d.ldoMv l < d.ldoSetMv l * (100 - d.num (K.LDO_UV_PCT l)))
  let d1 := d.modLd l (fun x => { x with uvN := if low then x.uvN + 1 else 0 })
  if low then d1 else d1.markKind (14 + l) 2 false

/-- Is the LDO a keep rail now: by its NVM record before the image is verified, by the image after (R244)? -/
def keepNow (d : Dev) (l : Nat) : Bool := if d.boot.rank ≥ 2 then d.keepRail l else (vget d.nvm.keepRec l).keep

/-- KEEP_RAIL_START (R244). -/
def keepRailStart (d : Dev) (l : Nat) : Dev :=
  if d.keepNow l && !(d.ld l).on && decide (d.power ≠ .ship) && !d.bit (faultKey (14 + l)) 15 && !d.retrying (14 + l) then
    d.modLd l (fun x => { x with on := true, ramping := true, uvN := 0, discharge := false })
  else d

/-- KEEP_RAIL_STOP (R244). -/
def keepRailStop (d : Dev) (l : Nat) : Dev :=
  if d.keepNow l then d.modLd l (fun x => { x with on := false, ramping := false }) else d

/-- READY of a unit (R252). -/
def unitReady (d : Dev) (u : Nat) : Bool :=
  if u < 8 then (d.rl u).rdy
  else if u < 14 then
    let b := u - 8
    let y := d.num (K.BK_READ_VOUT b)
    let t := d.buckTarget b
    (d.bk b).on && !(d.bk b).softStart && !d.buckSlewing b && decide (100 * (y - t).natAbs ≤ t * d.num (K.BK_PG_PCT b))
  else
    let l := u - 14
    let s := d.ldoSetMv l
    (d.ld l).on && !(d.ld l).ramping && decide (100 * (d.ldoMv l - s).natAbs ≤ s * d.num (K.LDO_UV_PCT l))

/-- OFF of a unit (R252). -/
def unitIsOff (d : Dev) (u : Nat) : Bool :=
  let t := d.num (K.OFF_THRESHOLD u)
  if u < 8 then decide (d.protV u < t * 16)
  else if u < 14 then decide (d.num (K.BK_READ_VOUT (u - 8)) < t * 16)
  else decide (d.ldoMv (u - 14) * 4096 < t * 1000)

/-- Does an enable of a multiphase rail wait in ECONOMY for ACTIVE (R426)? -/
def enableWaits (d : Dev) (u : Nat) : Bool :=
  decide (d.power = .economy) && decide (u < 8) && d.pendT.any (fun e => e.1 == K.UNIT_ON u && e.2.int != 0)

/-- `UNIT_STATE` (R263, R426). -/
def unitState (d : Dev) (u : Nat) : Int :=
  if decide (u ≥ 14) && d.keepRail (u - 14) then 4
  else if d.enableWaits u then 1
  else if d.unitOn u then (if d.unitReady u then 2 else 1)
  else if d.bit (faultKey u) 15 || d.retrying u then 3 else 0

/-- `BK_STATUS` (R261). -/
def bkStatus (d : Dev) (b : Nat) : Int :=
  let k := d.bk b
  128 * b2i k.on + 64 * b2i k.softStart + 32 * b2i (d.unitReady (8 + b)) + 16 * b2i (k.on && d.buckSlewing b) +
    8 * b2i k.vinStop + 4 * b2i k.limited

/-- `LDO_STATUS` (R262). -/
def ldoStatus (d : Dev) (l : Nat) : Int :=
  let x := d.ld l
  128 * b2i x.on + 64 * b2i x.ramping + 32 * b2i (d.unitReady (14 + l)) + 16 * b2i (d.keepRail l) + 8 * b2i x.ilim

/-- RETRY_COUNT_RESET (R221, R241, R245): the unit has kept transition done, or READY, for 1 s after a retry. -/
def retryCountReset (d : Dev) (u : Nat) : Dev :=
  let ok := if u < 8 then (d.rl u).retried && (d.rl u).done
    else if u < 14 then (d.bk (u - 8)).retried && d.unitReady u
    else (d.ld (u - 14)).retried && d.unitReady u
  if ok then d.retriesClear u else d

end Dev

end Sys2Proof.Machine
end

