-- ==== Sys2Proof/Machine/Service.lean ====
section
/-! DEFINITION. Phase service, qualification, stage groups and wear (R83–R86, R218, R219, R223–R232). Service states by
their `PHASE_SVC_STATE` code: 0 UNKNOWN, 1 EMPTY, 2 QUALIFYING, 3 READY, 4 DEGRADED, 5 DRAINING, 6 ISOLATED, 7 FAILED,
8 UNASSIGNED. -/

namespace Sys2Proof.Machine

namespace Dev

/-- The service state of a phase. -/
def svcOf (d : Dev) (p : Nat) : Nat := d.nat (K.PHASE_SVC_STATE p)

/-- Enter a service state; a change commits its event (R223). -/
def setSvc (d : Dev) (p s : Nat) : Dev :=
  if d.svcOf p = s then d else (d.setNum (K.PHASE_SVC_STATE p) s).cause p (0x10 + s)

/-- Available to PM-SHED (R223). -/
def available (d : Dev) (p : Nat) : Bool :=
  (decide (d.svcOf p = 3) || decide (d.svcOf p = 4)) && !(d.ph p).latch

/-- The phases of a stage group. -/
def groupPhases (g : Nat) : List Nat := [4 * g, 4 * g + 1, 4 * g + 2, 4 * g + 3]

/-- The assigned phases of a stage group. -/
def assignedOf (d : Dev) (g : Nat) : List Nat := (groupPhases g).filter (fun p => (d.railOf p).isSome)

/-- Is the group judged PRESENT (R84)? -/
def groupPresent (d : Dev) (g : Nat) : Bool := decide ((d.sg g).st = .present)

/-- The PHASE fault kind of a phase's rail (R220); it trips at the next edge. -/
def phaseFault (d : Dev) (p : Nat) : Dev :=
  match d.railOf p with
  | some n => if d.unitOn n || d.retrying n then d.raiseKind n 9 else d
  | none => d

/-- Leave service as FAILED with MID forced (R223). -/
def failPhase (d : Dev) (p : Nat) : Dev := (d.disablePhase p 0x03).setSvc p 7

/-- Enter QUALIFYING with the latch released, without which no pulse of R225 runs (R223, R68). Notes, log 62. -/
def requalify (d : Dev) (p : Nat) : Dev :=
  let d1 := ((d.releaseLatch p).modPh p (fun c => { c with afterSg := false, afterOt := false, qualStage := none })).setSvc p 2
  if d.stageListed p then (d1.lbAskQual p).lbDrop (.sgRead p) else d1

/-- An ADMIT of a phase, by command or automatic (R223): after a replacement it clears the wear bit hot (R229). Notes, log 62. -/
def readmit (d : Dev) (p : Nat) : Dev :=
  let d1 := if (d.ph p).replaced then d.modNum (K.PHASE_WEAR p) (fun w => w - fieldAt w 2 1 * 4) else d
  (d1.modPh p (fun c => { c with replaced := false })).requalify p

/-- A phase follows the PRESENT judgement of its group (R223, R228). -/
def followPresent (d : Dev) (p : Nat) : Dev :=
  let s := d.svcOf p
  if s = 0 then d.requalify p
  else if s = 1 then (if d.flag (K.AUTO_ADMIT (p / 4)) then d.readmit p else d.setSvc p 6)
  else if (s = 3 ∨ s = 4) ∧ (d.ph p).afterSg = true then d.requalify p
  else d

/-- A phase follows the ABSENT judgement of its group (R223): its module is out. -/
def followAbsent (d : Dev) (p : Nat) : Dev :=
  let s := d.svcOf p
  if s = 1 ∨ s = 8 then d
  else if s = 0 then d.setSvc p 1
  else
    let d1 := (d.parkPhase p).setSvc p 1
    let d2 := d1.modPh p (fun c => { c with afterSg := false, afterOt := false, replaced := true })
    if s = 3 ∨ s = 4 then d2.phaseFault p else d2

/-- The group's phases follow a judgement. -/
def svcFollow (d : Dev) (g : Nat) : Dev :=
  match (d.sg g).st with
  | .present =>
    let again := (d.assignedOf g).any (fun p => (d.ph p).afterSg)
    let d1 := (d.assignedOf g).foldl followPresent d
    if again then d1.modSg g (fun l => { l with window := d.nat K.SG_REFAULT_WINDOW * 1000000 }) else d1
  | .absent => (d.assignedOf g).foldl followAbsent d
  | _ => d

/-- A phase that is UNKNOWN meets a group already judged (R223). -/
def svcUnknown (d : Dev) (p : Nat) : Dev :=
  if d.supRuns = true ∧ d.svcOf p = 0 then
    match (d.sg (p / 4)).st with
    | .present => d.requalify p
    | .absent => d.setSvc p 1
    | _ => d
  else d

/-- An accepted assignment takes effect (R73, R223); the objects of apply point S of a phase without a rail settle (R57). -/
def assignPhase (d : Dev) (p : Nat) (v : Int) : Dev :=
  let old := d.num (K.PHASE_RAIL p)
  let d1 := d.setNum (K.PHASE_RAIL p) v
  if v = old then d1
  else if v = 255 then (d1.applyS (phaseS p)).setSvc p 8
  else if old = 255 then d1.setSvc p 0
  else (d1.setNum (K.QUAL_RESULT p) 0).setSvc p 0

/-- An SG fault of a group (R84, R85, R228): active phases at MID with a latch; a second fault within the window fails
all four. -/
def sgFault (d : Dev) (g : Nat) : Dev :=
  let again := decide ((d.sg g).window > 0)
  let d1 := (d.bump (K.SG_FAULT_COUNT g) 16).modSg g (fun l => { l with window := 0 })
  (groupPhases g).foldl (fun d p =>
    let s := d.svcOf p
    let act := (d.ph p).inSet
    let d2 := if act then (d.disablePhase p 0x02).phaseFault p else d
    if again && decide (s ≠ 8) then d2.failPhase p
    else if s = 3 ∨ s = 4 then
      let d3 := (d2.toMid p).modPh p (fun c => { c with afterSg := true, latch := true })
      if d.stageListed p then d3.lbAsk (.sgRead p) else d3
    else d2) d1

/-- SG_FAULT_COMPARATOR (R85): FAULT at once. In a line already judged FAULT it is a fault once more where phases are active. -/
def sgComparator (d : Dev) (g : Nat) : Dev :=
  let was := (d.sg g).st
  let d1 := d.modSg g (fun l => { l with st := .fault, cand := .fault, run := 0 })
  if was = .fault ∧ (groupPhases g).all (fun p => !(d.ph p).inSet) = true then d1 else d1.sgFault g

/-- The class of an SG level in mV (R83). -/
def sgClass (mv : Int) : SgClass :=
  if mv < 200 then .fault else if mv < 350 then .invalid else if mv ≤ 1450 then .present
  else if mv ≤ 1600 then .invalid else .absent

/-- The temperature of an SG level, LSB 0.0625 °C (R83, R90). -/
def sgTemp (d : Dev) (g : Nat) (mv : Int) : Int :=
  clampI (-32768) 32767 (roundDiv ((mv - d.num (K.SG_TEMP_V0 g)) * 16000) (d.num (K.SG_TEMP_GAIN g)))

/-- Temperature runs of a present group (R218, R219). -/
def sgRuns (d : Dev) (g : Nat) : Dev :=
  let t := d.num (K.SG_TEMP g)
  d.modSg g (fun l =>
    let cool := if t < d.num (K.SG_OT_WARN g) - 80 then l.coolRun + 1 else 0
    { l with
      otRun := if t > d.num (K.SG_OT_FAULT g) then l.otRun + 1 else 0,
      warnRun := if t > d.num (K.SG_OT_WARN g) then l.warnRun + 1 else 0,
      coolRun := cool, warn := l.warn && decide (cool < 3) })

/-- `SG_TEMP` takes a scan's temperature, and `TEMP_HIST` its highest (R83, R232). Notes, log 76. -/
def sgTempSet (d : Dev) (g : Nat) (t : Int) : Dev :=
  let bs := slice (d.obj (K.TEMP_HIST g)).bs 0 24
  (d.setNum (K.SG_TEMP g) t).setObj (K.TEMP_HIST g) (.bytes (patch bs 20 (leBytes 2 (max (ofLeSigned (slice bs 20 2)) t))))

/-- One scan of an SG line (R83, R84). -/
def sgScan (d : Dev) (g : Nat) (mv : Int) : Dev :=
  let cls := sgClass mv
  let l := d.sg g
  if cls = .fault then d.sgComparator g
  else if !d.supRuns then d
  else
    let idle := (groupPhases g).all (fun p => decide ((d.ph p).out = .mid))
    let run := if cls = .present ∧ idle = false then 0 else if l.cand = cls then l.run + 1 else 1
    let d1 := d.modSg g (fun l => { l with cand := cls, run := min run 3 })
    let d2 := if run ≥ 3 ∧ l.st ≠ cls then
        let d3 := d1.modSg g (fun l => { l with st := cls })
        if cls = .invalid then (if l.st = .fault then d3 else d3.sgFault g) else d3.svcFollow g
      else d1
    if (d2.sg g).st = .present ∧ cls = .present then (d2.sgTempSet g (d2.sgTemp g mv)).sgRuns g else d2

/-- PM-SHED's policy entry as posted (R162). -/
def polNum (d : Dev) (key : Nat) : Int := (Assoc.get objDefault d.pol key).int

/-- Capacity of a set of phases of a rail (R161), engine units. -/
def capacityOf (d : Dev) (n : Nat) (ps : List Nat) : Int :=
  if ps.isEmpty then 0
  else
    let a := ps.length
    let s := (ps.map (fun p => d.num (K.PHASE_DERATE p))).foldl (· + ·) 0
    roundDiv (d.polNum (K.ILIM_AT n (a - 1)) * 16 * s) (128 * a)

/-- The available phases of a rail (R223). -/
def availOf (d : Dev) (n : Nat) : List Nat := (d.railPhases n).filter d.available

/-- The lowest count of available phases is not met (R220). -/
def capacityLow (d : Dev) (n : Nat) : Bool :=
  decide (((d.availOf n).length : Int) < d.num (K.MIN_PHASES n))

/-- Rule of a service command on phases (R227): 1 DRAIN, 2 DRAIN_FORCE, 3 ADMIT. -/
def svcRule (d : Dev) (ps : List Nat) (cmd : Int) : Reason :=
  if cmd = 3 then
    if ps.all (fun p => (d.svcOf p = 6 || d.svcOf p = 7 || d.svcOf p = 1) && d.groupPresent (p / 4)) then .none else .busy
  else if !ps.all (fun p => decide (d.svcOf p = 3) || decide (d.svcOf p = 4)) then .busy
  else if cmd = 2 then .none
  else if (List.range 8).all (fun n =>
      !ps.any (d.assigned n) ||
        decide (10 * (d.rl n).iF ≤ 9 * 65536 * d.capacityOf n ((d.availOf n).filter (fun p => !ps.contains p))))
  then .none else .capacity

/-- An accepted service command (R223, R227). -/
def svcRun (d : Dev) (ps : List Nat) (cmd : Int) : Dev :=
  if cmd = 3 then ps.foldl readmit d
  else ps.foldl (fun d p => d.setSvc p 5) d

/-- A DRAINING phase out of the active set and at MID is ISOLATED (R223). -/
def settleDrain (d : Dev) (p : Nat) : Dev :=
  let c := d.ph p
  if d.supRuns = true ∧ d.svcOf p = 5 ∧ c.inSet = false ∧ c.out = .mid then (d.disablePhase p 0x03).setSvc p 6 else d

/-- Does a stage status word report a fault (R363)? -/
def stageFaulty (d : Dev) (w : BitVec 16) : Bool := decide (w.toNat &&& d.nat K.LB_STAGE_FAULT_MASK ≠ 0)

/-- The inductance of a single pulse, pH (R225). -/
def pulseL (d : Dev) (p : Nat) (r : QualResult) : Int :=
  let vo := match d.railOf p with | some n => d.protV n | none => 0
  roundDiv ((r.vin - vo) * d.num (K.PULSE_TON p) * 1000) (256 * max 1 r.ip)

/-- The failure code of a qualification, 0 where it passes (R225). -/
def qualCode (d : Dev) (p : Nat) (r : QualResult) : Nat :=
  let vo := match d.railOf p with | some n => d.protV n | none => 0
  let lq := d.pulseL p r
  let nom := d.coefInt (obEngine p) 5
  let tol := d.num K.QUAL_L_TOL
  let num := r.ip * lq * 64
  let lbBad := d.stageListed p && (match (d.ph p).qualStage with | some (some w) => d.stageFaulty w | _ => true)
  if !d.groupPresent (p / 4) then 0x01
  else if r.sgDip then 0x02
  else if r.offMean.natAbs > d.nat K.QUAL_OFFSET_MAX then 0x03
  else if r.offSpread > 8 then 0x04
  else if lbBad then 0x05
  else if r.ip < 512 then 0x06
  else if (lq - nom).natAbs * 100 > tol * nom then 0x07
  else if 5 * vo ≥ 65536 ∧ ((r.zero : Int) * 5 * vo - num).natAbs * 100 > tol * num then 0x08
  else if !r.drained then 0x09
  else 0

/-- Does the qualification have the answer of its stage where one is listed (R225)? -/
def qualReady (d : Dev) (p : Nat) : Bool := !d.stageListed p || (d.ph p).qualStage.isSome

/-- What a qualification records and where it leaves the phase (R225, R226). -/
def qualEnd (d0 : Dev) (p : Nat) (r : QualResult) (code : Nat) : Dev :=
  let d := d0.lbDrop (.qualRead p)
  let lq := d.pulseL p r
  let d1 := d.setNum (K.QUAL_RESULT p) code
  let d2 := if code = 0 ∨ code > 4 then d1.setNum (K.IMON_OFFSET_MEAS p) r.offMean else d1
  let d3 := if code = 0 ∨ code > 5 then
      d2.setObj (K.PULSE_RESULT p) (.bytes (leBytes 4 (d.num (K.PULSE_TON p) * 50) ++ leBytes 4 r.ip ++ leBytes 4 (Int.ofNat r.zero) ++
        leBytes 4 r.vin))
    else d2
  if code = 0 then
    let d4 := ((d3.setNum (K.L_QUAL p) lq).modNum (K.PHASE_WEAR p) (fun w => w - w % 4)).setNum (K.PHASE_DERATE p) 128
    (d4.modPh p (fun c => { c with reseed := some lq, realign := true, deratJ := 0, out := .mid, inSet := false, w := 0, wc := 0 })).setSvc p 3
  else d3.failPhase p

/-- QUALIFY_PHASE (R223–R226): step 3 waits for the read of a listed stage, which has its turn on LB (R364). -/
def qualifyPhase (d0 : Dev) (p : Nat) (r : QualResult) : Dev :=
  if d0.svcOf p = 2 ∧ d0.supRuns = true ∧ d0.boot.rank ≥ 3 then
    let early := d0.qualCode p r
    if 1 ≤ early ∧ early ≤ 4 then d0.qualEnd p r early
    else
      let d := if d0.qualReady p then d0 else d0.lbAskQual p
      if d.qualReady p then d.qualEnd p r (d.qualCode p r) else d
  else d0

/-- The supervisor's read of a listed stage after an SG fault (R228). -/
def stageReport (d : Dev) (p : Nat) (w : BitVec 16) : Dev :=
  if (d.svcOf p = 3 ∨ d.svcOf p = 4) ∧ (d.ph p).afterSg = true ∧ d.stageFaulty w = true then
    (d.modPh p (fun c => { c with afterSg := false })).failPhase p
  else d

/-- STAGE_OT_TRIP (R218). -/
def stageOtTrip (d : Dev) (g : Nat) : Dev :=
  if d.supRuns = true ∧ (d.sg g).otRun ≥ 3 then
    (d.assignedOf g).foldl (fun d p =>
      if d.svcOf p = 3 ∨ d.svcOf p = 4 then ((d.modPh p (fun c => { c with afterOt := true })).cause p 0x21).setSvc p 5 else d) d
  else d

/-- SG_OT_WARNING (R219, R178). -/
def sgOtWarning (d : Dev) (g : Nat) : Dev :=
  if d.supRuns = true ∧ (d.sg g).warnRun ≥ 3 ∧ (d.sg g).warn = false then
    let d1 := (d.modSg g (fun l => { l with warn := true })).cause (4 * g) 0x20
    forUnits 8 (fun n d => if (groupPhases g).any (d.assigned n) then
      d.modRl n (fun r => { r with avsAlerts := r.avsAlerts ||| 4096 }) else d) d1
  else d

/-- AUTO_READMIT (R223). -/
def autoReadmit (d : Dev) (p : Nat) : Dev :=
  let g := p / 4
  if d.supRuns = true ∧ d.svcOf p = 6 ∧ (d.ph p).afterOt = true ∧ d.flag (K.AUTO_ADMIT g) = true ∧ d.groupPresent g = true ∧
      d.num (K.SG_TEMP g) < d.num (K.SG_OT_WARN g) then d.requalify p
  else d

/-- Minutes of temperature bin `b` of a group (R230). -/
def tempBin (d : Dev) (g b : Nat) : Nat := ofLe (slice (d.obj (K.TEMP_HIST g)).bs (4 * b) 4)

/-- WEAR_BIT_SET (R229): bit 0 l_drift, 1 r_high, 2 hot. -/
def wearBitSet (d : Dev) (p bit : Nat) : Dev :=
  let lq := d.num (K.L_QUAL p)
  let ok := match bit with
    | 0 => decide (((d.num (K.L_EST p) - lq).natAbs : Int) * 100 > d.num K.WEAR_L_TOL * lq)
    | 1 => decide (d.num (K.R_EST p) * 100 > d.coefInt (obEngine p) 6 * (100 + d.num K.WEAR_R_TOL))
    | _ => decide ((d.tempBin (p / 4) 4 : Int) > d.num K.WEAR_HOT_LIMIT)
  if ok && !d.bit (K.PHASE_WEAR p) bit && d.supRuns then (d.putBit (K.PHASE_WEAR p) bit true).cause p 0x22 else d

/-- The bin of a temperature (R230). -/
def tempBinOf (t : Int) : Nat := if t < 1120 then 0 else if t < 1360 then 1 else if t < 1600 then 2 else if t ≤ 1840 then 3 else 4

/-- TEMP_HIST_MINUTE (R230). -/
def tempHistMinute (d : Dev) : Dev :=
  if d.supRuns then
    forUnits 8 (fun g d =>
      if d.groupPresent g then
        let t := d.num (K.SG_TEMP g)
        let b := tempBinOf t
        let bs := slice (d.obj (K.TEMP_HIST g)).bs 0 24
        d.setObj (K.TEMP_HIST g) (.bytes (patch bs (4 * b) (leBytes 4 (satU 32 (d.tempBin g b + 1)))))
      else d) d
  else d

end Dev

end Sys2Proof.Machine
end

