-- ==== Sys2Proof/Machine/Log.lean ====
section
/-! DEFINITION. The event recorder (R405–R422). -/

namespace Sys2Proof.Machine

/-- Every position of the main region and the spare region (R405). -/
def mainBlocks : Nat := 108
/-- Blocks of the spare region. -/
def spareBlocks : Nat := 4

/-- Is an EV121 event recorded whatever its route holds (R411)? -/
def recordedAlways (src code : Nat) : Bool :=
  src == 121 && (decide (1 ≤ code) && decide (code ≤ 5) || code == 0x10 || (decide (0x50 ≤ code) && decide (code ≤ 0x57)) ||
    (decide (0x60 ≤ code) && decide (code ≤ 0x6F)))

/-- The format byte of an event's record (R407). -/
def recordFormat (src code : Nat) : Nat :=
  if src ≠ 121 then 1 else if code = 0x10 then 2 else if code = 3 then 3 else if code ≥ 0x50 then 4 else 1

/-- Is it the event of a boot after a reset, whose payload is the 16 bytes of `RESET_INFO` (R433)? Notes, log 22. -/
def isBoot (e : Event) : Bool := e.src == 123 && decide (1 ≤ e.code) && decide (e.code ≤ 9)

/-- The payload of an event's record (R408, R410, R411, R418, R433). -/
def recordPayload (e : Event) : List Byte :=
  if recordFormat e.src e.code = 1 && !isBoot e then leBytes 1 e.count ++ leBytes 1 e.flags ++ [0, 0] ++ padTo 12 e.detail else padTo 16 e.detail

/-- The 32 bytes of a record (R405, R406). -/
def recordBytes (e : Event) : List Byte :=
  let b := leBytes 1 (recordFormat e.src e.code) ++ leBytes 1 (Dev.intNext.evClass e.src) ++ leBytes 1 e.code ++ leBytes 1 e.src ++
    leBytes 4 e.esn ++ leBytes 4 e.osn ++ recordPayload e
  b ++ leBytes 4 (crc32 b)

/-- What an empty position reads as (R407). -/
def emptyRecord : List Byte := List.replicate 32 0

/-- What a record reads as: format FEh where its position cannot be read (R407, R416). -/
def LogRec.read (r : LogRec) : List Byte := if r.readable then r.bytes else 0xFE :: List.replicate 31 0

namespace Dev

/-- Blocks of the main region in use, and of the spare region. -/
def goodMain (d : Dev) : List Nat := (List.range mainBlocks).filter (fun b => !d.log.badMain.contains b)
/-- Good blocks of the spare region. -/
def goodSpare (d : Dev) : List Nat := (List.range spareBlocks).filter (fun b => !d.log.badSpare.contains b)

/-- `LOG_CAPACITY` (R420, R423). -/
def logCapacity (d : Dev) : Nat := 64 * d.goodMain.length

/-- `LOG_COUNT` (R423). -/
def logCount (d : Dev) : Nat := d.log.recs.length

/-- The record at an index (R415). -/
def logAt (d : Dev) (i : Nat) : List Byte :=
  match d.log.recs[i]? with
  | some r => r.read
  | none => emptyRecord

/-- The records that are whole: a torn position has no ESN to go by (R414). Notes, log 44. -/
def logWhole (d : Dev) : List LogRec := d.log.recs.filter (fun r => !r.torn)
/-- ESN of the first and of the last record; 0 when the log is empty (R423). -/
def logFirst (d : Dev) : Nat := match d.logWhole.head? with | some r => r.esn | none => 0
/-- ESN of the last record. -/
def logLast (d : Dev) : Nat := match d.logWhole.getLast? with | some r => r.esn | none => 0

/-- `LOG_STATUS` (R423). -/
def logStatus (d : Dev) : Int :=
  let l := d.log
  32768 * b2i l.full + 16384 * b2i (!l.badMain.isEmpty || !l.badSpare.isEmpty) + 8192 * b2i l.inSpare + 4096 * b2i l.stopped +
    2048 * b2i l.spareFailed + 1024 * b2i l.clearRun

/-- `LOG_MEDIA_MAP` (R423). -/
def logMediaMap (d : Dev) : List Byte :=
  let mask := fun (base : Nat) => (List.range 8).foldl (fun m b => if d.log.badMain.contains (base + b) then m + 2 ^ b else m) 0
  (List.range 14).map (fun i => BitVec.ofNat 8 (mask (8 * i))) ++
    leBytes 1 ((List.range 4).foldl (fun m b => if d.log.badSpare.contains b then m + 2 ^ b else m) 0 : Nat) ++ [0]

/-- Does the log take the event (R304, R411)? -/
def logTakes (d : Dev) (e : Event) : Bool :=
  recordedAlways e.src e.code || (bitAt (d.route e.src) 12 && decide ((d.prio e.src : Int) ≥ d.num K.LOG_MIN_PRIO))

/-- A record is added to the sequence, in the block its position lies in. -/
def logAppend (d : Dev) (r : LogRec) : Dev := { d with log := { d.log with recs := d.log.recs ++ [r] } }

/-- The record of an event at the next position of a region. -/
def recordOf (d : Dev) (e : Event) (spare : Bool) : LogRec :=
  { esn := e.esn, bytes := recordBytes e, spare := spare,
    block := if spare then d.goodSpare.getD (d.log.spareUsed / 64) 0 else d.goodMain.getD (d.log.mainUsed / 64) 0 }

/-- An event the log would have taken is counted as dropped (R417, R419). -/
def logDrop (d : Dev) : Dev := d.bump K.LOG_DROPPED 32

/-- EV121 04h: recording stops, 1 for a full spare region, 2 for a failed one (R419). -/
def stopEvent (d : Dev) (how : Nat) : Dev := d.causeArg 121 0x04 0 (leBytes 1 how)

/-- A record takes a position of the spare region (R418, R419); the last position is kept for EV121 04h, which is committed
when every other one has been written. -/
def spareTake (d : Dev) (r : LogRec) : Dev :=
  let d1 := d.logAppend r
  let used := d.log.spareUsed + 1
  let d2 := { d1 with log := { d1.log with spareUsed := used } }
  if used + 1 = 64 * d.goodSpare.length then
    { d2 with log := { d2.log with stopped := true } }.stopEvent 1
  else d2

/-- A spare region without a good block is full: recording stops, and no position is left to say so. Notes, log 81. -/
def spareNone (d : Dev) : Dev :=
  (if d.log.stopped then d else { d with log := { d.log with stopped := true } }.stopEvent 1).logDrop

/-- A record is written to the spare region. -/
def spareWrite (d : Dev) (e : Event) : Dev := if d.goodSpare.isEmpty then d.spareNone else d.spareTake (d.recordOf e true)

/-- ESNs of the first and the last record of a block of a region (R418). -/
def blockSpan (d : Dev) (spare : Bool) (b : Nat) : List Byte :=
  let rs := d.logWhole.filter (fun r => r.spare == spare && r.block == b)
  leBytes 4 (match rs.head? with | some r => r.esn | none => 0 : Nat) ++ leBytes 4 (match rs.getLast? with | some r => r.esn | none => 0 : Nat)

/-- EV121 03h of a block: its region, the kind of fault, its number, its span and the positions made unreadable (R418). -/
def mediaFault (d : Dev) (spare : Bool) (kind b : Nat) (span : List Byte) (lost : Nat) : Dev :=
  d.causeArg 121 0x03 0 (leBytes 1 (b2n spare) ++ leBytes 1 kind ++ leBytes 2 b ++ span ++ leBytes 4 lost)

/-- A block of the spare region fails (R418, R419): it is bad, and where recording is not over already it stops at once. -/
def spareBad (d : Dev) (kind b : Nat) (span : List Byte) (lost : Nat) (stops : Bool) : Dev :=
  let l := d.log
  let d1 := { d with log := { l with badSpare := l.badSpare ++ [b], stopped := true, spareFailed := l.spareFailed || stops } }
  let d2 := d1.mediaFault true kind b span lost
  if stops then d2.stopEvent 2 else d2

/-- A record fails its program-verify in the spare region (R419). -/
def spareFail (d : Dev) : Dev :=
  let b := d.goodSpare.getD (d.log.spareUsed / 64) 0
  if d.goodSpare.isEmpty then d.spareNone else (d.spareBad 1 b (d.blockSpan true b) 0 true).logDrop

/-- A record takes a position of the main region (R417); the last usable position is kept for EV121 02h, which is committed
when every other one has been written. -/
def mainTake (d : Dev) (r : LogRec) : Dev :=
  let d1 := d.logAppend r
  let used := d.log.mainUsed + 1
  let d2 := { d1 with log := { d1.log with mainUsed := used } }
  if used + 1 = d.logCapacity then { d2 with log := { d2.log with full := true } }.cause 121 0x02 else d2

/-- A record is written to the main region. -/
def mainWrite (d : Dev) (e : Event) : Dev := d.mainTake (d.recordOf e false)

/-- A record fails its program-verify in the main region (R418): the block is bad, recording goes on in the spare region,
the record first, then the media fault record; a log that was about to be full goes on there too (R421). -/
def mainFail (d : Dev) (e : Event) : Dev :=
  let b := d.goodMain.getD (d.log.mainUsed / 64) 0
  let d1 := { d with log := { d.log with badMain := d.log.badMain ++ [b], inSpare := true, full := false } }
  (d1.spareWrite e).mediaFault false 1 b (d.blockSpan false b) 0

/-- A read finds an uncorrectable ECC error at the position of an index (R418): the position becomes unreadable and its block
is bad. In the main region recording goes on in the spare region, but where the log was full; in the spare region it stops
(R419). A log-full record that is still to be written moves to the spare region (R421). -/
def logEcc (d : Dev) (i : Nat) : Dev :=
  match d.log.recs[i]? with
  | some r =>
    let l := d.log
    let d1 := { d with log := { l with recs := l.recs.set i { r with readable := false } } }
    let span := d.blockSpan r.spare r.block
    if r.readable = false ∨ (if r.spare then l.badSpare else l.badMain).contains r.block = true then d1
    else if r.spare then d1.spareBad 2 r.block span 1 (!l.stopped || decide (l.spareUsed < 64 * d.goodSpare.length))
    else
      let due := l.full && decide (l.mainUsed < d.logCapacity)
      { d1 with log := { d1.log with badMain := l.badMain ++ [r.block], inSpare := l.inSpare || !l.full || due, full := l.full && !due } }.mediaFault
        false 2 r.block span 1
  | none => d

/-- A read of positions from a cursor on meets the errors that stand there (R418). -/
def logMeet (d : Dev) (c : Nat) (reads : Nat → Bool) : Dev := (d.log.flaws.filter reads).foldl (fun d r => d.logEcc (c + r)) d

/-- Something is done whose read of the log meets uncorrectable ECC errors at these positions from the cursor on (R418). -/
def meeting (d : Dev) (flaws : List Nat) (f : Dev → Dev) : Dev :=
  if flaws = [] then f d
  else
    let x := f { d with log := { d.log with flaws := flaws } }
    { x with log := { x.log with flaws := [] } }

/-- Is it a record that stops, or tells of, recording? -/
def isLog (e : Event) (code : Nat) : Bool := e.src == 121 && e.code == code

/-- One record meets the log as it stands (R417–R419). -/
def logWrite (d : Dev) (e : Event) (ok : Bool) : Dev :=
  let l := d.log
  if l.stopped then
    if isLog e 4 && !l.spareFailed && decide (l.spareUsed < 64 * d.goodSpare.length) then
      if ok then { d.logAppend (d.recordOf e true) with log := { (d.logAppend (d.recordOf e true)).log with spareUsed := l.spareUsed + 1 } }
      else d.spareFail
    else d.logDrop
  else if l.full && !(isLog e 2 && !l.inSpare) then
    if isLog e 3 then (if ok then d.spareWrite e else d.spareFail) else d.logDrop
  else if l.inSpare then (if ok then d.spareWrite e else d.spareFail)
  else if isLog e 2 then
    if ok then { d.logAppend (d.recordOf e false) with log := { (d.logAppend (d.recordOf e false)).log with mainUsed := l.mainUsed + 1 } }
    else d.mainFail e
  else if ok then d.mainWrite e else d.mainFail e

/-- The clear record is composed and held with the clear-pending flag (R420). -/
def clearCompose (d : Dev) (e : Event) : Dev :=
  let e1 := { e with detail := leBytes 4 d.logLast ++ leBytes 4 d.logCount ++ leBytes 4 (d.num K.LOG_DROPPED) }
  { d with log := { d.log with clearing := some { esn := e.esn, bytes := recordBytes e1 } } }

/-- The clear ends (R420): its flag is cleared, and its operation is over. -/
def clearEnd (d : Dev) : Dev :=
  { d with log := { d.log with clearRun := false, clearing := none, clearLeft := none } }.endOp K.LOG_CLEAR .none

/-- The clear ends once no record committed meanwhile is left to write (R420). -/
def clearStep (d : Dev) : Dev := if d.log.clearLeft = some 0 then d.clearEnd else d

/-- One more record is written; a clear counts those committed meanwhile (R420). -/
def clearCount (d : Dev) : Dev := { d with log := { d.log with clearLeft := d.log.clearLeft.map (· - 1) } }.clearStep

/-- Does the erase of a clear run, so that records wait (R420)? -/
def erasing (d : Dev) : Bool := d.log.clearing.isSome && d.log.clearLeft.isNone

/-- Is the record that leaves the queue the one whose clear is still to be composed (R420)? -/
def composes (d : Dev) (e : Event) : Bool := d.log.clearRun && d.log.clearing.isNone && isLog e 5

/-- LOG_RECORD_WRITE (R412): the first record that waits. While a held clear erases, the others wait for it (R420). -/
def logRecordWrite (d : Dev) (ok : Bool) : Dev :=
  match d.log.wait with
  | [] => d
  | e :: rest =>
    if !d.supRuns || d.erasing then d
    else
      let d1 := { d with log := { d.log with wait := rest } }
      if d.composes e then d1.clearCompose e else (d1.logWrite e ok).clearCount

/-- The region of the record that is being written now, if one is: `some true` for the spare region (R414). -/
def logWriting (d : Dev) : Option Bool :=
  let l := d.log
  let spare := if d.goodSpare.isEmpty then none else some true
  match l.wait with
  | [] => none
  | e :: _ =>
    if !d.supRuns || d.erasing || d.composes e then none
    else if l.stopped then (if isLog e 4 && !l.spareFailed then spare else none)
    else if l.full && !(isLog e 2 && !l.inSpare) then (if isLog e 3 then spare else none)
    else if l.inSpare then spare else some false

/-- The position that a loss of power left takes its place (R414): it reads as written, and where its CRC fails it is torn. -/
def takeTorn (d : Dev) (spare : Bool) (b : List Byte) : Dev :=
  let whole := decide (ofLe (slice b 28 4) = crc32 (b.take 28))
  let r : LogRec := {
    esn := if whole then ofLe (slice b 4 4) else 0, bytes := b, torn := !whole, spare := spare
    block := if spare then d.goodSpare.getD (d.log.spareUsed / 64) 0 else d.goodMain.getD (d.log.mainUsed / 64) 0 }
  if spare then d.spareTake r
  else if d.log.full then { d.logAppend r with log := { (d.logAppend r).log with mainUsed := d.log.mainUsed + 1 } }
  else d.mainTake r

/-- Is the last position of the log torn (R414)? -/
def lastTorn (d : Dev) : Bool := match d.log.recs.getLast? with | some r => r.torn | none => false

/-- A boot finds the end of the log (R414): a last position that is torn is counted, also one that an earlier boot found;
recording goes on after it. `x`: what the position reads of a record that a loss of power caught while it was written. -/
def logTorn (d : Dev) (x : Option (List Byte)) : Dev :=
  let d0 := { d with log := { d.log with tearing := none } }
  let d1 := match d.log.tearing, x with
    | some spare, some bs => d0.takeTorn spare (padTo 32 bs)
    | _, _ => d0
  { d1 with log := { d1.log with torn := b2n d1.lastTorn } }

/-- Everything of the log but the bad-block map starts anew, with the clear record at index 0 (R420). -/
def logErase (d : Dev) (r : LogRec) : Dev :=
  let d1 := { d with log := { d.log with
    recs := [{ r with block := d.goodMain.getD 0 0, spare := false }], mainUsed := 1, spareUsed := 0, full := false, inSpare := false,
    stopped := false, spareFailed := false } }
  forUnits 4 (fun i d => d.setNum (K.LOG_CURSOR i) 0) (d1.setNum K.LOG_DROPPED 0)

/-- LOG_CLEAR_DONE (R420): the erase is complete and the clear record stands at index 0; the records committed meanwhile follow
before the flag is cleared and the operation ends. -/
def logClearDone (d : Dev) : Dev :=
  match d.log.clearing with
  | some r =>
    if d.supRuns && d.erasing then
      let d1 := d.logErase r
      { d1 with log := { d1.log with clearLeft := some d.log.wait.length } }.clearStep
    else d
  | none => d

/-- Rule of `LOG_CLEAR` (R420). -/
def logClearRule (d : Dev) (v : Int) : Reason :=
  if v ≠ 0x65706977 then .signature else if d.log.clearRun then .busy else .none

/-- An accepted `LOG_CLEAR` (R420). -/
def logClear (d : Dev) (osn : Nat) : Dev := { d with log := { d.log with clearRun := true } }.causeOsn 121 0x05 osn

/-- LOG_TIME_MARK (R410). -/
def logTimeMark (d : Dev) (p : Src) (bs : List Byte) (osn : Nat) : Dev :=
  d.causeArg 121 0x10 osn (padTo 12 bs ++ leBytes 1 ((p.iface.getD 0 : Nat)) ++ [0, 0, 0])

/-- The cursor that a seek gives (R415). -/
def seekIndex (d : Dev) (e : Nat) : Nat :=
  match d.log.recs.findIdx? (fun r => !r.torn && r.esn == e) with
  | some i => i
  | none => match d.log.recs.findIdx? (fun r => !r.torn && follows r.esn e) with
    | some i => i
    | none => d.logCount

/-- LOG_WINDOW_READ (R415): the record at the cursor of interface `i` (0 to 3), and the cursor advances. -/
def logWindow (d : Dev) (i : Nat) : List Byte × Dev :=
  let c := d.nat (K.LOG_CURSOR i)
  let d1 := d.logMeet c (· == 0)
  (d1.logAt c, if c < d.logCount then d1.setNum (K.LOG_CURSOR i) (c + 1 : Nat) else d1)

/-- Hours of a bin of `TEMP_HIST` as a U16 (R411). -/
def binHours (d : Dev) (g b : Nat) : Int := satU 16 ((d.tempBin g b) / 60 : Nat)

/-- What the wear record gives of one phase (R411). -/
def wearPhase (d : Dev) (p : Nat) : List Byte :=
  leBytes 2 (satU 16 (d.num (K.L_EST p) / 100)) ++ leBytes 2 (d.num (K.R_EST p)) ++ leBytes 1 (d.num (K.PHASE_WEAR p)) ++
    leBytes 1 (d.num (K.PHASE_SVC_STATE p)) ++ [0, 0]

/-- WEAR_SNAPSHOT (R230, R411). -/
def wearSnapshot (d : Dev) : Dev :=
  if d.supRuns then
    let d1 := forUnits 8 (fun g d =>
      d.causeArg 121 (0x50 + g) 0 ((List.range 5).flatMap (fun b => leBytes 2 (d.binHours g b)) ++
        slice (d.obj (K.TEMP_HIST g)).bs 20 2 ++ leBytes 1 g ++ leBytes 1 (d.sg g).st.code ++ [0, 0])) d
    forUnits 16 (fun m d => d.causeArg 121 (0x60 + m) 0 (d.wearPhase (2 * m) ++ d.wearPhase (2 * m + 1))) d1
  else d

/-- `ESN_NEXT` of a boot: the later of the stored reserve and the ESN after the last record (R413). -/
def bootEsn (d : Dev) : Nat :=
  let a := if d.log.reserve = 0 then 1 else d.log.reserve
  let b := nextNo d.logLast
  if d.logWhole.isEmpty || follows a b then a else b

/-- A boot finds the log (R413, R414, R420): a pending clear is completed first; the records that waited are lost; then
`ESN_NEXT` is set, a new reserve is stored, and EV121 01h is the first event. -/
def logBoot (d : Dev) : Dev :=
  let d0 := { d with log := { d.log with wait := [], clearRun := false } }
  let d1 := match d0.log.clearing with
    | some r => let x := d0.logErase r; { x with log := { x.log with clearing := none, clearLeft := none, torn := 0 } }
    | none => d0
  let esn := d1.bootEsn
  let arg := leBytes 4 d1.logLast ++ leBytes 2 d1.logCount ++ leBytes 2 d1.log.torn ++ leBytes 2 d1.logStatus
  { d1 with
    log := { d1.log with reserve := (esn + 4096) % 4294967296 },
    ev := { d1.ev with esnNext := esn, esnSet := true, front := d1.ev.front ++ [⟨121, 0x01, 0, 1, arg⟩] } }

end Dev

end Sys2Proof.Machine
end

