-- ==== Sys2Proof/Machine/Volt.lean ====
section
/-! DEFINITION. Rail targets and ownership, transition done, RDYn, the load-intent link and its queues, THROTTLE# and
PFW# (R168–R174, R181–R190). -/

namespace Sys2Proof.Machine

/-- The source class of `VOUT_STATUS` (R191). -/
def Src.voutClass : Src → Nat
  | .avs => 1 | .pmbus => 2 | .canA => 3 | .canB => 3 | .svc => 4 | .seq => 5

/-- CRC-8 of R184: one bit of the division by x^8 + x^2 + x + 1. -/
def crc8Bit (c : Nat) : Nat := if c ≥ 128 then (c * 2 % 256) ^^^ 7 else c * 2

/-- CRC-8 of R184: one byte. -/
def crc8Byte (c b : Nat) : Nat := crc8Bit (crc8Bit (crc8Bit (crc8Bit (crc8Bit (crc8Bit (crc8Bit (crc8Bit (c ^^^ b))))))))

/-- CRC-8 over bits 39–8 of a frame (R184). -/
def lilCrc (w : Nat) : Nat :=
  crc8Byte (crc8Byte (crc8Byte (crc8Byte 0xFF (w / 2 ^ 32 % 256)) (w / 2 ^ 24 % 256)) (w / 2 ^ 16 % 256)) (w / 2 ^ 8 % 256)

namespace Dev

/-- Does only SEQ command targets now (R169)? -/
def seqOnly (d : Dev) : Bool := decide (d.seqr.prog = 2) || decide (d.seqr.prog = 3) || decide (d.seqr.prog = 4)

/-- May the source set a target of the rail (R169)? -/
def targetRule (d : Dev) (p : Src) (n : Nat) : Reason :=
  if p = .seq then .none
  else if d.seqOnly then .seqActive
  else
    let can := decide (p = .canA) || decide (p = .canB)
    let ok : Bool := match d.nat (K.VOUT_OWNER n) with
      | 0 => decide (p = .pmbus) || can || decide (p = .svc)
      | 1 => decide (p = .avs)
      | 2 => decide (p = .pmbus)
      | _ => can
    if ok then .none else .notOwner

/-- A refused target command is counted and shown (R169, R178). -/
def targetRefused (d : Dev) (p : Src) (n : Nat) : Dev :=
  (d.bump (K.VOUT_REFUSE_COUNT n) 16).modRl n (fun r =>
    { r with vRefused := true, avsAlerts := if p = .avs then r.avsAlerts ||| 1024 else r.avsAlerts })

/-- A rate in 10 µV/µs as a step in 2^−24 V per tick (R171, R148). -/
def rateStep (d : Dev) (r : Int) : Int := roundDiv (r * d.tickPs * 16777216) 100000000000

/-- The slew of an accepted target (R171). -/
def targetRate (d : Dev) (p : Src) (n : Nat) (v : Int) : Int :=
  match p with
  | .avs => if v * 16 > d.portWord (d.railEngine n) 3 then d.num (K.AVS_RATE_RISE n) else d.num (K.AVS_RATE_FALL n)
  | .seq => d.num (K.SEQ_SLEW n)
  | _ => d.num (K.VOUT_TRANSITION_RATE n)

/-- An accepted target is clamped and posted; the latest one before an edge wins (R170, R171). -/
def acceptTarget (d : Dev) (p : Src) (n : Nat) (v : Int) (osn : Nat) : Dev :=
  let x := clampI (d.num (K.VOUT_MIN n)) (d.num (K.VOUT_MAX n)) v
  let d1 := (d.setNum (K.VOUT_TARGET n) x).modRl n (fun r =>
    { r with target := some ⟨x, d.targetRate p n x, p.voutClass, osn⟩, tgtSrc := p.voutClass })
  if x = v then d1
  else { d1.modRl n (fun r => { r with vClamped := true, avsAlerts := r.avsAlerts ||| 8192 }) with
    pages := vmod d1.pages n (fun g => { g with vout := (Machine.putBit g.vout 3 true) }) }

/-- The target that `MARGIN_STATE` selects (R181), on accepted values. -/
def marginTarget (d : Dev) (n : Nat) (state : Int) : Int :=
  if state = 1 then d.accNum (K.VOUT_MARGIN_LOW n) else if state = 2 then d.accNum (K.VOUT_MARGIN_HIGH n)
  else d.accNum (K.VOUT_COMMAND n)

/-- A waiting target takes its edge; done clears where it differs from the committed setpoint (R170, R173). -/
def targetLatch (d : Dev) (n : Nat) : Dev :=
  match (d.rl n).target with
  | some t =>
    let sp := d.portWord (d.railEngine n) 3
    d.modRl n (fun r => { r with tgt := t.value, tgtRate := t.rate, target := none, done := r.done && decide (t.value * 16 = sp) })
  | none => d

/-- The loop state a rail's program published (R166, R167). -/
def loopStatus (d : Dev) (n : Nat) : Int := d.portWord (d.railEngine n) 4 % 65536

/-- Transition done sets where the committed setpoint equals the latest target (R173). -/
def transitionDone (d : Dev) (n : Nat) : Dev :=
  if d.unitOn n then
    let st := fieldAt (d.loopStatus n) 13 3
    let there := decide (d.portWord (d.railEngine n) 3 = (d.rl n).tgt * 16) && decide (st ≠ 0) && decide (st ≠ 1)
    d.modRl n (fun r => { r with done := r.done || there, leftSs := r.leftSs || decide (st ≥ 2) })
  else d.modRl n (fun r => { r with done := false })

/-- Power-good of a rail (R174). -/
def powerGood (d : Dev) (n : Nat) : Bool :=
  let w := d.nat (K.RDY_MONITOR n)
  if w < 24 then d.wmGood w else true

/-- The ready condition of a rail (R174). -/
def readyCond (d : Dev) (n : Nat) : Bool :=
  d.unitOn n && d.powerGood n && (if d.num (K.RDY_MODE n) = 0 then (d.rl n).done else (d.rl n).leftSs)

/-- RDYn at an edge: it deasserts where its condition fails, and its delay counts (R174). -/
def rdyEdge (d : Dev) (n : Nat) : Dev :=
  if (d.rl n).glove && !d.flag (K.RDY_GLOVE n) && d.unitOn n then d
  else if (d.rl n).glove || !d.readyCond n then d.modRl n (fun r => { r with rdy := false, rdyN := 0 })
  else d.modRl n (fun r => { r with rdyN := r.rdyN + 1 })

/-- RDY_ASSERT (R174); in GLOVE RDYn is held. -/
def rdyAssert (d : Dev) (n : Nat) : Dev :=
  let r := d.rl n
  if r.glove = false ∧ r.rdyN ≥ 1 ∧ ((r.rdyN - 1) * d.tickNs : Int) ≥ d.num (K.RDY_DELAY n) * 1000 ∧ d.readyCond n = true then
    d.modRl n (fun r => { r with rdy := true })
  else d

/-- `VOUT_STATUS` (R191). -/
def voutStatus (d : Dev) (n : Nat) : Int :=
  let r := d.rl n
  32768 * b2i r.done + 4096 * r.tgtSrc + 2048 * b2i (d.num (K.MARGIN_STATE n) ≠ 0) + 1024 * b2i r.vClamped + 512 * b2i r.vRefused +
    256 * b2i d.seqOnly + 128 * b2i r.rdy

/-- The AVSBus status word (R178). -/
def avsStatus (d : Dev) (n : Nat) : Nat :=
  let r := d.rl n
  32768 * b2n r.done + 2048 * b2n (d.num (K.VOUT_OWNER n) ≠ 1) + r.avsAlerts

/-- `LIL_EN` or the power state decides whether the receiver runs (R185). Frames whose check has completed stay for their edge
(R186). -/
def lilFollow (d : Dev) : Dev :=
  if d.flag K.LIL_EN && d.ticking then (if d.lil.st = .down then { d with lil := { d.lil with st := .training } } else d)
  else { d with lil := { frames := if d.ticking then d.lil.frames else [] } }

/-- LIL_UP (R185). -/
def lilUp (d : Dev) : Dev :=
  if d.lil.st = .training then { d with lil := { d.lil with st := .up, trainFail := false } }.cause 102 0x01 else d

/-- LIL_TRAIN_TIMEOUT (R185). -/
def lilTrainTimeout (d : Dev) : Dev :=
  if d.lil.st = .training then { d with lil := { d.lil with trainFail := true } } else d

/-- LIL_WORD_ERROR (R185). -/
def lilWordError (d : Dev) : Dev := if d.lil.st = .up then d.bump (K.LIL_ERR_COUNT 1) 32 else d

/-- LIL_LINK_DROP (R185). -/
def lilLinkDrop (d : Dev) : Dev :=
  if d.lil.st = .up then (({ d with lil := { d.lil with st := .training } }.bump (K.LIL_ERR_COUNT 2) 32)).cause 102 0x02 else d

/-- LIL_FRAME (R185, R186): a frame received in UP waits for the next edge. -/
def lilFrame (d : Dev) (w : BitVec 40) : Dev :=
  if d.lil.st = .up then { d with lil := { d.lil with frames := d.lil.frames ++ [w] } } else d

/-- The pending intents of a rail. -/
def pendingIntents (d : Dev) (n : Nat) : List Intent := (d.rl n).intents.toList.filterMap id

/-- Latch an intent into the lowest free entry (R186, R187, R140). -/
def latchIntent (d : Dev) (n : Nat) (slope : Bool) (delta : Int) (lead : Nat) : Dev :=
  match (List.range 8).find? (fun j => (vget (d.rl n).intents j).isNone) with
  | none => (d.bump (K.INTENT_DROP_COUNT n) 16).cause 102 0x03
  | some j =>
    let nr := if slope then d.nat (K.INTENT_SLOPE_TICKS n) else d.nat (K.INTENT_STEP_TICKS n)
    let dl := lead + (if slope then d.nat (K.INTENT_SLOPE_TICKS n) else 0) + d.nat (K.INTENT_WINDOW n)
    d.modRl n (fun r =>
      { r with
        intentCount := r.intentCount + 1, newIntents := r.newIntents + 1,
        intents := vset r.intents j (some { slope := slope, delta := delta, lead := lead, tag := (r.intentCount + 1) % 64,
                                            nr := max 1 nr, deadline := dl, start := lead - 2 }) })

/-- A frame is handled at an edge (R186). -/
def handleFrame (d : Dev) (f : BitVec 40) : Dev :=
  let w := f.toNat
  let n := w / 2 ^ 33 % 8
  let delta := (BitVec.ofNat 16 (w / 2 ^ 16)).toInt
  if lilCrc w ≠ w % 256 then d.bump (K.LIL_ERR_COUNT 0) 32
  else if !d.bit K.LIL_RAIL_EN n || !d.unitOn n || decide (d.num (K.INTENT_STATE n) = 1) then d.bump (K.INTENT_DROP_COUNT n) 16
  else if delta = 0 then
    let gone := (List.range 8).foldl (fun m j => if (vget (d.rl n).intents j).isSome then m + 2 ^ j else m) 0
    (d.bump (K.INTENT_CANCEL_COUNT n) 16).modRl n (fun r =>
      { r with intents := Vector.replicate 8 none, cancelled := r.cancelled ||| gone })
  else d.latchIntent n (w.testBit 32) delta (w / 2 ^ 8 % 256)

/-- Clear the entries of a mask. -/
def dropIntents (d : Dev) (n mask : Nat) : Dev :=
  d.modRl n (fun r => { r with intents := (Vector.range 8).map (fun j => if mask.testBit j then none else vget r.intents j) })

/-- The queues at an edge (R96, R187, R141): pending intents age, entries the plausibility engine published as matched
leave, and the frames since the previous edge are latched. -/
def intentEdge (d : Dev) : Dev :=
  let d1 := forUnits 8 (fun n d =>
    let pub := (d.portWord (d.nat K.PLAUS_ENGINE) (16 + n) % 256).toNat
    let here := (List.range 8).foldl (fun m j => if (vget (d.rl n).intents j).isSome && pub.testBit j then m + 2 ^ j else m) 0
    let cnt := popCount 8 here
    let d2 := (d.modNum (K.INTENT_MATCH_COUNT n) (fun x => satU 32 (x + cnt))).modRl n (fun r =>
      { r with
        matched := here, newIntents := 0,
        intents := r.intents.map (fun i => i.map (fun x => { x with age := x.age + 1 })),
        retractRun := if cnt > 0 then 0 else r.retractRun })
    d2.dropIntents n here) d
  let d3 := d1.lil.frames.foldl handleFrame d1
  { d3 with lil := { d3.lil with frames := [] } }

/-- INTENT_RETRACT (R187, R188): an intent at its deadline leaves unmatched; RM-PLAUS has published it in the tick before
(R141, R166). -/
def intentRetract (d : Dev) (n j : Nat) : Dev :=
  match vget (d.rl n).intents j with
  | some x =>
    if x.age ≥ x.deadline then
      let run := (d.rl n).retractRun + 1
      let d1 := ((d.bump (K.INTENT_RETRACT_COUNT n) 32).dropIntents n (2 ^ j)).modRl n (fun r => { r with retractRun := run })
      if (run : Int) ≥ d.num (K.INTENT_DISTRUST n) ∧ d.num (K.INTENT_STATE n) = 0 then
        (d1.setNum (K.INTENT_STATE n) 1).cause (32 + n) 0x13
      else d1
    else d
  | none => d

/-- INTENT_RESUME (R188). -/
def intentResume (d : Dev) (n : Nat) : Dev := (d.setNum (K.INTENT_STATE n) 0).modRl n (fun r => { r with retractRun := 0 })

/-- The intent summary word of a rail (R96). -/
def intentSummary (d : Dev) (n : Nat) : Int := (d.pendingIntents n).length + 256 * (d.rl n).newIntents

/-- The word of one intent queue entry (R96). -/
def intentWord (d : Dev) (n j : Nat) : Int :=
  match vget (d.rl n).intents j with
  | some x => 2147483648 + 1073741824 * b2i x.slope + ((x.lead - x.age : Nat) : Int) * 4194304 + x.tag * 65536 + x.delta % 65536
  | none => 0

/-- A rail's THROTTLE# request as committed (R139, R189). -/
def throttleReq (d : Dev) (n : Nat) : Bool := d.unitOn n && bitAt (d.driveWord (0xD0 + n) % 4294967296) 0

/-- Does a cause assert THROTTLE# (R189)? -/
def throttleCause (d : Dev) : Bool := d.flag K.THROTTLE_FORCE || (List.range 8).any (fun n => d.bit K.THROTTLE_MASK n && d.throttleReq n)

/-- The THROTTLE# request of a rail at an edge: its count, its AVSBus alert (R189, R178). -/
def throttleCount (d : Dev) (n : Nat) : Dev :=
  let q := d.throttleReq n
  let d1 := d.modRl n (fun r => { r with thrN := if q then r.thrN + 1 else 0, avsAlerts := if q then r.avsAlerts ||| 16384 else r.avsAlerts })
  if q then d1 else d1.markKind n 5 false

/-- THROTTLE# at an edge (R189). -/
def throttleEdge (d : Dev) : Dev :=
  if d.throttleCause && !d.load.throttle then { d with load := { d.load with throttle := true, throttleN := 1 } }
  else { d with load := { d.load with throttleN := d.load.throttleN + 1 } }

/-- THROTTLE_GRACE_EXPIRY (R189). -/
def throttleGrace (d : Dev) (n : Nat) : Dev := d.tripDue n 5

/-- THROTTLE_RELEASE (R189). -/
def throttleRelease (d : Dev) : Dev :=
  if d.load.throttle && !d.throttleCause && decide (((d.load.throttleN - 1) * d.tickNs : Int) ≥ d.num K.THROTTLE_HOLD * 1000) then
    { d with load := { d.load with throttle := false } }
  else d

/-- `THROTTLE_STATUS` (R192). -/
def throttleStatus (d : Dev) : Int :=
  (List.range 8).foldl (fun m n => if d.throttleReq n then m + 2 ^ n else m) 0 + 256 * b2i d.load.throttle + 512 * d.num K.THROTTLE_FORCE

/-- Does a cause of PFW# stand (R190)? -/
def pfwCaused (d : Dev) : Bool := d.load.pfwVin || decide (d.path.st ≠ .onInput) || d.load.pfwProg || d.flag K.PFW_FORCE

/-- PFW# follows its causes (R190): asserted while one stands, released once all have ended; held in KEEP and DOME. -/
def pfwFollow (d : Dev) : Dev :=
  if d.pfwCaused then { d with load := { d.load with pfw := true } }
  else if d.load.pfwOk && d.ticking then { d with load := { d.load with pfw := false } } else d

/-- PFW_RELEASE (R190): VIN has stayed at or above `PFW_VIN_TH` + `PFW_HYST` for `PFW_RELEASE`, so the cause VIN has ended. -/
def pfwRelease (d : Dev) : Dev :=
  if d.num (K.HK_RAW 0) * 5 ≥ d.num K.PFW_VIN_TH + d.num K.PFW_HYST then
    ({ d with load := { d.load with pfwVin := false, pfwOk := true } }).pfwFollow
  else d

/-- `PFW_STATUS` (R192). -/
def pfwStatus (d : Dev) : Int :=
  16 * b2i d.load.pfw + 8 * b2i d.load.pfwVin + 4 * b2i (decide (d.path.st ≠ .onInput)) + 2 * b2i d.load.pfwProg + d.num K.PFW_FORCE

end Dev

end Sys2Proof.Machine
end

