-- ==== Sys2Proof/Machine/Status.lean ====
section
/-! DEFINITION. Where an event goes from the supervisor queue (R306): the log, the PMBus status registers and ALERT
(R352, R354), EMCY and the error registers (R391, R392). -/

namespace Sys2Proof.Machine

/-- The status registers of a page (R352). -/
inductive StReg where
  | vout | iout | inp | temp | mfr
  deriving DecidableEq, Repr

/-- The place of a page in the page table (R349): 00h–11h, then 20h–3Fh. -/
def pageIx (pg : Nat) : Nat := if pg < 0x12 then pg else if 0x20 ≤ pg ∧ pg < 0x40 then pg - 0x20 + 18 else 50

/-- The page table place of phase `p`. -/
def phasePage (p : Nat) : Nat := 18 + p

/-- A CAN identifier as an answer carries it: that of CANB plus 2^29. Notes, log 7. -/
def onBus (b : Bus) (id : Nat) : Nat := match b with | .a => id | .b => id + 2 ^ 29

/-- The EMCY error code of an event (R391). -/
def emcyCode (src code : Nat) : Nat :=
  if src = 255 then 0
  else if src = 103 then
    match code with
    | 0x01 => 0x8120 | 0x02 => 0x8120 | 0x05 => 0x8140 | 0x06 => 0x8140 | 0x07 => 0x8110 | 0x08 => 0x8110
    | 0x10 => 0x8130 | 0x15 => 0x8210 | 0x16 => 0x8220 | _ => 0xFF67
  else 0xFF00 + src

namespace Dev

/-- Set or clear a bit of a status register of a page. -/
def stBit (d : Dev) (pg : Nat) (r : StReg) (i : Nat) (b : Bool) : Dev :=
  { d with
    pages := vmod d.pages pg (fun g => match r with
      | .vout => { g with vout := Machine.putBit g.vout i b }
      | .iout => { g with iout := Machine.putBit g.iout i b }
      | .inp => { g with inp := Machine.putBit g.inp i b }
      | .temp => { g with temp := Machine.putBit g.temp i b }
      | .mfr => { g with mfr := Machine.putBit g.mfr i b }) }

/-- The page of a phase, and that of its rail. -/
def phaseAndRail (d : Dev) (p : Nat) : List Nat := match d.railOf p with | some n => [phasePage p, n] | none => [phasePage p]

/-- The pages of a stage group: its phases and their rails. -/
def groupPages (d : Dev) (g : Nat) : List Nat :=
  (groupPhases g).map phasePage ++ (List.range 8).filter (fun n => (groupPhases g).any (d.assigned n))

/-- The status bits an event sets (R352): page place, register, bit. -/
def eventBits (d : Dev) (e : Event) : List (Nat × StReg × Nat) :=
  let s := e.src
  let c := e.code
  if s < 32 then
    if c = 0x17 then [(phasePage s, .iout, 3)] ++ (d.phaseAndRail s).map (fun p => (p, .mfr, 3))
    else if c = 0x14 then (d.phaseAndRail s).map (fun p => (p, .mfr, 4))
    else if c = 0x20 then (d.groupPages (s / 4)).map (fun p => (p, .temp, 6))
    else if c = 0x21 then (d.phaseAndRail s).map (fun p => (p, .temp, 7))
    else []
  else if s < 40 then
    let n := s - 32
    match c with
    | 0x01 => [(n, .vout, 7)] | 0x02 => [(n, .vout, 7)] | 0x03 => [(n, .vout, 4)] | 0x04 => [(n, .iout, 7)] | 0x05 => [(n, .iout, 7)]
    | 0x06 => [(n, .mfr, 6)] | 0x07 => [(n, .mfr, 5)] | 0x08 => [(n, .iout, 3)] | 0x09 => [(n, .iout, 3)]
    | 0x10 => [(n, .mfr, 7)] | 0x11 => [(n, .mfr, 7)] | 0x13 => [(n, .mfr, 2)] | _ => []
  else if s < 46 then
    let u := s - 32
    match c with
    | 0x01 => [(u, .iout, 7)] | 0x02 => [(u, .vout, 7)] | 0x03 => [(u, .vout, 4)] | 0x04 => [(u, .temp, 7)] | 0x05 => [(u, .mfr, 5)]
    | _ => []
  else if s < 50 then
    let u := s - 32
    match c with
    | 0x01 => [(u, .iout, 7)] | 0x02 => [(u, .vout, 4)] | 0x03 => [(u, .temp, 7)] | _ => []
  else if s = 116 then
    let w := d.num (K.SEQ_STEP_ACTION (ofLe (slice e.detail 1 1)))
    let u := fieldAt w 22 6
    if fieldAt w 28 4 = 1 ∧ u < 18 ∧ ofLe (slice e.detail 4 1) = Reason.noInput.code then [(u, .inp, 3)] else []
  else if s = 92 ∧ c = 0x2B then (List.range 18).map (fun u => (u, .inp, 7))
  else if c = 0x41 ∧ (s = 98 ∨ s = 100 ∨ s = 101 ∨ s = 103) then
    let i := ofLe (slice e.detail 0 2)
    let sub := ofLe (slice e.detail 2 1)
    if i = 0x2910 ∧ 1 ≤ sub ∧ sub ≤ 18 ∧ ofLe (slice e.detail 3 1) = Reason.noInput.code then [(sub - 1, .inp, 3)] else []
  else []

/-- An event enters the PMBus status path (R304, R352, R354). -/
def statusTake (d : Dev) (e : Event) : Dev :=
  if bitAt (d.route e.src) 10 && decide ((d.prio e.src : Int) ≥ d.num K.ALERT_MIN_PRIO) then
    let bits := d.eventBits e
    let d1 := bits.foldl (fun d b => d.stBit b.1 b.2.1 b.2.2 true) d
    if bits.isEmpty then d1 else { d1 with alert := true }
  else d

/-- A CAN port. -/
def port (d : Dev) (b : Bus) : CanPort := match b with | .a => d.canA | .b => d.canB

/-- Change a CAN port. -/
def modPort (d : Dev) (b : Bus) (f : CanPort → CanPort) : Dev :=
  match b with
  | .a => { d with canA := f d.canA }
  | .b => { d with canB := f d.canB }

/-- The default of a COB-ID object that follows the node-ID (R382). -/
def cobDefault (d : Dev) (key : Nat) : Option Nat :=
  match objRow key with
  | some r =>
    match r.dflt with
    | .nodeId l => some ((l.getD (key % 256 - r.lo) 0).toNat + d.node.id)
    | .nodeIdU l => some ((l.getD (r.unit (key / 256)) 0).toNat + d.node.id)
    | _ => none
  | none => none

/-- A COB-ID object: the value written, or its base plus the node-ID while it holds its default (R382). -/
def cobId (d : Dev) (key : Nat) : Nat :=
  match d.obj key with
  | .num i => i.toNat
  | _ => (d.cobDefault key).getD 0

/-- A COB-ID takes a value: written back to its default it holds its default, and follows the node-ID again (R382). -/
def setCob (d : Dev) (key : Nat) (v : Val) : Dev :=
  d.setObj key (if d.cobDefault key = some v.int.toNat ∧ 0 ≤ v.int then .bytes [] else v)

/-- Change the SDO server of a bus (R375, R387): a segmented write in progress keeps an entry of the operation table RESERVED. -/
def setSdo (d : Dev) (b : Bus) (x : Sdo) : Dev :=
  let p := match b with | .a => Src.canA | .b => Src.canB
  let d1 := match (d.port b).sdo with
    | .down key _ _ _ => d.unreserve p key
    | _ => d
  let d2 := d1.modPort b (fun c => { c with sdo := x })
  match x with
  | .down key _ _ _ => d2.reserve p key
  | _ => d2

/-- The buses that EMCY and TPDO frames use (R383). -/
def outBuses (d : Dev) : List Bus :=
  let bs := if d.num K.CAN_REDUNDANCY = 0 then [Bus.a, Bus.b] else [if d.node.activeB then Bus.b else Bus.a]
  bs.filter (fun b => (d.port b).enabled)

/-- A frame of EMCY waits on a bus; a full queue loses it there, with EV103 19h (R391). -/
def emcyPut (d : Dev) (e : Event) (b : Bus) : Dev :=
  if (d.port b).emcy.length < 16 then d.modPort b (fun p => { p with emcy := p.emcy ++ [e] }) else d.cause 103 0x19

/-- An event enters the EMCY path (R304, R391). -/
def emcyTake (d : Dev) (e : Event) : Dev :=
  if bitAt (d.route e.src) 11 && decide ((d.prio e.src : Int) ≥ d.num K.EMCY_MIN_PRIO) && !(d.cobId K.COB_ID_EMCY).testBit 31 then
    d.outBuses.foldl (fun d b => d.emcyPut e b) d
  else d

/-- EVENT_DISPATCH (R306): the next event leaves the supervisor queue. -/
def eventDispatch (d : Dev) : Dev :=
  match d.ev.queue with
  | [] => d
  | e :: rest =>
    if d.supRuns && decide (d.power ≠ .dome) then
      let d1 := { d with ev := { d.ev with queue := rest } }
      let d2 := if d1.logTakes e then { d1 with log := { d1.log with wait := d1.log.wait ++ [e] } } else d1
      (d2.statusTake e).emcyTake e
    else d

/-- Is a kind bit set in the fault status of some unit from `a` up to `b`? -/
def kindSet (d : Dev) (a b mask : Nat) : Bool := (List.range (b - a)).any (fun i => decide (d.nat (faultKey (a + i)) &&& mask ≠ 0))

/-- `1001h` (R392). -/
def errorReg (d : Dev) : Nat :=
  let f := d.nat K.CHG_FAULT
  let cur := d.kindSet 0 8 0x198 || d.kindSet 8 18 0x01
  let vol := d.kindSet 0 8 0x07 || d.kindSet 8 14 0x06 || d.kindSet 14 18 0x02 || f.testBit 11
  let tmp := d.kindSet 8 14 0x08 || d.kindSet 14 18 0x04 || f.testBit 10 ||
    (List.range 32).any (fun p => (d.ph p).afterOt && (decide (d.svcOf p = 5) || decide (d.svcOf p = 6)))
  let com := d.canA.errPassive || d.canA.busOff || d.canB.errPassive || d.canB.busOff || d.node.hb.toList.any (fun h => h.timedOut)
  let man := (List.range 8).any (fun n => (d.rl n).glove) || d.kindSet 0 8 0x60 || d.kindSet 8 14 0x10 ||
    (List.range 32).any (fun p => decide (d.svcOf p = 7) || decide (d.svcOf p = 4))
  let w := 2 * b2n cur + 4 * b2n vol + 8 * b2n tmp + 16 * b2n com + 128 * b2n man
  w + b2n (decide (w ≠ 0))

/-- `1001h` at an edge; its return to 00h is sent as an EMCY of code 0000h (R391, R392), once the supervisor runs (R22). -/
def errorEdge (d : Dev) : Dev :=
  let w := if d.supRuns then d.errorReg else d.node.errReg
  let d1 := { d with node := { d.node with errReg := w } }
  if w = 0 ∧ d.node.errReg ≠ 0 ∧ (d.cobId K.COB_ID_EMCY).testBit 31 = false then
    d1.outBuses.foldl (fun d b => d.emcyPut ⟨0, 255, 0, 0, 1, 0, []⟩ b) d1
  else d1

/-- The 8 bytes of an EMCY frame (R391). -/
def emcyBytes (d : Dev) (e : Event) : List Byte :=
  leBytes 2 (emcyCode e.src e.code) ++ leBytes 1 (if e.src = 255 then 0 else d.node.errReg : Nat) ++ leBytes 1 e.code ++ leBytes 4 e.esn

/-- An event's entry in `1003h`, newest first (R391). -/
def historyAdd (d : Dev) (e : Event) : Dev :=
  let n := d.nat K.ERROR_HISTORY_COUNT
  let v := (e.esn % 65536) * 65536 + emcyCode e.src e.code
  let d1 := (List.range 15).foldl (fun d i => d.setNum (K.PRE_DEFINED_ERROR_FIELD (15 - i)) (d.num (K.PRE_DEFINED_ERROR_FIELD (14 - i)))) d
  (d1.setNum (K.PRE_DEFINED_ERROR_FIELD 0) v).setNum K.ERROR_HISTORY_COUNT (min 16 (n + 1) : Nat)

/-- The history is cleared (R402). -/
def historyClear (d : Dev) : Dev :=
  forUnits 16 (fun i d => d.setNum (K.PRE_DEFINED_ERROR_FIELD i) 0) (d.setNum K.ERROR_HISTORY_COUNT 0)

/-- May the port send ordinary frames (R381, R400)? -/
def portSends (d : Dev) (b : Bus) : Bool :=
  let p := d.port b
  p.enabled && !p.busOff && !p.offRepeated && !p.idConflict && d.supRuns && d.board.ioH && (d.ticking || decide (d.power = .keep))

/-- Time passes for the inhibit time of EMCY (R391): `ns` since the edge before. Notes, log 24. -/
def emcyEdge (d : Dev) (ns : Nat) : Dev :=
  (d.modPort .a (fun p => { p with emcyLeft := p.emcyLeft - ns })).modPort .b (fun p => { p with emcyLeft := p.emcyLeft - ns })

/-- The first EMCY frame of a bus is sent once its inhibit time is over (R391): the frame, and the device. A bus that EMCY no longer
uses, and an EMCY that is disabled, sends none (R383, R402). -/
def emcySend (x : List (Nat × List Byte) × Dev) (b : Bus) : List (Nat × List Byte) × Dev :=
  let d := x.2
  match (d.port b).emcy with
  | [] => x
  | e :: rest =>
    if d.portSends b && d.outBuses.contains b && !(d.cobId K.COB_ID_EMCY).testBit 31 && decide ((d.port b).emcyLeft = 0) then
      let d1 := d.modPort b (fun p => { p with emcy := rest, emcyLeft := d.nat K.INHIBIT_TIME_EMCY * 100000 })
      let d2 := if e.src = 255 ∨ d.node.emcyDone.contains e.esn = true then d1 else d1.historyAdd e
      let wait := fun k => (d1.canA.emcy ++ d1.canB.emcy).any (fun f : Event => f.esn == k)
      (x.1 ++ [(onBus b (d.cobId K.COB_ID_EMCY % 2048), d.emcyBytes e)],
        { d2 with node := { d2.node with emcyDone := (d2.node.emcyDone ++ [e.esn]).filter wait } })
    else x

/-- EMCY_TRANSMIT (R391): the next frame of each bus, in PRE_OPERATIONAL and OPERATIONAL. -/
def emcyTransmit (d : Dev) : Dev :=
  if d.node.nmt = .preOperational ∨ d.node.nmt = .operational then
    let r := [Bus.a, Bus.b].foldl emcySend ([], d)
    if r.1.isEmpty then r.2 else r.2.answering (.frames r.1)
  else d

/-- STATUS_BYTE and STATUS_WORD bits need the live state of a page (R352): is the unit on, and is it good? -/
def pageLive (d : Dev) (pg : Nat) : Bool × Bool :=
  if pg < 8 then (d.unitOn pg, (d.rl pg).rdy)
  else if pg < 18 then (if pg < 14 then d.unitOn pg else (d.ld (pg - 14)).on, d.unitReady pg)
  else (decide ((d.ph (pg - 18)).inSet = true), true)

/-- STATUS_WORD of a page, with the STATUS_CML of the port that reads it (R352). -/
def statusWord (d : Dev) (pg : Nat) (cml : Int) : Nat :=
  let g := vget d.pages pg
  let live := d.pageLive pg
  let any := fun w : Int => decide (w ≠ 0)
  let b5 := bitAt g.vout 7
  let b4 := bitAt g.iout 7
  let hi := (any g.vout && !b5) || (any g.iout && !b4) || any g.inp || any g.mfr
  32768 * b2n (any g.vout) + 16384 * b2n (any g.iout) + 8192 * b2n (any g.inp) + 4096 * b2n (any g.mfr) + 2048 * b2n (!live.2) +
    64 * b2n (!live.1) + 32 * b2n b5 + 16 * b2n b4 + 4 * b2n (any g.temp) + 2 * b2n (any cml) + b2n hi

/-- Clear every latched bit of a page (R353). -/
def pageClear (d : Dev) (pg : Nat) : Dev := { d with pages := vmod d.pages pg (fun _ => {}) }

/-- ALERT releases once no latched bit is set on any page (R354). -/
def alertRelease (d : Dev) : Dev :=
  if d.pages.toList.all (fun g => decide (g = ({} : PageStatus))) && decide (d.pmb.cml = 0) then { d with alert := false } else d

/-- Status bits that no event sets at its own commit: a THROTTLE# request of a rail (R139), the local sense verdict (R352).
A rise of the level at an edge is marked; the bits are written when the supervisor runs (R22). `o` is the device before the
edge. -/
def statusEdge (o d : Dev) : Dev :=
  forUnits 8 (fun n d =>
    let d1 := d.modRl n (fun r => { r with
      stThr := r.stThr || (d.throttleReq n && !o.throttleReq n), stLoc := r.stLoc || (decide (d.verdict n = 1) && decide (o.verdict n ≠ 1)) })
    if !d1.supRuns then d1
    else
      let d2 := if (d1.rl n).stThr then d1.stBit n .iout 5 true else d1
      let d3 := if (d1.rl n).stLoc then d2.stBit n .mfr 1 true else d2
      d3.modRl n (fun r => { r with stThr := false, stLoc := false })) d

end Dev

end Sys2Proof.Machine
end

