-- ==== Sys2Proof/Machine/Nymren.lean ====
section
/-! DEFINITION. The Nymren instructions as functions of one engine (R92–R109). Each takes the instruction's fields
and what the engine reads from outside it (coefficients, sample words); costs are those of R107. -/

namespace Sys2Proof.Machine

/-- The present-tick value of a word, if one was written. -/
def Assoc.find (s : Assoc α) (k : Nat) : Option α :=
  match s with
  | [] => none
  | (k', v) :: t => if k' = k then some v else Assoc.find t k

/-- Write a word of the present tick. -/
def Assoc.put (s : Assoc α) (k : Nat) (v : α) : Assoc α := Assoc.insert k v (Assoc.erase k s)

namespace Engine

/-- Register read; w0 reads 0 (R91). -/
def reg (g : Engine) (r : Fin 32) : Int := if r = 0 then 0 else g.regs[r]

/-- Register write; w0 ignores writes (R91). -/
def setReg (g : Engine) (r : Fin 32) (v : Int) : Engine :=
  if r = 0 then g else { g with regs := g.regs.set r v }

/-- Accumulator read. -/
def acc (g : Engine) (a : Fin 4) : Int := g.accs[a]

/-- Accumulator write with saturation to 72 bits (R103). -/
def setAcc72 (g : Engine) (a : Fin 4) (v : Int) : Engine :=
  let w := clampI (-(2 ^ 71)) (2 ^ 71 - 1) v
  { g with accs := g.accs.set a w, sat := g.sat || (w != v), accSat := g.accSat || (w != v) }

/-- Register write with saturation to I32, setting `sat` where it changes the value (R103). -/
def setSat (g : Engine) (r : Fin 32) (v : Int) : Engine :=
  { g.setReg r (sat32 v) with sat := g.sat || (sat32 v != v) }

/-- Loop ends met at an address, innermost first: the address after it and the loop levels left (R107, R109). -/
def afterLoops (pc : Nat) : List LoopLevel → Nat × List LoopLevel
  | [] => (pc + 1, [])
  | l :: t =>
    if l.stop = pc then
      if l.left > 1 then (l.start, { l with left := l.left - 1 } :: t) else afterLoops pc t
    else (pc + 1, l :: t)

/-- Go on to the next instruction at a cost. -/
def next (g : Engine) (cost : Nat) : Engine :=
  let r := afterLoops g.pc g.loops
  { g with pc := r.1, loops := r.2, cycles := g.cycles + cost }

/-- Go on at an address at a cost. -/
def goto (g : Engine) (t cost : Nat) : Engine := { g with pc := t, cycles := g.cycles + cost }

/-- Does the engine execute instructions now (R92)? One that was stopped does not, until its next tick. -/
def executes (g : Engine) : Bool := decide (g.st = .running) && !g.ended && !g.overran

/-- Signed value as the U32 it stands for. -/
def unsigned (v : Int) : Nat := (v % 4294967296).toNat

/-- The I32 of a U32. -/
def signed (n : Nat) : Int := wrap32 n

/-- Sign extension of a 16-bit immediate. -/
def imm16 (i : BitVec 16) : Int := i.toInt

/-- NOP (R107). -/
def nyNop (g : Engine) : Engine := g.next 1

/-- COMMIT arms the flip that END carries out (R94). -/
def nyCommit (g : Engine) : Engine := { g.next 1 with armed := true }

/-- END idles the engine (R107): what it releases, port and drive words and an armed flip of the state, takes effect in the
release window (R92, R94, R97). -/
def nyEnd (g : Engine) : Engine := { g with cycles := g.cycles + 1, ended := true }

/-- The state after an ended tick (R94): the words written become committed where COMMIT armed the flip. -/
def flip (g : Engine) : Engine :=
  { g with
    committed := if g.armed then g.dirty.foldl (fun m e => Assoc.set zeroAt m e.1 e.2) g.committed else g.committed, dirty := [] }

/-- BR t (R107). -/
def nyBr (t : Nat) (g : Engine) : Engine := g.goto t 2

/-- The condition codes of R106, by code; a code not listed is undefined and the loader refuses it (R110). -/
def condHolds (cc : Nat) (a : Int) : Bool :=
  match cc with
  | 0 => decide (a = 0) | 1 => decide (a ≠ 0) | 2 => decide (a < 0) | 3 => decide (a ≥ 0)
  | 4 => decide (a > 0) | 5 => decide (a ≤ 0) | _ => false

/-- Bcc ra, t: 2 cycles taken, 1 not (R107). -/
def nyBcc (cc : Fin 6) (ra : Fin 32) (t : Nat) (g : Engine) : Engine :=
  if condHolds cc (g.reg ra) then g.goto t 2 else g.next 1

/-- LOOP n, e: the body pc+1 to e runs n times; a count of 0 goes on at e+1 (R107, R109). -/
def nyLoop (n : Nat) (e : Nat) (g : Engine) : Engine :=
  if n = 0 then g.goto (e + 1) 1
  else { g.goto (g.pc + 1) 1 with loops := ⟨g.pc + 1, e, n⟩ :: g.loops }

/-- CALL t pushes the return address (R107). A fifth level does not occur: the loader refuses it (R109, R110). -/
def nyCall (t : Nat) (g : Engine) : Engine :=
  if g.calls.length < 4 then { g.goto t 2 with calls := (g.pc + 1) :: g.calls } else g

/-- RET pops the return address (R107). On an empty stack it does not occur (R110, code 05h). -/
def nyRet (g : Engine) : Engine :=
  match g.calls with
  | [] => g
  | r :: t => { g.goto r 2 with calls := t }

/-- SIG code, 01h to FFh: raised when END retires (R107). -/
def nySig (code : Nat) (g : Engine) : Engine := { g.next 1 with sigs := if code = 0 then g.sigs else g.sigs ++ [code] }

/-- BRK halts when a debugger is attached; otherwise as NOP (R107, R127). -/
def nyBrk (debugger : Bool) (g : Engine) : Engine :=
  if debugger then { g with st := .halted, cycles := g.cycles + 1 } else g.next 1

/-- ADD (R107). -/
def nyAdd (rd ra rb : Fin 32) (g : Engine) : Engine := (g.setSat rd (g.reg ra + g.reg rb)).next 1

/-- SUB (R107). -/
def nySub (rd ra rb : Fin 32) (g : Engine) : Engine := (g.setSat rd (g.reg ra - g.reg rb)).next 1

/-- ADDW wraps modulo 2^32 (R107). -/
def nyAddw (rd ra rb : Fin 32) (g : Engine) : Engine := (g.setReg rd (wrap32 (g.reg ra + g.reg rb))).next 1

/-- ADDI with a sign-extended immediate (R107). -/
def nyAddi (rd ra : Fin 32) (imm : BitVec 16) (g : Engine) : Engine :=
  (g.setSat rd (g.reg ra + imm16 imm)).next 1

/-- A bitwise operation on the words of two registers. -/
def bitwise (f : Nat → Nat → Nat) (a b : Int) : Int := signed (f (unsigned a) (unsigned b))

/-- AND (R107). -/
def nyAnd (rd ra rb : Fin 32) (g : Engine) : Engine :=
  (g.setReg rd (bitwise (· &&& ·) (g.reg ra) (g.reg rb))).next 1

/-- OR (R107). -/
def nyOr (rd ra rb : Fin 32) (g : Engine) : Engine :=
  (g.setReg rd (bitwise (· ||| ·) (g.reg ra) (g.reg rb))).next 1

/-- XOR (R107). -/
def nyXor (rd ra rb : Fin 32) (g : Engine) : Engine :=
  (g.setReg rd (bitwise (· ^^^ ·) (g.reg ra) (g.reg rb))).next 1

/-- ANDI with a zero-extended immediate (R107). -/
def nyAndi (rd ra : Fin 32) (imm : BitVec 16) (g : Engine) : Engine :=
  (g.setReg rd (bitwise (· &&& ·) (g.reg ra) imm.toNat)).next 1

/-- SHL saturates (R107). -/
def nyShl (rd ra sh : Fin 32) (g : Engine) : Engine := (g.setSat rd (g.reg ra * 2 ^ sh.val)).next 1

/-- SHR: floor of a / 2^sh (R107). -/
def nyShr (rd ra sh : Fin 32) (g : Engine) : Engine := (g.setReg rd (g.reg ra / 2 ^ sh.val)).next 1

/-- SHLV: a × 2^(b mod 32) mod 2^32 (R107). -/
def nyShlv (rd ra rb : Fin 32) (g : Engine) : Engine :=
  (g.setReg rd (wrap32 (g.reg ra * 2 ^ (unsigned (g.reg rb) % 32)))).next 1

/-- MIN (R107). -/
def nyMin (rd ra rb : Fin 32) (g : Engine) : Engine := (g.setReg rd (min (g.reg ra) (g.reg rb))).next 1

/-- MAX (R107). -/
def nyMax (rd ra rb : Fin 32) (g : Engine) : Engine := (g.setReg rd (max (g.reg ra) (g.reg rb))).next 1

/-- CLAMP: min(max(rd, a), b) (R107). -/
def nyClamp (rd ra rb : Fin 32) (g : Engine) : Engine :=
  (g.setReg rd (min (max (g.reg rd) (g.reg ra)) (g.reg rb))).next 1

/-- ABS saturates (R107). -/
def nyAbs (rd ra : Fin 32) (g : Engine) : Engine := (g.setSat rd (g.reg ra).natAbs).next 1

/-- NEG saturates (R107). -/
def nyNeg (rd ra : Fin 32) (g : Engine) : Engine := (g.setSat rd (-(g.reg ra))).next 1

/-- SLT (R107). -/
def nySlt (rd ra rb : Fin 32) (g : Engine) : Engine :=
  (g.setReg rd (if g.reg ra < g.reg rb then 1 else 0)).next 1

/-- SEL: a if rd is not 0, else b (R107). -/
def nySel (rd ra rb : Fin 32) (g : Engine) : Engine :=
  (g.setReg rd (if g.reg rd ≠ 0 then g.reg ra else g.reg rb)).next 1

/-- MOV (R107). -/
def nyMov (rd ra : Fin 32) (g : Engine) : Engine := (g.setReg rd (g.reg ra)).next 1

/-- MOVI (R107). -/
def nyMovi (rd : Fin 32) (imm : BitVec 16) (g : Engine) : Engine := (g.setReg rd (imm16 imm)).next 1

/-- MOVHI keeps the low half (R107). -/
def nyMovhi (rd : Fin 32) (imm : BitVec 16) (g : Engine) : Engine :=
  (g.setReg rd (wrap32 (g.reg rd % 65536 + imm.toNat * 65536))).next 1

/-- MUL: rounded, shifted, saturated (R103, R107). -/
def nyMul (rd ra rb sh : Fin 32) (g : Engine) : Engine :=
  (g.setSat rd (roundShift (g.reg ra * g.reg rb) sh)).next 2

/-- DIVQ truncates toward zero; by zero it gives the limit by the sign of a and sets `div0` (R107). -/
def nyDivq (rd ra rb sh : Fin 32) (g : Engine) : Engine :=
  let a := g.reg ra
  let b := g.reg rb
  if b ≠ 0 then (g.setSat rd ((a * 2 ^ sh.val).tdiv b)).next 20
  else { (g.setReg rd (if a > 0 then maxI32 else if a < 0 then minI32 else 0)).next 20 with div0 := true }

/-- The address of LD and ST: (a + imm) mod 2^16 (R107). -/
def memAddr (g : Engine) (ra : Fin 32) (imm : BitVec 16) : Nat := ((g.reg ra + imm.toNat) % 65536).toNat

/-- Load of a data word (R93, R94). -/
def load (g : Engine) (a : Nat) : Int :=
  if a < 0x200 then (g.dirty.find a).getD (g.committed.get zeroAt a)
  else if a < 0x600 then g.scratch.get zeroAt a
  else 0

/-- LD (R93, R107). -/
def nyLd (rd ra : Fin 32) (imm : BitVec 16) (g : Engine) : Engine :=
  let a := g.memAddr ra imm
  { (g.setReg rd (wrap32 (g.load a))).next 2 with addrErr := g.addrErr || decide (a ≥ 0x600) }

/-- Store of a data word: state words go to the working copy and become dirty (R93, R94). -/
def store (g : Engine) (a : Nat) (v : Int) : Engine :=
  if a < 0x200 then { g with dirty := g.dirty.put a v }
  else if a < 0x600 then { g with scratch := g.scratch.set zeroAt a v }
  else { g with addrErr := true }

/-- ST (R93, R94, R107). -/
def nySt (rd ra : Fin 32) (imm : BitVec 16) (g : Engine) : Engine :=
  (g.store (g.memAddr ra imm) (g.reg rd)).next 1

/-- The index of an indexed coefficient, port or drive field: (field + a) mod the size (R107). -/
def indexed (g : Engine) (r : Fin 32) (field size : Nat) : Nat := ((g.reg r + field) % size).toNat

/-- LDC: rounded value of coefficient (c + a) mod 256 of the active bank (R105, R107). -/
def nyLdc (coef : Nat → Int × Nat) (rd ra : Fin 32) (c : BitVec 8) (g : Engine) : Engine :=
  let k := coef (g.indexed ra c.toNat 256)
  (g.setSat rd (roundShift k.1 k.2)).next 1

/-- LDCM: the mantissa (R107). -/
def nyLdcm (coef : Nat → Int × Nat) (rd ra : Fin 32) (c : BitVec 8) (g : Engine) : Engine :=
  (g.setReg rd (coef (g.indexed ra c.toNat 256)).1).next 1

/-- CLRA (R107). -/
def nyClra (a : Fin 4) (g : Engine) : Engine := { g.next 1 with accs := g.accs.set a 0 }

/-- LDA places a register at the register LSB (R104). -/
def nyLda (a : Fin 4) (ra : Fin 32) (g : Engine) : Engine := { g.next 1 with accs := g.accs.set a (g.reg ra * 65536) }

/-- A product in accumulator units: x × 2^(16−sh), rounded where the shift is above 16 (R105). -/
def accProduct (x : Int) (sh : Nat) : Int := if sh ≤ 16 then x * 2 ^ (16 - sh) else roundShift x (sh - 16)

/-- MAC (R105, R107). -/
def nyMac (coef : Nat → Int × Nat) (a : Fin 4) (ra rb : Fin 32) (c : BitVec 8) (g : Engine) : Engine :=
  let k := coef (g.indexed rb c.toNat 256)
  (g.setAcc72 a (g.acc a + accProduct (g.reg ra * k.1) k.2)).next 1

/-- MSC (R105, R107). -/
def nyMsc (coef : Nat → Int × Nat) (a : Fin 4) (ra rb : Fin 32) (c : BitVec 8) (g : Engine) : Engine :=
  let k := coef (g.indexed rb c.toNat 256)
  (g.setAcc72 a (g.acc a - accProduct (g.reg ra * k.1) k.2)).next 1

/-- MACW (R105, R107). -/
def nyMacw (a : Fin 4) (ra rb sh : Fin 32) (g : Engine) : Engine :=
  (g.setAcc72 a (g.acc a + accProduct (g.reg ra * g.reg rb) sh)).next 1

/-- An accumulator as a register value with extraction shift `s` (R104). -/
def extract (x : Int) (s : Int) : Int :=
  if s ≥ -16 then roundShift x (16 + s).toNat else x * 2 ^ ((-16 - s).toNat)

/-- ACX (R104, R107). A shift below −16 does not occur: the loader refuses it (R110, code 02h). -/
def nyAcx (rd : Fin 32) (a : Fin 4) (s : BitVec 6) (g : Engine) : Engine :=
  (g.setSat rd (extract (g.acc a) s.toInt)).next 2

/-- ADDA (R107). -/
def nyAdda (a b : Fin 4) (g : Engine) : Engine := (g.setAcc72 a (g.acc a + g.acc b)).next 1

/-- IN: sample word (p + a) mod 512, as the register value of its 32 bits (R96, R107). -/
def nyIn (sample : Nat → Int) (rd ra : Fin 32) (p : BitVec 9) (g : Engine) : Engine :=
  (g.setReg rd (wrap32 (sample (g.indexed ra p.toNat 512)))).next 1

/-- OUT: port word (q + a) mod 32 of the present tick (R97, R107). -/
def nyOut (rd ra : Fin 32) (q : Fin 32) (g : Engine) : Engine :=
  { g.next 1 with portTick := g.portTick.put (g.indexed ra q.val 32) (g.reg rd) }

/-- OUTD: drive word (d + a) mod 512 of the present tick; dropped with `drive_denied` where the engine does not own
it (R100, R107). -/
def nyOutd (owns : Nat → Bool) (rd ra : Fin 32) (d : BitVec 9) (g : Engine) : Engine :=
  let w := g.indexed ra d.toNat 512
  if owns w then { g.next 1 with driveTick := g.driveTick.put w (g.reg rd) }
  else { g.next 1 with driveDenied := true }

/-- The start of a tick: samples are latched outside; registers, accumulators, stacks and dirty marks are cleared and
the engine fetches at its entry (R92). -/
def startTick (g : Engine) : Engine :=
  { g with
    regs := Vector.replicate 32 0, accs := Vector.replicate 4 0, calls := [], loops := [], dirty := [],
    portTick := [], driveTick := [], pc := g.prog.entry, cycles := 0, ended := false, armed := false, sigs := [],
    overran := false, idle := false }

end Engine

end Sys2Proof.Machine
end

