-- ==== Sys2Proof/Machine/StdLp.lean ====
section
/-! DEFINITION. LP-MAIN and LP-AUX (R135–R152) in fixed point: currents in 2^−24 A and voltages in 2^−32 V where a name
says fine, engine units elsewhere. Each program reads the device as latched at the edge that begins its tick (`o`) and
puts its words and its state into `d`. Notes, log 13. -/

namespace Sys2Proof.Machine

/-- A rounded quotient; a divisor that is not positive leaves the value open. Notes, log 6. -/
def quot (a b : Int) : Int := if b ≤ 0 then Config.quotient a b else (2 * a + b) / (2 * b)

/-- A value times a coefficient (R105). -/
def mulC (k : Int × Nat) (x : Int) : Int := roundShift (x * k.1) k.2

namespace Dev

/-- A mailbox-in word of an engine (R102). -/
def mailWord (d : Dev) (e w : Nat) : Int := Assoc.get zeroAt (d.engine e).mailIn w

/-- A program puts out a port word of its tick (R97). -/
def emitPort (d : Dev) (e w : Nat) (v : Int) : Dev := d.modEng e (fun g => { g with portTick := Assoc.put g.portTick w v })

/-- A program puts out a drive word of its tick (R99). -/
def emitDrive (d : Dev) (e w : Nat) (v : Int) : Dev := d.modEng e (fun g => { g with driveTick := Assoc.put g.driveTick w v })

/-- The verdict and the path drop RM-PLAUS published for a rail (R137, R166). -/
def pubVerdict (o : Dev) (n : Nat) : Nat := (o.portWord (o.nat K.PLAUS_ENGINE) n % 4).toNat

/-- The feedback value y of R137. A rail on hold forms none; the observer then reads the remote sense. Notes, log 13. -/
def yOf (o : Dev) (n : Nat) : Int :=
  if o.pubVerdict n = 1 then o.sampleWord (0x10 + n) - o.portWord (o.nat K.PLAUS_ENGINE) (8 + n) else o.sampleWord (8 + n)

/-- Port word 4j + `w` of the observer of phase `p` (R166). -/
def obsWord (o : Dev) (p w : Nat) : Int := o.portWord (obEngine p) (4 * (p % 8) + w)

/-- The flags of an observed phase (R196). -/
def obsFlag (o : Dev) (p b : Nat) : Bool := bitAt (o.obsWord p 3 % 4294967296) b

/-- The effective weight of a phase (R161, R166). -/
def effWeight (o : Dev) (p : Nat) : Int := o.portWord (o.nat K.SHED_ENGINE) (p / 2) % 4294967296 / 65536 ^ (p % 2) % 65536

/-- `cap` of a rail (R161, R166). -/
def capOf (o : Dev) (n : Nat) : Int := o.portWord (o.nat K.SHED_ENGINE) (16 + n)

/-- Is the rail in Mitten mode by PM-SHED's status word (R166)? -/
def mittenOf (o : Dev) (n : Nat) : Bool := bitAt (o.portWord (o.nat K.SHED_ENGINE) (24 + n) % 4294967296) 16

/-- Half the ripple of a phase at y and VIN (R196): (vin − y)·y·t_rail / (2·vin·L), engine amperes. -/
def halfRipple (o : Dev) (p : Nat) (y vin tRail : Int) : Int :=
  quot ((vin - y) * y * tRail * 20) (vin * 2 * o.obsWord p 2 * 256)

/-- The phase current LP-MAIN sums (R138, R196). -/
def phaseI (o : Dev) (p : Nat) (y vin tRail : Int) : Int :=
  if o.obsFlag p 0 then o.obsWord p 1 + o.halfRipple p y vin tRail else o.sampleWord (0x20 + p)

/-- The phases of LP-MAIN's mailbox mask (R165). -/
def maskPhases (m : Int) : List Nat := (List.range 32).filter (fun p => bitAt (m % 4294967296) p)

/-- ff of one queue entry in a tick (R140), fine. -/
def ffOf (x : Intent) : Int :=
  roundDiv (x.delta * 4194304 * (min (x.age + 1 - x.start) x.nr : Nat)) x.nr

/-- A withdrawal's value in its next tick (R141). -/
def Withdrawal.next (w : Withdrawal) : Withdrawal := { w with j := w.j + 1 }

/-- What a withdrawal contributes, fine. -/
def wdrVal (w : Withdrawal) : Int := roundDiv (w.ff * ((w.nr : Int) - w.j)) w.nr

/-- The feed-forward of a tick (R140, R141): new values by entry, withdrawals running, the sum, and what matched entries
hand to the integrator. -/
def feedForward (r : Rail) : Vector (Option (Int × Nat × Nat)) 8 × List Withdrawal × Int × Int :=
  let gone := fun j => match vget r.lp.ff j with
    | some s => (match vget r.intents j with
      | some x => if x.tag = s.2.2 then none else some s
      | none => some s)
    | none => none
  let ffs := (Vector.range 8).map (fun j => (vget r.intents j).map (fun x => (ffOf x, x.nr, x.tag)))
  let moved := ((List.range 8).filterMap (fun j => if r.matched.testBit j then (gone j).map (·.1) else none)).foldl (· + ·) 0
  let fresh := (List.range 8).filterMap (fun j =>
    if r.matched.testBit j then none else (gone j).map (fun s => (⟨s.1, s.2.1, 0⟩ : Withdrawal)))
  let wdr := ((r.lp.wdr ++ fresh).map Withdrawal.next).filter (fun w => decide (w.j < w.nr))
  let sum := (ffs.toList.filterMap (fun x => x.map (·.1))).foldl (· + ·) 0 + (wdr.map wdrVal).foldl (· + ·) 0
  (ffs, wdr, sum, moved)

/-- Is some feed-forward value of a tick non-zero (R167)? -/
def ffActive (f : Vector (Option (Int × Nat × Nat)) 8 × List Withdrawal × Int × Int) : Bool :=
  f.1.toList.any (fun x => decide ((x.map (·.1)).getD 0 ≠ 0)) || f.2.1.any (fun w => decide (wdrVal w ≠ 0))

/-- Drive words of the phases of a rail (R142, R143). -/
def lpPhases (o : Dev) (d : Dev) (e : Nat) (ps : List Nat) (iC y vin tRail : Int) : Dev :=
  let total := (ps.map o.effWeight).foldl (· + ·) 0
  let kk := mulC (o.coef e 5) (y * 65536) + mulC (o.coef e 6) (vin * 65536)
  ps.foldl (fun d p =>
    let ew := o.effWeight p
    let l := o.obsWord p 2
    if ew = 0 ∨ o.obsFlag p 1 = true then (d.emitDrive e p 0).emitDrive e (0x40 + p) 0
    else
      let ipk := sat32 (max 0 (quot (iC * ew) (total * 65536) + o.obsWord p 0 +
        quot ((vin - y) * y * tRail * 20) (vin * 2 * l * 256) + quot (kk * y * tRail * 20) (vin * l * 16777216)))
      let slope := sat32 (quot (kk * 1000000) (l * 16777216))
      let ton := if o.obsFlag p 0 then
          2147483648 + clampI 0 2147483647 (quot ((ipk - o.obsWord p 1) * l * 256 * 65536) (20 * ((vin - y) * 65536 + kk)))
        else 0
      ((d.emitDrive e p ipk).emitDrive e (0x20 + p) slope).emitDrive e (0x40 + p) ton) d

/-- The port words of LP-MAIN (R166, R167). -/
def lpPorts (d : Dev) (e : Nat) (lp : Lp) (req thrOn ffOn loc mit : Bool) (iM : Int) (iFf : Int) : Dev :=
  let status := (lp.st.code : Int) * 8192 + 4096 * b2i req + 2048 * b2i thrOn + 1024 * b2i lp.inhibit + 512 * b2i lp.clampHigh +
    256 * b2i lp.clampLow + 128 * b2i ffOn + 64 * b2i loc + 32 * b2i mit
  (((((d.emitPort e 0 (sat32 (roundShift lp.iC 16))).emitPort e 1 (sat32 (roundShift lp.iInt 16))).emitPort e 2
    (sat32 (roundShift iFf 16))).emitPort e 3 (roundShift lp.vSp 8)).emitPort e 4 status).emitPort e 5 iM

/-- LP-MAIN in a tick in which its rail is disabled (R135, R149). -/
def lpOff (d : Dev) (e n : Nat) (ps : List Nat) : Dev :=
  let d1 := ps.foldl (fun d p => (d.emitDrive e p 0).emitDrive e (0x40 + p) 0) d
  ((d1.emitDrive e (0xD0 + n) 0).modRl n (fun r => { r with lp := {} })).lpPorts e {}
    (bitAt (d.mailWord e 3 % 4294967296) 0) false false false false 0 0

/-- The loop machine at the start of a tick (R149): the new state, with the state it left and whether Glove is left. -/
def lpState (lp : Lp) (glove req : Bool) : LoopState :=
  match lp.st with
  | .off => .softStart
  | .glove => if glove then .glove else if !lp.ssDone then .softStart else if req then .manual else .auto
  | .softStart => if glove then .glove else .softStart
  | .auto => if glove then .glove else if req then .manual else .auto
  | .manual => if glove then .glove else if req then .manual else .auto

/-- LP-MAIN of one enabled rail (R136–R149). In GLOVE, where y is not formed, the phase references of R142 and R143 use `y_prev`.
Notes, log 13. -/
def lpOn (o : Dev) (d : Dev) (e n : Nat) : Dev :=
  let r := o.rl n
  let lp := r.lp
  let m := o.mailWord e
  let ps := maskPhases (m 9)
  let vin := o.sampleWord 2
  let tRail := m 8
  let first := decide (lp.st = LoopState.off)
  let glove := o.pubVerdict n = 2 || bitAt (m 3 % 4294967296) 1
  let req := bitAt (m 3 % 4294967296) 0
  let st := lpState lp glove req
  let hold := decide (st = LoopState.glove)
  let y := if hold then lp.yPrev else o.yOf n
  let left := decide (lp.st = LoopState.glove) && !hold
  let yPrev := if first || left then y else lp.yPrev
  let iM := sat32 ((ps.map (fun p => o.phaseI p y vin tRail)).foldl (· + ·) 0)
  let cap := o.capOf n * 65536
  let iLl := if first then iM * 65536 else lp.iLl + mulC (o.coef e 4) (iM * 65536 - lp.iLl)
  let step := if st = .softStart then m 2 else m 1
  let tgt := m 0 * 256
  let vSp := if first then y * 256 else lp.vSp + clampI (-step) step (tgt - lp.vSp)
  let inhibit := (first || lp.inhibit) && (hold || !decide (y * 256 < vSp))
  let err := vSp * 256 - quot (iLl * m 5 * 256) 100000 - y * 65536
  let p := mulC (o.coef e 0) err
  let dTerm := if hold || first then 0 else mulC (o.coef e 3) (if left then 0 else lp.dTerm) - mulC (o.coef e 2) ((y - yPrev) * 65536)
  let off := hold || decide (st = LoopState.manual)
  let f := feedForward r
  let g := o.coef e 7
  let iFf := if off then 0 else mulC g f.2.2.1
  let iHi := cap
  let iLo := if inhibit || o.mittenOf n then 0 else -(m 6 * 65536)
  let int0 := if first then clampI 0 cap iLl else lp.iInt + (if off then 0 else mulC g f.2.2.2)
  let manRef := if decide (st = LoopState.manual) && !decide (lp.st = LoopState.manual) then lp.iC else m 4 * 65536
  let int1 :=
    if left && !lp.ssDone then clampI 0 cap (lp.iC - (p + dTerm))
    else if left && decide (st = LoopState.auto) then clampI iLo iHi (lp.iC - (p + dTerm + iFf))
    else if decide (lp.st = LoopState.manual) && decide (st = LoopState.auto) then clampI iLo iHi (m 4 * 65536 - (p + dTerm + iFf))
    else int0
  let moved := left || (decide (lp.st = LoopState.manual) && decide (st = LoopState.auto)) || first
  let try1 := if moved then int1 else int1 + mulC (o.coef e 1) err
  let u1 := p + try1 + dTerm + iFf
  let try2 := if (decide (u1 > iHi) && decide (err > 0)) || (decide (u1 < iLo) && decide (err < 0)) then int1 else try1
  let iInt := if off then lp.iInt else clampI iLo iHi try2
  let u := if hold then iLl else if st = .manual then manRef else p + iInt + dTerm + iFf
  let iC := if hold then clampI 0 cap iLl else if st = .manual then clampI iLo cap manRef else clampI iLo iHi u
  let thr := if decide (u > cap) || decide (iM * 65536 > cap) then true
    else if decide (20 * u ≤ 19 * cap) && decide (20 * iM * 65536 ≤ 19 * cap) then false else lp.thr
  let done := decide (st = LoopState.softStart) && decide (vSp = tgt) && !inhibit
  let st2 := if done then (if req then .manual else .auto) else st
  let lp2 : Lp := { lp with
    st := st2, vSp := vSp, iInt := iInt, iLl := iLl, dTerm := dTerm, yPrev := (if hold then lp.yPrev else y), iC := iC, iM := iM,
    iFf := iFf, u := u, inhibit := inhibit, ssDone := (if first then false else lp.ssDone) || done, thr := thr,
    clampHigh := decide (u > iHi), clampLow := decide (u < iLo), wdr := (if off then [] else f.2.1),
    ff := (if off then f.1.map (fun x => x.map (fun s => (0, s.2))) else f.1) }
  let toManual := decide (st2 = LoopState.manual) && !decide (lp.st = LoopState.manual)
  let ref := if done then iC else manRef
  let d1 := if toManual then d.setNum (K.MANUAL_IREF n) (sat32 (roundShift ref 16)) else d
  let d2 := (o.lpPhases d1 e ps iC y vin tRail).emitDrive e (0xD0 + n) (b2i thr + 2 * b2i inhibit)
  (d2.modRl n (fun r => { r with lp := lp2 })).lpPorts e lp2 req thr (ffActive f && !off) (decide (o.pubVerdict n = 1))
    (o.mittenOf n) iM iFf

/-- LP-MAIN in a tick (R135). -/
def lpMain (o : Dev) (e : Nat) (d : Dev) : Dev :=
  (o.railsOfEngine e).foldl (fun d n =>
    if bitAt (o.sampleWord 4 % 4294967296) n then lpOn o d e n else d.lpOff e n (o.railPhases n)) d

/-- One buck of LP-AUX (R151, R152); `iB` and `duty` have LSB 2^−32. Where `e_step` is not positive the quotient of R151, and with
it the gain, is a free value. Notes, log 6. -/
def auxBuck (o : Dev) (e beta b : Nat) (d : Dev) : Dev :=
  let k := o.bk b
  if !bitAt (o.sampleWord 4 % 4294967296) (8 + b) then
    (d.modBk b (fun k => { k with softStart := false, diode := false, duty := 0, iB := 0, wasOn := false })).emitDrive e (0x98 + b) 0
  else
    let y := o.sampleWord (0x80 + b)
    let vin := o.sampleWord 2
    let first := !k.wasOn
    let ss := first || k.softStart
    let step := if ss then o.mailWord e (6 + beta) else o.mailWord e (3 + beta)
    let tgt := o.mailWord e beta * 256
    let vSp := if first then y * 256 else k.vSp + clampI (-step) step (tgt - k.vSp)
    let err := vSp * 256 - y * 65536
    let es := o.coefInt e (195 + beta) * 65536
    let mag := if err < 0 then -err else err
    let j := (mag / es).toNat
    let lutAt := fun i => let c := o.coef e (64 * beta + i); mulC c 4294967296
    let gain := if es ≤ 0 then quot mag es else if j ≥ 63 then lutAt 63 else lutAt j + quot ((lutAt (j + 1) - lutAt j) * (mag - j * es)) es
    let dMax := mulC (o.coef e (198 + beta)) 4294967296
    let dMin := mulC (o.coef e (201 + beta)) 4294967296
    let ratio := quot (vSp * 16777216) vin
    let iB0 := if first then 0 else k.iB
    let prop := roundShift (gain * err) 32
    let try1 := iB0 + mulC (o.coef e (192 + beta)) err
    let u := ratio + prop + try1
    let try2 := if (decide (u > dMax) && decide (err > 0)) || (decide (u < dMin) && decide (err < 0)) then iB0 else try1
    let iB := clampI (-dMax) dMax try2
    let duty := clampI dMin dMax (ratio + prop + iB)
    let diode := (first || k.diode) && !decide (y * 256 < vSp)
    let ss2 := ss && !(decide (vSp = tgt) && !diode)
    (d.modBk b (fun k => { k with vSp := vSp, iB := iB, duty := duty, diode := diode, softStart := ss2, wasOn := true })).emitDrive e
      (0x98 + b) (clampI 0 65535 (roundShift duty 16))

/-- LP-AUX in a tick (R151). -/
def lpAux (o : Dev) (e : Nat) (d : Dev) : Dev :=
  ((o.bucksOfEngine e).take 3).zipIdx.foldl (fun d x => auxBuck o e x.2 x.1 d) d

end Dev

end Sys2Proof.Machine
end

