-- ==== Sys2Proof/Machine/StdObs.lean ====
section
/-! DEFINITION. OB-PHASE (R193–R205): the observer account of every phase, residual classes, the open test. -/

namespace Sys2Proof.Machine

namespace Dev

/-- Reseed of an observer account (R194, R197). -/
def obsReseed (r0 : Int) (pH : Int) (c : Phase) : Phase :=
  { c with
    iHat := 0, trim := 0, cDev := 0, cGross := 0, cStuck := 0, cRange := 0, rangeN := 0, cRun := 0, cOpen := 0, suspect := false,
    subst := false, openDet := false, cls := 0, stuckVal := 1099511627776, lam := quot 1048576000000 pH, rHat := r0 * 65536,
    iPrev := 0 }

/-- The sum of the measured or modelled currents of the other active phases of a rail (R204), engine units. -/
def othersI (o : Dev) (n p : Nat) (y vin tRail : Int) : Int :=
  (((o.activeSet n).filter (· ≠ p)).map (fun q => o.phaseI q y vin tRail)).foldl (· + ·) 0

/-- Counts and class at an observation of a phase that fired (R198, R199, R204); `c` holds the predicted current, which no
sense in doubt has steered. Notes, log 61. -/
def obsClass (o : Dev) (e n p : Nat) (c : Phase) (y vin tRail half : Int) : Phase :=
  let m := o.mailWord e
  let w11 := m 11 % 4294967296
  let w12 := m 12 % 4294967296
  let mag := if c.iHat < 0 then -c.iHat else c.iHat
  let tol0 := max (m 10 * 65536) (mag * fieldAt w11 0 8 / 256)
  let tol := if o.num (K.ISAMPLE_MODE p) = 1 then tol0 else tol0 + half
  let res := if c.res < 0 then -c.res else c.res
  let isense := o.sampleWord (0x20 + p)
  let lively := decide (2 * half ≥ 33554432)
  let ton := o.sampleWord (0x60 + p)
  let top := min (o.num (K.TON_MAX p) * 50) (tRail - o.num (K.TOFF_MIN p) * 50)
  let th := m 13
  let ew := o.effWeight p
  let total := ((o.railPhases n).map o.effWeight).foldl (· + ·) 0
  let iC := o.portWord (o.railEngine n) 0
  let noRise := c.subst || (decide (isense ≤ th) && decide (c.iHat ≥ 4 * th * 65536))
  let missing := decide (2 * o.othersI n p y vin tRail * total > 2 * (total - ew) * iC + ew * iC)
  let c1 := { c with
    cDev := if res > tol then c.cDev + 1 else 0,
    cGross := if res > 4 * tol then c.cGross + 1 else 0,
    cStuck := if lively && decide (isense = c.stuckVal) then c.cStuck + 1 else 0,
    stuckVal := if lively then isense else 1099511627776,
    cRange := min 2 c.rangeN,
    cRun := if decide (10 * ton ≥ 9 * top) && decide (c.iHat ≥ o.peakRef p * 65536) then c.cRun + 1 else 0,
    cOpen := if ew = 0 then c.cOpen else if noRise && missing then c.cOpen + 1 else 0 }
  let cls :=
    if c1.cOpen > 0 ∧ c1.cOpen ≥ fieldAt w12 8 8 then 5
    else if c1.cRun > 0 ∧ c1.cRun ≥ fieldAt w12 0 8 then 4
    else if c1.cRange ≥ 2 then 3
    else if c1.cStuck > 0 ∧ c1.cStuck + 1 ≥ (fieldAt w11 24 8 : Int) then 2
    else if (c1.cDev > 0 ∧ c1.cDev ≥ fieldAt w11 8 8) ∨ (c1.cGross > 0 ∧ c1.cGross ≥ fieldAt w11 16 8) then 1
    else 0
  let any := decide (c1.cDev > 0) || decide (c1.cGross > 0) || decide (c1.cStuck > 0) || decide (c1.cRange > 0) || decide (c1.cRun > 0) || decide (c1.cOpen > 0)
  { c1 with
    suspect := any,
    cls := cls,
    subst := c1.subst || (decide (1 ≤ cls) && decide (cls ≤ 4)),
    openDet := c1.openDet || decide (cls = 5) }

/-- One observation of a phase of rail `n` (R193–R195, R199): the tests come first, so that the first observation in doubt takes no
correction. Notes, log 61. -/
def observe (o : Dev) (e n p : Nat) (c : Phase) : Phase :=
  let m := o.mailWord e
  let y := o.yOf n
  let vin := o.sampleWord 2
  let word := m (14 + n)
  let tRail := roundDiv (word * 50000) 65536
  let dt : Int := o.tickNs * (if o.flag K.OBS_DECIMATE then 2 else 1)
  let ton := o.sampleWord (0x60 + p)
  let vSw := if c.firedObs then quot (vin * 65536 * ton * 131072) (word * 100000) else 0
  let u := vSw - y * 65536 - roundDiv (c.rHat * c.iHat) 256000000
  let du := roundDiv (dt * u * c.lam) 268435456000
  let pred0 := c.iHat + du
  let pred := if c.firedObs then pred0 else max pred0 0
  let meas := if o.num (K.ISAMPLE_MODE p) = 1 then o.sampleWord (0x40 + p) else o.sampleWord (0x20 + p)
  let res := meas * 65536 - pred
  let half := roundDiv ((vin - y) * ton * c.lam * 2) 819200000
  let c0 := { c with iHat := pred, res := res }
  let c1 := if c.firedObs then o.obsClass e n p c0 y vin tRail half else c0
  let doubt := c1.suspect || c1.subst
  let iHat := if doubt then pred else pred + mulC (o.coef e 0) res
  let learnL := !doubt && decide (du ≥ 8388608 ∨ du ≤ -8388608)
  let learnR := !doubt && !learnL && decide (iHat ≥ 83886080)
  let dI := meas * 65536 - c.iPrev
  let s := dt * u
  let tl := if s > 0 then quot (dI * 268435456000) s else quot (-(dI * 268435456000)) (-s)
  let lam := if learnL then c.lam + roundDiv (mulC (o.coef e 1) ((tl - c.lam) * dt)) 1000 else c.lam
  let rHat := if learnR then c.rHat + roundDiv (mulC (o.coef e 2) ((quot ((vSw - y * 65536) * 256000000) iHat - c.rHat) * dt)) 1000 else c.rHat
  let ew := o.effWeight p
  let total := ((o.railPhases n).map o.effWeight).foldl (· + ·) 0
  let lim := o.coefInt e 4 * 65536
  let share := quot (o.railCurrent n * 65536 * ew) total
  let trim := if ew = 0 then 0 else clampI (-lim) lim (c.trim + roundDiv (mulC (o.coef e 3) ((share - iHat) * dt)) 1000)
  { c1 with
    iHat := iHat, lam := clampI 524288 52428800 lam, rHat := clampI 0 1310720000 rHat, iPrev := meas * 65536,
    trim := trim, iValley := iHat - half, firedObs := false, observed := true }

/-- The four port words of an observed phase (R166, R196). -/
def obsPorts (d : Dev) (e j : Nat) (c : Phase) : Dev :=
  let w3 := (clampI 0 65535 (roundShift c.rHat 16)) * 65536 + 64 * b2i c.observed + 8 * (c.cls : Int) + 4 * b2i c.suspect +
    2 * b2i c.openDet + b2i c.subst
  (((d.emitPort e (4 * j) (sat32 (roundShift c.trim 16))).emitPort e (4 * j + 1) (sat32 (roundShift c.iValley 16))).emitPort e
    (4 * j + 2) (sat32 (quot 1048576000000 c.lam))).emitPort e (4 * j + 3) w3

/-- OB-PHASE in a tick (R193): it runs on SP8 to SP11, each for its eight phases. -/
def obPhase (o : Dev) (e : Nat) (d : Dev) : Dev :=
  if 8 ≤ e ∧ e < 12 then
    forUnits 8 (fun j d =>
      let p := 8 * (e - 8) + j
      let r0 := o.coefInt e 6
      let seed := bitAt (o.mailWord e 1 % 4294967296) j
      let c0 : Phase := { o.ph p with observed := false }
      let c1 := if seed then obsReseed r0 (o.mailWord e (2 + j)) c0 else c0
      let half := bitAt (o.sampleWord 3 % 4294967296) 16
      let due := bitAt (o.mailWord e 0 % 4294967296) j && (!o.flag K.OBS_DECIMATE || (decide (j ≥ 4) == half))
      let c2 := match o.railOf p with
        | some n => if due then o.observe e n p c1 else c1
        | none => c1
      let trim := if o.effWeight p = 0 then 0 else c2.trim
      let put : Phase → Phase := fun c =>
        { c with
          iHat := c2.iHat, lam := c2.lam, rHat := c2.rHat, iPrev := c2.iPrev, trim := trim, iValley := c2.iValley, res := c2.res,
          firedObs := c2.firedObs, observed := c2.observed, cDev := c2.cDev, cGross := c2.cGross, cStuck := c2.cStuck,
          cRange := c2.cRange, rangeN := c2.rangeN, cRun := c2.cRun, cOpen := c2.cOpen, stuckVal := c2.stuckVal, subst := c2.subst,
          openDet := c2.openDet, suspect := c2.suspect, cls := c2.cls }
      (d.modPh p put).obsPorts e j { c2 with trim := trim }) d
  else d

end Dev

end Sys2Proof.Machine
end

