-- ==== Sys2Proof/Machine/StdPlaus.lean ====
section
/-! DEFINITION. RM-PLAUS (R208–R213, R516, R47): the rail model, its tests, the verdict, the match of intents and the
telemetry filters. -/

namespace Sys2Proof.Machine

/-- Absolute value. -/
def mag (x : Int) : Int := if x < 0 then -x else x

/-- Consecutive ticks of a condition. -/
def runOf (b : Bool) (n : Int) : Int := if b then n + 1 else 0

namespace Dev

/-- The tests of R209 after the model's step; `v` is the committed verdict. -/
def plausTests (o : Dev) (e n v : Nat) (q : Plaus) : Plaus :=
  let vrem := o.sampleWord (8 + n)
  let vloc := o.sampleWord (0x10 + n)
  let rec_ := o.num (K.GLOVE_RECOVER n)
  let adc := (o.rl n).adcFrozen
  let miss0 := decide (o.num (K.DITHER_MISS n) = 0)
  let frozenClr := runOf (miss0 && !adc) q.frozenClr
  let frozen := adc || (q.frozen && !decide (frozenClr ≥ rec_))
  let diff := vrem - (vloc - q.vDrop)
  let tol := o.mailWord e (8 + n)
  let out := decide (mag diff > tol)
  let disN := runOf out q.disN
  let disClr := runOf (!out) q.disClr
  let disagree := decide (disN > 0 ∧ disN ≥ o.num (K.REMLOC_COUNT n)) || (q.disagree && !decide (disClr ≥ rec_))
  let judge := disagree && !q.disLocal && !q.disRemote && decide (v ≠ 2)
  let byRemote := decide (mag (vrem * 65536 - q.vHat) > mag ((vloc - q.vDrop) * 65536 - q.vHat))
  let disRemote := disagree && (q.disRemote || (judge && byRemote))
  let disLocal := disagree && (q.disLocal || (judge && !byRemote))
  let window := ((o.rl n).intents.toList.filterMap id).any (fun x => decide (x.age ≥ 1) && decide (x.age ≤ x.deadline))
  let rt0 := o.mailWord e n * 65536
  let rt := if window then mulC (o.coef e 3) rt0 else rt0
  let resBad := decide (mag q.rhoF > rt)
  let resN := if v = 2 then q.resN else runOf resBad q.resN
  let resClr := if v = 2 then q.resClr else runOf (!resBad) q.resClr
  let resOut := if v = 2 then q.resOut else decide (resN > 0 ∧ resN ≥ o.num (K.RAIL_RES_COUNT n)) || (q.resOut && !decide (resClr ≥ rec_))
  let locBad := decide (vloc < 6554) || decide (10 * vloc > 11 * 16 * o.num (K.VOUT_MAX n)) || (resOut && decide (v = 1)) || disLocal
  let localClr := runOf (!locBad) q.localClr
  let localBad := locBad || (q.localBad && !decide (localClr ≥ rec_))
  { q with
    frozen := frozen, frozenClr := frozenClr, disagree := disagree, disN := disN, disClr := disClr, disRemote := disRemote,
    disLocal := disLocal, resOut := resOut, resN := resN, resClr := resClr, localBad := localBad, localClr := localClr,
    widened := window }

/-- The sense test (R210): a posted bit opens a test, the four edges after it carry the current. -/
def senseTest (o : Dev) (e n : Nat) (q : Plaus) : Plaus :=
  let vrem := o.sampleWord (8 + n)
  if bitAt (o.mailWord e 16 % 4294967296) n then { q with test := 1, testBase := vrem, testSum := 0, testDrop := false }
  else if q.test = 0 then q
  else
    let sum := q.testSum + vrem
    if q.test < 4 then { q with test := q.test + 1, testSum := sum }
    else if q.testDrop then { q with test := 0 }
    else
      let rise := decide (sum - 4 * q.testBase > 4 * o.mailWord e (18 + n))
      let clr := runOf (!rise) q.openClr
      { q with test := 0, openClr := clr, testOpen := rise || (q.testOpen && !decide (clr ≥ 2)) }

/-- The verdict of a rail (R212). -/
def plausVerdict (o : Dev) (n v : Nat) (q : Plaus) : Plaus :=
  let bad := q.testOpen || q.frozen || q.disRemote || (q.resOut && decide (v = 0))
  let ok := runOf (!bad) q.remoteOk
  let nv :=
    if q.frozen then 2 else if bad && q.localBad then 2 else if bad then 1
    else if v = 1 ∧ ok < o.num (K.GLOVE_RECOVER n) then 1 else 0
  { q with remoteBad := bad, remoteOk := ok, verdict := nv, fresh := q.fresh || decide (nv ≠ v) }

/-- The baseline of an intent's match test (R516), fine. -/
def matchBase (r : Rail) (iLd : Int) (j : Nat) (x : Intent) : Int :=
  (List.range 8).foldl (fun s i =>
    match vget r.intents i with
    | some z => if i ≠ j ∧ (z.lead : Int) - z.age ≤ (x.lead : Int) - x.age then s + z.delta * 4194304 else s
    | none => s) iLd

/-- RM-PLAUS for one enabled rail. -/
def plausOn (o : Dev) (e n : Nat) (d : Dev) : Dev :=
  let r := o.rl n
  let v := o.verdict n
  let q := r.plaus
  let iM := o.railCurrent n
  let vloc := o.sampleWord (0x10 + n)
  let y := if v = 1 then vloc - o.portWord e (8 + n) else o.sampleWord (8 + n)
  let cF := o.coefInt e 0
  let dt : Int := o.tickNs
  let q1 : Plaus :=
    if v = 2 then q
    else if q.fresh then
      { q with vHat := y * 65536, iLd := iM * 65536, rhoF := 0, resOut := false, resN := 0, resClr := 0, fresh := false }
    else
      let rho := y * 65536 - q.vHat
      { q with
        vHat := q.vHat + quot ((iM * 65536 - q.iLd) * 256 * dt) (1000 * cF) + roundShift rho 1,
        iLd := q.iLd - quot (rho * cF * 1000) (2048 * dt),
        rhoF := q.rhoF + mulC (o.coef e 1) (rho - q.rhoF) }
  let q2 := o.plausVerdict n v (o.senseTest e n (o.plausTests e n v q1))
  let tau := o.nat (K.TELEM_TAU n)
  let quiet := !q2.frozen && !q2.testOpen && !q2.disagree && !q2.resOut && !q2.localBad
  let rp := if v = 0 ∧ quiet = true ∧ q.iTel ≥ 838860800 then
      clampI 0 131072000 (q.rp + roundDiv (mulC (o.coef e 2) ((quot ((vloc - o.sampleWord (8 + n)) * 16777216000000) q.iTel - q.rp) * dt)) 1000)
    else q.rp
  let q3 := { q2 with
    rp := rp, iTel := q.iTel + roundShift (iM * 65536 - q.iTel) tau, vTel := q.vTel + roundShift (y * 65536 - q.vTel) tau,
    vDrop := roundDiv (rp * (q.iTel + roundShift (iM * 65536 - q.iTel) tau)) 16777216000000 }
  let based := (Vector.range 8).map (fun j => (vget r.intents j).map (fun x =>
    if x.base.isSome then x else { x with base := some (matchBase r q.iLd j x) }))
  let hit := fun j => match vget based j with
    | some x => decide (v ≠ 2) && decide (x.age + 1 ≥ x.lead) && decide (x.age + 1 ≤ x.deadline) &&
        (let g := 2 * (q3.iLd - x.base.getD 0)
         if x.delta ≥ 0 then decide (g ≥ x.delta * 4194304) else decide (g ≤ x.delta * 4194304))
    | none => false
  let late := fun j => match vget based j with
    | some x => !hit j && decide (x.age + 1 ≥ x.deadline)
    | none => false
  let marks := (List.range 8).foldl (fun m j => (m + if hit j then 2 ^ j else if late j then 2 ^ (8 + j) else 0 : Nat)) 0
  let status := min 65535 (roundShift (mag q3.rhoF) 16) * 65536 + 128 * b2i q3.remoteBad + 64 * b2i q3.widened + 32 * b2i q3.localBad +
    16 * b2i q3.resOut + 8 * b2i q3.disagree + 4 * b2i q3.testOpen + 2 * b2i q3.frozen + b2i (q3.test ≠ 0)
  let peak := clampI 0 65535 (roundShift iM 4)
  let d1 := (d.modRl n (fun x => { x with plaus := q3, intents := based })).modNum (K.READ_IOUT_PEAK n) (fun x => max x peak)
  ((((d1.emitPort e n q3.verdict).emitPort e (8 + n) q3.vDrop).emitPort e (16 + n) (marks : Nat)).emitPort e (24 + n) status).emitDrive e
    (0xD8 + n) q3.verdict

/-- RM-PLAUS for a disabled rail (R208): nothing is computed; the flags and the verdict stand afresh. -/
def plausOff (o : Dev) (e n : Nat) (d : Dev) : Dev :=
  let q := (o.rl n).plaus
  let f := (o.rl n).adcFrozen
  let q1 : Plaus := { rp := q.rp, vDrop := q.vDrop, iTel := q.iTel, vTel := q.vTel, frozen := f }
  ((((((d.modRl n (fun x => { x with plaus := q1 })).emitPort e n 0).emitPort e (8 + n) q.vDrop).emitPort e (16 + n) 0).emitPort e (24 + n)
    (2 * b2i f))).emitDrive e (0xD8 + n) 0

/-- The tracking window of a monitor whose engine runs RM-PLAUS and whose source is a rail sense (R279, R265): the setpoint that
LP-MAIN committed, less and plus `WM_TRACK`, as codes on the 12-bit scale. -/
def plausTrack (o : Dev) (e w : Nat) (d : Dev) : Dev :=
  if o.nat (K.WM_ENGINE w) = e ∧ o.nat (K.WM_SOURCE w) < 0x10 then
    let v := o.portWord (o.railEngine (o.nat (K.WM_SOURCE w) % 8)) 3
    let code := fun (side : Int) => clampI 0 4095 (roundDiv (v * 1000 + side * o.num (K.WM_TRACK w) * 65536) (32768 * max 1 (o.wm w).div))
    (d.emitDrive e (0xA0 + w) (code (-1))).emitDrive e (0xB8 + w) (code 1)
  else d

/-- RM-PLAUS in a tick. -/
def rmPlaus (o : Dev) (e : Nat) (d : Dev) : Dev :=
  if o.nat K.PLAUS_ENGINE = e then
    forUnits 24 (fun w d => o.plausTrack e w d)
      (forUnits 8 (fun n d => if bitAt (o.sampleWord 4 % 4294967296) n then o.plausOn e n d else o.plausOff e n d) d)
  else d

end Dev

end Sys2Proof.Machine
end

