-- ==== Sys2Proof/Machine/StdShed.lean ====
section
/-! DEFINITION. PM-SHED (R158–R164): the active set, the ramp weights, Mitten mode and the capacity of every rail. -/

namespace Sys2Proof.Machine

namespace Dev

/-- The available phases of a rail as PM-SHED sees them (R158, R165, R205). -/
def shedAvail (o : Dev) (e n : Nat) : List Nat :=
  (o.railPhases n).filter (fun p => bitAt (o.mailWord e 8 % 4294967296) p && !o.obsFlag p 1)

/-- SG temperature of a phase's group as latched (R96). -/
def sgTempOf (o : Dev) (p : Nat) : Int := o.sampleWord (0x88 + p / 4)

/-- Does phase `a` come before `b` in the order of adding (R159)? -/
def addsBefore (o : Dev) (n a b : Nat) : Bool :=
  if o.polNum (K.SHED_ORDER n) = 0 then decide (a < b)
  else decide (o.sgTempOf a < o.sgTempOf b) || (decide (o.sgTempOf a = o.sgTempOf b) && decide (a < b))

/-- Does phase `a` come before `b` in the order of shedding (R159)? -/
def shedsBefore (o : Dev) (n a b : Nat) : Bool :=
  if o.polNum (K.SHED_ORDER n) = 0 then decide (a > b)
  else decide (o.sgTempOf a > o.sgTempOf b) || (decide (o.sgTempOf a = o.sgTempOf b) && decide (a > b))

/-- Insert in an order. -/
def insertBy (lt : Nat → Nat → Bool) (x : Nat) : List Nat → List Nat
  | [] => [x]
  | y :: t => if lt x y then x :: y :: t else y :: insertBy lt x t

/-- Sort in an order. -/
def sortBy (lt : Nat → Nat → Bool) (l : List Nat) : List Nat := l.foldr (insertBy lt) []

/-- The threshold of a count (R167: LSB 0.0625 A) as posted, fine. -/
def polFine (o : Dev) (key : Nat) : Int := o.polNum key * 1048576

/-- The smallest count from `c` to `top` whose `ADD_AT` covers a plan, else `top` (R158). -/
def countFor (o : Dev) (n : Nat) (plan : Int) (c top : Nat) : Nat :=
  ((List.range (top + 1)).find? (fun k => decide (c ≤ k) && decide (o.polFine (K.ADD_AT n (k - 1)) ≥ plan))).getD top

/-- The ramp weight a phase has after one more step (R76–R78), LSB 2^−15. -/
def rampStep (c : Phase) : Phase :=
  match c.ramp with
  | .none => c
  | .adding =>
    let w := min 32768 (c.w0 + roundDiv (32768 * (c.rampJ + 1 : Nat)) c.rampLen)
    { c with w := w, rampJ := c.rampJ + 1, ramp := if w = 32768 then .none else .adding }
  | .shedding =>
    let w := max 0 (c.w0 - roundDiv (32768 * (c.rampJ + 1 : Nat)) c.rampLen)
    { c with w := w, rampJ := c.rampJ + 1 }

/-- Begin a ramp from the present weight (R78); an added phase enters with weight 0 (R76). -/
def startRamp (r : Ramp) (len : Nat) (c : Phase) : Phase :=
  { c with ramp := r, w0 := c.w, rampJ := 0, rampLen := max 1 len }

/-- What PM-SHED decides for one rail in a tick (R158): count, dwell in ns. -/
def shedCount (o : Dev) (e n nact avail : Nat) (iF up : Int) (dwell tick : Nat) : Nat × Nat :=
  let set := o.nat K.SHED_POLICY_SET
  let plan := iF + up + mulC (o.coef e set) (iF + up)
  if bitAt (o.mailWord e 9 % 4294967296) n then (nact, dwell)
  else if nact = 0 ∧ avail > 0 then (o.countFor n plan 1 avail, 0)
  else if decide (nact < avail) && decide (plan > o.polFine (K.ADD_AT n (nact - 1))) then (o.countFor n plan (nact + 1) avail, 0)
  else if nact > 1 ∧ up = 0 ∧ iF < o.polFine (K.SHED_AT n (nact - 1)) then
    let t := dwell + tick
    if (t : Int) ≥ o.coefInt e (3 + set) * 1000 then (nact - 1, 0) else (nact, t)
  else (nact, 0)

/-- Mitten mode of a rail in a tick (R160): the mode, the dwell in ns. -/
def mittenNext (o : Dev) (n : Nat) (iF : Int) (oneQuiet : Bool) (tick : Nat) : Bool × Nat :=
  let r := o.rl n
  let allow := o.flag K.MITTEN_ALLOW
  let auto := decide (fieldAt (o.portWord (o.railEngine n) 4 % 65536) 13 3 = 2)
  let pend := r.intents.toList.filterMap id
  if r.mitten then
    if decide (iF > o.polFine (K.MITTEN_EXIT n)) || pend.any (fun x => decide (x.age = 0) && decide (x.delta > 0)) || !allow || !auto
    then (false, 0) else (true, 0)
  else if allow && auto && oneQuiet && pend.isEmpty && decide (iF < o.polFine (K.MITTEN_ENTER n)) then
    let t := r.mitDwell + tick
    if (t : Int) ≥ o.polNum (K.MITTEN_DWELL n) * 1000 then (true, 0) else (false, t)
  else (false, 0)

/-- The capacity of a rail (R161, R164), engine units: of its available phases, frozen but for their derating on hold. -/
def shedCap (o : Dev) (e n : Nat) (avail : List Nat) : Int :=
  let sumD := (avail.map (fun p => (o.mailWord e (p / 4) % 4294967296) / 256 ^ (p % 4) % 256)).foldl (· + ·) 0
  match (o.rl n).holdCap with
  | some (c, s) => if s ≤ 0 then 0 else roundDiv (c * sumD) s
  | none =>
    let a := avail.length
    if a = 0 then 0 else roundDiv (o.polNum (K.ILIM_AT n (a - 1)) * 16 * sumD) (128 * a)

/-- The sum of the derating factors of the available phases (R164), LSB 2^−7. -/
def shedSumD (o : Dev) (e : Nat) (avail : List Nat) : Int :=
  (avail.map (fun p => (o.mailWord e (p / 4) % 4294967296) / 256 ^ (p % 4) % 256)).foldl (· + ·) 0

/-- PM-SHED for one rail (R158–R161, R164). The tick that finds a new hold keeps the capacity published at the edge that latched
it. A phase that leaves the available set while it still switches leaves by a
shed ramp, one whose latch the edge reported leaves at once (R68). A phase added anew while it sheds makes its first step at
that edge; one shed while it is added keeps its weight for that edge. Notes, log 63. -/
def shedRail (o : Dev) (e n : Nat) (d : Dev) : Dev :=
  let r := o.rl n
  let ps := o.railPhases n
  let avail := o.shedAvail e n
  let held := bitAt (o.mailWord e 9 % 4294967296) n
  let r1 : Rail := if held then (if r.holdCap.isSome then r else { r with holdCap := some (r.cap, shedSumD o e avail) })
    else { r with holdCap := none }
  let o1 := { o with rails := vset o.rails n r1 }
  if !bitAt (o.sampleWord 4 % 4294967296) n then
    let d1 := ps.foldl (fun d p => (d.modPh p (fun c => { c with w := 0, ramp := .none })).emitDrive e (0x70 + p) 0) d
    let d2 := ((d1.emitDrive e (0x60 + n) 0).emitDrive e (0x68 + n) 0).modRl n (fun x =>
      { x with iF := 0, dwell := 0, mitDwell := 0, mitten := false, cap := shedCap o1 e n avail, nact := 0, avail := avail.length, holdCap := r1.holdCap })
    (d2.emitPort e (16 + n) (shedCap o1 e n avail)).emitPort e (24 + n) (256 * avail.length + 131072 * b2i held)
  else
    let tick := o.tickNs
    let iM := o.railCurrent n
    let tau := o.coefInt e 6
    let iF := r.iF + quot ((iM * 65536 - r.iF) * tick) (tau * 1000)
    let up := (r.intents.toList.filterMap id).foldl (fun s x => s + max 0 x.delta * 4194304) 0
    let sheds := ps.filter (fun p => (o.ph p).inSet && decide ((o.ph p).ramp = Ramp.shedding))
    let act0 := ps.filter (fun p => (o.ph p).inSet && !decide ((o.ph p).ramp = Ramp.shedding))
    let act := act0.filter avail.contains
    let lost := act0.filter (fun p => !avail.contains p)
    let k := o.shedCount e n act.length avail.length iF up r.dwell tick
    let want := k.1
    let back := (sortBy (fun a b => decide ((o.ph a).w > (o.ph b).w) || (decide ((o.ph a).w = (o.ph b).w) && o.addsBefore n a b))
      (sheds.filter avail.contains)).take (want - act.length)
    let idle := sortBy (o.addsBefore n) (avail.filter (fun p => !(o.ph p).inSet))
    let add := idle.take (want - act.length - back.length)
    let drop := (sortBy (o.shedsBefore n) act).take (act.length - want)
    let addLen := o.nat (K.ADD_RAMP n)
    let shedLen := o.nat (K.SHED_RAMP n)
    let gone := fun p => bitAt (o.sampleWord 0x93 % 4294967296) p || o.obsFlag p 1
    let next := fun p =>
      let c := o.ph p
      if add.contains p then (some (startRamp .adding addLen { c with w := 0 }))
      else if back.contains p then some (rampStep (startRamp .adding addLen c))
      else if c.inSet && gone p then none
      else if drop.contains p || lost.contains p then some (startRamp .shedding shedLen c)
      else if c.inSet then
        let c' := rampStep c
        if c'.ramp = .shedding ∧ c'.w = 0 then none else some c'
      else none
    let m := o.mittenNext n iF (decide (want = 1) && decide (k.1 = act.length) && act.all (fun p => decide ((o.ph p).ramp = Ramp.none)) && sheds.isEmpty) tick
    let keep := held && !((r.intents.toList.filterMap id).any (fun x => decide (x.age = 0) && decide (x.delta > 0)))
    let mit := if keep then (r.mitten, r.mitDwell) else m
    let d1 := ps.foldl (fun d p =>
      match next p with
      | some c => (d.modPh p (fun x => { x with w := c.w, ramp := c.ramp, w0 := c.w0, rampJ := c.rampJ, rampLen := c.rampLen })).emitDrive e (0x70 + p) c.w
      | none => (d.modPh p (fun x => { x with w := 0, ramp := .none })).emitDrive e (0x70 + p) 0) d
    let mask := ps.foldl (fun m p => if (next p).isSome then m + 2 ^ p else m) 0
    let cap := shedCap o1 e n avail
    let d2 := ((d1.emitDrive e (0x60 + n) mask).emitDrive e (0x68 + n) (b2i mit.1)).modRl n (fun x =>
      { x with iF := iF, dwell := k.2, mitDwell := mit.2, mitten := mit.1, cap := cap, nact := want, avail := avail.length, holdCap := r1.holdCap })
    (d2.emitPort e (16 + n) cap).emitPort e (24 + n) ((want : Int) + 256 * avail.length + 65536 * b2i mit.1 + 131072 * b2i held)

/-- The effective weight PM-SHED publishes for a phase (R161), LSB 2^−15, from the weight of this tick. -/
def ewOf (o : Dev) (e : Nat) (d : Dev) (p : Nat) : Int :=
  match o.railOf p with
  | some n =>
    let dd := (o.mailWord e (p / 4) % 4294967296) / 256 ^ (p % 4) % 256
    clampI 0 65535 (roundShift ((d.ph p).w * o.polNum (K.BAL_WEIGHT n p) * dd) 22)
  | none => 0

/-- PM-SHED in a tick. -/
def pmShed (o : Dev) (e : Nat) (d : Dev) : Dev :=
  if o.nat K.SHED_ENGINE = e then
    let d1 := forUnits 8 (fun n d => o.shedRail e n d) d
    forUnits 16 (fun m d => d.emitPort e m (ewOf o e d1 (2 * m) + 65536 * ewOf o e d1 (2 * m + 1))) d1
  else d

end Dev

end Sys2Proof.Machine
end

