-- ==== Sys2Proof/Machine/Engines.lean ====
section
/-! DEFINITION. The engines as the device runs them: sample port, tick start and end, overruns, programs and banks
replaced, memory errors (R92–R102, R116–R130, R515). -/

namespace Sys2Proof.Machine

namespace Dev

/-- The event source of an engine's group (R130). -/
def engSrc (e : Nat) : Nat := 104 + e / 2

/-- An engine's event: kind 2, 4, 6 or 8 plus the engine's bit, with cause or SIG code and ECC address (R299, R409). -/
def engEvent (d : Dev) (e kind first addr : Nat) : Dev :=
  d.causeArg (engSrc e) (kind + e % 2) 0 (leBytes 1 first ++ leBytes 3 addr)

/-- `ENG_RAIL_MASK` (R126): rails in bits 7–0, bucks in bits 13–8. LP-AUX names the bucks it closes. -/
def railMask (d : Dev) (e : Nat) : Nat :=
  let g := (d.engine e).prog
  let of := fun (l : List Nat) (sh : Nat) => l.foldl (fun m n => m ||| (1 <<< (n + sh))) 0
  match g.kind with
  | 0 => 0
  | 1 => of (d.railsOfEngine e) 0
  | 2 => of ((d.observedOf e).filterMap d.railOf) 0
  | 3 => of ((List.range 8).filter d.unitOn) 0
  | 4 => of (d.bucksOfEngine e) 8
  | 5 => of ((List.range 8).filter d.unitOn) 0
  | _ => g.railMask

/-- Is the engine gated by ECONOMY (R425)? -/
def gated (d : Dev) (e : Nat) : Bool :=
  decide (d.power = .economy) && (d.engine e).prog.standard && !(List.range 14).any (fun u => (d.railMask e).testBit u && d.unitOn u)

/-- Does the engine run in the tick in progress? -/
def engRuns (d : Dev) (e : Nat) : Bool := decide ((d.engine e).st = .running) && d.ticking && !d.gated e

/-- The sample port of an engine (R96): its mailbox, its link slots, and the words common to all. -/
def sampleOf (d : Dev) (e a : Nat) : Int :=
  if a < 0xE0 then d.sampleWord a
  else if a < 0x100 then d.mailWord e (a - 0xE0)
  else if a < 0x1C0 then
    let s := (d.engine e).linkMap.getD (a - 0x100) 65535
    if s < 512 then d.portWord (s / 32) (s % 32) else 0
  else 0

/-- Are the debug instructions available: the device is OPEN, or a session has opened them (R464, R465)? -/
def debugAvail (d : Dev) : Bool := decide (d.num K.LOCK_STATE = 0) || d.flag K.DEBUG_OPEN

/-- Is a debugger attached: does the TAP act on a debug instruction (R107, R464)? -/
def debugging (d : Dev) : Bool := decide (d.acc.tap = .debug) && d.debugAvail

/-- Does a breakpoint of a debugger stand at the instruction to execute (R464)? -/
def breaksAt (d : Dev) (e : Nat) : Bool := d.debugging && (d.engine e).breakpoints.contains (d.engine e).pc

/-- Does engine `e` execute an instruction of a loaded program now (R92)? -/
def engExecutes (d : Dev) (e : Nat) : Bool := d.engRuns e && (d.engine e).executes && decide ((d.engine e).prog.kind = 6)

/-- Does engine `e` meet the instruction: is the word of its program memory at its pc the instruction's (R106)? -/
def fetches (d : Dev) (e : Nat) (i : Instr) : Bool :=
  d.engExecutes e && (nymrenWord i).isSome && decide ((d.engine e).words[(d.engine e).pc]? = nymrenWord i)

/-- An instruction of engine `e`: it acts while the engine executes and has it at its pc (R92); a breakpoint halts before
it. -/
def nyExec (d : Dev) (e : Nat) (i : Instr) (f : Engine → Engine) : Dev :=
  if d.fetches e i then d.modEng e (if d.breaksAt e then fun g => { g with st := .halted } else f) else d

/-- END of engine `e`: the SIGs of the tick are raised (R107). -/
def nyEndAt (d : Dev) (e : Fin 16) : Dev :=
  let d1 := d.nyExec e (.nyEnd e) Engine.nyEnd
  if d.fetches e (.nyEnd e) && !d.breaksAt e then (d.engine e).sigs.foldl (fun d c => d.engEvent e 8 c 0) d1 else d1

/-- The stop point of an engine's tick (R125): one that has not retired END is stopped. -/
def overrunAt (d : Dev) (e : Nat) : Dev :=
  let g := d.engine e
  if d.engRuns e && !g.ended && !g.overran then
    d.modEng e (fun g => { g with overran := true, overrunCause := if g.prog.unchecked then 0 else 1 })
  else d

/-- An engine's ended tick is released (R94, R97, R99, R125): port words, owned drive words, state, cycle counts. `stamp` is the
count of the edge. -/
def engRelease (d : Dev) (e : Nat) (stamp : Int) : Dev :=
  let g := d.engine e
  let d1 := g.driveTick.foldl (fun d x => if d.owns e x.1 then d.setDrive x.1 x.2 else d) d
  let d2 := d1.modEng e (fun g => { g.flip with
    port := g.portTick.foldl (fun m x => Assoc.set zeroAt m x.1 x.2) g.port, portTick := [], driveTick := [], stampAt := stamp,
    overrunLimit := false })
  (((d2.setNum (K.ENG_CYCLES_LAST e) g.cycles).modNum (K.ENG_CYCLES_MAX e) (fun m => max m g.cycles)).setNum (K.OVERRUN_CONSEC e) 0).putBit
    K.ENG_OVERRUN_MASK e false

/-- An engine missed its tick (R125, R126): what it wrote is discarded; at the limit its group's event is committed, and
there and beyond it every enabled buck of its takes its response (R242). A dropped tick of RM-PLAUS drops its sense tests (R210). -/
def engOverrun (d : Dev) (e : Nat) : Dev :=
  let d1 := d.modEng e (fun g => { g with portTick := [], driveTick := [], dirty := [], overrunFlag := true })
  let d2 := (((d1.bump (K.OVERRUN_COUNT e) 32).bump (K.OVERRUN_CONSEC e) 8).putBit K.ENG_OVERRUN_MASK e true)
  let d3 := if (d.engine e).prog.kind = 5 then forUnits 8 (fun n d => d.modRl n (fun r => { r with plaus := { r.plaus with test := 0 } })) d2 else d2
  if d3.num (K.OVERRUN_CONSEC e) ≥ d3.num (K.OVERRUN_LIMIT e) then
    let d4 := if (d.engine e).overrunLimit then d3
      else (d3.modEng e (fun g => { g with overrunLimit := true })).engEvent e 2 (d.engine e).overrunCause 0
    forUnits 6 (fun b d => if (d.railMask e).testBit (8 + b) && d.unitOn (8 + b) then d.trip (8 + b) 5 else d) d4
  else d3

/-- The stop point of a standard program (R125, R127): it misses the tick where its cycles exceed the budget. They are a free value
within W (log 6) and the stalls of corrected reads. -/
def stdTick (o : Dev) (e : Nat) (d : Dev) : Dev :=
  let r := d.draw
  let g := o.engine e
  let spent := g.cycles + (r.1 % (o.wcet e g.prog + 1 : Nat)).toNat
  if spent > o.budget then
    r.2.modEng e (fun g => { g with overran := true, overrunCause := if g.prog.unchecked then 0 else 1, cycles := spent })
  else
    (match g.prog.kind with
    | 1 => o.lpMain e r.2
    | 2 => o.obPhase e r.2
    | 3 => o.pmShed e r.2
    | 4 => o.lpAux e r.2
    | 5 => o.rmPlaus e r.2
    | _ => r.2).modEng e (fun g => { g with ended := true, cycles := spent })

/-- The release window before an edge for every engine (R92, R125): a tick whose END has retired is released, also where the
engine was halted or met an error after it (R94, R97). -/
def engEdge (d : Dev) (stamp : Int) : Dev :=
  let d1 := forUnits 16 (fun e x => if d.engRuns e && (d.engine e).prog.standard && !(d.engine e).overran && !(d.engine e).idle then d.stdTick e x else x) d
  forUnits 16 (fun e x =>
    let g := x.engine e
    if g.prog.kind = 0 ∨ g.idle = true ∨ g.st = .stopped then x.putBit K.ENG_OVERRUN_MASK e false
    else if g.ended = true ∧ g.overran = false then x.engRelease e stamp
    else if g.st = .halted then (x.modEng e (fun g => { g with overrunCause := 2 })).engOverrun e
    else (x.overrunAt e).engOverrun e) d1

/-- The active set and the weights that the shed engine committed reach the phases of enabled rails (R75–R77, R99): a phase
that leaves drains, one at MID simply leaves, and one whose latch is held is not added (R68). A drain in progress goes on
(R61). -/
def commitSets (d : Dev) : Dev :=
  forUnits 32 (fun p d =>
    let in_ := match d.railOf p with
      | some n => bitAt (d.driveWord (0x60 + n) % 4294967296) p && d.unitOn n
      | none => false
    let w := min 32768 (d.driveWord (0x70 + p) % 65536)
    d.modPh p (fun c =>
      let now := in_ && (c.inSet || !c.latch)
      { c with inSet := now, wc := w, draining := c.draining || (c.inSet && !now && decide (c.out ≠ .mid)) })) d

/-- The initial state words of an image (R115). -/
def initState (g : Image) : Assoc Int := g.init.zipIdx.foldl (fun m x => Assoc.set zeroAt m x.2 x.1) []

/-- The state of a standard program starts afresh (R117). The path resistance of RM-PLAUS starts at 0 (R211). -/
def stdInit (d : Dev) (id e : Nat) : Dev :=
  match id with
  | 1 => (d.railsOfEngine e).foldl (fun d n => d.modRl n (fun r => { r with lp := {} })) d
  | 2 => if 8 ≤ e ∧ e < 12 then forUnits 8 (fun j d => d.modPh (8 * (e - 8) + j) (fun c =>
      obsReseed (d.coefInt e 6) (d.coefInt e 5) c)) d else d
  | 3 => forUnits 8 (fun n d => d.modRl n (fun r => { r with iF := 0, dwell := 0, mitDwell := 0, mitten := false, holdCap := none })) d
  | 4 => (d.bucksOfEngine e).foldl (fun d b => d.modBk b (fun k => { k with wasOn := false, iB := 0, softStart := false })) d
  | 5 => forUnits 8 (fun n d => d.modRl n (fun r => { r with plaus := {} })) d
  | _ => d

/-- Link slots of a program (R98). -/
def linksOf (g : Image) : List Nat :=
  if g.standard then (List.range 192).map (fun s => (Config.stdLink g.id s).toNat) else g.imports

/-- The state layout ID in an image's header (R115, R117). The spec does not give that of a standard program: free bytes.
Notes, log 6. -/
def layoutOf (g : Image) : Nat :=
  if g.standard then (Config.stdHeader g.id 6).toNat + 256 * (Config.stdHeader g.id 7).toNat else g.layout

/-- The flags in an image's header (R115). R131 gives rate_dependent of a standard program; its keep_state is a free value.
Notes, log 6. -/
def flagsOf (g : Image) : Nat := if g.standard then g.flags + (Config.stdHeader g.id 16).toNat / 2 % 2 * 2 else g.flags

/-- A program swap at its edge (R117): the old program goes to the shadow. State is kept with keep_state and an equal layout. An
engine whose bank is still lost does not run yet (R129). -/
def swapProg (d : Dev) (e : Nat) : Dev :=
  let g := d.engine e
  let new := g.shadow
  let keep := (flagsOf new).testBit 1 && decide (layoutOf new = layoutOf g.prog)
  let d1 := d.modEng e (fun g => { g with
    prog := new, shadow := g.prog, shadowSt := .checked, swapProg := 0, linkMap := linksOf new,
    committed := if keep then g.committed else initState new,
    st := if new.kind = 0 then .stopped else if g.badBank then .fault else .running,
    port := if new.kind = 0 then [] else g.port, badProg := false, ended := true, overran := false })
  if keep then d1 else d1.stdInit new.kind e

/-- The load constants of every engine's program are filled in (R114). -/
def patchWords (d : Dev) : Dev :=
  forUnits 16 (fun e x => x.modEng e (fun g => { g with words := g.prog.patched (d.loadConst e) })) d

/-- The banks of an engine change places (R31, R121). -/
def flipBank (d : Dev) (e : Nat) : Dev := (d.modEng e (fun g => { g with bankB := !g.bankB })).bump (K.BANK_SWAP_COUNT e) 32

/-- A bank swap at its edge (R121). -/
def swapBank (d : Dev) (e : Nat) : Dev := (d.flipBank e).modEng e (fun g => { g with swapBank := false })

/-- The swaps of one engine at an edge, in the order of R123. -/
def swapEdge (d : Dev) (e : Nat) : Dev :=
  let g := d.engine e
  let d1 := if g.swapProg > 0 then d.swapProg e else d
  if g.swapBank then d1.swapBank e else d1

/-- A state region lost to an uncorrectable error is loaded anew (R129). -/
def stateReload (d : Dev) : Dev :=
  forUnits 16 (fun e d =>
    if (d.engine e).badState then
      (d.modEng e (fun g => { g with committed := initState g.prog, badState := false })).stdInit (d.engine e).prog.kind e
    else d) d

/-- Every engine begins the next tick (R92); one that stands still misses it (R127). -/
def engStart (d : Dev) : Dev :=
  forUnits 16 (fun e d =>
    if d.engRuns e then
      d.modEng e Engine.startTick
    else d.modEng e (fun g => { g with
      idle := decide (g.st = .stopped) || decide (g.st = .running) || !d.ticking || d.gated e, ended := false, overran := true })) d.stateReload

/-- Is each enabled unit served by the program of its owner (R101)? Units 0–13, then the engine-driven monitors from 14 on. -/
def unserved (d : Dev) : List Nat :=
  (List.range 14).filter (fun u => d.unitOn u && d.noEngine u) ++
    ((List.range 24).filter (fun w =>
      let c := d.accNum (K.WM_CONFIG w)
      bitAt c 5 && ((wmEnabled c false && !d.served (0xA0 + w)) || (wmEnabled c true && !d.served (0xB8 + w))))).map (· + 14)

/-- Would a change leave an enabled unit without a program for its drive words that has one before (R101)? -/
def unserves (before after : Dev) : Bool := after.unserved.any (fun u => !before.unserved.contains u)

/-- Is a swap of the engine pending (R116, R121)? -/
def swapPending (d : Dev) (e : Nat) : Bool := decide ((d.engine e).swapProg > 0) || (d.engine e).swapBank

/-- Has the engine's boot load ended (R514)? -/
def engLoaded (d : Dev) : Bool := decide (d.boot.rank ≥ 3)

/-- Rule of `PROG_SHADOW_SEL` and `PROG_IMAGE` (R116, R514): a shadow that a pending swap, or the
reload after a memory error, will use is not replaced. Notes, log 19. -/
def shadowRule (d : Dev) (e : Nat) : Reason :=
  if !d.engLoaded then .busy else if (d.engine e).shadowSt = .pending ∨ (d.engine e).badProg = true then .busy else .none

/-- Rule of `PROG_SWAP_REQ` (R101, R112, R116, R427, R514). -/
def progSwapRule (d : Dev) (e : Nat) : Reason :=
  let g := d.engine e
  let d1 := d.coming.modEng e (fun g => { g with prog := g.shadow })
  if !d.engLoaded then .busy
  else if d.power = .keep then .state
  else if g.shadowSt ≠ .checked ∨ d.swapPending e = true then .busy
  else if unserves d.coming d1 then .drive
  else if !g.shadow.unchecked && decide (d1.wcet e g.shadow > d.budget) then .budget
  else .none

/-- An accepted `PROG_SWAP_REQ` waits for its edge (R116). -/
def progSwap (d : Dev) (e : Nat) (v : Int) : Dev :=
  d.modEng e (fun g => { g with swapProg := v.toNat, swapBank := g.swapBank || decide (v = 2), shadowSt := .pending })

/-- Rule of `BANK_SWAP_REQ` (R121, R427, R514). -/
def bankSwapRule (d : Dev) (e : Nat) (v : Int) : Reason :=
  if !d.engLoaded then .busy else if v = 0 then .none
  else if d.power = .keep then .state else if (d.engine e).swapBank then .busy else .none

/-- Rule of `BANK_COPY` (R119, R121, R514). -/
def bankCopyRule (d : Dev) (e : Nat) : Reason := if !d.engLoaded then .busy else if d.swapPending e then .busy else .none

/-- `BANK_COPY` (R121): every entry and the tag of the active bank. -/
def bankCopy (d : Dev) (e : Nat) : Dev :=
  let b := (d.engine e).bankB
  forUnits 257 (fun c d => d.fillCoef e (!b) c (coefKey e b c) (d.obj (coefKey e b c))) d

/-- Rule of a write of an entry or tag of a bank (R119, R122, R514). -/
def coefRule (d : Dev) (e : Nat) (bankB : Bool) : Reason :=
  if !d.engLoaded then .busy
  else if (d.engine e).bankB == bankB then .activeBank
  else if d.swapPending e then .busy else .none

/-- A program enters the shadow for its check (R116). -/
def shadowLoad (d : Dev) (e : Nat) (g : Image) : Dev :=
  d.modEng e (fun x => { x with shadow := { g with unchecked := d.flag (K.CHECK_BYPASS e) }, shadowSt := .loading })

/-- `PROG_SHADOW_SEL` (R116): an ID that holds no image is checked as one with a wrong header. -/
def shadowSel (d : Dev) (e id : Nat) : Dev :=
  match d.library id with
  | some g => d.shadowLoad e g
  | none => d.shadowLoad e { Image.none with id := 0xFFFF }

/-- `PROG_IMAGE` (R116): an image whose header fails is kept as one that the check refuses. -/
def shadowImage (d : Dev) (e : Nat) (bs : List Byte) : Dev :=
  if headerOk bs then d.shadowLoad e (Image.ofBytes bs) else d.shadowLoad e { Image.none with id := 0xFFFF }

/-- PROGRAM_CHECK_DONE (R110, R113). -/
def checkDone (d : Dev) (e : Nat) : Dev :=
  let g := d.engine e
  if g.shadowSt = .loading ∧ d.supRuns = true then
    let d := (d.endOp (K.PROG_SHADOW_SEL e) .none).endOp (K.PROG_IMAGE e) .none
    match (if g.shadow.id = 0xFFFF then some (1, 0) else d.checkImage e g.shadow d.budget g.shadow.unchecked) with
    | some (c, a) => (d.modEng e (fun g => { g with shadowSt := .refused })).setNum (K.PROG_CHECK_RESULT e) ((c : Int) * 16777216 + a)
    | none => (d.modEng e (fun g => { g with shadowSt := .checked })).setNum (K.PROG_CHECK_RESULT e) 0
  else d

/-- Rule of `LIB_STORE` (R118): the shadow holds an image that has passed its check. Notes, log 18. -/
def libStoreRule (d : Dev) (v : Int) : Reason :=
  let g := d.engine (v.toNat % 256)
  if d.nvm.libRun.isSome then .busy
  else if (g.shadowSt = .checked ∨ g.shadowSt = .pending) ∧ g.shadow.kind ≠ 0 then .none else .state

/-- LIB_STORE_DONE (R118): the slot holds the image as it stood at the write. That an earlier check left BUDGET out is no mark
of an image in the library (R113). Notes, log 65. -/
def libStoreDone (d : Dev) (ok : Bool) : Dev :=
  match d.nvm.libRun with
  | some (_, s) =>
    let lib := if ok then vset d.nvm.lib s { d.nvm.libImage with unchecked := false } else d.nvm.lib
    let d1 := { d with nvm := { d.nvm with libRun := none, libImage := Image.none, lib := lib } }
    d1.endOp K.LIB_STORE (if ok then .none else .nvm)
  | none => d

/-- Rule of the mailbox objects (R102). -/
def mailboxRule (d : Dev) (e : Nat) : Reason := if (d.engine e).prog.standard then .owned else .none

/-- `MAILBOX_POST` = 1: the staged words appear together at the next edge (R102). -/
def mailboxPost (d : Dev) (e : Nat) : Dev :=
  let ws := (List.range 32).foldl (fun m i => Assoc.set zeroAt m i (wrap32 (d.num (K.MAILBOX_STAGE e i)))) []
  d.modEng e (fun g => { g with mailPost := some ws })

/-- ECC_SCRUB (R127, R128): the supervisor's pass over an engine corrects a word; where the engine's own read meets it, that
read costs 2 cycles more. -/
def eccScrub (d : Dev) (e : Nat) (corrected stall : Bool) : Dev :=
  let reads := stall && d.engRuns e && (d.engine e).executes
  if corrected && (d.supRuns || reads) then
    (d.modEng e (fun g => { g with eccCorrected := true, cycles := if reads then g.cycles + 2 else g.cycles })).bump (K.ENG_ECC_COUNT e) 16
  else d

/-- The word address an error location gives in its event (R409): within its memory. -/
def eccAddr : EccLoc → Nat
  | .code a | .shadow a => a
  | .activeBank c | .inactiveBank c => c
  | .state a => a
  | .scratch a => 0x200 + a

/-- The engine stops for the tick (R125, R129): one whose END has not retired misses it. -/
def eccStop (g : Engine) : Engine := if g.ended then g else { g with overran := true, overrunCause := 3 }

/-- ECC_UNCORRECTABLE (R129). A swap that waits for a shadow which becomes REFUSED does not take place, nor the bank swap
requested with it. Notes, log 19. -/
def eccUncorrectable (d : Dev) (e : Nat) (loc : EccLoc) : Dev :=
  let d1 := (d.modEng e (fun g => { g with eccFatal := true })).engEvent e 4 3 (eccAddr loc)
  let fault : Engine → Engine := fun g => { eccStop g with st := if g.st = .running then .fault else g.st, overrunCause := 3 }
  match loc with
  | .code _ => d1.modEng e (fun g => { fault g with badProg := true })
  | .activeBank _ => d1.modEng e (fun g => { fault g with badBank := true })
  | .state _ => d1.modEng e (fun g => { eccStop g with badState := true })
  | .shadow _ => (d1.modEng e (fun g => { g with
      shadowSt := .refused, swapProg := 0, swapBank := g.swapBank && decide (g.swapProg ≠ 2) })).setNum (K.PROG_CHECK_RESULT e) 16777216
  | .inactiveBank c => d1.fillCoef e (!(d.engine e).bankB) c 0 (.coef 0 0)
  | .scratch a => d1.modEng e (fun g => { g with scratch := Assoc.set zeroAt g.scratch (0x200 + a) 0 })

/-- The library's copy of a program (R129): the image that holds the same, wherever it stands. -/
def libraryCopy (d : Dev) (g : Image) : Option Image :=
  ([1, 2, 3, 4, 5, 0x8000, 0x8001, 0x8002, 0x8003].filterMap d.library).find? (fun x => decide (x = { g with unchecked := false }))

/-- A reload of a program has failed (R129, R130): `PROG_CHECK_RESULT` and the event. -/
def reloadRefused (d : Dev) (e c a : Nat) : Dev :=
  ((d.modEng e (fun g => { g with badProg := false })).setNum (K.PROG_CHECK_RESULT e) ((c : Int) * 16777216 + a)).engEvent e 6 3 0

/-- The program of an engine is loaded from the library into the shadow, checked and swapped (R129). A copy that the library does
not hold fails as one with a wrong header. -/
def progReload (d : Dev) (e : Nat) : Dev :=
  match d.libraryCopy (d.engine e).prog with
  | some new =>
    let bypass := d.flag (K.CHECK_BYPASS e)
    match d.checkImage e new d.budget bypass with
    | some (c, a) => d.reloadRefused e c a
    | none => d.modEng e (fun g => { g with shadow := { new with unchecked := bypass }, shadowSt := .pending, swapProg := 1 })
  | none => d.reloadRefused e 1 0

/-- The active bank of an engine is loaded from the stored values into the inactive one and swapped (R129). -/
def bankReload (d : Dev) (e : Nat) (stored : Nat → Val) : Dev :=
  let g := d.engine e
  let d1 := forUnits 257 (fun c d => d.fillCoef e (!g.bankB) c (coefKey e g.bankB c) (stored (coefKey e g.bankB c))) d
  d1.modEng e (fun g => { g with swapBank := true, badBank := false, st := if g.st = .fault ∧ g.badProg = false then .running else g.st })

/-- ENGINE_RELOAD_DONE (R129, R130): what a memory error lost, bank and program, is loaded again. -/
def reloadDone (d : Dev) (e : Nat) (stored : Nat → Val) : Dev :=
  if d.supRuns then
    let d1 := if (d.engine e).badBank then d.bankReload e stored else d
    if (d.engine e).badProg then d1.progReload e else d1
  else d

/-- The loader at boot or at a wake into ACTIVE (R515, R124): the program that `ENG_PROG_SEL` names, checked. -/
def loadEngine (d : Dev) (e : Nat) : Dev :=
  let id := (d.effNum (K.ENG_PROG_SEL e)).toNat
  let bad := fun (c a : Nat) (d : Dev) =>
    ((d.modEng e (fun g => { g with prog := Image.none, st := .stopped, linkMap := [] })).setNum (K.PROG_CHECK_RESULT e)
      ((c : Int) * 16777216 + a)).engEvent e 6 0 0
  match d.library id with
  | none => bad 1 0 d
  | some g =>
    match d.checkImage e g (budgetAt (d.nat K.TICK_RATE)) false with
    | some (c, a) => bad c a d
    | none =>
      let rate := d.num K.TICK_RATE
      let fits := fun k => decide (d.num k = rate)
      let b := g.flags.testBit 0 && fits (K.BANK_TAG_B e) && !fits (K.BANK_TAG_A e)
      (d.modEng e (fun x => { x with
        prog := { g with unchecked := false }, words := g.patched (d.loadConst e), st := if g.kind = 0 then .stopped else .running,
        linkMap := linksOf g, committed := initState g, bankB := b, ended := true, overran := false })).stdInit g.kind e

/-- `ENG_STATE` (R132, R425, R427). -/
def engState (d : Dev) (e : Nat) : Int :=
  if !d.ticking || d.gated e then 0 else (d.engine e).st.code

/-- `ENG_STATUS` (R132). -/
def engStatus (d : Dev) (e : Nat) : Int :=
  let g := d.engine e
  let age := decide (g.prog.kind = 1) && d.flag K.OBS_DECIMATE && decide (d.num K.TICK_COUNT % 2 = 1)
  32768 * b2i g.overrunFlag + 16384 * b2i g.overrunLimit + 4096 * (g.overrunCause : Int) + 2048 * b2i g.prog.unchecked +
    1024 * b2i g.eccCorrected + 512 * b2i g.eccFatal + 256 * b2i g.sat + 128 * b2i g.accSat + 64 * b2i g.div0 + 32 * b2i g.addrErr +
    16 * b2i g.driveDenied + 8 * b2i age + 4 * b2i g.swapBank + 2 * b2i (g.swapProg > 0)

/-- A read of `ENG_STATUS` clears its sticky bits (R103, R132). -/
def engStatusClear (d : Dev) (e : Nat) : Dev :=
  d.modEng e (fun g => { g with
    overrunFlag := false, eccCorrected := false, eccFatal := false, sat := false, accSat := false, div0 := false, addrErr := false,
    driveDenied := false })

/-- The header of the running program (R115, R134): of no program, 64 zero bytes, which is the model's choice (notes, log 19);
of a standard program what R131 states, and free bytes. -/
def progHeader (d : Dev) (e : Nat) : List Byte :=
  let g := (d.engine e).prog
  if g.kind = 0 then List.replicate 64 0
  else if g.standard then
    leBytes 4 0x314D594E ++ leBytes 2 g.id ++ leBytes 2 (layoutOf g) ++ leBytes 4 g.version ++
      (List.range 4).map (fun i => Config.stdHeader g.id (12 + i)) ++ leBytes 2 (flagsOf g) ++ (List.range 4).map (fun i => Config.stdHeader g.id (18 + i)) ++
      leBytes 2 g.drives.length ++ (List.range 4).map (fun i => Config.stdHeader g.id (24 + i)) ++
      List.replicate 32 0 ++ (List.range 4).map (fun i => Config.stdHeader g.id (60 + i))
  else g.header

/-- `LIBRARY_INDEX` (R131, R133): the version carries a build byte of 0. -/
def libraryIndex (d : Dev) : List Byte :=
  [1, 2, 3, 4, 5].flatMap (fun (id : Nat) => leBytes 2 id ++ leBytes 4 0x03020000 ++ leBytes 4 (stdSize id)) ++
    (List.range 4).flatMap (fun s =>
      let g := vget d.nvm.lib s
      if g.size = 0 then [] else leBytes 2 (0x8000 + s : Nat) ++ leBytes 4 g.version ++ leBytes 4 g.size)

/-- `DRIVE_DECL` (R134). -/
def driveDecl (d : Dev) (e : Nat) : List Byte := (d.engine e).prog.drives.flatMap (fun r => leBytes 2 r.1 ++ leBytes 2 r.2)

/-- Is some engine that R216 counts against a rail at its limit, or overrunning? -/
def railEngineAt (d : Dev) (n : Nat) (f : Engine → Bool) : Bool :=
  (List.range 16).any (fun e => (d.railMask e).testBit n && f (d.engine e))

/-- The causes of Glove mode of a rail (R215): the verdict, an engine at its overrun limit. -/
def gloveCauses (d : Dev) (n : Nat) : Bool × Bool := (decide (d.verdict n = 2), d.railEngineAt n (fun g => g.overrunLimit))

/-- Ticks of `GLOVE_TIME` (R215). -/
def gloveTicks (d : Dev) (n : Nat) : Nat := d.ticksOf (d.nat (K.GLOVE_TIME n) * 1000)

/-- The fault kind, as a mask, whose response runs at the entry edge since `GLOVE_TIME` is 0 (R217). -/
def gloveAtOnce (d : Dev) (n : Nat) : Nat :=
  let c := d.gloveCauses n
  if !(d.rl n).glove && decide (d.gloveTicks n = 0) then (if c.1 then 32 else if c.2 then 64 else 0) else 0

/-- Glove mode of an enabled rail at an edge (R215–R217). With `GLOVE_TIME` = 0 the rail is not held. -/
def gloveEdge (d : Dev) (n : Nat) : Dev :=
  let c := d.gloveCauses n
  let upper := (List.range 16).any (fun e => (d.railMask e).testBit n && decide (d.num (K.OVERRUN_CONSEC e) > 0))
  if (d.rl n).glove then
    d.modRl n (fun r => { r with
      gloveFb := r.gloveFb || c.1, engForced := r.engForced || c.2, gloveLeft := r.gloveLeft - 1,
      gloveClear := if c.1 || c.2 || upper then 0 else r.gloveClear + 1 })
  else if c.1 || c.2 then
    let d1 := (d.bump (K.GLOVE_COUNT n) 16).cause (32 + n) (if c.1 then 0x10 else 0x11)
    if d.gloveTicks n = 0 then d1
    else d1.modRl n (fun r => { r with glove := true, gloveLeft := d.gloveTicks n, gloveFb := c.1, engForced := c.2, gloveClear := 0 })
  else d

/-- GLOVE_EXIT (R216). -/
def gloveExit (d : Dev) (n : Nat) : Dev := if decide ((d.rl n).gloveClear ≥ d.num (K.GLOVE_RECOVER n)) then d.gloveLeave n else d

/-- GLOVE_TIMER_EXPIRY (R217). -/
def gloveExpiry (d : Dev) (n : Nat) : Dev :=
  if (d.rl n).glove then d.tripDue n (if (d.rl n).gloveFb then 6 else 7) else d

/-- SENSE_TEST_DUE (R210). -/
def senseTestDue (d : Dev) (n : Nat) : Dev :=
  if d.unitOn n && decide (d.verdict n ≠ 2) && d.supRuns && d.ticking then d.modRl n (fun r => { r with testDue := true }) else d

/-- FROZEN_ADC (R45). -/
def frozenAdc (d : Dev) (n : Nat) : Dev := if d.num (K.DITHER_MISS n) ≥ 64 then d.modRl n (fun r => { r with adcFrozen := true }) else d

end Dev

end Sys2Proof.Machine
end

