-- ==== Sys2Proof/Machine/Sha.lean ====
section
/-! DEFINITION. HMAC-SHA-256, which R444 and R461 name: SHA-256 as FIPS 180-4 and HMAC as RFC 2104 define them. PRESUMED: the spec
gives the names alone. Notes, log 80. -/

namespace Sys2Proof.Machine

/-- The constants of the 64 rounds, 16 at a time. -/
def shaRounds1 : List (BitVec 32) :=
  [0x428a2f98, 0x71374491, 0xb5c0fbcf, 0xe9b5dba5, 0x3956c25b, 0x59f111f1, 0x923f82a4, 0xab1c5ed5,
   0xd807aa98, 0x12835b01, 0x243185be, 0x550c7dc3, 0x72be5d74, 0x80deb1fe, 0x9bdc06a7, 0xc19bf174]
/-- Rounds 16 to 31. -/
def shaRounds2 : List (BitVec 32) :=
  [0xe49b69c1, 0xefbe4786, 0x0fc19dc6, 0x240ca1cc, 0x2de92c6f, 0x4a7484aa, 0x5cb0a9dc, 0x76f988da,
   0x983e5152, 0xa831c66d, 0xb00327c8, 0xbf597fc7, 0xc6e00bf3, 0xd5a79147, 0x06ca6351, 0x14292967]
/-- Rounds 32 to 47. -/
def shaRounds3 : List (BitVec 32) :=
  [0x27b70a85, 0x2e1b2138, 0x4d2c6dfc, 0x53380d13, 0x650a7354, 0x766a0abb, 0x81c2c92e, 0x92722c85,
   0xa2bfe8a1, 0xa81a664b, 0xc24b8b70, 0xc76c51a3, 0xd192e819, 0xd6990624, 0xf40e3585, 0x106aa070]
/-- Rounds 48 to 63. -/
def shaRounds4 : List (BitVec 32) :=
  [0x19a4c116, 0x1e376c08, 0x2748774c, 0x34b0bcb5, 0x391c0cb3, 0x4ed8aa4a, 0x5b9cca4f, 0x682e6ff3,
   0x748f82ee, 0x78a5636f, 0x84c87814, 0x8cc70208, 0x90befffa, 0xa4506ceb, 0xbef9a3f7, 0xc67178f2]

/-- The eight working words. -/
structure ShaState where
  a : BitVec 32 := 0x6a09e667
  b : BitVec 32 := 0xbb67ae85
  c : BitVec 32 := 0x3c6ef372
  d : BitVec 32 := 0xa54ff53a
  e : BitVec 32 := 0x510e527f
  f : BitVec 32 := 0x9b05688c
  g : BitVec 32 := 0x1f83d9ab
  h : BitVec 32 := 0x5be0cd19
  deriving DecidableEq, Repr

/-- One round with its constant plus schedule word. -/
def shaRound (s : ShaState) (kw : BitVec 32) : ShaState :=
  let t1 := s.h + (s.e.rotateRight 6 ^^^ s.e.rotateRight 11 ^^^ s.e.rotateRight 25) + ((s.e &&& s.f) ^^^ (~~~s.e &&& s.g)) + kw
  let t2 := (s.a.rotateRight 2 ^^^ s.a.rotateRight 13 ^^^ s.a.rotateRight 22) + ((s.a &&& s.b) ^^^ (s.a &&& s.c) ^^^ (s.b &&& s.c))
  { a := t1 + t2, b := s.a, c := s.b, d := s.c, e := s.d + t1, f := s.e, g := s.f, h := s.g }

/-- The next schedule word from the sixteen before it, oldest first. -/
def shaNext (w : List (BitVec 32)) : BitVec 32 :=
  let x := w.getD 1 0
  let y := w.getD 14 0
  w.getD 0 0 + (x.rotateRight 7 ^^^ x.rotateRight 18 ^^^ x >>> 3) + w.getD 9 0 + (y.rotateRight 17 ^^^ y.rotateRight 19 ^^^ y >>> 10)

/-- Rounds over their constants: the working words and the sixteen latest schedule words. -/
def shaRun (x : ShaState × List (BitVec 32)) (ks : List (BitVec 32)) : ShaState × List (BitVec 32) :=
  ks.foldl (fun x k => (shaRound x.1 (k + x.2.headD 0), x.2.drop 1 ++ [shaNext x.2])) x

/-- A big-endian word of a block. -/
def shaWord (bs : List Byte) (i : Nat) : BitVec 32 :=
  BitVec.ofNat 32 ((List.range 4).foldl (fun n k => n * 256 + (bs.getD (4 * i + k) 0).toNat) 0)

/-- One block of 64 bytes. -/
def shaBlock (s : ShaState) (bs : List Byte) : ShaState :=
  let r := (shaRun (shaRun (shaRun (shaRun (s, (List.range 16).map (shaWord bs)) shaRounds1) shaRounds2) shaRounds3) shaRounds4).1
  { a := s.a + r.a, b := s.b + r.b, c := s.c + r.c, d := s.d + r.d, e := s.e + r.e, f := s.f + r.f, g := s.g + r.g, h := s.h + r.h }

/-- A message with its padding: 80h, zeros, and its length in bits over eight bytes, big end first. -/
def shaPad (m : List Byte) : List Byte :=
  m ++ [0x80] ++ List.replicate ((119 - m.length % 64) % 64) 0 ++ (List.range 8).map (fun i => BitVec.ofNat 8 (8 * m.length / 2 ^ (56 - 8 * i)))

/-- SHA-256 of a message, as a number, big end first. -/
def sha256 (m : List Byte) : BitVec 256 :=
  let p := shaPad m
  let s := (List.range (p.length / 64)).foldl (fun s i => shaBlock s ((p.drop (64 * i)).take 64)) {}
  s.a ++ s.b ++ s.c ++ s.d ++ s.e ++ s.f ++ s.g ++ s.h

/-- Byte `i` of a digest, big end first. -/
def macByte (m : BitVec 256) (i : Nat) : Byte := BitVec.ofNat 8 (m.toNat / 2 ^ (248 - 8 * i))

/-- HMAC-SHA-256 of a message under a key. -/
def hmac (key msg : List Byte) : BitVec 256 :=
  let bytes := fun m : BitVec 256 => (List.range 32).map (macByte m)
  let k0 := if key.length > 64 then bytes (sha256 key) else key
  let k := k0 ++ List.replicate (64 - k0.length) 0
  sha256 (k.map (· ^^^ 0x5C) ++ bytes (sha256 (k.map (· ^^^ 0x36) ++ msg)))

end Sys2Proof.Machine
end

