-- ==== Sys2Proof/Machine/Access.lean ====
section
/-! DEFINITION. Access control: sessions, credentials, lock state and the debug port (R452–R466). Interfaces by their
code 1 to 4 (R453). -/

namespace Sys2Proof.Machine

/-- Is the object one of the credentials or password entries whose bytes never reach a record (R458)? -/
def secretIdx (idx : Nat) : Bool := idx == 0x3202 || idx == 0x3203 || idx == 0x3207

namespace Dev

/-- An interface of access control. -/
def iface (d : Dev) (i : Nat) : Iface := vget d.acc.ifs (i - 1)

/-- Change an interface. -/
def modIface (d : Dev) (i : Nat) (f : Iface → Iface) : Dev := { d with acc := { d.acc with ifs := vmod d.acc.ifs (i - 1) f } }

/-- Is the credential set (R457)? -/
def credSet (d : Dev) (key : Nat) : Bool := (d.obj key).bs.any (fun b => b != 0)

/-- `AUTH_CRED_SET` (R468). -/
def credMask (d : Dev) : Int :=
  4 * b2i (d.credSet K.AUTH_KEY) + 2 * b2i (d.credSet (K.AUTH_PASSWORD 1)) + b2i (d.credSet (K.AUTH_PASSWORD 0))

/-- Is an L3 credential set (R456)? -/
def l3Set (d : Dev) : Bool := d.credSet (K.AUTH_PASSWORD 1) || d.credSet K.AUTH_KEY

/-- A halted engine runs again from its entry at the next tick edge (R127, R466); the tick in which it resumes is missed, unless its
END had retired. Notes, log 70. -/
def resumed (g : Engine) : Engine :=
  if g.st = .halted then
    { g with st := .running, overran := g.overran || !g.ended, overrunCause := if g.ended then g.overrunCause else 2 }
  else g

/-- Debug closes (R466): breakpoints go, the supervisor resumes, halted engines run from their entry at the next edge. A debug
instruction in the TAP stays there, acting as BYPASS, until the next Update-IR. -/
def debugClose (d : Dev) : Dev :=
  let d0 := d.setNum K.DEBUG_OPEN 0
  let d1 := { d0 with
    supHalted := false,
    acc := { d0.acc with supBreaks := [], ifs := d0.acc.ifs.map (fun i : Iface => { i with debugOwner := false }) } }
  forUnits 16 (fun e d => d.modEng e (fun g => { resumed g with breakpoints := [] })) d1

/-- Debug that a session opened closes, with its event (R465). -/
def debugShut (d : Dev) (osn : Nat) : Dev := if d.flag K.DEBUG_OPEN then d.debugClose.causeOsn 122 0x39 osn else d

/-- The session of an interface ends with a cause (R463); debug that it opened closes (R465). -/
def sessionEnd (d : Dev) (i cause osn : Nat) : Dev :=
  if (d.iface i).level ≥ 2 then
    let owner := (d.iface i).debugOwner
    let d1 := (d.modIface i (fun x => { x with level := 0, endCause := cause })).causeOsn 122 (0x20 + i) osn
    if owner then d1.debugShut osn else d1
  else d

/-- Every session ends with a cause. -/
def sessionsEnd (d : Dev) (cause osn : Nat) : Dev := [1, 2, 3, 4].foldl (fun d i => d.sessionEnd i cause osn) d

/-- Does a write or read on sub-index `sub` come from the interface it belongs to (R459)? -/
def ownSub (p : Src) (sub : Nat) : Bool := p.iface == some sub

/-- A read of `AUTH_NONCE` draws a nonce that stays pending (R461). -/
def nonceDraw (d : Dev) (i : Nat) : List Byte × Dev :=
  let n := Config.nonceDraw d.free
  (leBytes 16 n.toNat, { d with free := d.free + 1 }.modIface i (fun x => { x with nonce := some n }))

/-- The challenge-response message (R461). -/
def authMessage (d : Dev) (n : BitVec 128) (level i : Nat) : List Byte :=
  leBytes 16 n.toNat ++ leBytes 1 level ++ leBytes 1 i ++ (d.obj K.UNIQUE_ID).bs

/-- Does the attempt carry a correct credential (R460, R461)? `resp` tells a response from a password. -/
def attemptOk (d : Dev) (i : Nat) (resp : Bool) (data : List Byte) : Bool :=
  let level := (data.getD 0 0).toNat
  let rest := data.drop 1
  if level ≠ 2 ∧ level ≠ 3 then false
  else if resp then
    match (d.iface i).nonce with
    | some n =>
      let m := hmac (d.obj K.AUTH_KEY).bs (d.authMessage n level i)
      d.credSet K.AUTH_KEY && decide (rest = (List.range 16).map (macByte m))
    | none => false
  else
    let k := K.AUTH_PASSWORD (level - 2)
    d.credSet k && decide (rest = (d.obj k).bs)

/-- Rule of an attempt (R459–R461). -/
def attemptRule (d : Dev) (p : Src) (sub : Nat) (resp : Bool) (data : List Byte) : Reason :=
  if !ownSub p sub then .access
  else if d.num K.AUTH_BACKOFF ≠ 0 then .busy
  else if resp && (d.iface sub).nonce.isNone then .state
  else if d.attemptOk sub resp data then .none else .access

/-- What every counted attempt does first: the session held ends, and a response consumes the nonce (R459, R461). -/
def attemptBegin (d : Dev) (i : Nat) (resp : Bool) (osn : Nat) : Dev :=
  let d1 := d.sessionEnd i 6 osn
  if resp then d1.modIface i (fun x => { x with nonce := none }) else d1

/-- A correct attempt opens a session (R459). -/
def attemptOpen (d : Dev) (i : Nat) (resp : Bool) (data : List Byte) (osn : Nat) : Dev :=
  let level := (data.getD 0 0).toNat
  (((d.attemptBegin i resp osn).modIface i (fun x => { x with level := level })).setNum K.AUTH_FAIL_COUNT 0).causeOsn 122
    ((if level = 2 then 0x10 else 0x18) + i) osn

/-- A failed attempt is counted and starts the back-off (R459, R462). -/
def attemptFail (d : Dev) (i : Nat) (resp : Bool) (osn : Nat) : Dev :=
  let d1 := (d.attemptBegin i resp osn).bump K.AUTH_FAIL_COUNT 8
  (d1.backoffSet (backoffSecond * min 256 (2 ^ (d1.nat K.AUTH_FAIL_COUNT - 1)))).causeOsn 122 (0x28 + i) osn

/-- SESSION_TIMEOUT (R463). -/
def sessionTimeout (d : Dev) (i : Nat) : Dev := d.sessionEnd i 2 0

/-- NONCE_EXPIRY (R461). -/
def nonceExpiry (d : Dev) (i : Nat) : Dev := d.modIface i (fun x => { x with nonce := none })

/-- BACKOFF_EXPIRY (R462): the back-off has counted down; it does so in every state but SHIP. -/
def backoffExpiry (d : Dev) : Dev := if d.power = .ship then d else d.backoffSet 0

/-- Rule of a credential write (R457). -/
def credRule (d : Dev) (key : Nat) (bs : List Byte) : Reason :=
  if decide (d.num K.LOCK_STATE = 1) && !(d.setObj key (.bytes bs)).l3Set then .state else .none

/-- A credential is written (R457, R467). -/
def credWrite (d : Dev) (key : Nat) (bs : List Byte) (osn : Nat) : Dev :=
  (d.setObj key (.bytes bs)).causeOsn 122 (if key = K.AUTH_PASSWORD 0 then 0x40 else if key = K.AUTH_PASSWORD 1 then 0x41 else 0x42) osn

/-- Rule of `LOCK_STATE` (R456). -/
def lockRule (d : Dev) (v : Int) : Reason := if v = 1 ∧ d.l3Set = false then .state else .none

/-- `LOCK_STATE` applies (R456, R463, R465, R466). -/
def lockWrite (d : Dev) (v : Int) (osn : Nat) : Dev :=
  let d1 := (d.debugShut osn).setNum K.LOCK_STATE v
  if v = 1 then d1.debugClose.causeOsn 122 0x30 osn else (d1.sessionsEnd 8 osn).causeOsn 122 0x31 osn

/-- `DEBUG_OPEN` (R465): no effect in OPEN; the session that opened it keeps it. -/
def debugOpenWrite (d : Dev) (p : Src) (v : Int) (osn : Nat) : Dev :=
  if d.num K.LOCK_STATE = 0 then d
  else if v = 0 then d.debugShut osn
  else if d.flag K.DEBUG_OPEN then d
  else
    ((d.setNum K.DEBUG_OPEN 1).modIface (p.iface.getD 1) (fun x => { x with debugOwner := true })).causeOsn
      122 0x38 osn

/-- A JTAG instruction that needs no debug (R464). -/
def tapLoad (d : Dev) (t : Tap) : Dev := { d with acc := { d.acc with tap := t } }

/-- The instruction that the TAP acts on (R464): EXTEST, CLAMP and HIGHZ act as BYPASS as soon as debug closes or a unit is on. -/
def tapActs (d : Dev) : Tap :=
  if (d.acc.tap = .extest ∨ d.acc.tap = .clamp ∨ d.acc.tap = .highz) ∧ (d.debugAvail = false ∨ d.anyUnitOn = true) then .bypass else d.acc.tap

/-- Are the pins taken from the device (R464)? -/
def pinsTaken (d : Dev) : Bool := decide (d.tapActs = .extest ∨ d.tapActs = .clamp ∨ d.tapActs = .highz)

/-- A Sorael debug instruction; it acts as BYPASS while debug is closed (R464). -/
def tapDebug (d : Dev) (f : Dev → Dev) : Dev := if d.debugAvail then f (d.tapLoad .debug) else d.tapLoad .bypass

/-- DEBUG_HALT (R464, R127): an engine, or the supervisor where none is named. -/
def debugHalt (d : Dev) (t : Option Nat) : Dev :=
  d.tapDebug (fun d => match t with
    | some e => d.modEng e (fun g => { g with st := if g.st = .running then .halted else g.st })
    | none => { d with supHalted := true })

/-- DEBUG_RESUME (R127), of an engine or of the supervisor. -/
def debugResume (d : Dev) (t : Option Nat) : Dev :=
  d.tapDebug (fun d => match t with
    | some e => d.modEng e resumed
    | none => { d with supHalted := false })

/-- DEBUG_BREAKPOINT (R464). -/
def debugBreak (d : Dev) (t : Option Nat) (a : Nat) (set : Bool) : Dev :=
  let f := fun l : List Nat => if set then (if l.contains a then l else l ++ [a]) else l.filter (· ≠ a)
  d.tapDebug (fun d => match t with
    | some e => d.modEng e (fun g => { g with breakpoints := f g.breakpoints })
    | none => { d with acc := { d.acc with supBreaks := f d.acc.supBreaks } })

/-- The supervisor may reach one of its breakpoints, and halts there (R464): where its program stands is not told, so whether it
does is a free value. Notes, log 6. -/
def supBreak (d : Dev) : Dev :=
  if d.supRuns && d.debugging && !d.acc.supBreaks.isEmpty then { d.draw.2 with supHalted := decide (d.draw.1 % 2 = 1) } else d

/-- DEBUG_MEMORY_ACCESS (R464, R93): a word of an engine's data memory, state (its committed copy) or scratch. An address
outside reads 0 and takes no write, as R93 gives. -/
def debugMemory (d : Dev) (e a : Nat) (w : Option Int) : Dev :=
  d.tapDebug (fun d =>
    let g := d.engine e
    match w with
    | some v =>
      d.modEng e (fun g =>
        if a < 0x200 then { g with committed := Assoc.set zeroAt g.committed a v }
        else if a < 0x600 then { g with scratch := Assoc.set zeroAt g.scratch a v } else g)
    | none =>
      d.answering (.data (leBytes 4 (if a < 0x200 then Assoc.get zeroAt g.committed a else if a < 0x600 then Assoc.get zeroAt g.scratch a else 0))))

/-- `SESSION_STATUS` (R468). -/
def sessionStatus (d : Dev) (i : Nat) : Int :=
  let x := d.iface i
  let lv := if d.num K.LOCK_STATE = 0 then 3 else max 1 x.level
  16384 * lv + 8192 * b2i (decide (x.level ≥ 2)) + 4096 * b2i x.nonce.isSome + 2048 * b2i x.debugOwner + 128 * x.endCause

/-- `DEBUG_STATUS` (R468). -/
def debugStatus (d : Dev) : Int :=
  let own := ([1, 2, 3, 4] : List Nat).foldl (fun m i => if (d.iface i).debugOwner then i else m) 0
  128 * b2i d.debugAvail + 64 * b2i (decide (d.acc.tap = .debug)) +
    32 * b2i (d.supHalted || (List.range 16).any (fun e => decide ((d.engine e).st = .halted))) + own

end Dev

end Sys2Proof.Machine
end

