-- ==== Sys2Proof/Machine/Seq.lean ====
section
/-! DEFINITION. The sequencer (R250–R260). Programs by number: 0 idle, 1 power-up, 2 power-down, 3 keep-entry, 4 fault. -/

namespace Sys2Proof.Machine

namespace Dev

/-- The action word and wait word of a step (R251, R252). -/
def stepAction (d : Dev) (s : Nat) : Int := d.num (K.SEQ_STEP_ACTION s)
/-- The wait word of a step. -/
def stepWait (d : Dev) (s : Nat) : Int := d.num (K.SEQ_STEP_WAIT s)

/-- Kind and unit of an action word (R251). -/
def actKind (w : Int) : Nat := fieldAt w 28 4
/-- The unit field. -/
def actUnit (w : Int) : Nat := fieldAt w 22 6

/-- A sequencer event with its detail: program, step (R409). -/
def seqEvent (d : Dev) (src code osn : Nat) (arg : List Byte) : Dev :=
  d.causeArg src code osn ([BitVec.ofNat 8 d.seqr.prog, BitVec.ofNat 8 d.seqr.step, 0, 0] ++ arg)

/-- Does the fault program skip the step (R258)? -/
def stepSkipped (d : Dev) (s : Nat) : Bool :=
  let w := d.stepAction s
  let k := actKind w
  let u := actUnit w
  if d.seqr.prog ≠ 4 then false
  else if k = 1 ∨ k = 2 ∨ k = 3 then !d.seqr.groups.testBit (d.nat (K.FAULT_GROUP u))
  else if k = 4 then
    let g := d.nat (K.SEQ_OUT_GROUP (u - 0x20))
    decide (g > 3) || !d.seqr.groups.testBit g
  else false

/-- The step is over: the next one, if any is left; the last step stays the program's step (R409). -/
def stepOn (q : Seqr) : Seqr := { q with step := if q.left ≤ 1 then q.step else q.step + 1, left := q.left - 1 }

/-- Pass over the steps that the fault program skips (R258). -/
def skipSteps (d : Dev) : Nat → Dev
  | 0 => d
  | n + 1 =>
    if decide (d.seqr.left > 0) && d.stepSkipped d.seqr.step then
      skipSteps { d with seqr := stepOn d.seqr } n
    else d

/-- The closing action of the fault program (R257): what is still on in a faulted group goes off at one edge, each disable as
an operation of source SEQ. -/
def faultClose (d : Dev) : Dev :=
  let units := (List.range 18).filter (fun u => d.unitOn u && d.seqr.groups.testBit (d.nat (K.FAULT_GROUP u)) &&
    !(decide (u ≥ 14) && d.keepRail (u - 14)))
  let d1 := units.foldl (fun d u => d.enter .seq (K.UNIT_ON u) .done .none) d
  let outs := (List.range 16).filter (fun i => decide (d.nat (K.SEQ_OUT_GROUP i) ≤ 3) && d.seqr.groups.testBit (d.nat (K.SEQ_OUT_GROUP i)))
  { d1 with
    pendT := d1.pendT ++ units.map (fun u => (K.UNIT_ON u, Val.num 0)),
    seqr := { d1.seqr with outNext := d1.seqr.outNext ++ outs.map (fun i => (i, false)) } }

/-- The sequencer becomes idle. -/
def progIdle (d : Dev) : Dev :=
  { d with
    seqr := { d.seqr with
      prog := 0, byPath := false, phase := 0, starting := false, left := 0, waitN := 0, delayN := 0,
      timedOut := d.seqr.timeoutNow, timeoutNow := false },
    load := { d.load with pfwProg := false } }

/-- A program completes (R257): event 113. -/
def progDone (d : Dev) : Dev :=
  let d1 := (d.seqEvent 113 d.seqr.prog 0 []).progIdle
  { d1 with seqr := { d1.seqr with abandoned := false } }

/-- A program starts: its first step at the next edge, PFW# before it (R250, R256, R257). One of length 0 completes at this
edge (R14, R250); for keep-entry, which ends in KEEP, `keepAtOnce` does so at the end of the edge. -/
def progStart (d : Dev) (p : Nat) (byPath : Bool) (groups : Nat) : Dev :=
  let a := d.nat (K.SEQ_PROG_START (p - 1))
  let n := d.nat (K.SEQ_PROG_LEN (p - 1))
  let d1 := { d with
    seqr := { d.seqr with
      prog := p, byPath := byPath, phase := 0, step := a, first := a, len := n, left := n, starting := decide (n ≠ 0), waitN := 0, delayN := 0,
      timeoutNow := false, groups := groups } }
  let d2 := if p = 1 then d1 else { d1 with load := { d1.load with pfwProg := true, pfw := true } }
  let d3 := d2.seqEvent 112 p 0 []
  if n ≠ 0 ∨ p = 3 then d3 else (if p = 4 then d3.faultClose else d3).progDone

/-- The program in progress is abandoned or aborted (R257): event 114. -/
def progAbandon (d : Dev) : Dev :=
  if d.seqr.prog = 0 then d
  else
    let d1 := d.seqEvent 114 d.seqr.prog 0 []
    { d1.progIdle with seqr := { d1.progIdle.seqr with abandoned := true } }

/-- The power-path request (R257, R20). -/
def takePath (d : Dev) : Dev :=
  match d.seqr.reqPath with
  | none => d
  | some keep =>
    let d1 := { d with seqr := { d.seqr with reqPath := none } }
    if d1.seqr.prog = 3 ∨ (d1.seqr.prog = 2 ∧ d1.seqr.byPath = true) then d1
    else if keep then d1.progAbandon.progStart 3 true d1.seqr.groups else d1.progAbandon.progStart 2 true d1.seqr.groups

/-- The fault request (R257). -/
def takeFault (d : Dev) : Dev :=
  let g := d.seqr.reqFault
  if g = 0 then d
  else
    let d1 := { d with seqr := { d.seqr with reqFault := 0 } }
    match d1.seqr.prog with
    | 0 => d1.progStart 4 false g
    | 1 => d1.progAbandon.progStart 4 false g
    | 4 => { d1 with seqr := { d1.seqr with groups := d1.seqr.groups ||| g } }
    | _ => d1

/-- The power-down request (R257). -/
def takeDown (d : Dev) : Dev :=
  if d.seqr.reqDown then
    let d1 := { d with seqr := { d.seqr with reqDown := false } }
    match d1.seqr.prog with
    | 0 => d1.progStart 2 false d1.seqr.groups
    | 1 => d1.progAbandon.progStart 2 false d1.seqr.groups
    | 4 => d1.cause 119 2
    | _ => d1
  else d

/-- The power-up request (R257). -/
def takeUp (d : Dev) : Dev :=
  if d.seqr.reqUp then
    let d1 := { d with seqr := { d.seqr with reqUp := false } }
    match d1.seqr.prog with
    | 0 => if d1.path.st = .onInput then d1.progStart 1 false d1.seqr.groups else d1.cause 119 1
    | 1 => d1
    | _ => d1.cause 119 1
  else d

/-- Does a wait condition hold at this edge (R252)? -/
def waitHolds (d : Dev) (w : Int) : Bool :=
  let x := fieldAt w 22 6
  match fieldAt w 28 4 with
  | 0 => true
  | 1 => d.wmGood x
  | 2 => !d.wmGood x
  | 3 => d.seqr.sqi.testBit x
  | 4 => !d.seqr.sqi.testBit x
  | 5 => d.unitReady x
  | 6 => d.unitIsOff x
  | _ => false

/-- The next step starts at this edge, those the fault program skips passed over. -/
def nextStep (d : Dev) : Dev :=
  let d1 := { d with seqr := { stepOn d.seqr with phase := 0, waitN := 0, delayN := 0 } }
  d1.skipSteps d1.seqr.left

/-- The wait of the step has ended: its delay runs (R253). -/
def startDelay (d : Dev) : Dev :=
  let n := d.ticksOf (fieldAt (d.stepWait d.seqr.step) 0 10 * 100000)
  if n = 0 then d.nextStep else { d with seqr := { d.seqr with phase := 2, delayN := n } }

/-- The step in progress at an edge (R253). The first step of a power-up after a boot waits until every qualification has ended
(R224). -/
def stepEdge (d : Dev) : Dev :=
  let q := d.seqr
  if q.prog = 0 then d
  else if q.starting && decide (q.prog = 1) && q.qualWait then d
  else if q.starting then
    let d1 := { d with seqr := { d.seqr with starting := false } }
    d1.skipSteps d1.seqr.left
  else if q.phase = 1 then
    if d.waitHolds (d.stepWait q.step) then d.startDelay else { d with seqr := { d.seqr with waitN := q.waitN + 1 } }
  else if q.phase = 2 then
    if q.delayN ≤ 1 then d.nextStep else { d with seqr := { d.seqr with delayN := q.delayN - 1 } }
  else d

/-- The first sample of the SQI inputs (R259): at the first tick edge after the settings image is verified. -/
def sqiFirst (d : Dev) : Dev :=
  if d.seqr.sqiSeen || decide (d.boot.rank < 2) || !d.ticking then d
  else
    let up := (List.range 4).any (fun i => d.seqr.sqiPin.testBit i && decide (d.effNum (K.SQI_FUNC i) = 3))
    { d with seqr := { d.seqr with sqi := d.seqr.sqiPin, sqiSeen := true, reqUp := d.seqr.reqUp || up } }

/-- SEQ outputs that a step set at the previous edge (R253, R260). -/
def outEdge (d : Dev) : Dev :=
  { d with
    seqr := { d.seqr with
      out := d.seqr.outNext.foldl (fun m e => (Machine.putBit m e.1 e.2).toNat) d.seqr.out, outNext := [] } }

/-- The sequencer at an edge (R253, R257, R259): it holds while the supervisor is absent. -/
def seqEdge (d : Dev) : Dev :=
  let d1 := d.outEdge
  if d1.supRuns then
    let d2 := { d1 with seqr := { d1.seqr with held := false } }
    (d2.sqiFirst.stepEdge.takePath.takeFault.takeDown).takeUp
  else { d1 with seqr := { d1.seqr with held := true } }

/-- Is a step of this kind due now (R253)? -/
def stepDue (d : Dev) (kind : Nat) : Bool :=
  let q := d.seqr
  d.supRuns && d.ticking && decide (q.prog ≠ 0) && decide (q.phase = 0) && !q.starting && decide (q.left > 0) &&
    decide (actKind (d.stepAction q.step) = kind)

/-- The action has been issued: its wait is tested from the next edge (R253). -/
def toWait (d : Dev) : Dev := { d with seqr := { d.seqr with phase := 1, waitN := 0 } }

/-- The groups that on_timeout FAULT names (R253). -/
def faultGroupsOf (d : Dev) : Nat :=
  let w := d.stepAction d.seqr.step
  if actKind w = 1 ∨ actKind w = 2 ∨ actKind w = 3 then d.groupMask (actUnit w) else 15

/-- on_timeout of the step in progress (R253, R255, R257): 0 CONTINUE, 1 ABORT, 2 FAULT. Programs that run to their end
continue. A power-up program is abandoned for the fault program at this edge; a power-down program, which a fault request
leaves unchanged, goes on. Notes, log 36. -/
def onTimeout (d : Dev) : Dev :=
  let q := d.seqr
  let t := fieldAt (d.stepWait q.step) 20 2
  let plain := q.prog = 3 ∨ q.prog = 4 ∨ (q.prog = 2 ∧ q.byPath = true)
  if plain ∨ t = 0 ∨ t = 3 then d.startDelay
  else if t = 1 then d.progAbandon
  else if q.prog = 1 then ((d.faultRequest d.faultGroupsOf).takePath).takeFault
  else (d.faultRequest d.faultGroupsOf).startDelay

/-- An action was refused (R254). -/
def stepRefused (d : Dev) (key : Nat) (r : Reason) : Dev :=
  let osn := d.osnNext
  ((d.enter .seq key .refused r).seqEvent 116 d.seqr.step osn [BitVec.ofNat 8 r.code]).onTimeout

/-- SEQ_NOP (R251). -/
def seqNop (d : Dev) : Dev := if d.stepDue 0 then d.toWait else d

/-- ENABLE or DISABLE of a step (R246, R247, R251, R254). -/
def seqSwitch (d : Dev) (kind : Nat) (v : Int) : Dev :=
  if d.stepDue kind then
    let u := actUnit (d.stepAction d.seqr.step)
    let r := d.unitRule .seq u v
    if r = .none then
      let d1 := d.enter .seq (K.UNIT_ON u) .done .none
      { d1 with pendT := d1.pendT ++ [(K.UNIT_ON u, Val.num v)] }.toWait
    else d.stepRefused (K.UNIT_ON u) r
  else d

/-- SEQ_ENABLE (R251). -/
def seqEnable (d : Dev) : Dev := d.seqSwitch 1 1
/-- SEQ_DISABLE (R251). -/
def seqDisable (d : Dev) : Dev := d.seqSwitch 2 0

/-- SEQ_SET_VOUT (R251, R170, R171, R239). -/
def seqSetVout (d : Dev) : Dev :=
  if d.stepDue 3 then
    let w := d.stepAction d.seqr.step
    let u := actUnit w
    let v := w % 65536
    let osn := d.osnNext
    if u < 8 then ((d.enter .seq (K.VOUT_COMMAND u) .done .none).acceptTarget .seq u v osn).toWait
    else if 2458 ≤ v ∧ v ≤ 20480 then ((d.enter .seq (K.BK_VOUT_COMMAND (u - 8)) .done .none).postBuck (u - 8) v 5 osn).toWait
    else d.stepRefused (K.BK_VOUT_COMMAND (u - 8)) .range
  else d

/-- SEQ_OUT (R251, R253, R260). -/
def seqOut (d : Dev) : Dev :=
  if d.stepDue 4 then
    let w := d.stepAction d.seqr.step
    let d1 := d.enter .seq (K.SEQ_STEP_ACTION d.seqr.step) .done .none
    { d1 with seqr := { d1.seqr with outNext := d1.seqr.outNext ++ [(actUnit w - 0x20, decide (w % 2 = 1))] } }.toWait
  else d

/-- SEQ_SIGNAL (R251). -/
def seqSignal (d : Dev) : Dev :=
  if d.stepDue 5 then
    let osn := d.osnNext
    let v := d.stepAction d.seqr.step % 65536
    ((d.enter .seq (K.SEQ_STEP_ACTION d.seqr.step) .done .none).seqEvent 117 d.seqr.step osn (leBytes 4 v)).toWait
  else d

/-- The timeout of a step in ticks (R252, R253). -/
def stepTimeout (d : Dev) : Nat :=
  let w := d.stepWait d.seqr.step
  d.ticksOf (fieldAt w 10 9 * (if bitAt w 19 then 100000000 else 1000000))

/-- SEQ_STEP_TIMEOUT (R253). -/
def seqStepTimeout (d : Dev) : Dev :=
  let q := d.seqr
  if d.supRuns && decide (q.prog ≠ 0) && decide (q.phase = 1) && decide (q.waitN ≥ d.stepTimeout + 1) then
    let d1 := (d.seqEvent 115 q.step 0 []).bump K.SEQ_TIMEOUT_COUNT 16
    { d1 with seqr := { d1.seqr with timeoutNow := true } }.onTimeout
  else d

/-- Has the last step of the program ended (R257)? -/
def progOver (d : Dev) : Bool :=
  let q := d.seqr
  d.supRuns && decide (q.prog ≠ 0) && decide (q.phase = 0) && !q.starting && decide (q.left = 0)

/-- Rule of `SEQ_CMD` (R255, R257). -/
def seqCmdRule (d : Dev) (v : Int) : Reason :=
  let p := d.seqr.prog
  if v = 1 then (if p = 0 ∧ d.path.st ≠ .onInput then .noInput else if p = 2 ∨ p = 3 ∨ p = 4 then .busy else .none)
  else if v = 2 then (if p = 4 then .busy else .none)
  else if p = 1 ∨ (p = 2 ∧ d.seqr.byPath = false) then .none else .seqActive

/-- `SEQ_CMD` at its edge (R257). -/
def seqCmd (d : Dev) (v : Int) : Dev :=
  if v = 1 then { d with seqr := { d.seqr with reqUp := true } }
  else if v = 2 then { d with seqr := { d.seqr with reqDown := true } }
  else if d.seqr.prog = 1 ∨ (d.seqr.prog = 2 ∧ d.seqr.byPath = false) then d.progAbandon else d

/-- SQI_EDGE (R259). -/
def sqiEdge (d : Dev) (i : Nat) (level : Bool) : Dev :=
  let d0 := { d with seqr := { d.seqr with sqiPin := (Machine.putBit d.seqr.sqiPin i level).toNat } }
  if d.seqr.sqiSeen && (d.seqr.sqi.testBit i != level) && d.ticking then
    let f := d.effNum (K.SQI_FUNC i)
    let d1 := ({ d0 with seqr := { d0.seqr with sqi := (Machine.putBit d.seqr.sqi i level).toNat } }).cause 118 (2 * i + b2n level)
    let d2 := if level ∧ (f = 1 ∨ f = 3) then { d1 with seqr := { d1.seqr with reqUp := true } } else d1
    let d3 := if level = false ∧ (f = 2 ∨ f = 3) then { d2 with seqr := { d2.seqr with reqDown := true } } else d2
    if level = false ∧ f = 4 then d3.faultRequest 15 else d3
  else d0

/-- Does a step lie in the running program (R263)? -/
def stepBusy (d : Dev) (s : Nat) : Bool :=
  decide (d.seqr.prog ≠ 0) && decide (d.seqr.first ≤ s) && decide (s < d.seqr.first + d.seqr.len)

/-- Rule of `SEQ_STEP_ACTION` (R251, R252, R263). -/
def stepActionRule (d : Dev) (s : Nat) (w : Int) : Reason :=
  let k := actKind w
  let u := actUnit w
  let fits := match k with
    | 0 => true | 1 => decide (u < 18) | 2 => decide (u < 18) | 3 => decide (u < 14)
    | 4 => decide (0x20 ≤ u) && decide (u < 0x30) | 5 => true | _ => false
  if d.stepBusy s then .busy else if fits && decide (fieldAt w 16 6 = 0) then .none else .step

/-- Rule of `SEQ_STEP_WAIT` (R252, R263). -/
def stepWaitRule (d : Dev) (s : Nat) (w : Int) : Reason :=
  let x := fieldAt w 22 6
  let fits := match fieldAt w 28 4 with
    | 0 => true | 1 => decide (x < 24) | 2 => decide (x < 24) | 3 => decide (x < 4) | 4 => decide (x < 4)
    | 5 => decide (x < 18) | 6 => decide (x < 18) | _ => false
  if d.stepBusy s then .busy else if fits && decide (fieldAt w 20 2 ≠ 3) then .none else .step

/-- Rule of `SEQ_PROG_START` and `SEQ_PROG_LEN` (R250). -/
def seqProgRule (start len : Int) : Reason := if start + len > 64 then .range else .none

/-- `SEQ_STATE` (R263). -/
def seqState (d : Dev) : Int :=
  let q := d.seqr
  8192 * q.prog + 2048 * q.phase + 32 * q.step + 16 * b2i q.held + 8 * b2i q.abandoned + 4 * b2i q.timedOut

end Dev

end Sys2Proof.Machine
end

