-- ==== Sys2Proof/Machine/Charge.lean ====
section
/-! DEFINITION. The power path, the charger, the ACC boost, the button and the ship request (R312–R335). -/

namespace Sys2Proof.Machine

namespace Dev

/-- Is a bit of `CHG_FAULT` set that forbids discharge (R323, R20)? -/
def dischForbidden (d : Dev) : Bool := decide (fieldAt (d.num K.CHG_FAULT) 7 3 ≠ 0)

/-- Is a bit of `CHG_FAULT` set that forbids charge (R323)? -/
def chargeForbidden (d : Dev) : Bool := decide (fieldAt (d.num K.CHG_FAULT) 10 6 ≠ 0)

/-- The latest BAT value, mV. -/
def batMv (d : Dev) : Int := d.num K.BAT_VOLTAGE

/-- The latest VIN value, mV (R46). -/
def vinMv (d : Dev) : Int := d.num (K.HK_RAW 0) * 5

/-- The hotter die sensor, LSB 0.0625 °C. -/
def dieMax (d : Dev) : Int := max (d.num (K.DIE_TEMP 0)) (d.num (K.DIE_TEMP 1))

/-- The regulation voltage in force (R318). -/
def vReg (d : Dev) : Int := d.num K.CHG_VREG - (if d.num K.TS_ZONE = 3 then d.num K.CHG_VWARM_DELTA else 0)

/-- Enter a charger state (R319, R332); PRECHARGE entered from anything but PAUSED restarts its timer (R320). -/
def chgEnter (d : Dev) (s : ChgState) : Dev :=
  let from_ := d.chg.st
  if from_ = s then d
  else
    ({ d with
      chg := { d.chg with
        st := s, preNs := if s = ChgState.precharge ∧ from_ ≠ ChgState.paused then 0 else d.chg.preNs } }).cause 91 (0x10 + s.code)

/-- Reset the safety timer (R320). -/
def safetyZero (d : Dev) : Dev := ({ d with chg := { d.chg with safeNs := 0 } }).setNum K.CHG_TIMER 0

/-- The charge phase that BAT calls for (R319). -/
def chgPhase (d : Dev) : ChgState := if d.batMv < d.num K.CHG_VPRE then .precharge else .cc

/-- Pause causes of the charge phases (R319). -/
def zonePause (d : Dev) : Bool := decide (d.num K.TS_ZONE = 0) || decide (d.num K.TS_ZONE = 4)

/-- One evaluation of the charger machine but for removal (R319): `CHG_EN`, then faults, then pauses, then the others. Leaving
DISABLED resets the safety timer where `CHG_EN` was 0 before, not after a reset (R320). While the supervisor is absent the charger
stays where it is, but a fault that forbids charge blocks it (R22) and a hand-over stops it (R315). Notes, logs 59 and 66. -/
def chgEval (d : Dev) : Dev :=
  let st := d.chg.st
  let input := decide (d.path.st ≠ .onInput)
  let phase := st = .precharge ∨ st = .cc ∨ st = .cv ∨ st = .done
  if !d.supRuns then
    if st ≠ .disabled ∧ d.chargeForbidden = true then d.chgEnter .blocked
    else if phase ∧ input = true then
      ({ d with chg := { d.chg with left := st, pauseTemp := d.zonePause, pauseInput := input } }).chgEnter .paused
    else d
  else if d.num K.CHG_EN = 0 then ({ d with chg := { d.chg with enOff := true } }).chgEnter .disabled
  else if st = .disabled then
    if d.boot.rank ≥ 2 then
      let d1 := { d with chg := { d.chg with enOff := false } }
      (if d.chg.enOff then d1.safetyZero else d1).chgEnter .waitBattery
    else d
  else if st ≠ .blocked ∧ d.chargeForbidden = true then d.chgEnter .blocked
  else if st = .blocked then (if d.chargeForbidden then d else d.chgEnter .waitBattery)
  else if phase ∧ (d.zonePause || input) = true then
    ({ d with chg := { d.chg with left := st, pauseTemp := d.zonePause, pauseInput := input } }).chgEnter .paused
  else if st = .paused then
    if d.zonePause || input then { d with chg := { d.chg with pauseTemp := d.zonePause, pauseInput := input } }
    else
      let d1 := { d with chg := { d.chg with pauseTemp := false, pauseInput := false } }
      if d.chg.left = .done then d1.chgEnter .done else d1.chgEnter d1.chgPhase
  else if st = .waitBattery ∧ d.chg.judged = true ∧ d.chg.absent = false ∧ input = false then d.chgEnter d.chgPhase
  else d

/-- A fault bit latches (R323). -/
def chgLatch (d : Dev) (b : Nat) : Dev :=
  if d.bit K.CHG_FAULT b then d else ((d.putBit K.CHG_FAULT b true).cause 92 (0x20 + b)).chgEval

/-- The battery switch of a forbidden discharge (R323): held open in ON_INPUT, opened after the record in ON_BATTERY. -/
def dischOpen (d : Dev) : Dev :=
  if d.path.st = .onInput then { d with path := { d.path with open_ := true } }
  else { d with path := { d.path with openDue := true } }

/-- The battery switch returns to ideal-diode mode where nothing holds it open (R323–R325). -/
def switchClose (d : Dev) : Dev :=
  if d.dischForbidden || d.chg.absent then d else { d with path := { d.path with open_ := false, openDue := false } }

/-- The power path leaves ON_INPUT (R315, R20, R190). -/
def handover (d : Dev) : Dev :=
  if d.path.st = .onInput then
    let keep := !d.chg.absent && !d.dischForbidden
    let d1 := { d with
      path := { d.path with st := .handover },
      load := { d.load with pfw := true },
      seqr := { d.seqr with reqPath := some keep } }
    (((d1.cause 90 0x02).bump K.HANDOVER_COUNT 32)).chgEval
  else d

/-- One VIN conversion (R46, R190, R314, R315). -/
def vinConversion (d : Dev) (code : Int) : Dev :=
  let mv := code * 5
  let th := d.num K.VIN_VALID_TH
  let hi := if mv ≥ th then d.path.hiRun + 1 else 0
  let lo := if mv < th - d.num K.VIN_VALID_HYST then d.path.loRun + 1 else 0
  let pf := if mv < d.num K.PFW_VIN_TH then d.path.pfwRun + 1 else 0
  let d1 := (d.setNum K.VIN_VALUE (roundDiv (code * 32768) 100))
  let d2 := { d1 with path := { d1.path with hiRun := min hi 2, loRun := min lo 2, pfwRun := min pf 2 } }
  let d2a := { d2 with load := { d2.load with pfwOk := d2.load.pfwOk && decide (mv ≥ d.num K.PFW_VIN_TH + d.num K.PFW_HYST) } }
  let d3 := if pf ≥ 2 then { d2a with load := { d2a.load with pfwVin := true, pfw := true } } else d2a
  if hi ≥ 2 ∧ d3.path.valid = false then ({ d3 with path := { d3.path with valid := true, validNs := 0 } }).cause 90 0x04
  else if lo ≥ 2 ∧ d3.path.valid = true then
    (({ d3 with path := { d3.path with valid := false, validNs := 0 } }).cause 90 0x05).handover
  else d3

/-- Is TS biased (R322)? -/
def tsBiased (d : Dev) : Bool := !(decide (d.power = .dome) || decide (d.power = .ship) || decide (d.boot = .held))

/-- The plain zone of a ratio (R322). -/
def zoneOf (d : Dev) (r : Int) : Nat :=
  if r > d.num (K.TS_TH 0) then 0 else if r > d.num (K.TS_TH 1) then 1 else if r > d.num (K.TS_TH 2) then 2
  else if r > d.num (K.TS_TH 3) then 3 else 4

/-- One TS conversion (R322, R323): the zones it calls for, with hysteresis toward cooler ones, and the runs. A ratio above 95.00 %
calls for no zone. -/
def tsConversion (d : Dev) (r : Int) : Dev :=
  let zones := (d.zoneOf r, d.zoneOf (r - d.num K.TS_HYST))
  let d1 := d.setNum K.TS_RATIO (clampI 0 65535 r)
  { d1 with
    chg := { d1.chg with
      tsRun := if r > 9500 then [] else zones :: d.chg.tsRun.take 2
      shortRun := if r < 100 then min 3 (d.chg.shortRun + 1) else 0,
      hotRun := if r ≤ d.num K.TS_DISCH_HOT then min 3 (d.chg.hotRun + 1) else 0 } }

/-- The zone that the last three TS conversions call for (R322): the warmest whose boundary all three have reached, or the coolest
whose boundary all three have left by `TS_HYST`; else the present one. -/
def zoneDue (d : Dev) : Nat :=
  let z := d.nat K.TS_ZONE
  if d.chg.tsRun.length < 3 then z
  else
    let warm := (d.chg.tsRun.map (·.1)).foldl min 4
    let cool := (d.chg.tsRun.map (·.2)).foldl max 0
    if warm > z then warm else min z cool

/-- TS_ZONE_CHANGE (R322, R22). -/
def tsZone (d : Dev) (z : Nat) : Dev :=
  if d.supRuns = true ∧ d.zoneDue = z ∧ d.nat K.TS_ZONE ≠ z then ((d.setNum K.TS_ZONE z).cause 94 (0x01 + z)).chgEval else d

/-- TS_SHORT (R323). -/
def tsShort (d : Dev) : Dev := if d.chg.shortRun ≥ 3 then d.chgLatch 12 else d

/-- DISCH_HOT (R323). -/
def dischHot (d : Dev) : Dev := if d.chg.hotRun ≥ 3 ∧ d.bit K.CHG_FAULT 8 = false then (d.chgLatch 8).dischOpen else d

/-- BAT_UV (R323): judged on the latest BAT value. Notes, log 66. -/
def batUv (d : Dev) : Dev :=
  if d.bit K.CHG_FAULT 7 = false ∧ d.batMv < d.num K.BAT_CUTOFF then (d.chgLatch 7).dischOpen else d

/-- DISCH_OC (R313). -/
def dischOc (d : Dev) : Dev := ({ d with path := { d.path with open_ := true } }).chgLatch 9

/-- BAT_OV (R323): judged on the latest BAT value. Notes, log 66. -/
def batOv (d : Dev) : Dev :=
  if (d.chg.st = .precharge ∨ d.chg.st = .cc ∨ d.chg.st = .cv) ∧ d.chg.absent = false ∧ d.batMv > d.vReg + 100 then d.chgLatch 15
  else d

/-- VIN_OV (R323): the bit stops the input converter at once (`convOn`). -/
def vinOv (d : Dev) : Dev := if d.vinMv > 17500 then d.chgLatch 11 else d

/-- CHG_THERMAL (R323, R493). -/
def chgThermal (d : Dev) : Dev := if d.die.run150 ≥ 3 then d.chgLatch 10 else d

/-- Does the input converter run (R312)? Not in SHIP, where only the detectors are powered (R331), nor while `vin_ov` stands
(R323). -/
def convOn (d : Dev) : Bool := d.path.vinHigh && decide (d.power ≠ .ship) && !d.bit K.CHG_FAULT 11

/-- INPUT_CONVERTER_START (R312): VIN has risen to 4.60 V. -/
def convStart (d : Dev) : Dev := { d with path := { d.path with vinHigh := true } }

/-- INPUT_CONVERTER_STOP (R312): VIN has fallen below 4.40 V. -/
def convStop (d : Dev) : Dev := { d with path := { d.path with vinHigh := false } }

/-- CHG_PRECHARGE_DONE (R319, R22): judged on the latest BAT value. Notes, log 66. -/
def chgPrechargeDone (d : Dev) : Dev :=
  if d.chg.st = .precharge ∧ d.supRuns = true ∧ d.batMv ≥ d.num K.CHG_VPRE + 100 then d.chgEnter .cc else d
/-- CHG_CV_ENTRY (R319, R22): judged on the latest BAT value. Notes, log 66. -/
def chgCvEntry (d : Dev) : Dev := if d.chg.st = .cc ∧ d.supRuns = true ∧ d.batMv ≥ d.vReg then d.chgEnter .cv else d
/-- CHG_TERMINATION (R319, R22): judged on the latest battery current. Notes, log 66. -/
def chgTermination (d : Dev) : Dev :=
  if d.chg.st = .cv ∧ d.supRuns = true ∧ d.num K.BAT_CURRENT < d.num K.CHG_ITERM then d.chgEnter .done else d
/-- CHG_PRE_TIMEOUT (R319). -/
def chgPreTimeout (d : Dev) : Dev :=
  if d.chg.st = .precharge ∧ (d.chg.preNs : Int) ≥ d.num K.CHG_PRE_TIME * 60000000000 then d.chgLatch 13 else d
/-- CHG_SAFETY_TIMEOUT (R319, R320). -/
def chgSafetyTimeout (d : Dev) : Dev :=
  if (d.chg.st = .cc ∨ d.chg.st = .cv) ∧ d.num K.CHG_TIMER ≥ d.num K.CHG_SAFETY_TIME * 3600 then d.chgLatch 14 else d
/-- CHG_RECHARGE (R319, R22): judged on the latest BAT value. Notes, log 66. -/
def chgRecharge (d : Dev) : Dev :=
  if d.chg.st = .done ∧ d.supRuns = true ∧ d.batMv < d.vReg - d.num K.CHG_RECHG_DELTA then d.safetyZero.chgEnter d.chgPhase else d

/-- Has the condition of a latched fault ended at a read (R323)? -/
def chgEnded (d : Dev) (b : Nat) : Bool :=
  match b with
  | 15 => decide (d.batMv ≤ d.vReg)
  | 14 => true
  | 13 => true
  | 12 => decide (d.num K.TS_RATIO > 200)
  | 11 => decide (d.vinMv < 17000)
  | 10 => decide (d.dieMax < 2080)
  | 9 => d.path.valid
  | 8 => decide (d.num K.TS_RATIO > d.num K.TS_DISCH_HOT + d.num K.TS_HYST)
  | 7 => decide (d.batMv ≥ d.num K.BAT_CUTOFF + 200)
  | _ => true

/-- A read of `CHG_FAULT` clears each bit whose condition has ended (R323, R320). -/
def chgFaultClear (d : Dev) : Dev :=
  let was14 := d.bit K.CHG_FAULT 14
  let d1 := [15, 14, 13, 12, 11, 10, 9, 8, 7].foldl (fun d b => if d.chgEnded b then d.putBit K.CHG_FAULT b false else d) d
  let d2 := if was14 then d1.safetyZero else d1
  if fieldAt (d.num K.CHG_FAULT) 7 3 ≠ 0 then d2.switchClose else d2

/-- BATTERY_REMOVAL (R324, R325). -/
def batteryRemoval (d : Dev) (byBat : Bool) : Dev :=
  if d.chg.absent || (byBat && decide (d.chg.st ≠ .cv)) || !d.tsBiased then d
  else
    let d1 := { d with
      path := { d.path with open_ := true },
      chg := { d.chg with absent := true, presTest := true, judged := false, preNs := 0 } }
    let d2 := ((d1.safetyZero.cause 93 (if byBat then 0x02 else 0x01)).cause 93 0x03).bump K.BAT_REMOVE_COUNT 16
    if d2.chg.st = .disabled then d2 else d2.chgEnter .waitBattery

/-- The two conditions of presence (R325): the thermistor and the cell. -/
def cellSeen (d : Dev) : Bool :=
  decide (200 ≤ d.num K.TS_RATIO) && decide (d.num K.TS_RATIO ≤ 9500 - d.num K.TS_HYST) && decide (d.batMv ≥ 2000)

/-- BATTERY_PRESENT (R325): judged on the latest TS and BAT values, while TS is biased. Notes, log 66. -/
def batteryPresent (d : Dev) : Dev :=
  if d.tsBiased && d.cellSeen then
    let was := d.chg.absent
    let d1 := { d with chg := { d.chg with absent := false, presTest := false, judged := true } }
    if was then ((d1.cause 93 0x04).switchClose).chgEval else d1.chgEval
  else d

/-- Do the conditions of the ACC boost hold (R327)? -/
def accWanted (d : Dev) : Bool :=
  decide (d.num K.ACC_MODE = 1) && (d.ticking || decide (d.power = .keep)) && decide (d.boot.rank ≥ 1) && !d.dischForbidden &&
    (decide (d.path.st ≠ .onBattery) || decide (d.batMv ≥ d.num K.ACC_BAT_MIN))

/-- The ACC boost follows its conditions (R327, R332). -/
def accEval (d : Dev) : Dev :=
  let low := decide (d.path.st = .onBattery) && decide (d.batMv < d.num K.ACC_BAT_MIN)
  let d1 := { d with boost := { d.boost with batLow := low } }
  if d1.accWanted && !d1.boost.on && !d1.boost.retrying && !d1.boost.latched then
    ({ d1 with boost := { d1.boost with on := true, onNs := 0 } }).cause 95 0x01
  else if !d1.accWanted && d1.boost.on then
    ({ d1 with boost := { d1.boost with on := false, ilim := false } }).cause 95 (if low then 0x05 else 0x02)
  else d1

/-- The boost goes off with its state, at an entry to DOME or SHIP (R317, R327, R330). -/
def accOff (d : Dev) : Dev := { d.causeIf d.boost.on 95 0x02 with boost := {} }

/-- Time passes for the ACC boost (R327): whether its output is at `ACC_ILIM` is a free value while it is on (notes, log 6), and a
retry that has held for 1 s is none of the failed ones (notes, log 77). -/
def accTime (d : Dev) (ns : Nat) : Dev :=
  if d.boost.on then
    let r := d.draw
    let lim := decide (r.1 ≥ d.num K.ACC_ILIM)
    let t := min 1000000000 (d.boost.onNs + ns)
    (({ r.2 with
      boost := { r.2.boost with
        ilim := lim, onNs := t, retries := if t ≥ 1000000000 then 0 else r.2.boost.retries } }).causeIf (lim && !d.boost.ilim) 95 0x03)
  else d

/-- ACC_SHORT (R327): the output was at its limit. -/
def accShort (d : Dev) : Dev :=
  if d.boost.on then
    let d1 := d.causeIf (!d.boost.ilim) 95 0x03
    if d.boost.retries ≥ 3 then
      ({ d1 with boost := { d1.boost with on := false, ilim := false, latched := true } }).cause 95 0x04
    else ({ d1 with boost := { d1.boost with on := false, ilim := false, retrying := true } }).cause 95 0x02
  else d

/-- ACC_RETRY (R327). -/
def accRetry (d : Dev) : Dev :=
  if d.boost.retrying then
    ({ d with boost := { d.boost with retrying := false, retries := d.boost.retries + 1 } }).accEval
  else d

/-- `ACC_RESTART`, or `ACC_MODE` written 1 (R327). -/
def accClear (d : Dev) : Dev := ({ d with boost := { d.boost with latched := false, retrying := false, retries := 0 } }).accEval

/-- `ACC_STATUS` (R335). -/
def accStatus (d : Dev) : Int :=
  let b := d.boost
  128 * b2i b.on + 64 * b2i b.ilim + 32 * b2i b.retrying + 16 * b2i b.latched + 8 * b2i b.batLow + b.retries % 4

/-- An accepted `CHG_CHEM` sets the defaults of its chemistry (R318). -/
def chgChem (d : Dev) (v : Int) : Dev :=
  let d1 := d.setNum K.CHG_CHEM v
  if v = 0 then ((d1.setNum K.CHG_VREG 4200).setNum K.CHG_VPRE 3000).setNum K.BAT_CUTOFF 3000
  else ((d1.setNum K.CHG_VREG 3600).setNum K.CHG_VPRE 2500).setNum K.BAT_CUTOFF 2500

/-- The ship request is cancelled (R330). -/
def shipCancel (d : Dev) : Dev :=
  if d.btn.shipPending then ({ d with btn := { d.btn with shipPending := false, shipCancelled := true } }).cause 97 0x02 else d

/-- VIN_PRESENT_CHANGE (R314, R330). -/
def vinPresent (d : Dev) (b : Bool) : Dev :=
  let d1 := { d with path := { d.path with present := b } }
  if b then d1.shipCancel else d1

/-- BTN_PRESS (R328, R330). -/
def btnPress (d : Dev) : Dev :=
  if d.btn.pressed || decide (d.power = .ship) then d
  else (({ d with btn := { d.btn with pressed := true, warned := false, long := false } }).cause 96 0x01).shipCancel

/-- BTN_RELEASE (R328): a release after the long-press time commits nothing. -/
def btnRelease (d : Dev) : Dev :=
  if d.btn.pressed && decide (d.power ≠ .ship) then
    ({ d with btn := { d.btn with pressed := false, warned := false, long := false } }).causeIf (!d.btn.long) 96 0x02
  else d

/-- BTN_LONG_WARNING (R328). -/
def btnWarn (d : Dev) : Dev :=
  if d.btn.pressed && !d.btn.warned && decide (d.power ≠ .ship) then ({ d with btn := { d.btn with warned := true } }).cause 96 0x03 else d

/-- Rule of `SHIP_CMD` (R330). -/
def shipRule (d : Dev) (v : Int) : Reason :=
  if d.path.st ≠ .onBattery then .state
  else if d.path.present then .input
  else if d.chg.absent then .noBattery
  else if v ≠ 0x70696873 then .signature else .none

/-- An accepted `SHIP_CMD` (R330). -/
def shipRequest (d : Dev) : Dev := ({ d with btn := { d.btn with shipPending := true, shipCancelled := false } }).cause 97 0x01

/-- `SHIP_STATUS` (R335). -/
def shipStatus (d : Dev) : Int := 128 * b2i d.btn.shipPending + 64 * b2i d.btn.shipCancelled

/-- Does a charge current flow (R313)? -/
def charging (d : Dev) : Bool := decide (d.chg.st = .precharge) || decide (d.chg.st = .cc) || decide (d.chg.st = .cv)

/-- The charge current asked for (R319), mA, before the input limit of R312 reduces it: by the phase, the COOL zone and the linear
thermal regulation from 120 to 135 °C. -/
def chargeMa (d : Dev) : Int :=
  let full := if d.chg.st = .precharge then d.num K.CHG_IPRE
    else if d.num K.TS_ZONE = 1 then d.num K.CHG_ICHG * d.num K.CHG_ICOOL_PCT / 100 else d.num K.CHG_ICHG
  if d.charging then full * clampI 0 240 (2160 - d.dieMax) / 240 else 0

/-- The target of SYS in mV (R312, R317): none without the input converter, and where the switch is fully on and SYS follows the
cell. -/
def sysTarget (d : Dev) : Option Int :=
  if !d.convOn then none
  else if d.charging && !d.path.open_ then (if d.batMv ≥ d.num K.SYS_MIN then none else some (d.num K.SYS_MIN))
  else some (clampI (d.num K.SYS_MIN) 4500 (d.batMv + 150))

/-- Is the charge current reduced (R320)? -/
def halfRate (d : Dev) : Bool :=
  (decide (d.chg.st = .cc) || decide (d.chg.st = .cv)) && (decide (d.num K.TS_ZONE = 1) || d.path.inIlim || d.chg.thermalReg)

/-- The input limit and the charge current (R312, R319): the input current asked for is a free value (notes, log 6); at
`VIN_ILIM` and above the limit acts, and what it and the regulation of the voltage leave of the charge current is a free
value up to the current of R319. Without the converter nothing flows into the cell. -/
def chargeNow (d : Dev) : Dev :=
  if d.convOn then
    let r := d.draw
    let lim := decide (r.1 ≥ d.num K.VIN_ILIM)
    let full := if d.path.open_ then 0 else d.chargeMa
    let i := if lim || decide (d.chg.st = .cv) then r.2.draw else (full, r.2)
    { i.2 with
      path := { i.2.path with inIlim := lim, sysTgt := d.sysTarget }
      chg := { i.2.chg with iNow := if lim || decide (d.chg.st = .cv) then i.1 % (full + 1) else full } }
  else
    { d with
      path := { d.path with inIlim := false, sysTgt := none }
      chg := { d.chg with iNow := 0 } }

/-- Time passes for the power path and the charger (R315, R320). -/
def chargerTime (d : Dev) (ns : Nat) : Dev :=
  let flows := d.charging
  let d0 := d.chargeNow
  let d1 := { d0 with
    path := { d0.path with validNs := if d0.path.valid then d0.path.validNs + ns else 0 },
    chg := { d0.chg with thermalReg := flows && decide (d0.dieMax > 1920) } }
  if decide (d1.chg.st = ChgState.precharge) then { d1 with chg := { d1.chg with preNs := d1.chg.preNs + ns } }
  else if decide (d1.chg.st = ChgState.cc) || decide (d1.chg.st = ChgState.cv) then
    let t := d1.chg.safeNs + (if d1.halfRate then ns / 2 else ns)
    ({ d1 with chg := { d1.chg with safeNs := t % 1000000000 } }).modNum K.CHG_TIMER (fun x => satU 32 (x + (t / 1000000000 : Nat)))
  else d1

/-- The battery switch opens once the fault's event is recorded (R323). -/
def openEdge (d : Dev) : Dev :=
  if d.path.openDue && d.log.wait.isEmpty && d.ev.queue.isEmpty && d.ev.causes.isEmpty then
    { d with path := { d.path with open_ := true, openDue := false } }
  else d

/-- The power path and the charger at an edge of either grid. -/
def chargeEdge (d : Dev) (ns : Nat) : Dev := ((((d.chargerTime ns).chgEval).accTime ns).accEval).openEdge

/-- Does the battery switch carry SYS (R312, R313)? Without the converter, and where the input limit has taken the whole charge
current. -/
def sysFromBat (d : Dev) : Bool := !d.path.open_ && (!d.convOn || (d.path.inIlim && decide (d.chg.iNow = 0)))

/-- The battery current of a conversion (R319, R334): the charge current, or a free discharge where the switch carries SYS. -/
def batCurrent (d : Dev) : Int × Dev :=
  if d.sysFromBat then
    let i := d.draw
    (-(i.1 % 32768), i.2)
  else (d.chg.iNow, d)

/-- `PP_STATUS` (R333). -/
def ppStatus (d : Dev) : Int :=
  let p := d.path
  32768 * b2i p.valid + 16384 * b2i p.present + 8192 * b2i d.convOn + 4096 * b2i d.sysFromBat + 2048 * b2i p.inIlim +
    1024 * b2i p.open_ + 512 * b2i (p.valid && decide ((p.validNs : Int) < d.num K.T_RETURN * 1000000))

/-- `CHG_STATUS` (R334). -/
def chgStatus (d : Dev) : Int :=
  let c := d.chg
  let flows := decide (c.st = .cc) || decide (c.st = .cv)
  32768 * b2i c.absent + 16384 * b2i c.presTest + 8192 * b2i d.halfRate + 4096 * b2i (flows && decide (d.num K.TS_ZONE = 1)) +
    2048 * b2i (decide (d.num K.TS_ZONE = 3) && decide (d.num K.CHG_VWARM_DELTA ≠ 0)) + 1024 * b2i c.thermalReg +
    512 * b2i (d.path.inIlim && d.charging) + 256 * b2i (decide (c.st = .paused) && c.pauseTemp) +
    128 * b2i (decide (c.st = .paused) && c.pauseInput)

end Dev

end Sys2Proof.Machine
end

