-- ==== Sys2Proof/Machine/Clock.lean ====
section
/-! DEFINITION. Profiles and tick rate (R26–R32, R37), sync (R33–R36), clock faults (R39, R40), spread spectrum (R41),
housekeeping conversions (R46), the capture (R48, R49). -/

namespace Sys2Proof.Machine

/-- The settings of a profile (R28): rate, OBS_DECIMATE, MITTEN_ALLOW, SHED_POLICY_SET, WM_SAMPLED. -/
def profileSettings (v : Int) : Option (List (Nat × Int)) :=
  if v = 0 then some [(K.TICK_RATE, 4), (K.OBS_DECIMATE, 1), (K.MITTEN_ALLOW, 0), (K.SHED_POLICY_SET, 0), (K.WM_SAMPLED, 0)]
  else if v = 1 then some [(K.TICK_RATE, 2), (K.OBS_DECIMATE, 0), (K.MITTEN_ALLOW, 0), (K.SHED_POLICY_SET, 1), (K.WM_SAMPLED, 0)]
  else if v = 2 then some [(K.TICK_RATE, 1), (K.OBS_DECIMATE, 0), (K.MITTEN_ALLOW, 1), (K.SHED_POLICY_SET, 2), (K.WM_SAMPLED, 1)]
  else none

/-- Ticks still to run at a new rate, rounded up (R32). -/
def scaleUp (old new n : Nat) : Nat := (n * new + old - 1) / max 1 old

/-- Ticks that have run at a new rate. -/
def scaleRun (old new n : Nat) : Nat := n * new / max 1 old

/-- A count of ticks left at a new rate (R32). `b` is 1 where the edge that changes the rate still counts its own tick, else 0. -/
def scaleLeft (old new b n : Nat) : Nat := if n = 0 then 0 else scaleUp old new (n - b) + b

/-- A count that reads 1 when no tick has run, at a new rate (R32). -/
def scaleDone (old new b n : Nat) : Nat := if n = 0 then 0 else scaleRun old new (n + b - 1) + (1 - b)

/-- An intent at a new rate (R32): the lead, the ramp from its first tick on, and the time to its deadline go on with what was
left of them. -/
def scaleIntent (old new b : Nat) (x : Intent) : Intent :=
  let a := x.age + b
  let up := scaleUp old new
  let nr := max 1 (up x.nr)
  let made := nr - up (x.nr - (a - x.start))
  let age := max (min 1 a) (max (scaleRun old new a) made)
  { x with
    age := age - b, nr := nr, deadline := age + up (x.deadline - a),
    lead := if a ≤ x.lead then age + up (x.lead - a) else age - scaleRun old new (a - x.lead),
    start := if a ≤ x.start then age + (up (x.lead - a) - 2) else age - made }

/-- A ramp at a new rate (R32). The step of a weight ramp has been made before the rate changes. -/
def scaleRamp (old new b : Nat) (c : Phase) : Phase :=
  let up := scaleUp old new
  let len := max 1 (up c.rampLen)
  let der := up c.deratLen
  { c with
    rampLen := len, rampJ := len - up (c.rampLen - c.rampJ), deratLen := der,
    deratJ := if c.deratJ = 0 then 0 else max 1 (der + 2 - b - up (c.deratLen + 2 - b - c.deratJ)) }

namespace Dev

/-- Record an operation that is refused after its completion, with its OSN (R30, R378, R409). -/
def lateRefusal (d : Dev) (p : Src) (osn key : Nat) (r : Reason) (v : Int) : Dev :=
  d.causeArg p.evSource 0x41 osn (leBytes 2 (key / 256 : Nat) ++ leBytes 1 (key % 256 : Nat) ++ leBytes 1 r.code ++ leBytes 4 v ++ leBytes 1 p.busCode)

/-- The configuration that a profile or rate value would give (R28). -/
def withProfile (d : Dev) (key : Nat) (v : Int) : Dev :=
  let d1 := d.setNum key v
  if key = K.PERF_PROFILE then
    match profileSettings v with
    | some l => l.foldl (fun d e => d.setNum e.1 e.2) d1
    | none => d1
  else d1

/-- Does the inactive bank of an engine, after the swaps that wait, fit a rate (R30, R123)? -/
def bankFits (d : Dev) (e rate : Nat) : Bool :=
  let g := d.engine e
  let b := g.bankB != g.swapBank
  let tag := if b then d.num (K.BANK_TAG_A e) else d.num (K.BANK_TAG_B e)
  decide (tag = 0) || decide (tag = rate)

/-- The program an engine runs once a swap that waits has been made (R123). -/
def progNext (d : Dev) (e : Nat) : Image := if (d.engine e).swapProg > 0 then (d.engine e).shadow else (d.engine e).prog

/-- The engines whose program is rate-dependent (R31). -/
def rateEngines (d : Dev) : List Nat :=
  (List.range 16).filter (fun e => (d.progNext e).flags.testBit 0 && decide ((d.progNext e).id ≠ 0))

/-- The tick rate that a change is judged against (R30); in ECONOMY at a lowered rate the one to return to (R425). -/
def rateNow (d : Dev) : Nat := if d.bit K.ECONOMY_STATUS 6 then d.nat K.TICK_RATE else d.clk.rate

/-- The check of a switch at a moment (R30): the reason and the engines that block it. -/
def switchCheck (d : Dev) (key : Nat) (v : Int) : Reason × List Nat :=
  let d1 := d.settled.withProfile key v
  let rate := d1.nat K.TICK_RATE
  let upper := d1.overBudget (budgetAt rate)
  if !upper.isEmpty then (.budget, upper)
  else if rate ≠ d.rateNow then
    let bad := d.rateEngines.filter (fun e => !d.bankFits e rate)
    if bad.isEmpty then (.none, []) else (.bankTag, bad)
  else (.none, [])

/-- Does an edge lie at least `n` ticks ahead of the latest one (R30, R37)? -/
def aheadBy (d : Dev) (t n : Nat) : Bool :=
  let diff := (t + 4294967296 - d.nat K.TICK_COUNT) % 4294967296
  decide (diff < 2147483648) && decide (diff ≥ n)

/-- A follower whose count is not aligned (R30, R35). -/
def unaligned (d : Dev) : Bool := decide (d.effNum K.SYNC_MODE = 2) && !d.bit K.SYNC_STATUS 2

/-- Rule of `PERF_PROFILE` and `TICK_RATE` writes (R29, R30, R37, R427, R514). -/
def switchRule (d : Dev) (key : Nat) (v : Int) : Reason :=
  if !d.engLoaded then .busy
  else if d.power = .keep then .state
  else if key = K.TICK_RATE ∧ d.accNum K.PERF_PROFILE ≠ 3 then .profileOwned
  else if (d.switchCheck key v).1 ≠ .none then (d.switchCheck key v).1
  else if key = K.PERF_PROFILE ∧ d.flag K.PROFILE_SCHED = true then
    if !d.aheadBy (d.nat K.PROFILE_AT_TICK) 16 then .late else if d.unaligned then .notAligned else .none
  else .none

/-- Code of `last_refusal` (R50). -/
def refusalCode (r : Reason) : Int :=
  match r with
  | .budget => 1 | .bankTag => 2 | .late => 3 | .notAligned => 4 | .profileOwned => 5 | _ => 0

/-- A refused switch shows in `PROFILE_STATUS` and `PROFILE_BLOCKER` (R30, R50). -/
def switchRefused (d : Dev) (key : Nat) (v : Int) (r : Reason) : Dev :=
  let d1 := if refusalCode r = 0 then d else d.modNum K.PROFILE_STATUS (fun w => putField w 0 8 (refusalCode r).toNat)
  if r = .budget ∨ r = .bankTag then d1.setNum K.PROFILE_BLOCKER ((d.switchCheck key v).2.foldl (fun m e => m + 2 ^ e) 0) else d1

/-- An accepted switch waits for its edge; it replaces one of its own object that waits (R30, R37). -/
def switchAccept (d : Dev) (key : Nat) (v : Int) (p : Src) (osn : Nat) : Dev :=
  let at_ := if key = K.PERF_PROFILE ∧ d.flag K.PROFILE_SCHED = true then some (d.nat K.PROFILE_AT_TICK) else none
  ({ d with clk := { d.clk with pending := (d.clk.pending.filter (fun s : Switch => s.key != key)) ++ [({ key := key, value := v, osn := osn, src := p, at_ := at_ } : Switch)] } }).putBit K.PROFILE_STATUS 15 true

/-- The switches that wait, as they stand now (R50). -/
def switchesLeft (d : Dev) (l : List Switch) : Dev :=
  ({ d with clk := { d.clk with pending := l } }).putBit K.PROFILE_STATUS 15 (!l.isEmpty)

/-- `PROFILE_SCHED`: 0 cancels a scheduled switch (R37). -/
def profileSched (d : Dev) (v : Int) : Dev :=
  if v = 0 ∧ d.clk.pending.any (fun s => s.at_.isSome) = true then d.switchesLeft (d.clk.pending.filter (fun s => s.at_.isNone)) else d

/-- Rule of `PROFILE_AT_TICK` (R37). -/
def profileAtRule (d : Dev) (v : Int) : Reason :=
  if d.clk.pending.any (fun s => s.at_.isSome) && !d.aheadBy v.toNat 16 then .late else .none

/-- `PROFILE_AT_TICK` moves a scheduled switch (R37). -/
def profileAt (d : Dev) (v : Int) : Dev :=
  { d with clk := { d.clk with pending := d.clk.pending.map (fun s : Switch => { s with at_ := s.at_.map (fun _ => v.toNat) }) } }

/-- A run of ticks toward a limit given in ticks, at a new rate (R32): the time still to run is kept, rounded up to a whole
tick. A count below 0 stands for a limit that has grown beyond its numeric value. Notes, log 54. -/
def scaleCount (old new b : Nat) (limit n : Int) : Int :=
  if n = 0 ∨ n + b ≥ limit then n else limit - ceilDiv ((limit - n - b) * new) old - b

/-- The counts of a rail at a new rate (R32). Those of the plausibility engine have been advanced before the rate changes. -/
def scaleRail (d : Dev) (old new b n : Nat) (r : Rail) : Rail :=
  let c := scaleCount old new b
  let c0 := scaleCount old new 0
  let rl := d.num (K.REMLOC_COUNT n)
  let rr := d.num (K.RAIL_RES_COUNT n)
  let gr := d.num (K.GLOVE_RECOVER n)
  let up := scaleUp old new
  { r with
    intents := r.intents.map (fun i : Option Intent => i.map (scaleIntent old new b)), gloveLeft := scaleLeft old new b r.gloveLeft,
    thrN := scaleDone old new b r.thrN, rdyN := scaleDone old new b r.rdyN,
    ovN := c (d.num (K.OV_COUNT n)) r.ovN, uvN := c (d.num (K.UV_COUNT n)) r.uvN, ocN := c (d.num (K.OC_COUNT n)) r.ocN,
    gloveClear := c gr r.gloveClear,
    plaus := { r.plaus with
      disN := c0 rl r.plaus.disN, resN := c0 rr r.plaus.resN, disClr := c0 gr r.plaus.disClr, resClr := c0 gr r.plaus.resClr,
      frozenClr := c0 gr r.plaus.frozenClr, localClr := c0 gr r.plaus.localClr,
      remoteOk := c0 gr r.plaus.remoteOk },
    lp := { r.lp with
      ff := r.lp.ff.map (fun x : Option (Int × Nat × Nat) => x.map (fun y => (y.1, max 1 (up y.2.1), y.2.2))),
      wdr := r.lp.wdr.map (fun w : Withdrawal => { w with nr := max 1 (up w.nr), j := max 1 (up w.nr) - up (w.nr - w.j) }) } }

/-- The counts of a buck at a new rate (R32, R241). -/
def scaleBuck (old new b : Nat) (k : Buck) : Buck :=
  { k with ovN := scaleCount old new b 2 k.ovN, uvN := scaleCount old new b 8 k.uvN }

/-- The tick rate in force changes at an edge (R31, R32), with the bank swaps of some engines. `b` is 1 where the edge still
counts the tick that it ends, 0 where it has done so. -/
def rateChange (d : Dev) (swaps : List Nat) (b new : Nat) : Dev :=
  let old := d.clk.rate
  if old = new then d
  else
    let d1 := swaps.foldl flipBank d
    let d2 := { d1 with
      clk := { d1.clk with rate := new },
      seqr := { d1.seqr with waitN := scaleDone old new b d1.seqr.waitN, delayN := scaleLeft old new b d1.seqr.delayN },
      load := { d1.load with throttleN := scaleDone old new b d1.load.throttleN },
      phases := d1.phases.map (fun c : Phase => { scaleRamp old new b c with cStuck := scaleCount old new 0 (d.num K.STUCK_TICKS) c.cStuck }),
      bucks := d1.bucks.map (scaleBuck old new b),
      rails := (Vector.range 8).map (fun n => d1.scaleRail old new b n (d1.rl n)) }
    let d3 := forUnits 16 (fun e d => d.modNum (K.OVERRUN_CONSEC e) (fun k => max 0 (scaleCount old new 0 (d.num (K.OVERRUN_LIMIT e)) k))) d2
    d3.setNum K.ENG_BUDGET (budgetAt new)

/-- The rate in force follows `TICK_RATE` (R26, R31); a rate that ECONOMY lowered stays in force (R425). -/
def rateFollow (d : Dev) : Dev := if d.bit K.ECONOMY_STATUS 6 then d else d.rateChange d.rateEngines 1 (d.nat K.TICK_RATE)

/-- While ECONOMY holds the rate low, a new `TICK_RATE` swaps the engines that its own change left out; the others swap when it
ends (R31, R425). -/
def loweredSwaps (d : Dev) (old : Int) : Dev :=
  if d.bit K.ECONOMY_STATUS 6 && decide (d.num K.TICK_RATE ≠ old) then
    (d.rateEngines.filter (fun e => !d.clk.lowered.contains e)).foldl flipBank d
  else d

/-- Mitten mode ends on every rail (R82). -/
def mittenEnd (d : Dev) : Dev :=
  forUnits 8 (fun n d => (d.modRl n (fun r => { r with mitten := false, mitDwell := 0 })).setDrive (0x68 + n) 0) d

/-- One switch that waits, at the edge whose count is `t` (R28, R30, R37): it waits on, takes effect as a whole, or is refused
and recorded with the OSN of its write. -/
def switchOne (t : Nat) (d : Dev) (s : Switch) : Dev :=
  let diff := match s.at_ with | some a => (a + 4294967296 - t) % 4294967296 | none => 0
  if diff ≠ 0 ∧ diff < 2147483648 then { d with clk := { d.clk with pending := d.clk.pending ++ [s] } }
  else
    let r : Reason :=
      if diff ≠ 0 then .late
      else if s.key = K.TICK_RATE ∧ d.num K.PERF_PROFILE ≠ 3 then .profileOwned
      else if (d.switchCheck s.key s.value).1 ≠ .none then (d.switchCheck s.key s.value).1
      else if s.at_.isSome && d.unaligned then .notAligned else .none
    if r = .none then
      let d1 := (d.withProfile s.key s.value).loweredSwaps (d.num K.TICK_RATE)
      if decide (s.key = K.PERF_PROFILE) && !d1.flag K.MITTEN_ALLOW then d1.mittenEnd else d1
    else (d.switchRefused s.key s.value r).lateRefusal s.src s.osn s.key r s.value

/-- The switches that wait, at the edge whose count is `t`, oldest first (R30, R37). -/
def switchEdge (d : Dev) (t : Nat) : Dev :=
  if !d.supRuns || d.clk.pending.isEmpty then d
  else
    let d1 := d.clk.pending.foldl (switchOne t) { d with clk := { d.clk with pending := [] } }
    d1.switchesLeft d1.clk.pending

/-- Is TICKOUT driven (R33)? -/
def tickoutDriven (d : Dev) : Bool := d.effNum K.SYNC_MODE = 1 || d.flag K.TICKOUT_EN

/-- The symbol of a tick (R34): high time in ns. The word is the count of the latest marker tick. -/
def tickoutEdge (d : Dev) (t : Nat) : Dev :=
  let pos := t % 64
  let word := if pos = 0 then t else d.clk.outWord
  let high := if pos = 0 then 200 else if pos ≤ 32 then (if word.testBit (32 - pos) then 120 else 40) else 40
  { d with clk := { d.clk with outWord := word, tickout := if d.tickoutDriven then high else 0 } }

/-- SYNCIN_EDGE (R34–R36): `period` since the previous SYNCIN edge and `offset` of the own edge, in ps; `width` in ns.
The spec does not say when `lost` and `rate_mismatch` clear: both clear where `locked` sets. Notes, log 20. -/
def syncinEdge (d : Dev) (period width : Nat) (offset : Int) : Dev :=
  if d.effNum K.SYNC_MODE ≠ 2 ∨ d.ticking = false then d
  else
    let c := d.clk
    let diff := if period ≥ d.tickPs then period - d.tickPs else d.tickPs - period
    let bad := decide (100 * diff > d.tickPs)
    let near := decide (offset ≤ 2500) && decide (offset ≥ -2500)
    let run := if near && !bad then min 16 (c.syncRun + 1) else 0
    let marker := decide (width > 160)
    let pos := if marker then 0 else c.syncPos + 1
    let word := if marker then 0 else if pos ≤ 32 then 2 * c.syncWord + (if width ≥ 80 then 1 else 0) else c.syncWord
    let whole := marker && decide (c.syncPos = 63)
    let two := whole && (match c.syncLast with | some w => decide (c.syncWord = (w + 64) % 4294967296) | none => false)
    let d1 := { d with clk := { c with
      syncRun := run, syncBad := if bad then c.syncBad + 1 else 0, syncPos := pos, syncWord := word,
      syncLast := if whole then some c.syncWord else if marker then none else c.syncLast, syncMatch := two || (c.syncMatch && !marker),
      freeRun := c.freeRun && bad } }
    let d2 := if run = 16 ∧ d1.bit K.SYNC_STATUS 3 = false then
        (((d1.putBit K.SYNC_STATUS 3 true).putBit K.SYNC_STATUS 1 false).putBit K.SYNC_STATUS 0 false).cause 124 0x06
      else d1
    if two then (d2.setNum K.TICK_COUNT ((c.syncWord + 64) % 4294967296 : Nat)).putBit K.SYNC_STATUS 2 true else d2

/-- SYNC_LOST (R36). -/
def syncLost (d : Dev) : Dev :=
  if d.effNum K.SYNC_MODE ≠ 2 ∨ d.ticking = false ∨ d.clk.freeRun = true then d
  else
    let mis := decide (d.clk.syncBad ≥ 8)
    let d1 := { d with clk := { d.clk with freeRun := true, syncRun := 0, syncPos := 0, syncWord := 0, syncLast := none, syncMatch := false, syncBad := 0 } }
    ((((d1.putBit K.SYNC_STATUS 3 false).putBit K.SYNC_STATUS 2 false).putBit K.SYNC_STATUS (if mis then 0 else 1) true).bump K.SYNC_LOST_COUNT 16).cause
      124 (if mis then 0x05 else 0x04)

/-- XO_FAULT (R39): 0 the crystal oscillator, 1 to 3 lock of PLL_E, PLL_H, PLL_A. Every phase goes to MID, the bucks stop, a
retry delay ends with its enable dropped, and units return only by a later enable. A clock that is not good cannot be lost
once more; the loss of another one while `xo_fault` is set is a fault of its own. Notes, log 21. -/
def xoFault (d : Dev) (code : Nat) : Dev :=
  if !d.bit K.CLOCK_STATUS (7 - code) || decide (d.power = .dome) || decide (d.power = .ship) || decide (d.boot = .held) then d
  else
    let d1 := (d.putBit K.CLOCK_STATUS 3 true).putBit K.CLOCK_STATUS (7 - code) false
    let d2 := forUnits 14 (fun u d => if d.unitOn u then d.unitOff u else d.putBit (faultKey u) 14 false) d1.allMid.clockFollow
    ((d2.bump K.CLOCK_FAULT_COUNT 16).cause 124 (if code = 0 then 0x01 else 0x02)).faultRequest 15

/-- XO_FAULT_CLEAR (R39). -/
def xoFaultClear (d : Dev) : Dev :=
  if d.xoFaulty then
    (d.putBit K.CLOCK_STATUS 3 false).clockFollow.cause 124 0x03
  else d

/-- LF_XTAL_FAIL (R40). -/
def lfXtalFail (d : Dev) : Dev :=
  if d.effNum K.LF_SOURCE = 1 ∧ d.boot.rank ≥ 1 ∧ d.bit K.CLOCK_STATUS 1 = false then
    ((d.putBit K.CLOCK_STATUS 1 true).putBit K.CLOCK_STATUS 2 false).cause 124 0x07
  else d

/-- LF_CALIBRATION (R40). -/
def lfCalibration (d : Dev) (e : Int) : Dev :=
  if d.boot.rank ≥ 1 ∧ d.power ≠ .dome ∧ d.power ≠ .ship ∧ d.bit K.CLOCK_STATUS 7 = true then
    (d.setNum K.LF_CAL_ERROR e).putBit K.CLOCK_STATUS 0 true
  else d

/-- The spread value of a group at an edge, in 1/65536 % (R41): a triangle
that turns within the tick, so that its mean rate is `SS_RATE`, or a draw within the depth. The spec gives neither the
polynomial nor the seed of the 15-bit LFSR: with `SS_SHAPE` = 1 the model draws a free value. Notes, log 6. -/
def spreadEdge (d : Dev) (i : Nat) : Dev :=
  let depth := d.num (K.SS_DEPTH i) * 65536
  let v := vget d.clk.spread i
  let up := vget d.clk.spreadUp i
  if depth = 0 then { d with clk := { d.clk with spread := vset d.clk.spread i 0, spreadUp := vset d.clk.spreadUp i true } }
  else if d.num (K.SS_SHAPE i) = 0 then
    let step := max 1 (roundDiv (4 * depth * d.num (K.SS_RATE i) * 100 * d.tickNs) 1000000000)
    let v1 := if up then v + step else v - step
    let turn := decide (v1 ≥ depth) || decide (v1 ≤ -depth)
    let v2 := if v1 ≥ depth then 2 * depth - v1 else if v1 ≤ -depth then -(2 * depth) - v1 else v1
    { d with clk := { d.clk with spread := vset d.clk.spread i (clampI (-depth) depth v2), spreadUp := vset d.clk.spreadUp i (up != turn) } }
  else
    let r := d.draw
    { r.2 with clk := { r.2.clk with spread := vset r.2.clk.spread i (r.1 % (2 * depth + 1) - depth) } }

/-- The charger group at an edge (R8, R41): writes of its spread objects settle, and the converters of group 03 take the period of
1.0 MHz with the value in force. Notes, log 55. -/
def chargerSpread (d : Dev) : Dev :=
  let d1 := d.applyS (fun key => decide (0x2118 ≤ key / 256) && decide (key / 256 ≤ 0x211A) && decide (key % 256 = 3))
  { d1 with chg := { d1.chg with period := spreadPeriod 50000 (vget d1.clk.spread 2) } }

/-- The measured value a code stands for on a channel (R46). -/
def hkMeasured (ch code : Nat) : Int := (Config.hkValue ch code).toInt

/-- Is a channel of the scan list visited (R46)? Until the settings image is verified all 30 are. -/
def hkEnabled (d : Dev) (ch : Nat) : Bool :=
  decide (1 ≤ ch) && decide (ch < 31) && (decide (d.boot.rank < 2) || d.bit K.HK_SCAN_MASK ch)

/-- The channel that ends a scan of the die sensors (R46, R493): sensor B, or A where the scan leaves B out. -/
def dieLast (d : Dev) : Nat := if d.hkEnabled 6 then 6 else 5

/-- The die sensors that the scan visits are judged once in each scan (R493); no condition of THERMAL stands below 150 °C (R221,
R241). -/
def dieJudge (d : Dev) : Dev :=
  let a := d.num (K.DIE_TEMP 0)
  let b := d.num (K.DIE_TEMP 1)
  let hi := if !d.hkEnabled 6 then a else if !d.hkEnabled 5 then b else max a b
  let r125 := if hi > 2000 then min 3 (d.die.run125 + 1) else 0
  let r120 := if hi < 1920 then min 3 (d.die.run120 + 1) else 0
  let r150 := if hi > 2400 then min 3 (d.die.run150 + 1) else 0
  let x := d.die
  let e1 := decide (r125 ≥ 3) && !x.over125
  let e2 := decide (r120 ≥ 3) && x.over125
  let e3 := decide (r150 ≥ 3) && !x.over150
  let e4 := x.over150 && decide (hi < 2080)
  let d1 := { d with die := { run125 := r125, run120 := r120, run150 := r150, over125 := (x.over125 || e1) && !e2, over150 := (x.over150 || e3) && !e4 } }
  let d2 := (((d1.causeIf e1 125 1).causeIf e2 125 2).causeIf e3 125 3).causeIf e4 125 4
  if r150 = 0 then forUnits 6 (fun i d => d.markKind (8 + i) 4 false) d2 else d2

/-- The channel that the housekeeping ADC converts next (R46): VIN in turn with the scan list, which goes on in sub-index order. -/
def hkNext (d : Dev) : Nat :=
  if d.hk.vin then 0 else (((List.range 31).drop d.hk.pos ++ List.range d.hk.pos).find? d.hkEnabled).getD 0

/-- The scan after a conversion of a channel (R46). -/
def hkStep (d : Dev) (ch : Nat) : Dev :=
  { d with hk := if ch = 0 then { d.hk with vin := false } else { vin := true, pos := (ch + 1) % 31 } }

/-- HK_CONVERSION (R46): a conversion of the channel that is due goes to `HK_RAW` and to the judgements that rest on its
channel. Without VDDIO_S every SG line reads below 0.20 V (R500). While the supervisor is absent an SG line is judged for
FAULT alone (R22, R84). Notes, log 59. A value of the battery current comes with each BAT conversion. Notes, log 6. -/
def hkConversion (d : Dev) (ch code : Nat) : Dev :=
  if decide (d.boot = .held) || decide (d.power = .dome) || decide (d.power = .ship) || decide (ch ≠ d.hkNext) then d
  else
    let d1 := (d.setNum (K.HK_RAW ch) code).hkStep ch
    let v := hkMeasured ch code
    if ch = 0 then d1.vinConversion code
    else if ch = 2 then
      let i := d1.batCurrent
      (i.2.setNum K.BAT_VOLTAGE (clampI 0 65535 v)).setNum K.BAT_CURRENT (clampI (-32768) 32767 i.1)
    else if ch = 3 then d1.tsConversion v
    else if ch = 5 ∨ ch = 6 then
      let d2 := d1.setNum (K.DIE_TEMP (ch - 5)) (clampI (-32768) 32767 v)
      if ch = d.dieLast then d2.dieJudge else d2
    else if 7 ≤ ch ∧ ch < 15 then d1.sgScan (ch - 7) (if d.board.ioS then v else min v 199)
    else if 0x17 ≤ ch ∧ ch < 0x1B then d1.ldoCount (ch - 0x17)
    else d1

/-- A capture source in a mode (R48): known, and allowed in the mode. -/
def capSrcOk (mode s : Nat) : Bool × Bool :=
  let known := decide (s < 8) || (decide (0x100 ≤ s) && decide (s < 0x108)) || (decide (0x200 ≤ s) && decide (s < 0x220)) ||
    (decide (0x300 ≤ s) && decide (s < 0x320)) || (decide (0x400 ≤ s) && decide (s < 0x600)) || decide (s = 0x600) || decide (s = 0xFFFF)
  (known, decide (mode = 0) || decide (s < 0x300) || decide (s = 0xFFFF))

/-- Rule of CAP_CTRL = 1 (R49, R48, R14). The table gives no check for an arm in ARMED; the model checks it like any other.
Notes, log 56. -/
def capArmRule (d : Dev) : Reason :=
  let srcs := (List.range 8).map (fun c => d.nat (K.CAP_SRC c))
  let m := d.nat K.CAP_MODE
  if d.cap.st = .triggered then .none
  else if d.num K.CAP_LEN = 0 ∨ d.num K.CAP_LEN > 24576 ∨ d.num K.CAP_PRE ≥ d.num K.CAP_LEN then .range
  else if !srcs.all (fun s => (capSrcOk m s).1) then .range
  else if !srcs.all (fun s => (capSrcOk m s).2) then .sourceMode else .none

/-- CAP_CTRL = 1 (R49): the configuration is taken, recording starts; no effect in TRIGGERED. -/
def capArm (d : Dev) : Dev :=
  if d.cap.st = .triggered then d
  else { d with cap :=
    { st := .armed, mode := d.nat K.CAP_MODE, div := d.nat K.CAP_DIV, len := d.nat K.CAP_LEN, pre := d.nat K.CAP_PRE,
      srcs := (List.range 8).map (fun c => d.nat (K.CAP_SRC c)), trig := d.nat K.CAP_TRIG_SRC, level := d.num K.CAP_TRIG_LEVEL,
      edge := d.nat K.CAP_TRIG_EDGE, fresh := true } }

/-- A trigger (R49): from ARMED to TRIGGERED; the next sample recorded is the trigger sample. A trigger without an event
records ESN 0. Notes, log 56. -/
def capTrigger (d : Dev) (esn : Nat) (now : Bool) : Dev :=
  if d.cap.st = .armed then
    let c := d.cap
    let held := if now then c.samples.length - 1 else c.samples.length
    { d with cap := { c with
      st := .triggered, trigEsn := esn, trigTick := d.num K.TICK_COUNT, preValid := min held c.pre,
      samples := c.samples.drop (held - min held c.pre), left := (c.len - c.pre) - (if now then 1 else 0), fired := true } }
  else d

/-- CAP_CTRL = 3 (R49). -/
def capAbort (d : Dev) : Dev := if d.cap.st = .armed ∨ d.cap.st = .triggered then { d with cap := {} } else d

/-- One channel of a TICK sample (R48). -/
def capValue (d : Dev) (s : Nat) : Int :=
  if s < 8 then clampI 0 65535 (roundShift (d.num (K.VREM s)) 4)
  else if s < 0x108 then clampI 0 65535 (roundShift (d.num (K.VLOC (s - 0x100))) 4)
  else if s < 0x220 then clampI (-32768) 32767 (roundShift (d.num (K.ISENSE (s - 0x200))) 1)
  else if s < 0x320 then clampI (-32768) 32767 (roundShift (d.driveWord (s - 0x300)) 1)
  else if s < 0x600 then d.portWord ((s - 0x400) / 32) ((s - 0x400) % 32) % 65536
  else if s = 0x600 then clampI 0 65535 (roundShift (d.num K.VIN_VALUE) 4) else 0

/-- Does a channel cross the level in its direction (R48)? Samples and level compare as the numbers they stand for. Notes, log
56. -/
def capCrosses (c : Capture) (new : List Int) : Bool :=
  let ch := c.trig % 16
  match c.samples.getLast? with
  | some old =>
    let a := old.getD ch 0
    let b := new.getD ch 0
    let up := decide (a < c.level) && decide (b ≥ c.level)
    let down := decide (a > c.level) && decide (b ≤ c.level)
    if c.edge = 0 then up else if c.edge = 1 then down else up || down
  | none => false

/-- One sample instant is recorded (R48, R49). -/
def capRecord (d : Dev) (vals : List Int) : Dev :=
  let c := d.cap
  if c.st = .armed then
    let cross := decide (0x0200 ≤ c.trig) && decide (c.trig < 0x0208) && !c.fresh && capCrosses c vals
    let d1 := { d with cap := { c with samples := (c.samples ++ [vals]).drop (if c.samples.length ≥ c.len then 1 else 0) } }
    if cross then d1.capTrigger 0 true else d1
  else if c.st = .triggered ∧ c.left > 0 then { d with cap := { c with samples := c.samples ++ [vals], left := c.left - 1 } }
  else d

/-- The capture at an edge (R48, R49): an event or intent trigger of the edge, which the tick of the arm ignores, then the sample
of TICK mode. -/
def capEdge (d : Dev) (newIntent : Bool) : Dev :=
  let c := d.cap
  let ev := if 0x0100 ≤ c.trig ∧ c.trig < 0x0180 then d.ev.latest.find? (fun e => e.src == c.trig - 0x100) else none
  let d1 := if c.fresh then d else match ev with
    | some e => d.capTrigger e.esn false
    | none => if c.trig = 0x0300 && newIntent then d.capTrigger 0 false else d
  let d2 := if c.mode = 0 then d1.capRecord (c.srcs.map d1.capValue) else d1
  { d2 with cap := { d2.cap with fresh := false } }

/-- A raw slot leaves its code as the latest conversion of the input that it converts (R42, R48). -/
def rawTake (d : Dev) (x : RawSlot) : Dev :=
  forUnits 8 (fun n d =>
    let code := (vget x.code n).toNat
    let loc := decide (x.place.val = 7) != d.flag (K.SENSE_SLOTS n)
    d.modRl n (fun r => if loc then { r with rawLoc := code } else { r with rawRem := code })) d

/-- One channel of a RAW sample (R48): the latest conversion, left-justified in 16 bits. -/
def rawValue (d : Dev) (s : Nat) : Int :=
  if s < 8 then 16 * (d.rl s).rawRem
  else if s < 0x108 then 16 * (d.rl (s - 0x100)).rawLoc
  else if s < 0x220 then 16 * (d.ph (s - 0x200)).imonCode else 0

/-- RAW_CAPTURE_SAMPLE (R48): the raw slots since the sample instant before, of which the last `CAP_DIV` belong to this one; then
every channel at once. -/
def rawSample (d : Dev) (slots : List RawSlot) : Dev :=
  if d.cap.mode = 1 ∧ d.ticking = true then
    let d1 := (slots.drop (slots.length - d.cap.div)).foldl rawTake d
    d1.capRecord (d1.cap.srcs.map d1.rawValue)
  else d

/-- CAPTURE_DONE (R49). -/
def captureDone (d : Dev) : Dev :=
  if d.cap.st = .triggered ∧ d.cap.left = 0 then { d with cap := { d.cap with st := .done } } else d

/-- `CAP_INFO` (R51). -/
def capInfo (d : Dev) : List Byte :=
  let c := d.cap
  leBytes 4 c.trigEsn ++ leBytes 4 c.trigTick ++ leBytes 2 c.preValid ++ leBytes 2 c.samples.length ++ leBytes 1 c.mode ++ [0] ++ leBytes 2 c.div

/-- `CAP_DATA` (R49). -/
def capData (d : Dev) : List Byte := d.cap.samples.flatMap (fun s => s.flatMap (leBytes 2))

/-- `TELEM_SNAPSHOT` (R47, R51): VIN as latched at the edge (R96). -/
def telemSnapshot (d : Dev) : List Byte :=
  leBytes 4 (d.num K.TICK_COUNT) ++ leBytes 4 (d.sampleWord 2) ++
    (List.range 8).flatMap (fun n => leBytes 4 (roundShift (d.rl n).plaus.vTel 16) ++ leBytes 2 (clampI 0 65535 (roundShift (d.rl n).plaus.iTel 20)))

end Dev

end Sys2Proof.Machine
end

