-- ==== Sys2Proof/Machine/Apply.lean ====
section
/-! DEFINITION. What an accepted write does when it takes effect (R8): the value is held, and what the object's chapter
ties to it happens. -/

namespace Sys2Proof.Machine

namespace Dev

/-- An enable or disable takes effect (R246, R248); one that changes nothing does nothing. -/
def applyUnit (d : Dev) (u : Nat) (v : Int) : Dev :=
  if decide (u ≥ 14) && d.keepRail (u - 14) then d
  else if v ≠ 0 then (if d.unitOn u then d else d.unitEnable u) else if d.unitOn u then d.unitOff u else d

/-- An object takes an accepted value (R8). -/
def applyWrite (d : Dev) (key : Nat) (v : Val) : Dev :=
  let idx := key / 256
  let i := key % 256 - 1
  let x := v.int
  if idx = 0x2910 then d.applyUnit i x
  else if idx = 0x2300 then d.assignPhase i x
  else if idx = 0x2904 then d.seqCmd x
  else if idx = 0x2775 then (if x = 1 then d.clearFaults i else d)
  else if idx = 0x2812 then (if x = 1 then d.clearFaults (8 + i) else d)
  else if idx = 0x2847 then (if x = 1 then d.clearFaults (14 + i) else d)
  else if idx = 0x2616 then (if x = 1 then d.intentResume i else d)
  else if idx = 0x2D44 then (if x = 1 then d.accClear else d)
  else if idx = 0x2D40 then (if x = 1 then (d.setObj key v).accClear else (d.setObj key v).accEval)
  else if idx = 0x2D11 then d.chgChem x
  else if idx = 0x2840 then (d.setObj key (heldValue key v)).ldoRetarget i
  else if idx = 0x2610 then (d.setObj key v).lilFollow
  else if idx = 0x280B ∨ idx = 0x2843 then (d.setObj key v).dischargeFollow
  else if 0x1000 ≤ idx ∧ idx < 0x2000 then
    if idx = 0x1016 ∧ d.obj key ≠ v then
      let d1 := d.setObj key v
      { d1 with node := { d1.node with hb := vset d1.node.hb i {} } }
    else d.setCob key v
  else if idx = 0x220A then d.setNum key (Machine.putBit x 0 true)
  else d.setObj key v

/-- Does a waiting write stay over an edge: in ECONOMY a rail's enable, and with it every write of that rail's switch, until the
device is ACTIVE (R426)? -/
def staysPending (d : Dev) (e : Nat × Val) : Bool :=
  decide (d.power = .economy) && decide (e.1 / 256 = 0x2910) && decide (e.1 % 256 ≤ 8) &&
    d.pendT.any (fun x => x.1 == e.1 && decide (x.2.int ≠ 0))

/-- The waiting writes take their edge, oldest first (R8). -/
def applyPending (d : Dev) : Dev :=
  let now := d.pendT.filter (fun e => !d.staysPending e)
  let later := d.pendT.filter d.staysPending
  now.foldl (fun d e => d.applyWrite e.1 e.2) { d with pendT := later }

end Dev

end Sys2Proof.Machine
end

