-- ==== Sys2Proof/Machine/Storage.lean ====
section
/-! DEFINITION. Settings images: store, restore, factory store, load at boot (R436–R442), and the supervisor firmware
slots (R443–R448). Slots and images by 0 for A, 1 for B. Notes, log 22. -/

namespace Sys2Proof.Machine

/-- Is the object stored in a settings image (R5, R437)? -/
def storedKey (key : Nat) : Bool :=
  match objRow key with
  | some r => decide (r.keeps = .n) && decide (r.acc ≠ .ro)
  | none => false

/-- One entry of an image (R437). -/
def entryBytes (e : Nat × Val) : List Byte :=
  let bs := match objRow e.1 with | some r => e.2.encode r.ty | none => []
  leBytes 2 (e.1 / 256 : Nat) ++ leBytes 1 (e.1 % 256 : Nat) ++ leBytes 1 bs.length ++ bs

/-- The data of an image (R437). -/
def entriesBytes (es : List (Nat × Val)) : List Byte := es.flatMap entryBytes

/-- The header of an image up to its CRC, the sequence field erased (R437). Layout version 0302h. -/
def SetImage.header (m : SetImage) : List Byte :=
  leBytes 4 m.magic ++ leBytes 4 0xFFFFFFFF ++ leBytes 4 m.count ++ leBytes 2 0x0302 ++ [0, 0] ++ leBytes 4 m.esn ++
    leBytes 4 m.osn ++ leBytes 4 m.len

/-- The CRC of an image (R437). -/
def SetImage.crc (m : SetImage) : Nat := crc32 (m.header ++ entriesBytes m.entries)

/-- Is an image valid (R438): its magic, a sequence that is programmed, a length that fits, its CRC, and no uncorrectable ECC
error? -/
def SetImage.valid (m : SetImage) : Bool :=
  decide (m.magic = 0x31544553) && decide (m.seq ≠ 0xFFFFFFFF) && decide (m.len ≤ 65472) && decide (m.len = (entriesBytes m.entries).length) &&
    decide (m.crcHeld = m.crc) && !m.ecc

/-- The image of entries, whole but for its sequence (R437). -/
def SetImage.of (count esn osn : Nat) (es : List (Nat × Val)) : SetImage :=
  let m : SetImage := { magic := 0x31544553, count := count, esn := esn, osn := osn, len := (entriesBytes es).length, entries := es }
  { m with crcHeld := m.crc }

/-- The sequence after one (R436, R437): 00000001h to FFFFFFFEh. -/
def nextSeq (s : Nat) : Nat := if s = 0xFFFFFFFF then 1 else if s = 0xFFFFFFFE then 1 else s + 1

namespace Dev

/-- Image A or B. -/
def image (d : Dev) (b : Bool) : SetImage := if b then d.store.b else d.store.a

/-- Write image A or B. -/
def setImage (d : Dev) (b : Bool) (m : SetImage) : Dev :=
  if b then { d with store := { d.store with b := m } } else { d with store := { d.store with a := m } }

/-- The active image (R438); an empty one where none is valid. -/
def activeImage (d : Dev) : SetImage := let m := d.image d.store.activeB; if m.valid then m else {}

/-- `STORE_COUNT` (R442). -/
def storeCount (d : Dev) : Nat := d.activeImage.count

/-- The device with every accepted write carried out in its objects, a pending profile switch included (R436). -/
def acceptedObjs (d : Dev) : Assoc Val :=
  let d1 := d.clk.pending.foldl (fun d s => d.withProfile s.key s.value) d
  (d.pendT ++ d.pendS).foldl (fun m e => Assoc.set objDefault m e.1 (heldValue e.1 e.2)) d1.objs

/-- The N objects that differ from their factory value, in ascending order (R437). -/
def storeEntries (d : Dev) : List (Nat × Val) := d.acceptedObjs.filter (fun e => storedKey e.1)

/-- The N objects that differ from the active image, with their present values (R429, R451). -/
def deltas (d : Dev) : List (Nat × Val) :=
  let now := d.storeEntries
  let img := d.activeImage.entries
  (now.filter (fun e => !img.contains e)) ++
    (img.filter (fun e => now.all (fun x => x.1 != e.1))).map (fun e => (e.1, objDefault e.1))

/-- `DOME_DELTA_USED` (R429). -/
def deltaUsed (d : Dev) : Nat := (entriesBytes d.deltas).length

/-- Does a store, restore or firmware switch-over run (R436)? -/
def storeBusy (d : Dev) : Bool := decide (d.store.run ≠ .none) || d.fw.switchDue || d.fw.gap

/-- Rule of a store and of a factory store (R393, R436, R441). -/
def storeRule (d : Dev) (v sig : Int) : Reason := if v ≠ sig then .signature else if d.storeBusy then .busy else .none

/-- A store begins (R436): the inactive image is erased; what it will hold is fixed by the operations entered so far. -/
def storeBegin (d : Dev) (factory : Bool) (osn : Nat) : Dev :=
  let inactive := !d.store.activeB
  let m := SetImage.of (d.storeCount + 1) d.ev.esnNext osn (if factory then [] else d.storeEntries)
  let d1 := d.setImage inactive {}
  { d1 with store := { d1.store with run := if factory then .factory else .store, snap := m } }.causeOsn 120 0x01 osn

/-- The key whose operation a storage run is: `STORE_PARAMETERS` or `FACTORY_SETTINGS`. -/
def storeKey (d : Dev) : Nat := if d.store.run = .factory then K.FACTORY_SETTINGS else K.STORE_PARAMETERS

/-- The keep-rail records follow an image (R244). -/
def keepRecords (d : Dev) : Dev :=
  { d with
    nvm := { d.nvm with
      keepRec := (Vector.range 4).map (fun l =>
        let val : Nat → Val := fun k => match d.activeImage.entries.find? (fun e => e.1 == k) with | some e => e.2 | none => objDefault k
        { keep := decide ((val (K.LDO_KEEP l)).int ≠ 0), vout := (val (K.LDO_VOUT l)).int }) } }

/-- A store ends refused (R437, R439): the active image is unchanged. -/
def storeFail (d : Dev) (r : Reason) (failed : Bool) : Dev :=
  let osn := d.runningOsn d.storeKey
  let d1 := d.endOp d.storeKey r
  ({ d1 with store := { d1.store with run := .none, lastFailed := d1.store.lastFailed || failed } }).causeArg 120 0x03 osn (leBytes 1 r.code)

/-- The flip (R436, R442). -/
def storeFlip (d : Dev) : Dev :=
  let osn := d.runningOsn d.storeKey
  let b := !d.store.activeB
  let m := { d.store.snap with seq := nextSeq d.activeImage.seq }
  let factory := decide (d.store.run = .factory)
  let d1 := (d.endOp d.storeKey .none).setImage b m
  let d2 := { d1 with store := { d1.store with run := .none, lastFailed := false, activeB := b } }.keepRecords
  let d3 := d2.causeArg 120 0x02 osn (leBytes 4 (b2i b) ++ leBytes 4 m.seq ++ leBytes 4 m.count)
  let d4 := if factory then d3.causeOsn 120 0x05 osn else d3
  d4.causeIf (decide (m.count = 100000)) 120 0x09

/-- STORE_DONE (R436, R437, R439): the image read back with a correct CRC, or not. -/
def storeDone (d : Dev) (verified : Bool) : Dev :=
  if (d.store.run = .store ∨ d.store.run = .factory) ∧ d.supRuns = true then
    if (entriesBytes d.store.snap.entries).length > 65472 then d.storeFail .capacity false
    else if verified then d.storeFlip else d.storeFail .nvm true
  else d

/-- Rule of a restore (R393, R436, R440). -/
def restoreRule (d : Dev) (v : Int) : Reason :=
  if v ≠ 0x64616F6C then .signature
  else if d.anyUnitOn ∨ d.seqr.prog ≠ 0 then .inUse
  else if d.storeBusy then .busy else .none

/-- A restore begins (R440). -/
def restoreBegin (d : Dev) : Dev := { d with store := { d.store with run := .restore } }

/-- Judge and take the entries of an image, in their order (R438): the objects, and the count of entries ignored or
refused. -/
def takeEntries (d : Dev) (es : List (Nat × Val)) : Dev × Nat :=
  es.foldl (fun x e =>
    match objRow e.1 with
    | some r => if storedKey e.1 && rangeOk x.1 r e.1 e.2 then (x.1.setObj e.1 e.2, x.2) else (x.1, x.2 + 1)
    | none => (x.1, x.2 + 1)) (d, 0)

/-- Objects without their N values. -/
def withoutN (d : Dev) : Dev := { d with objs := d.objs.filter (fun e => !storedKey e.1) }

/-- A policy entry (R161, R162): the tables at 2508h–250Ch of each rail. -/
def isPolicy (key : Nat) : Bool :=
  let i := key / 256
  decide (0x2500 ≤ i) && decide (i < 0x2600) && decide (8 ≤ i % 0x20) && decide (i % 0x20 ≤ 0x0C)

/-- Is the key an entry or tag of the active bank of an engine (R119)? -/
def inActiveBank (d : Dev) (key : Nat) : Bool :=
  let i := key / 256
  let a := d.engine ((i - 0x4000) / 256)
  (decide (0x4000 ≤ i) && decide (i < 0x5000) && decide (i % 256 < 4) && (decide (i % 256 ≥ 2) == a.bankB)) ||
    (decide (i = 0x240D) && !(d.engine (key % 256 - 1)).bankB) || (decide (i = 0x240E) && (d.engine (key % 256 - 1)).bankB)

/-- A restored lock state (R440, R465, R466): a device that becomes LOCKED closes debug; one that becomes OPEN ends what a
session had opened. Notes, log 78. -/
def restoreLock (d : Dev) (v : Int) : Dev := if v = 1 then (d.debugShut 0).debugClose else d.debugShut 0

/-- A restored value reaches its object as its apply point has it (R8, R440): with an edge those of apply point T and the
active banks, at the end of a period those of S, else now. -/
def restoreOne (d : Dev) (e : Nat × Val) : Dev :=
  match objRow e.1 with
  | some r =>
    let d1 := if isPolicy e.1 then { d with polWait := d.polWait ++ [e] } else if e.1 = K.LOCK_STATE then d.restoreLock e.2.int else d
    if r.app = .t || d.inActiveBank e.1 then { d1 with pendT := d1.pendT ++ [e] }
    else if r.app = .s then { d1 with pendS := d1.pendS ++ [e] }
    else d1.setObj e.1 e.2
  | none => d

/-- RESTORE_DONE (R440). -/
def restoreDone (d : Dev) : Dev :=
  if d.store.run = .restore ∧ d.supRuns = true then
    let osn := d.runningOsn K.RESTORE_DEFAULT_PARAMETERS
    let loaded := (d.withoutN.takeEntries d.activeImage.entries)
    let now := d.storeEntries
    let then_ := loaded.1.objs.filter (fun e => storedKey e.1)
    let gone := (now.filter (fun e => then_.all (fun x => x.1 != e.1))).map (fun e => (e.1, objDefault e.1))
    let changed := (then_.filter (fun e => !now.contains e)) ++ gone
    let d1 := changed.foldl restoreOne { d with store := { d.store with run := .none } }
    let d2 := (d1.endOp K.RESTORE_DEFAULT_PARAMETERS .none).causeOsn 120 0x04 osn
    if loaded.2 > 0 then d2.causeArg 120 0x08 osn (leBytes 4 loaded.2) else d2
  else d

/-- The settings a boot loads (R438), and the deltas that a wake applies over them (R430). -/
def loadSettings (d : Dev) (deltas : List (Nat × Val)) (boot : Bool) : Dev :=
  let a := d.store.a
  let b := d.store.b
  let pickB := b.valid && (!a.valid || (follows b.seq a.seq && decide (b.seq ≠ a.seq)))
  let d1 := { d.withoutN with store := { d.store with activeB := pickB, run := .none } }
  let r : Dev × Nat := d1.takeEntries d1.activeImage.entries
  let d2 := deltas.foldl (fun d e => d.setObj e.1 e.2) r.1
  if !boot then d2
  else
    let d3 := { d2 with store := { d2.store with factoryVals := !a.valid && !b.valid } }
    let d4 := if r.2 > 0 then d3.causeArg 120 0x08 0 (leBytes 4 r.2) else d3
    let d5 := d4.causeIf (!a.valid && !b.valid) 120 0x07
    if a.valid != b.valid then d5.causeArg 120 0x06 0 (leBytes 4 (b2i (!b.valid))) else d5

/-- A read of NVM outside the log meets an ECC error (R438, R449): EV120 10h or 11h with its address; one that cannot be corrected
leaves a settings image invalid. -/
def nvmEcc (d : Dev) (e : NvmEcc) : Dev :=
  let d1 := d.causeArg 120 (if e.corrected then 0x10 else 0x11) 0 (leBytes 4 e.addr.toNat)
  match e.area, e.corrected with
  | .imageA, false => d1.setImage false { d.image false with ecc := true }
  | .imageB, false => d1.setImage true { d.image true with ecc := true }
  | _, _ => d1

/-- `STORE_STATUS` (R451). -/
def storeStatus (d : Dev) : Int :=
  32768 * b2i (decide (d.store.run = .store) || decide (d.store.run = .factory)) + 16384 * b2i (decide (d.store.run = .restore)) +
    8192 * b2i (!d.deltas.isEmpty) + 4096 * b2i d.store.factoryVals + 2048 * b2i (decide (d.storeCount ≥ 100000)) +
    1024 * b2i d.store.lastFailed + 512 * b2i d.store.activeB

/-- `IMAGE_INFO` of image A or B (R451). -/
def imageInfo (d : Dev) (b : Bool) : List Byte :=
  let m := d.image b
  if m.valid then
    [1, BitVec.ofNat 8 (b2n (d.store.activeB == b))] ++ leBytes 2 0x0302 ++ leBytes 4 m.seq ++ leBytes 4 m.count ++ leBytes 4 m.esn ++
      leBytes 4 m.osn ++ leBytes 4 m.crcHeld
  else List.replicate 24 0

/-! ### Supervisor firmware -/

/-- A firmware slot. -/
def slot (d : Dev) (s : Nat) : FwSlot := vget d.fw.slots s

/-- Change a firmware slot. -/
def modSlot (d : Dev) (s : Nat) (f : FwSlot → FwSlot) : Dev := { d with fw := { d.fw with slots := vmod d.fw.slots s f } }

/-- The slot that runs. -/
def runSlot (d : Dev) : Nat := b2n d.fw.runningB

/-- Write `FW_RESULT`. -/
def fwResult (d : Dev) (r : Nat) : Dev := { d with fw := { d.fw with result := r } }

/-- `len` bytes of a slot from an offset: FFh where nothing is written, the header of the shipped image in its slot
(R444). -/
def slotBytes (g : FwSlot) (off len : Nat) : List Byte :=
  if g.shipped then
    slice (leBytes 4 0x31574653 ++ leBytes 4 0x03020000 ++ leBytes 4 Config.shippedLength.toNat ++ leBytes 2 0x0302 ++ [66, 49]) off len
  else
    g.chunks.foldl (fun bs c =>
      (bs.zipIdx).map (fun x => let a := off + x.2; if c.1 ≤ a ∧ a < c.1 + c.2.length then c.2.getD (a - c.1) 0 else x.1))
      (List.replicate len 0xFF)

/-- The version word of a slot's image (R444). -/
def slotVersion (g : FwSlot) : Nat := ofLe (slotBytes g 4 4)

/-- `FW_INFO` (R451). -/
def fwInfo (d : Dev) (s : Nat) : List Byte := if (d.slot s).st = 0 then List.replicate 16 0 else slotBytes (d.slot s) 0 16

/-- The slot that FW_ERASE erases (R445): neither running nor CONFIRMED. -/
def eraseSlot (d : Dev) : Option Nat := [0, 1].find? (fun s => decide (s ≠ d.runSlot) && decide ((d.slot s).st ≠ 4))

/-- Rule of FW_ERASE (R445). -/
def fwEraseRule (d : Dev) : Reason :=
  if decide (d.fw.run ≠ .none) || d.fw.switchDue then .busy else if d.eraseSlot.isNone then .state else .none

/-- FW_ERASE begins (R445). -/
def fwErase (d : Dev) : Dev :=
  match d.eraseSlot with
  | some s => { d with fw := { d.fw with run := .erase (if s = 0 then 0 else 1) } }
  | none => d

/-- FW_ERASE_DONE (R445): the slot was erased, or its verify fails (R495); which of the two is a free value. Notes,
logs 6 and 68. -/
def fwEraseDone (d : Dev) : Dev :=
  match d.fw.run with
  | .erase s =>
    let osn := d.runningOsn K.FW_ERASE
    let ok := decide (d.draw.1 % 2 = 0)
    let d1 := (d.draw.2.modSlot s (fun _ => ⟨if ok then 1 else 5, [], false⟩)).endOp K.FW_ERASE (if ok then .none else .nvm)
    let d2 := { d1 with fw := { d1.fw with run := .none } }
    if ok then d2.causeOsn 127 0x01 osn else (d2.fwResult 8).causeArg 127 0x04 osn (leBytes 1 8)
  | _ => d

/-- The slot that is being written (R445). -/
def writingSlot (d : Dev) : Option Nat := [0, 1].find? (fun s => decide ((d.slot s).st = 1))

/-- Does a chunk touch a byte already written (R445)? -/
def overlaps (g : FwSlot) (off len : Nat) : Bool := g.chunks.any (fun c => decide (off < c.1 + c.2.length) && decide (c.1 < off + len))

/-- Rule of FW_WRITE (R445): layout, extent, a WRITING slot, overlap. -/
def fwWriteRule (d : Dev) (bs : List Byte) : Reason :=
  let off := ofLe (slice bs 0 4)
  let n := bs.length - 8
  if off % 256 ≠ 0 ∨ ofLe (slice bs 4 4) ≠ 0 ∨ off + n > 262144 then .range
  else match d.writingSlot with
    | none => .state
    | some s => if decide (d.fw.run ≠ .none) then .busy else if overlaps (d.slot s) off n then .state else .none

/-- A refused chunk (R445, R449). -/
def fwWriteRefused (d : Dev) (bs : List Byte) (osn : Nat) : Dev :=
  let upper : Bool := match d.writingSlot with
    | some s => overlaps (d.slot s) (ofLe (slice bs 0 4)) (bs.length - 8) && decide (d.fwWriteRule bs = .state)
    | none => false
  (if upper then d.fwResult 7 else d).causeOsn 127 0x02 osn

/-- FW_WRITE (R445). -/
def fwWrite (d : Dev) (bs : List Byte) : Dev :=
  match d.writingSlot with
  | some s => d.modSlot s (fun g => { g with chunks := g.chunks ++ [(ofLe (slice bs 0 4), bs.drop 8)] })
  | none => d

/-- Rule of FW_VERIFY (R445). -/
def fwVerifyRule (d : Dev) : Reason :=
  if decide (d.fw.run ≠ .none) || d.fw.switchDue then .busy else if d.writingSlot.isNone then .state else .none

/-- FW_VERIFY begins (R445). -/
def fwVerify (d : Dev) : Dev :=
  match d.writingSlot with
  | some s => { d with fw := { d.fw with run := .verify (if s = 0 then 0 else 1) } }
  | none => d

/-- What a check of a slot finds (R444, R445, R451): 0, or the code of `FW_RESULT`. -/
def fwCheck (g : FwSlot) : Nat :=
  let n := ofLe (slotBytes g 8 4)
  let body := slotBytes g 64 (n - 64)
  if ofLe (slotBytes g 0 4) ≠ 0x31574653 then 1
  else if n < 4096 ∨ n > 262144 then 2
  else if slotBytes g 14 2 ≠ [66, 49] then 5
  else if crc32 body ≠ ofLe (slotBytes g 16 4) then 3
  else if (List.range 32).map (macByte (hmac Config.firmwareKey (slotBytes g 0 32 ++ body))) ≠ slotBytes g 32 32 then 4
  else 0

/-- FW_VERIFY_DONE (R445). -/
def fwVerifyDone (d : Dev) : Dev :=
  match d.fw.run with
  | .verify s =>
    let osn := d.runningOsn K.FW_VERIFY
    let r := fwCheck (d.slot s)
    let d1 := ((d.modSlot s (fun g => { g with st := if r = 0 then 2 else 5 })).endOp K.FW_VERIFY .none).fwResult r
    let d2 := { d1 with fw := { d1.fw with run := .none } }
    if r = 0 then d2.causeOsn 127 0x03 osn else d2.causeArg 127 0x04 osn (leBytes 1 r)
  | _ => d

/-- Rule of FW_CONFIRM (R448). -/
def fwConfirmRule (d : Dev) : Reason := if d.fw.slots.toList.any (fun g => decide (g.st = 3)) then .none else .state

/-- The TRIAL slot becomes CONFIRMED, and the slot that was CONFIRMED VERIFIED (R448). -/
def fwConfirm (d : Dev) (osn : Nat) : Dev :=
  let slots := d.fw.slots.map (fun g : FwSlot => { g with st := if g.st = 3 then 4 else if g.st = 4 then 2 else g.st })
  { d with fw := { d.fw with slots := slots } }.causeOsn 127 0x07 osn

/-- FW_AUTO_CONFIRM (R448). -/
def fwAutoConfirm (d : Dev) : Dev :=
  if d.flag K.FW_AUTO_CONFIRM && decide ((d.slot d.runSlot).st = 3) && d.supRuns then d.fwConfirm 0 else d

/-- Does any NVM or firmware operation run (R428, R446)? -/
def nvmBusy (d : Dev) : Bool :=
  decide (d.store.run ≠ .none) || d.nvm.libRun.isSome || d.log.clearRun || decide (d.fw.run ≠ .none) || d.fw.switchDue || d.fw.gap

/-- Rule of FW_SWITCH (R446). -/
def fwSwitchRule (d : Dev) (v : Int) : Reason :=
  let other := (d.slot (1 - d.runSlot)).st
  if v ≠ 0x70617773 then .signature
  else if (other ≠ 2 ∧ other ≠ 4) ∨ (d.power ≠ .active ∧ d.power ≠ .economy ∧ d.power ≠ .keep) then .state
  else if d.nvmBusy || decide (d.canA.bxt.st ≠ 0) || decide (d.canB.bxt.st ≠ 0) || decide (d.seqr.prog ≠ 0) ||
      (List.range 32).any (fun p => decide (d.svcOf p = 2)) then .busy
  else .none

/-- An accepted FW_SWITCH (R447): what the supervisor does before the edge, but for the SDO transfers (`fwAbort`). -/
def fwSwitch (d : Dev) (osn : Nat) : Dev := { d with fw := { d.fw with switchDue := true } }.causeOsn 127 0x05 osn |>.sessionsEnd 5 osn

/-- The slot that is due to boot is on trial, unless it is CONFIRMED (R443, R447). -/
def fwTry (d : Dev) (s : Nat) : Dev := d.modSlot s (fun g => { g with st := if g.st = 4 then 4 else 3 })

/-- The switch edge (R447): the supervisor stops and the gap begins. -/
def fwEdge (d : Dev) : Dev :=
  if d.fw.switchDue then { d with supAbsent := true, fw := { d.fw with switchDue := false, gap := true } }.fwTry (1 - d.runSlot) else d

/-- FW_START (R447): the new image starts after a gap in µs; one that fails its CRC leaves the gap going on. -/
def fwStart (d : Dev) (ok : Bool) (gapUs : Nat) : Dev :=
  if d.fw.gap && ok then
    let old := slotVersion (d.slot d.runSlot)
    let d1 := { d with supAbsent := false, fw := { d.fw with gap := false, runningB := !d.fw.runningB } }
    let d2 := (d1.fwTry d1.runSlot).setNum K.FW_LAST_GAP (satU 32 gapUs)
    let arg := leBytes 4 old ++ leBytes 4 (slotVersion (d2.slot d2.runSlot)) ++ leBytes 4 gapUs
    (d2.causeArg 127 0x06 0 arg).lateResponses
  else d

/-- The slot a boot starts (R448): `watchdog` tells a supervisor watchdog reset, `bad` a chosen slot that fails its
CRC. -/
def fwBoot (d : Dev) (watchdog bad : Bool) : Dev :=
  let trial := [0, 1].find? (fun s => decide ((d.slot s).st = 3))
  let conf := ([0, 1].find? (fun s => decide ((d.slot s).st = 4))).getD d.runSlot
  let r : Nat × Dev := match trial with
    | some t => if watchdog then (conf, ((d.modSlot t (fun g => { g with st := 5 })).fwResult 6).cause 127 0x08) else (t, d)
    | none => (conf, d)
  let other := (r.2.slot (1 - r.1)).st
  let d1 := r.2
  if bad && (decide (other = 2) || decide (other = 4)) then
    { d1 with fw := { d1.fw with runningB := decide (1 - r.1 = 1) } }.cause 127 0x09
  else { d1 with fw := { d1.fw with runningB := decide (r.1 = 1) } }

/-- Decimal digits of a byte. -/
def decimal (n : Nat) : List Byte :=
  let dig := fun x : Nat => BitVec.ofNat 8 (48 + x % 10)
  if n < 10 then [dig n] else if n < 100 then [dig (n / 10), dig n] else [dig (n / 100), dig (n / 10), dig n]

/-- `100Ah` (R2, R402, R447): the version of the running firmware. -/
def swVersion (d : Dev) : List Byte :=
  let v := slotVersion (d.slot d.runSlot)
  let s := decimal (v / 2 ^ 24 % 256) ++ [46] ++ decimal (v / 2 ^ 16 % 256) ++ [46] ++ decimal (v / 2 ^ 8 % 256)
  (s ++ List.replicate 8 32).take 8

/-- `1018h:03` (R402). -/
def revisionNumber (d : Dev) : Int := 0x00B10000 + (slotVersion (d.slot d.runSlot) / 2 ^ 16 % 65536 : Nat)

end Dev

end Sys2Proof.Machine
end

