-- ==== Sys2Proof/Machine/Net.lean ====
section
/-! DEFINITION. The CANopen node and its two ports: NMT, heartbeat, port errors, the active bus (R381–R386, R399–R401).
Notes, logs 23 and 24. -/

namespace Sys2Proof.Machine

/-- The code of EV103 of a bus, from the code of CANA (R401). -/
def busEv (b : Bus) (code : Nat) : Nat := match b with | .a => code | .b => code + 1

namespace Dev

/-- Both buses. -/
def buses : List Bus := [.a, .b]

/-- Are the CAN ports live (R23, R381, R427, R500, R514)? -/
def canLive (d : Dev) : Bool := d.opsOpen && d.board.ioH && (d.ticking || decide (d.power = .keep))

/-- Does the node take a frame from a bus (R381, R383, R384)? -/
def canHears (d : Dev) (b : Bus) : Bool :=
  let p := d.port b
  d.canLive && p.enabled && !p.busOff && !p.offRepeated && decide (d.node.nmt ≠ .initialising)

/-- May the port send the heartbeat (R400)? -/
def portBeats (d : Dev) (b : Bus) : Bool :=
  let p := d.port b
  d.canLive && p.enabled && !p.busOff && !p.offRepeated

/-- Count an error of a port (R404): 0 bus-offs, 1 error-passive entries, 2 receive overruns, 3 RPDO replacements, 4 frames
ignored, 5 frames dropped. -/
def canCount (d : Dev) (b : Bus) (i : Nat) : Dev := d.modPort b (fun p => { p with counts := vmod p.counts i (fun x => satU 32 (x + 1)) })

/-- A frame of another length or format than its identifier takes is ignored and counted (R384, R394, R400). -/
def onCan (d : Dev) (f : CanFrame) (go : Dev → Dev) : Dev :=
  if f.wrong then (if d.canHears f.bus then d.canCount f.bus 4 else d) else go d

/-- Are the CAN controllers on (R381, R500)? Their errors are noticed without the supervisor. -/
def canOn (d : Dev) : Bool := decide (d.boot.rank ≥ 2) && d.board.ioH && (d.ticking || decide (d.power = .keep))

/-- The object that a bulk transfer is an operation on (R396). -/
def bxtKey (b : Bus) (kind unit idx : Nat) : Nat :=
  match kind with
  | 1 => K.CAP_DATA
  | 2 => K.LOG_WINDOW (match b with | .a => 2 | .b => 3)
  | 3 => coefKey unit false 0
  | 4 => K.STATE_VIEW unit
  | _ => idx * 256 + unit

/-- The entry that a bulk write keeps RESERVED until its COMMIT is free again (R375, R398). -/
def bxtRelease (d : Dev) (b : Bus) : Dev :=
  let t := (d.port b).bxt
  if t.st = 2 then d.unreserve (match b with | .a => .canA | .b => .canB) (bxtKey b t.kind t.unit t.idx) else d

/-- A bulk transfer ends without effect (R399): EV103 18h with the reason. -/
def bxtEnd (d : Dev) (b : Bus) (r : Reason) : Dev :=
  if (d.port b).bxt.st = 0 then d
  else ((d.bxtRelease b).modPort b (fun p => { p with bxt := { p.bxt with st := 0, data := [], reason := r } })).causeArg 103 0x18 0 (leBytes 1 r.code)

/-- SDO and bulk transfers in progress end uncommitted (R384, R399). -/
def transfersEnd (d : Dev) (b : Bus) (r : Reason) : Dev := (d.setSdo b .idle).bxtEnd b r

/-- An NMT state is entered (R384, R401): EV103 12h with the state. PDOs end outside OPERATIONAL, transfers in STOPPED. -/
def nmtEnter (d : Dev) (s : Nmt) : Dev :=
  if d.node.nmt = s then d
  else
    let d1 := { d with node := { d.node with
      nmt := s, tpdoHeld := if s = Nmt.operational then d.node.tpdoHeld else Vector.replicate 4 false
      rpdoHeld := if s = Nmt.operational then d.node.rpdoHeld else Vector.replicate 4 none } }
    let d2 := if s = .stopped then buses.foldl (fun d b => d.transfersEnd b .nmtState) d1 else d1
    d2.causeArg 103 0x12 0 (leBytes 1 s.code)

/-- Does an NMT command address this node (R384)? -/
def nmtAddressed (d : Dev) (b : Bus) (node : BitVec 8) : Bool := d.canHears b && (decide (node = 0) || decide (node.toNat = d.node.id))

/-- NMT_START (R384). -/
def nmtStart (d : Dev) (b : Bus) (node : BitVec 8) : Dev := if d.nmtAddressed b node then d.nmtEnter .operational else d
/-- NMT_STOP (R384). -/
def nmtStop (d : Dev) (b : Bus) (node : BitVec 8) : Dev := if d.nmtAddressed b node then d.nmtEnter .stopped else d
/-- NMT_ENTER_PRE_OPERATIONAL (R384). -/
def nmtPreOp (d : Dev) (b : Bus) (node : BitVec 8) : Dev := if d.nmtAddressed b node then d.nmtEnter .preOperational else d

/-- The node-ID that an initialisation takes (R382, R503): the object, else the strap; 0 where neither gives one. -/
def chooseId (d : Dev) : Nat :=
  let o := (d.effNum K.CAN_NODE_ID).toNat
  if 1 ≤ o ∧ o ≤ 127 then o else match d.board.nodesel with | some l => 8 + 8 * l | none => 0

/-- The node is set up and leaves INITIALISING (R384): boot-up messages on the enabled buses. -/
def nodeStart (d : Dev) : Dev :=
  let id := d.chooseId
  let en := fun i : Nat => decide (id ≠ 0) && bitAt (d.effNum K.CAN_PORT_EN) i
  let d1 := { d with
    node := { d.node with
      id := id, hb := Vector.replicate 4 {}, tpdoHeld := Vector.replicate 4 false, tpdoInhibit := Vector.replicate 4 false
      rpdoHeld := Vector.replicate 4 none }
    canA := { d.canA with enabled := en 0 }, canB := { d.canB with enabled := en 1 } }
  let d2 := d1.nmtEnter (if d.effNum K.NMT_STARTUP = 1 then .operational else .preOperational)
  d2.answering (.frames ((buses.filter (fun b => (d2.port b).enabled)).map (fun b => (onBus b (0x700 + id), [0]))))

/-- Is the key a communication object of R384 and R434? -/
def commKey (key : Nat) : Bool :=
  let i := key / 256
  (decide (0x1000 ≤ i) && decide (i < 0x2000)) || (decide (0x2F00 ≤ i) && decide (i < 0x3000))

/-- NMT_RESET_COMMUNICATION (R384, R434): the communication objects are reloaded, both CAN sessions end, the node starts
again with the node-ID of R382. -/
def nmtResetComm (d : Dev) (b : Bus) (node : BitVec 8) : Dev :=
  if d.nmtAddressed b node then
    let d0 := (buses.foldl (fun d b => d.transfersEnd b .nmtState) ((d.sessionEnd 3 7 0).sessionEnd 4 7 0)).causeArg 103 0x12 0
      (leBytes 1 Nmt.initialising.code)
    let img := d0.activeImage.entries.filter (fun e => commKey e.1)
    let d1 := { d0 with
      objs := img.foldl (fun m (e : Nat × Val) => Assoc.set objDefault m e.1 e.2) (d0.objs.filter (fun e => !commKey e.1)),
      pendT := d0.pendT.filter (fun e => !commKey e.1) }
    let d2 := { d1 with eff := Assoc.set objDefault d1.eff K.CAN_NODE_ID (d1.obj K.CAN_NODE_ID), canA := {}, canB := {}, node := {} }
    d2.nodeStart
  else d

/-- A communication error applies `1029h:01` (R384). -/
def commError (d : Dev) : Dev :=
  if d.node.nmt = .operational then
    if d.num K.ERROR_BEHAVIOUR = 0 then d.nmtEnter .preOperational
    else if d.num K.ERROR_BEHAVIOUR = 2 then d.nmtEnter .stopped else d
  else d

/-- HEARTBEAT_PRODUCE (R383, R386). -/
def heartbeatProduce (d : Dev) : Dev :=
  if d.num K.PRODUCER_HEARTBEAT_TIME ≠ 0 ∧ d.node.nmt ≠ .initialising then
    let fs := (buses.filter d.portBeats).map (fun b => (onBus b (0x700 + d.node.id), leBytes 1 d.node.nmt.code))
    if fs.isEmpty then d else d.answering (.frames fs)
  else d

/-- The consumer entry of a node (R386, R402). -/
def hbEntry (d : Dev) (node : Nat) : Option Nat :=
  (List.range 4).find? (fun i => let w := d.num (K.CONSUMER_HEARTBEAT_TIME i)
    decide (fieldAt w 16 8 = node) && decide (fieldAt w 0 16 ≠ 0))

/-- Change a consumer entry. -/
def modHb (d : Dev) (i : Nat) (f : HbEntry → HbEntry) : Dev := { d with node := { d.node with hb := vmod d.node.hb i f } }

/-- HEARTBEAT_RECEIVED (R386). -/
def heartbeatReceived (d : Dev) (b : Bus) (node : BitVec 8) : Dev :=
  if d.canHears b then
    match d.hbEntry node.toNat with
    | some i =>
      let late := (vget d.node.hb i).timedOut
      let d1 := d.modHb i (fun h => { h with heard := true, timedOut := false })
      if late then d1.causeArg 103 0x11 0 (leBytes 1 (i + 1 : Nat)) else d1
    | none => d
  else d

/-- HEARTBEAT_TIMEOUT (R386). -/
def heartbeatTimeout (d : Dev) (i : Nat) : Dev :=
  if (vget d.node.hb i).heard && decide (fieldAt (d.num (K.CONSUMER_HEARTBEAT_TIME i)) 0 16 ≠ 0) && d.canLive then
    ((d.modHb i (fun h => { h with heard := false, timedOut := true })).causeArg 103 0x10 0 (leBytes 1 (i + 1 : Nat))).commError
  else d

/-- CAN_ERROR_PASSIVE (R400, R401). -/
def canErrorPassive (d : Dev) (b : Bus) : Dev :=
  if d.canOn && (d.port b).enabled && !(d.port b).errPassive && !(d.port b).busOff then
    ((d.modPort b (fun p => { p with errPassive := true })).canCount b 1).cause 103 (busEv b 0x01)
  else d

/-- CAN_ERROR_ACTIVE (R400). -/
def canErrorActive (d : Dev) (b : Bus) : Dev :=
  if d.canOn then d.modPort b (fun p => if p.errPassive && !p.busOff then { p with errPassive := false } else p) else d

/-- CAN_BUS_OFF (R399, R400): after 8 of them within 60 s the port stays off; no command tells that time, so it is a free
value from the eighth on. Notes, log 6. -/
def canBusOff (d : Dev) (b : Bus) : Dev :=
  if d.canOn && (d.port b).enabled && !(d.port b).busOff then
    let n := (d.port b).busOffRun + 1
    let r := d.draw
    let many := decide (n ≥ 8) && decide (r.1 % 2 = 1)
    let d1 := (if n ≥ 8 then r.2 else d).modPort b (fun p =>
      { p with busOff := true, errPassive := false, busOffRun := if many then 0 else min n 8, offRepeated := many })
    (((d1.canCount b 0).cause 103 (busEv b 0x03)).transfersEnd b .timeout).commError
  else d

/-- CAN_BUSOFF_RECOVERY (R400). -/
def canRecovery (d : Dev) (b : Bus) : Dev :=
  if d.canOn && (d.port b).busOff then
    (d.modPort b (fun p => { p with busOff := false, offRepeated := false })).cause 103 (busEv b 0x05)
  else d

/-- CAN_RX_OVERRUN (R400). -/
def canRxOverrun (d : Dev) (b : Bus) : Dev :=
  if d.canOn && (d.port b).enabled then (d.canCount b 2).cause 103 (busEv b 0x07) else d

/-- CAN_TX_TIMEOUT (R400): the frame at the head of the port's transmission is dropped; it is an EMCY frame where one
waits. -/
def canTxTimeout (d : Dev) (b : Bus) : Dev :=
  if d.canOn && (d.port b).enabled then
    let d1 := d.canCount b 5
    match (d.port b).emcy with
    | [] => d1
    | _ :: rest => (d1.modPort b (fun p => { p with emcy := rest })).cause 103 0x19
  else d

/-- NODE_ID_CONFLICT (R400). -/
def nodeIdConflict (d : Dev) (b : Bus) : Dev :=
  if d.canOn && (d.port b).enabled && !(d.port b).idConflict then
    (d.modPort b (fun p => { p with idConflict := true })).cause 103 (busEv b 0x09)
  else d

/-- ID_CONFLICT_RESUME (R400). -/
def idConflictResume (d : Dev) (b : Bus) : Dev := d.modPort b (fun p => { p with idConflict := false })

/-- ACTIVE_BUS_SWITCH (R383). -/
def activeBusSwitch (d : Dev) : Dev :=
  let good := fun p : CanPort => p.enabled && !p.errPassive && !p.busOff
  let bad := d.canA.errPassive || d.canA.busOff
  if d.num K.CAN_REDUNDANCY ≠ 1 then d
  else if !d.node.activeB && bad && good d.canB then { d with node := { d.node with activeB := true } }.cause 103 0x14
  else if d.node.activeB && good d.canA then { d with node := { d.node with activeB := false } }.cause 103 0x14
  else d

/-- `CAN_STATUS` (R404). No command tells the transmit error count: a value `k` that is free within what the port's error state
leaves to it, 256 at bus-off. Notes, log 6. -/
def canStatus (d : Dev) (b : Bus) (k : Int) : Int :=
  let p := d.port b
  let count := if !p.enabled then 0 else if p.busOff then 256 else if p.errPassive then k % 256 else k % 128
  32768 * b2i p.enabled + 16384 * b2i p.errPassive + 8192 * b2i p.busOff + 4096 * b2i p.idConflict + 2048 * b2i p.offRepeated + count / 2

/-- `BXT_STATUS` (R404). -/
def bxtStatus (d : Dev) (b : Bus) : List Byte :=
  let t := (d.port b).bxt
  leBytes 1 t.st ++ leBytes 1 t.tag ++ leBytes 1 t.kind ++ leBytes 1 t.reason.code ++ leBytes 4 t.moved ++ leBytes 4 t.repeated

end Dev

end Sys2Proof.Machine
end

