-- ==== Sys2Proof/Machine/Timers.lean ====
section
/-! DEFINITION. The timers (R286–R297). -/

namespace Sys2Proof.Machine

namespace Dev

/-- Does the timer run? -/
def tmRuns (d : Dev) (t : Nat) : Bool := d.bit (K.TM_STATUS t) 15

/-- One-shot, preload and capture-enable bits of `TM_CONFIG` (R310). -/
def tmOneShot (d : Dev) (t : Nat) : Bool := d.bit (K.TM_CONFIG t) 7
/-- The preload bit. -/
def tmPreload (d : Dev) (t : Nat) : Bool := d.bit (K.TM_CONFIG t) 6

/-- A timer event of code `c` (R297). -/
def tmEvent (d : Dev) (t c : Nat) : Dev := d.causeIf (d.bit (K.TM_EVENT_MASK t) (c - 1)) (74 + t) c

/-- The waiting period takes effect. -/
def tmTakePeriod (d : Dev) (t : Nat) : Dev :=
  d.modTm t (fun m => match m.periodWait with
    | some v => { m with period := v, periodWait := none }
    | none => m)

/-- A written compare takes effect; one not beyond the count sets `compare_late` (R290). -/
def tmTakeCompare (d : Dev) (t : Nat) : Dev :=
  match (d.tm t).compareWait with
  | none => d
  | some v =>
    let d1 := d.modTm t (fun m => { m with compare := v, compareWait := none })
    if v ≤ d.num (K.TM_COUNT t) then (d1.putBit (K.TM_STATUS t) 11 true).tmEvent t 5 else d1

/-- Writes completed since the previous timer clock edge take effect (R291 step 1). -/
def tmWrites (d : Dev) (t : Nat) : Dev :=
  let d1 := if d.tmPreload t then d else d.tmTakePeriod t
  d1.tmTakeCompare t

/-- The timer stops: it neither counts nor captures (R292, R293). -/
def tmStopped (d : Dev) (t : Nat) : Dev :=
  ((d.putBit (K.TM_STATUS t) 15 false).putBit (K.TM_STATUS t) 14 false).modTm t (fun m => { m with caps := [] })

/-- A match (R290). -/
def tmMatch (d : Dev) (t : Nat) : Dev :=
  ((d.putBit (K.TM_STATUS t) 9 true).modNum (K.TM_MATCH_COUNT t) (fun x => wrapU32 (x + 1))).tmEvent t 1

/-- A terminal event (R288): a periodic timer wraps, a one-shot stops at 0; a preloaded period takes over. -/
def tmTerminal (d : Dev) (t : Nat) : Dev :=
  let d1 := ((d.putBit (K.TM_STATUS t) 8 true).tmEvent t 2).setNum (K.TM_COUNT t) 0
  if d.tmOneShot t then d1.tmStopped t else d1.tmTakePeriod t

/-- The count advances or takes its terminal event, and the match is tested (R291 step 2). The second part tells
which events took place: match, terminal. -/
def tmAdvance (d : Dev) (t : Nat) : Dev × Bool × Bool :=
  if d.tmRuns t then
    let m := d.tm t
    let c := d.num (K.TM_COUNT t) + 1
    if c ≥ m.period then
      let d1 := d.tmTerminal t
      if !d.tmOneShot t && decide (m.compare = 0) then (d1.tmMatch t, true, true) else (d1, false, true)
    else
      let d1 := d.setNum (K.TM_COUNT t) c
      if c = m.compare then (d1.tmMatch t, true, false) else (d1, false, false)
  else (d, false, false)

/-- The capture input is sampled (R292): what has passed the two base clocks of its synchroniser. Notes, log 17. -/
def tmSample (d : Dev) (t : Nat) : Dev :=
  let seen := (d.tm t).caps.any (fun a => decide (2 < a))
  let d1 := d.modTm t (fun m => { m with caps := m.caps.filter (fun a => decide (a ≤ 2)) })
  if seen && d.bit (K.TM_CONFIG t) 5 && d.tmRuns t then
    let again := d.bit (K.TM_STATUS t) 13
    let d2 := ((d1.setNum (K.TM_CAPTURE t) (d.num (K.TM_COUNT t))).putBit (K.TM_STATUS t) 13 true).tmEvent t 3
    if again then (d2.putBit (K.TM_STATUS t) 12 true).tmEvent t 4 else d2
  else d1

/-- The actions of one timer's events as target and action (R294): 1 START, 2 RESET, 3 STOP. -/
def tmActions (d : Dev) (t : Nat) (isMatch isTerm : Bool) : List (Nat × Nat) :=
  let w := d.num (K.TM_ACTION t)
  let to_ := fun linked : Bool => if linked then d.nat (K.TM_LINK t) else t
  (if isMatch then [(to_ (bitAt w 7), fieldAt w 5 2)] else []) ++ (if isTerm then [(to_ (bitAt w 3), fieldAt w 1 2)] else [])

/-- The prescaler restarts (R286). -/
def tmRestart (d : Dev) (t : Nat) : Dev := d.modTm t (fun m => { m with pre := 0 })

/-- START of a timer (R288, R293): a preloaded period of a one-shot takes over and the prescaler restarts. -/
def tmGo (d : Dev) (t : Nat) : Dev :=
  if d.tmRuns t then d
  else if d.num (K.TM_PERIOD t) = 0 then d.putBit (K.TM_STATUS t) 10 true
  else
    let d1 := if d.tmOneShot t ∨ (d.tm t).period = 0 ∨ d.num (K.TM_COUNT t) = 0 then d.tmTakePeriod t else d
    (((d1.putBit (K.TM_STATUS t) 15 true).putBit (K.TM_STATUS t) 14 d.clk.lfMode).putBit (K.TM_STATUS t) 10 false).tmRestart t

/-- STOP (R293): writes that wait take effect, as on a stopped timer. -/
def tmHalt (d : Dev) (t : Nat) : Dev := if d.tmRuns t then (d.tmStopped t).tmWrites t else d

/-- RESET (R293). -/
def tmZero (d : Dev) (t : Nat) : Dev := ((d.setNum (K.TM_COUNT t) 0).modTm t (fun m => { m with frac := 0 })).tmRestart t

/-- The actions that reach one timer on one base clock, combined (R294). -/
def tmApply (d : Dev) (acts : List (Nat × Nat)) (t : Nat) : Dev :=
  let mine := (acts.filter (fun a => a.1 == t)).map (·.2)
  let d1 := if mine.contains 2 then d.tmZero t else d
  if mine.contains 3 then d1.tmHalt t else if mine.contains 1 then d1.tmGo t else d1

/-- Advance the timers of a list by steps 1 and 2, collecting their actions. -/
def tmSteps (step : Dev → Nat → Dev × Bool × Bool) (d : Dev) : List Nat → Dev × List (Nat × Nat)
  | [] => (d, [])
  | t :: ts =>
    let r := step d t
    let q := tmSteps step r.1 ts
    (q.1, d.tmActions t r.2.1 r.2.2 ++ q.2)

/-- One timer's writes, advance and sample (R291 steps 1–3). -/
def tmClock (d : Dev) (t : Nat) : Dev × Bool × Bool :=
  let r := (d.tmWrites t).tmAdvance t
  (r.1.tmSample t, r.2)

/-- The timers of a mask. -/
def maskTimers (m : Nat) : List Nat := (List.range 16).filter (fun t => m.testBit t)

/-- The running timers. -/
def runningTimers (d : Dev) : List Nat := (List.range 16).filter (fun t => d.tmRuns t)

/-- Base clocks from now to the next timer clock edge of a running timer (R286). -/
def tmDue (d : Dev) (t : Nat) : Nat := d.nat (K.TM_PRESCALE t) - (d.tm t).pre

/-- Base clocks to the nearest timer clock edge of the timers of a list. -/
def tmNearest (d : Dev) : List Nat → Nat
  | [] => 0
  | [t] => d.tmDue t
  | t :: ts => min (d.tmDue t) (d.tmNearest ts)

/-- `k` base clocks pass for a timer: its prescaler and its synchroniser advance, and an edge restarts the prescaler. -/
def tmPass (k : Nat) (d : Dev) (t : Nat) : Dev :=
  let edge := decide (d.tmDue t ≤ k)
  d.modTm t (fun m => { m with pre := if edge then 0 else m.pre + k, caps := m.caps.map (· + k) })

/-- Does the base clock reach the timers (R39, R286, R287)? At an entry to DOME or debug halt it does up to the LF edge at which LF
mode is entered. -/
def baseClock (d : Dev) : Bool := !(d.xoFaulty || d.clk.lfMode || decide (d.power = .ship) || decide (d.boot = .held))

/-- TIMER_CLOCK_EDGE (R286, R291): at most `clocks` base clocks pass, up to the first on which a timer clock edge of a
running timer falls; the edges that fall on it take place, and their actions together. Notes, log 17. -/
def timerClockEdge (d : Dev) (clocks : Nat) : Dev :=
  if d.baseClock then
    let run := d.runningTimers
    let k := min clocks (d.tmNearest run)
    let due := run.filter (fun t => decide (d.tmDue t ≤ k))
    let r := tmSteps tmClock (run.foldl (tmPass k) d) due
    (maskTimers 65535).foldl (fun d t => d.tmApply r.2 t) r.1
  else d

/-- One LF step of a timer (R287). -/
def tmLf (d : Dev) (t : Nat) : Dev × Bool × Bool :=
  let d0 := d.tmWrites t
  if d.tmRuns t then
    let m := d0.tm t
    let inc := roundDiv 50000000 (d.num (K.TM_PRESCALE t))
    let old := d.num (K.TM_COUNT t)
    let ext := old * 65536 + m.frac + inc
    let new := ext / 65536
    let fr := (ext % 65536).toNat
    let p := m.period
    let term := decide (p > 0) && decide (new ≥ p)
    let one := d.tmOneShot t
    let wrapped := if p > 0 then new % p else new
    let hit := decide (m.compare < p) &&
      ((decide (old < m.compare) && decide (m.compare ≤ new)) ||
        (term && !one && (decide (m.compare ≤ wrapped) || decide (new ≥ 2 * p))))
    let d1 := d0.modTm t (fun x => { x with frac := if term && one then 0 else fr })
    let d2 := if term then (d1.tmTerminal t).setNum (K.TM_COUNT t) (if one then 0 else wrapped) else d1.setNum (K.TM_COUNT t) new
    let d3 := if decide (inc > p * 65536) && term then d2.putBit (K.TM_STATUS t) 7 true else d2
    (if hit then d3.tmMatch t else d3, hit, term)
  else (d0, false, false)

/-- Does the device ask for LF mode (R287)? -/
def lfAsked (d : Dev) : Bool := decide (d.power = .dome) || d.supHalted

/-- LF mode is entered or left; the running timers show it (R287, R310). -/
def lfSet (d : Dev) (on : Bool) : Dev :=
  let d1 := { d with clk := { d.clk with lfMode := on } }
  d1.runningTimers.foldl (fun d t => d.putBit (K.TM_STATUS t) 14 on) d1

/-- The LF step of every timer, and their actions together (R287, R294). -/
def lfStep (d : Dev) : Dev :=
  let r := tmSteps tmLf d (maskTimers 65535)
  (maskTimers 65535).foldl (fun d t => d.tmApply r.2 t) r.1

/-- An LF period passes: in DOME the back-off counts down on the LF clock (R462). -/
def lfPass (d : Dev) : Dev := if d.power = .dome then d.backoffPass 1953125 else d

/-- LF_TIMER_STEP (R287): one LF edge. LF mode is entered at it, or the timers step, and once the cause is gone LF mode is left
at it. -/
def lfTimerStep (d : Dev) : Dev :=
  let d1 := { d.lfPass with clk := { d.clk with lfCount := d.clk.lfCount + 1 } }
  if d.clk.lfMode then if d.lfAsked then d1.lfStep else d1.lfStep.lfSet false
  else if d.lfAsked then d1.lfSet true else d1

/-- Rule of `TM_CTRL` (R293). -/
def tmCtrlRule (d : Dev) (t : Nat) (v : Int) : Reason :=
  if v = 1 ∧ d.tmRuns t = false ∧ d.num (K.TM_PERIOD t) = 0 then .periodZero else .none

/-- `TM_CTRL` (R293). -/
def tmCtrl (d : Dev) (t : Nat) (v : Int) : Dev :=
  if v = 1 then d.tmGo t else if v = 2 then d.tmHalt t else d.tmZero t

/-- A write of `TM_PERIOD` (R289): it waits while the timer runs, or while a stopped periodic timer is inside a pass. -/
def tmPeriodWrite (d : Dev) (t : Nat) (v : Int) : Dev :=
  let d1 := (d.setNum (K.TM_PERIOD t) v).modTm t (fun m => { m with periodWait := some v })
  if d.tmRuns t then d1
  else if !d.tmPreload t ∨ (d.tm t).period = 0 ∨ d.num (K.TM_COUNT t) = 0 then d1.tmTakePeriod t else d1

/-- A write of `TM_COMPARE` (R290): from the next timer clock edge, at once on a stopped timer. -/
def tmCompareWrite (d : Dev) (t : Nat) (v : Int) : Dev :=
  let d1 := (d.setNum (K.TM_COMPARE t) v).modTm t (fun m => { m with compareWait := some v })
  if d.tmRuns t then d1 else d1.tmTakeCompare t

/-- START of every timer of a mask on one base clock, and the mask of those refused (R295). -/
def tmStartAll (d : Dev) (mask : Nat) : Dev :=
  let bad := (maskTimers mask).filter (fun t => !d.tmRuns t && decide (d.num (K.TM_PERIOD t) = 0))
  ((maskTimers mask).foldl tmGo d).setNum K.TM_GLOBAL_RESULT (bad.foldl (fun m t => m + 2 ^ t) 0)

/-- STOP of every timer of a mask (R295). -/
def tmStopAll (d : Dev) (mask : Nat) : Dev := (maskTimers mask).foldl tmHalt d

/-- A global command (R295): at once, or with `TM_GLOBAL_SYNC` held for the next tick edge. -/
def tmGlobal (d : Dev) (start : Bool) (mask : Nat) : Dev :=
  if d.flag K.TM_GLOBAL_SYNC then { d with clk := { d.clk with tmWait := d.clk.tmWait ++ [(start, mask)] } }
  else if start then d.tmStartAll mask else d.tmStopAll mask

/-- `TM_GLOBAL_START` (R295). -/
def tmGlobalStart (d : Dev) (mask : Nat) : Dev := d.tmGlobal true mask

/-- `TM_GLOBAL_STOP` (R295). -/
def tmGlobalStop (d : Dev) (mask : Nat) : Dev := d.tmGlobal false mask

/-- The global commands that waited for the tick edge act (R295). -/
def tmWaiting (d : Dev) : Dev :=
  d.clk.tmWait.foldl (fun d w => if w.1 then d.tmStartAll w.2 else d.tmStopAll w.2) { d with clk := { d.clk with tmWait := [] } }

/-- A read of `TM_STATUS` clears its read-clear bits (R310). -/
def tmStatusClear (d : Dev) (t : Nat) : Dev := d.modNum (K.TM_STATUS t) (fun w => w - fieldAt w 7 6 * 128 )

/-- A read of `TM_CAPTURE` clears `capture_flag` (R292). -/
def tmCaptureClear (d : Dev) (t : Nat) : Dev := d.putBit (K.TM_STATUS t) 13 false

end Dev

end Sys2Proof.Machine
end

