-- ==== Sys2Proof/Machine/Tick.lean ====
section
/-! DEFINITION. The tick edge (R24, R25) and the keep edge (R302, R427). -/

namespace Sys2Proof.Machine

namespace Dev

/-- A value in 31.25 µV steps as engine units, the trim taken off (R43 steps 3 and 4). -/
def senseValue (d : Dev) (n : Nat) (code : Int) : Int :=
  let c := code - d.effNum (K.VADC_OFFSET_TRIM n)
  if d.num (K.VSENSE_DIV n) = 4 then roundDiv (c * 1024) 125 else roundDiv (c * 256) 125

/-- Raw slots in a tick of the rate in force (R42). -/
def rawSlots (d : Dev) : Nat := 32 / max 1 d.clk.rate

/-- The raw window that closes at an edge (R43 step 1): of each slot its place, its code and the dither it was given, in raw
LSB. -/
def rawWindow (d : Dev) (x : EdgeSamples) (slots n : Nat) : List (Nat × Int × Int) :=
  let r := d.rl n
  (((vget x.raw n).toList.drop (32 - slots)).zipIdx).map (fun c =>
    (c.2 % 8, c.1.toNat, if r.dithOn then (if Config.dither n ((r.dithPos + c.2) % 511) then 2 else -2) else 0))

/-- The dither taken off, the average of some slots in 31.25 µV steps (R43 steps 2 and 3). Notes, log 53. -/
def rawMean (w : List (Nat × Int × Int)) : Int := roundDiv (16 * (w.map (fun c => c.2.1 - c.2.2)).sum) w.length

/-- Do the primary slots of a tick miss the dither's signature (R45)? Their codes are correlated with the signs of the dither,
both about their means, and the sum lies below half of what the dither alone gives. Notes, log 53. -/
def signatureMissing (w : List (Nat × Int × Int)) : Bool :=
  let n : Int := w.length
  let s := (w.map (fun c => c.2.2)).sum
  decide (2 * (n * (w.map (fun c => c.2.1 * c.2.2)).sum - s * (w.map (fun c => c.2.1)).sum) <
    n * (w.map (fun c => c.2.2 * c.2.2)).sum - s * s)

/-- The sense values of a rail are latched (R42–R45): every eighth slot converted the secondary input, as `SENSE_SLOTS` stood
in the tick. `slots` is the number of raw slots of that tick. -/
def latchRail (x : EdgeSamples) (slots n : Nat) (d : Dev) : Dev :=
  let w := d.rawWindow x slots n
  let prim := w.filter (fun c => decide (c.1 ≠ 7))
  let sec := w.filter (fun c => decide (c.1 = 7))
  let swap := d.flag (K.SENSE_SLOTS n)
  let rem := if swap then sec else prim
  let loc := if swap then prim else sec
  let last := fun l : List (Nat × Int × Int) => (l.getLast?.map (fun c => c.2.1.toNat)).getD 0
  let miss := if !(d.rl n).dithOn then 0 else if signatureMissing prim then satU 8 (d.num (K.DITHER_MISS n) + 1) else 0
  let d1 := ((d.setNum (K.VREM n) (d.senseValue n (rawMean rem))).setNum (K.VLOC n) (d.senseValue n (rawMean loc))).setNum (K.SENSE_SLOTS n)
    (b2i (d.verdict n = 1))
  let on := d.flag (K.DITHER_EN n)
  (d1.setNum (K.DITHER_MISS n) miss).modRl n (fun r => { r with
    adcFrozen := r.adcFrozen && decide (miss ≠ 0), dithPos := (r.dithPos + slots) % 511, dithOn := on, rawRem := last rem, rawLoc := last loc })

/-- A mask of units. -/
def maskOf (n : Nat) (f : Nat → Bool) : Int := (List.range n).foldl (fun m i => if f i then m + 2 ^ i else m) 0

/-- Is a routed trip input of either kind asserted on a phase (R68, R96)? -/
def tripAsserted (d : Dev) (p : Nat) : Bool :=
  !(d.ph p).terms.isEmpty || (List.range 48).any (fun k => d.wmHolds (k / 2) (decide (k % 2 = 1)) 2 p)

/-- The common sample words of an edge (R96). -/
def sampleList (d : Dev) (count : Int) : List (Nat × Int) :=
  let per := fun (base n : Nat) (f : Nat → Int) => (List.range n).map (fun i => (base + i, f i))
  [(0x000, count), (0x001, 800 / (max 1 d.clk.rate : Nat)), (0x002, d.num K.VIN_VALUE),
    (0x003, d.num K.PERF_PROFILE + 256 * d.num K.OBS_DECIMATE + 512 * d.num K.MITTEN_ALLOW +
      65536 * (if d.flag K.OBS_DECIMATE then count % 2 else 0)),
    (0x004, maskOf 14 d.unitOn + 65536 * maskOf 4 (fun l => (d.ld l).on)),
    (0x005, d.num K.ENG_OVERRUN_MASK), (0x006, maskOf 32 (fun p => (d.ph p).fired))] ++
  per 0x008 8 (fun n => d.num (K.VREM n)) ++ per 0x010 8 (fun n => d.num (K.VLOC n)) ++
  per 0x020 32 (fun p => d.num (K.ISENSE p)) ++ per 0x040 32 (fun p => d.num (K.ISENSE_PLACED p)) ++
  per 0x060 32 (fun p => d.num (K.TON_LAST p)) ++ per 0x080 6 (fun b => d.num (K.BK_READ_VOUT b)) ++
  per 0x088 8 (fun g => if (d.sg g).st = .present then d.num (K.SG_TEMP g) * 16 else 0) ++
  [(0x090, d.wmSyncMask false), (0x091, d.wmSyncMask true), (0x092, maskOf 32 d.tripAsserted),
    (0x093, maskOf 32 (fun p => (d.ph p).latch)), (0x094, (List.range 8).foldl (fun m g => m + (d.sg g).st.code * 16 ^ g) 0)] ++
  per 0x098 8 d.intentSummary ++ (List.range 8).flatMap (fun n => per (0x0A0 + 8 * n) 8 (fun j => d.intentWord n j))

/-- The sample port is latched (R92, R96); the fired marks pass to the observers (R193). -/
def latchSamples (d : Dev) (count : Int) : Dev :=
  { d with
    sample := (d.sampleList count).foldl (fun m e => Assoc.set zeroAt m e.1 e.2) [],
    phases := d.phases.map (fun c : Phase => { c with firedObs := c.firedObs || c.fired, fired := false }) }

/-- The address word of a policy entry in PM-SHED's mailbox (R165). -/
def polAddr (key : Nat) : Int :=
  let idx := key / 256
  let n := (idx - 0x2500) / 0x20
  let t := idx % 0x20 - 8
  2147483648 + t * 4096 + n * 256 + (key % 256 : Nat)

/-- The words the supervisor posts to a standard program (R165, R197, R214). -/
def stdMail (d : Dev) (e : Nat) (posted : List (Nat × Val)) : List (Nat × Int) :=
  let mv := fun x : Int => roundDiv (x * 65536) 1000
  match (d.engine e).prog.kind with
  | 1 =>
    match (d.railsOfEngine e).head? with
    | some n =>
      let r := d.rl n
      [(0, r.tgt * 16), (1, d.rateStep r.tgtRate), (2, d.rateStep (d.num (K.SS_SLEW n))), (3, d.num (K.LOOP_MODE n) + 2 * b2i r.glove),
        (4, d.num (K.MANUAL_IREF n)), (5, d.num (K.LOADLINE n)), (6, d.num (K.I_NEG_MAX n)),
        (7, d.num (K.INTENT_STEP_TICKS n) + 256 * d.num (K.INTENT_SLOPE_TICKS n)), (8, r.basePost), (9, maskOf 32 (d.assigned n))]
    | none => []
  | 2 =>
    let p0 := 8 * (e - 8)
    [(0, maskOf 8 (fun j => decide (3 ≤ d.svcOf (p0 + j)) && decide (d.svcOf (p0 + j) ≤ 5))), (1, maskOf 8 (fun j => (d.ph (p0 + j)).reseed.isSome))] ++
    (List.range 8).map (fun j => (2 + j, (d.ph (p0 + j)).reseed.getD 0)) ++
    [(10, d.num K.RES_ABS), (11, d.num K.RES_REL + 256 * d.num K.RES_COUNT + 65536 * d.num K.RES_GROSS_COUNT + 16777216 * d.num K.STUCK_TICKS),
      (12, d.num K.TONMAX_SENSE_COUNT + 256 * d.num K.OPEN_PERIODS), (13, d.num K.OPEN_I_TH)] ++
    (List.range 8).map (fun n => (14 + n, roundDiv ((d.rl n).basePost * 65536) 50000))
  | 3 =>
    (List.range 8).map (fun m => (m, (List.range 4).foldl (fun s j => s + d.num (K.PHASE_DERATE (4 * m + j)) * 256 ^ j) 0)) ++
    [(8, maskOf 32 d.available), (9, maskOf 8 (fun n => (d.rl n).hold))] ++
    posted.zipIdx.flatMap (fun x => [(10 + 2 * x.2, polAddr x.1.1), (11 + 2 * x.2, x.1.2.int)])
  | 4 =>
    ((d.bucksOfEngine e).take 3).zipIdx.flatMap (fun x =>
      [(x.2, (d.bk x.1).tgt * 16), (3 + x.2, d.rateStep (d.bk x.1).tgtRate), (6 + x.2, d.rateStep (d.num (K.BK_SS_SLEW x.1)))])
  | 5 =>
    (List.range 8).map (fun n => (n, mv (d.num (K.RAIL_RES_TOL n)))) ++ (List.range 8).map (fun n => (8 + n, mv (d.num (K.REMLOC_TOL n)))) ++
    [(16, maskOf 8 (fun n => (d.rl n).testDue)), (17, d.num (K.RAIL_RES_COUNT 0) + 256 * d.num (K.REMLOC_COUNT 0) + 65536 * d.num (K.GLOVE_RECOVER 0))] ++
    (List.range 8).map (fun n => (18 + n, mv (d.num (K.SENSE_TEST_TH n))))
  | _ => []

/-- POLICY_ENTRY_POST (R162): entries that wait are posted for the next edge, in write order, at most 11 in all. -/
def policyEntryPost (d : Dev) : Dev :=
  let n := 11 - d.polPost.length
  { d with polPost := d.polPost ++ d.polWait.take n, polWait := d.polWait.drop n }

/-- The policy entries of an edge: those posted and, up to 11, those that still wait, each with the value written (R162). -/
def postPolicy (d : Dev) : List (Nat × Val) × Dev :=
  let d1 := d.policyEntryPost
  (d1.polPost, { d1 with polPost := [], pol := d1.polPost.foldl (fun m x => Assoc.set objDefault m x.1 x.2) d1.pol })

/-- The hold of a rail follows `POLICY_HOLD`; a release waits until every entry of the rail is posted (R164). -/
def holdFollow (d : Dev) (n : Nat) : Dev :=
  let wants := d.flag (K.POLICY_HOLD n)
  let waiting := d.polWait.any (fun x => decide (x.1 / 256 ≥ 0x2500 + 0x20 * n) && decide (x.1 / 256 < 0x2520 + 0x20 * n))
  d.modRl n (fun r => { r with hold := wants || (r.hold && waiting) })

/-- The mailboxes at an edge (R102): the supervisor's posts, and a host's post to a customer program. Without the supervisor the
words stay, but for the ENGINE cause of Glove mode, which the event controller carries (R215). -/
def postMail (d : Dev) : Dev :=
  let d0 := forUnits 16 (fun e d =>
    match (d.engine e).mailPost with
    | some ws => d.modEng e (fun g => { g with mailIn := ws, mailPost := none })
    | none => d) d
  if !d0.supRuns then
    forUnits 16 (fun e d => if (d.engine e).prog.kind = 1 then
      match (d.railsOfEngine e).head? with
      | some n =>
        if (d.rl n).glove && (d.rl n).engForced then
          d.modEng e (fun g => { g with mailIn := Assoc.set zeroAt g.mailIn 3 (Machine.putBit (Assoc.get zeroAt g.mailIn 3) 1 true) })
        else d
      | none => d else d) d0
  else
    let r := d0.postPolicy
    let d1 := forUnits 8 (fun n d => d.holdFollow n) r.2
    let d2 := forUnits 16 (fun e d =>
      if (d.engine e).prog.standard then
        d.modEng e (fun g => { g with mailIn := (d1.stdMail e r.1).foldl (fun m x => Assoc.set zeroAt m x.1 x.2) [] })
      else d) d1
    { d2 with
      phases := d2.phases.map (fun c : Phase => { c with reseed := none }),
      rails := d2.rails.map (fun r : Rail => { r with testDue := false }) }

/-- What the observers published drives the service states at fixed edges (R201, R205); `o` is the device before the
edge's release. Words published before a reseed that waits say nothing of the phase it admits (R197, R223). The first derating
step is posted at edge p+2, as in the example of R203. -/
def observerEdge (o : Dev) (p : Nat) (d : Dev) : Dev :=
  if !d.supRuns then d
  else
    let s := d.svcOf p
    let live := (decide (s = 3) || decide (s = 4) || decide (s = 5)) && (d.ph p).reseed.isNone
    if live && o.obsFlag p 1 && d.obsFlag p 1 then
      ((((d.failPhase p).bump (K.OPEN_COUNT p) 16)).phaseFault p)
    else
      let d1 := if live && decide (s = 3) && d.obsFlag p 0 && !d.obsFlag p 1 then ((d.setSvc p 4).bump (K.SUBST_COUNT p) 16).modPh p (fun c => { c with deratJ := 1, deratLen := d.nat K.SUBST_RAMP }) else
        if d.obsFlag p 0 && decide ((d.ph p).deratJ ≥ 1) && decide ((d.ph p).deratJ ≤ (d.ph p).deratLen + 1) then
          let ramp : Int := (d.ph p).deratLen
          let j : Int := (d.ph p).deratJ - 1
          (d.setNum (K.PHASE_DERATE p) (roundDiv (128 * (100 * ramp - (100 - d.num K.SUBST_DERATE) * j)) (100 * ramp))).modPh p (fun c => { c with deratJ := c.deratJ + 1 })
        else d
      if (d.ph p).observed then
        let c := d1.ph p
        (((((d1.setNum (K.PHASE_CLASS p) (d1.obsWord p 3 / 8 % 8)).setNum (K.I_VALLEY p) (d1.obsWord p 1)).setNum (K.RESIDUAL p)
          (sat32 (roundShift c.res 16))).setNum (K.L_EST p) (d1.obsWord p 2))).setNum (K.R_EST p) (d1.obsWord p 3 % 4294967296 / 65536)
      else d1

/-- The counts of the protection paths of an enabled rail at an edge (R218, R189), and the marks of conditions that are absent
(R221 code 0). -/
def railCount (d : Dev) (n : Nat) : Dev :=
  let v := d.protV n
  let st := fieldAt (d.loopStatus n) 13 3
  let ov := decide (v > d.num (K.VOUT_OV_FAULT_LIMIT n) * 16)
  let uv := decide (v < d.num (K.VOUT_UV_FAULT_LIMIT n) * 16) && (d.rl n).done && decide (st ≥ 2)
  let oc := decide (d.railCurrent n > d.num (K.IOUT_OC_FAULT_LIMIT n) * 16)
  let d1 := d.modRl n (fun r => { r with
    ovN := if ov then r.ovN + 1 else 0, uvN := if uv then r.uvN + 1 else 0, ocN := if oc then r.ocN + 1 else 0 })
  let d2 := ((if ov then d1 else d1.markKind n 2 false).markKind n 3 ((d1.presentKinds n).testBit 2 && uv)).markKind n 4 ((d1.presentKinds n).testBit 3 && oc)
  (if d.capacityLow n then d2 else d2.markKind n 8 false).markKind n 9 false

/-- The kinds whose count is reached at an edge (R218, R189, R217): they trip by their own command. -/
def countedKinds (d : Dev) (n : Nat) : Nat :=
  let r := d.rl n
  let expired := r.glove && decide (r.gloveLeft = 0)
  2 * b2n (decide (r.ovN ≥ d.num (K.OV_COUNT n)) && decide (r.ovN > 0)) + 4 * b2n (decide (r.uvN ≥ d.num (K.UV_COUNT n)) && decide (r.uvN > 0)) +
    8 * b2n (decide (r.ocN ≥ d.num (K.OC_COUNT n)) && decide (r.ocN > 0)) +
    16 * b2n (decide (r.thrN ≥ 1) && decide (((r.thrN - 1) * d.tickNs : Int) ≥ d.num K.THROTTLE_GRACE * 1000)) +
    32 * b2n (expired && r.gloveFb) + 64 * b2n (expired && !r.gloveFb)

/-- The protection of a rail at an edge (R173, R215–R222, R276): what the edge itself decides is decided together with every
kind whose count the edge has reached. -/
def railEdge (d : Dev) (n : Nat) : Dev :=
  let d1 := (d.transitionDone n).throttleCount n
  let kinds := (d.rl n).due &&& 0x101
  if !d.unitOn n then (d1.modRl n (fun r => { r with due := 0, ovN := 0, uvN := 0, ocN := 0 })).tripKinds n kinds
  else
    let d2 := (d1.gloveEdge n).railCount n
    let low := b2n (d.capacityLow n && !(decide (d.response n 8 = 0) && (d.presentKinds n).testBit 7))
    let now := kinds + 16 * b2n (decide (d.num K.THROTTLE_GRACE = 0) && decide ((d1.rl n).thrN = 1)) + d1.gloveAtOnce n + 128 * low
    let all := now ||| d2.countedKinds n
    if now = 0 then d2.modRl n (fun r => { r with due := all }) else (d2.modRl n (fun r => { r with due := 0 })).tripKinds n all

/-- OV_TRIP (R218). -/
def ovTrip (d : Dev) (n : Nat) : Dev := d.tripDue n 2
/-- UV_TRIP (R218). -/
def uvTrip (d : Dev) (n : Nat) : Dev := d.tripDue n 3
/-- OC_TRIP (R218). -/
def ocTrip (d : Dev) (n : Nat) : Dev := d.tripDue n 4

/-- The engines that ECONOMY gates have no tick in progress (R425). -/
def gate (d : Dev) : Dev :=
  forUnits 16 (fun e x => if d.gated e then x.modEng e (fun g => { g with idle := true, ended := true }) else x) d

/-- ECONOMY is entered at an edge (R424, R425). -/
def economyEdge (d : Dev) : Dev :=
  if d.power = .active ∧ d.flag K.ECONOMY_EN = true ∧ d.path.st = .onInput ∧ d.anyRailOn = false ∧ d.boot = .complete ∧
      d.pendT.all (fun e => !(decide (e.1 / 256 = 0x2910) && decide (e.1 % 256 ≤ 8))) = true then
    let d1 := ({ d with power := .economy } : Dev).allMid
    let d2 := ((d1.setNum K.ECONOMY_STATUS 128).cause 123 0x21).clockFollow
    (if d2.flag K.ECONOMY_TICK_LOW ∧ d2.clk.rate ≠ 1 then
      let es := d2.rateEngines.filter (fun e => !d2.gated e)
      if es.all (fun e => d2.bankFits e 1) then
        ({ d2 with clk := { d2.clk with lowered := es } }.rateChange es 0 1).setNum K.ECONOMY_STATUS 192
      else d2.setNum K.ECONOMY_STATUS 160
    else d2).gate
  else d

/-- The tick clock stops: no tick of any engine is in progress, and TICKOUT rests (R33, R38, R427). -/
def enginesIdle (d : Dev) : Dev :=
  forUnits 16 (fun e d => d.modEng e (fun g => { g with idle := true, ended := true })) { d with clk := { d.clk with tickout := 0 } }

/-- The rate that ECONOMY lowered is restored, and with it the banks that its change swapped (R425, R426). -/
def economyLeave (d : Dev) : Dev :=
  let low := d.bit K.ECONOMY_STATUS 6
  let d1 := d.setNum K.ECONOMY_STATUS 0
  if low then { d1 with clk := { d1.clk with lowered := [] } }.rateChange d.clk.lowered 0 (d1.nat K.TICK_RATE) else d1

/-- The device enters KEEP (R249, R424, R427, R504): what is still enabled goes off, each as an operation of SEQ, and THROTTLE# is
released. -/
def enterKeep (d : Dev) : Dev :=
  let d1 := forUnits 18 (fun u d =>
    if d.unitOn u && !(decide (u ≥ 14) && d.keepRail (u - 14)) then
      ((d.enter .seq (K.UNIT_ON u) .done .none).unitOff u).stBit u .inp 3 true
    else d) d.economyLeave
  let d2 := { d1.allMid with
    power := .keep, load := { d1.load with throttle := false }, pendT := d1.pendT.filter (fun e => !(decide (e.1 / 256 = 0x2910) && decide (e.2.int ≠ 0))) }
  (d2.enginesIdle.clockFollow.lilFollow).cause 123 0x22

/-- SEQ_PROGRAM_END (R257, R315): a fault program closes its groups, keep-entry enters KEEP. -/
def seqProgramEnd (d : Dev) : Dev :=
  if d.progOver then
    let p := d.seqr.prog
    let d1 := if p = 4 then d.faultClose
      else if p = 3 then
        let k := d.enterKeep
        { k with path := { k.path with st := .onBattery } }.cause 90 0x03
      else d
    d1.progDone
  else d

/-- A keep-entry program of 0 steps completes at the edge at which it starts (R14, R250). -/
def keepAtOnce (d : Dev) : Dev := if d.seqr.prog = 3 ∧ d.seqr.len = 0 then d.seqProgramEnd else d

/-- What the latest intents of an edge say to the capture (R48). -/
def anyNewIntent (d : Dev) : Bool := (List.range 8).any (fun n => decide ((d.rl n).newIntents > 0))

/-- The tick count of the next edge (R50). -/
def nextTick (d : Dev) : Nat := (d.nat K.TICK_COUNT + 1) % 4294967296

/-- First part of an edge: engine results of the tick that ends (R25), waiting writes, then the swaps of every engine, a switch
of profile or rate with its bank swaps (R123). -/
def edgeRelease (d : Dev) (t : Nat) : Dev :=
  let d1 := (d.engEdge t).applyPending
  let d2 := forUnits 16 (fun e d => d.swapEdge e) d1
  let d3 := (d2.switchEdge t).rateFollow
  let d4 := d3.commitSets.patchWords
  forUnits 32 (fun p x => d.observerEdge p x) d4

/-- Second part: targets, the rails' protection, the samples and the mailboxes of the edge (R92, R96, R170, R215–R220). -/
def edgeLatch (d : Dev) (t : Nat) (x : EdgeSamples) (slots : Nat) : Dev :=
  let d1 := forUnits 8 (fun n d => d.targetLatch n) d
  let d2 := forUnits 6 (fun b d => (d.buckLatch b).setNum (K.BK_READ_VOUT b) (d.bk b).fb) d1
  let d3 := forUnits 8 (latchRail x slots) d2
  let d4 := forUnits 24 (fun w d => d.wmRefresh w) d3
  let d5 := d4.routesEdge.reloadDacs.intentEdge
  let d6 := forUnits 24 (fun w d => d.wmSync w) d5
  ((forUnits 8 (fun n d => d.railEdge n) d6).statusLatch.latchSamples t).postMail.engStart

/-- Third part: what the device decides at the edge (R174, R189, R190, R250, R257, R315). -/
def edgeDecide (d : Dev) (t : Nat) : Dev :=
  let d1 := forUnits 32 (fun p d => (d.svcUnknown p).settleDrain p) d
  let d3 := forUnits 6 (fun b d => (d.buckZero b).buckCount b) d1
  let d4 := forUnits 8 (fun n d => d.rdyEdge n) d3
  let d5 := forUnits 8 (fun g d => d.modSg g (fun l => { l with window := l.window - d.tickNs })) d4.throttleEdge.seqEdge
  let d6 := (forUnits 3 (fun i d => d.spreadEdge i) (d5.chargeEdge d5.tickNs).pfwFollow).chargerSpread.economyEdge
  (d6.tickoutEdge t).keepAtOnce

/-- TICK_EDGE (R24): in the states with a tick. -/
def tickEdge (d : Dev) (x : EdgeSamples) : Dev :=
  if d.ticking && decide (d.boot.rank ≥ 1) then
    let t := d.nextTick
    let d1 := ((((d.edgeRelease t).edgeLatch t x d.rawSlots).edgeDecide t).commitEvents false).setNum K.TICK_COUNT t
    (d1.capEdge d1.anyNewIntent).tmWaiting
  else d

/-- KEEP_EDGE (R302, R427): every 10 µs in KEEP, writes apply and events commit in place of tick edges. -/
def keepEdge (d : Dev) : Dev :=
  if d.power = .keep ∧ d.boot.rank ≥ 1 then
    let d1 := forUnits 24 (fun w d => d.wmRefresh w) d.applyPending.rateFollow
    let d2 := forUnits 24 (fun w d => d.wmSync w) d1
    ((d2.statusLatch.seqEdge).chargeEdge 10000).commitEvents true
  else d

end Dev

end Sys2Proof.Machine
end

