-- ==== Sys2Proof/Machine/PowerSt.lean ====
section
/-! DEFINITION. Power states, resets and boot (R22, R23, R315, R330, R424–R435, R514, R515). Notes, logs 25 to 27. -/

namespace Sys2Proof.Machine

/-- Is the object of class K (R5)? -/
def keptKey (key : Nat) : Bool := match objRow key with | some r => decide (r.keeps = .k) | none => false

/-- Is the object of apply point U (R8, R9)? -/
def bootKey (key : Nat) : Bool := match objRow key with | some r => r.app = .u | none => false

namespace Dev

/-! ### Resets -/

/-- `RESET_INFO` as a reset writes it (R433, R450). -/
def resetInfo (d : Dev) (kind detail : Nat) (keep : Bool) : List Byte :=
  leBytes 1 kind ++ leBytes 1 detail ++ [0, 0] ++
    (if keep then leBytes 4 d.ev.esnNext ++ leBytes 4 (d.num K.TICK_COUNT) ++ leBytes 4 d.osnNext else List.replicate 12 0)

/-- No retry survives a reset or a wake from DOME (R235): `retry_pending` clears in the fault status of every unit. -/
def dropRetries (objs : Assoc Val) : Assoc Val :=
  (List.range 18).foldl (fun m u =>
    Assoc.set objDefault m (faultKey u) (.num (Machine.putBit (Assoc.get objDefault m (faultKey u)).int 14 false))) objs

/-- The timers after a reset: stopped, with the period and compare that the K objects hold (R296). -/
def resetTimers (objs : Assoc Val) : Vector Tm 16 :=
  (Vector.range 16).map (fun t =>
    { period := (Assoc.get objDefault objs (K.TM_PERIOD t)).int, compare := (Assoc.get objDefault objs (K.TM_COMPARE t)).int })

/-- A reset of every kind but 07h (R431, R432, R435): what stays is the non-volatile memory, the K objects but at kinds
01h, 08h and 09h, what the board and its pins hold, and the keep rails. The boot follows as a command. -/
def resetDev (d : Dev) (kind detail : Nat) : Dev :=
  let keep := decide (kind ≠ 1) && decide (kind ≠ 8) && decide (kind ≠ 9)
  let objs := (if keep then dropRetries (d.objs.filter (fun e => keptKey e.1)) else [])
  let objs1 := Assoc.set objDefault objs K.RESET_INFO (.bytes (d.resetInfo kind detail keep))
  let ended := (List.range 4).filter (fun i => decide ((vget d.acc.ifs i).level ≥ 2))
  { free := d.free
    objs := (List.range 16).foldl (fun m t => Assoc.set objDefault m (K.TM_STATUS t)
      (.num (Machine.putBit (Machine.putBit (Assoc.get objDefault m (K.TM_STATUS t)).int 15 false) 14 false))) objs1
    ev := { causes := ended.map (fun i => ⟨122, 0x21 + i, 0, 1, []⟩) ++ (if d.flag K.DEBUG_OPEN then [⟨122, 0x39, 0, 1, []⟩] else []) }
    log := { d.log with
      wait := [], clearRun := false, clearLeft := none
      tearing := if kind = 1 ∨ kind = 2 ∨ kind = 8 then (match d.log.tearing with | some s => some s | none => d.logWriting) else none }
    acc := { ifs := (Vector.range 4).map (fun i => { endCause := if ended.contains i then 3 else 0 }),
             tap := d.acc.tap, wait := if keep then d.acc.wait else 0 }
    tms := resetTimers objs1
    ldos := if keep then d.ldos.map (fun l : Ldo => if l.on then { ({} : Ldo) with on := true, ramping := l.ramping, discharge := false } else {}) else Vector.replicate 4 {}
    path := { ({} : Path) with present := d.path.present, vinHigh := d.path.vinHigh, open_ := keep && d.path.open_ }
    chg := { safeNs := if keep then d.chg.safeNs else 0 }
    btn := { pressed := d.btn.pressed, warned := d.btn.warned, long := d.btn.long || decide (kind = 8), longTime := if keep then d.btn.longTime else 8 }
    seqr := { ({} : Seqr) with sqiPin := d.seqr.sqiPin }
    store := { d.store with run := .none, snap := {}, lastFailed := false, factoryVals := false }
    fw := { slots := d.fw.slots, runningB := d.fw.runningB, result := d.fw.result }
    nvm := { d.nvm with libRun := none, deltas := [], resetKind := kind, resetDetail := detail }
    board := d.board }

/-- The LDOs that are no keep rails by their NVM record turn off at a reset (R244, R432). -/
def resetLdos (d : Dev) (l : Vector Ldo 4) : Vector Ldo 4 :=
  (Vector.range 4).map (fun i => if (vget d.nvm.keepRec i).keep then vget l i else {})

/-- Once the image is verified the LDOs follow it (R244): one that it makes no keep rail turns off, and a setting that differs from
the record's is ramped to. `o` holds the records before. -/
def ldosFollow (o d : Dev) : Dev :=
  { d with
    ldos := (Vector.range 4).map (fun i =>
      let x := vget d.ldos i
      if !d.keepRail i then {} else { x with ramping := x.ramping || (x.on && decide (d.ldoSetting i ≠ o.ldoSetting i)) }) }

/-- A reset as a whole. -/
def reset (d : Dev) (kind detail : Nat) : Dev :=
  let x := d.resetDev kind detail
  { x with ldos := d.resetLdos x.ldos }

/-- POWER_ON_RESET (R431): SHIP is left by a ship exit only (R424). -/
def powerOnReset (d : Dev) : Dev := if d.power = .ship then d else d.reset 1 0

/-- CORE_BROWN_OUT (R431): by SYS, or by the core supply. -/
def coreBrownOut (d : Dev) (sys : Bool) : Dev := if d.power = .ship then d else d.reset 2 (if sys then 1 else 2)

/-- RESET_PIN (R431). -/
def resetPin (d : Dev) : Dev := if d.power = .ship then d else d.reset 3 0

/-- SUPERVISOR_WATCHDOG (R22, R431): 0 a gap that reaches 50 ms, 1 lockstep, 2 ECC. -/
def supervisorWatchdog (d : Dev) (detail : Nat) : Dev :=
  if d.power = .dome ∨ d.power = .ship ∨ d.boot = .held ∨ (detail = 0 ∧ d.supAbsent = false ∧ d.supHalted = false) then d else d.reset 4 (detail + 1)

/-- The soft reset takes its edge (R431). -/
def softEdge (d : Dev) : Dev := if d.softDue && d.log.wait.isEmpty then d.reset 5 0 else d

/-- Rule of `SOFT_RESET` (R431). -/
def softRule (v : Int) : Reason := if v ≠ 0x746F6F62 then .signature else .none

/-- NMT_RESET_NODE (R385). -/
def nmtResetNode (d : Dev) (b : Bus) (node : BitVec 8) : Dev :=
  if d.nmtAddressed b node then (if d.flag K.NMT_GUARD && d.anyUnitOn then d.cause 103 0x13 else d.reset 6 0) else d

/-- LONG_PRESS_RESET (R329). -/
def longPressReset (d : Dev) : Dev := if d.btn.pressed && decide (d.power ≠ .ship) then d.reset 8 0 else d

/-- SHIP_EXIT (R331). -/
def shipExit (d : Dev) : Dev := if d.power = .ship then d.reset 9 0 else d

/-! ### Boot -/

/-- What follows the loaded settings (R124, R161, R182, R239, R260, R329): targets at their boot values, the policy table,
rate and budget, the sequencer outputs, the copy of the long-press time, the keep-rail records. -/
def settleSettings (d : Dev) : Dev :=
  let d1 := forUnits 8 (fun n d =>
    let v := d.effNum (K.VOUT_BOOT n)
    let x := clampI (d.num (K.VOUT_MIN n)) (d.num (K.VOUT_MAX n)) v
    ((d.setNum (K.VOUT_COMMAND n) v).setNum (K.VOUT_TARGET n) x).modRl n (fun r => { r with tgt := x, tgtRate := d.num (K.VOUT_TRANSITION_RATE n) })) d
  let d2 := forUnits 6 (fun b d =>
    let v := d.effNum (K.BK_VOUT_BOOT b)
    ((d.setNum (K.BK_VOUT_COMMAND b) v).setNum (K.BK_VOUT_TARGET b) v).modBk b (fun k => { k with tgt := v, tgtRate := d.num (K.BK_SLEW b) })) d1
  ({ d2 with
    pol := d2.objs.filter (fun e => isPolicy e.1)
    clk := { d2.clk with rate := d2.nat K.TICK_RATE }
    btn := { d2.btn with longTime := d2.nat K.BTN_LONG_TIME } }.setNum K.ENG_BUDGET (budgetAt (d2.nat K.TICK_RATE))).keepRecords

/-- The phases at a boot (R223): UNKNOWN, or UNASSIGNED. -/
def phasesUnknown (d : Dev) : Dev := forUnits 32 (fun p d => d.setNum (K.PHASE_SVC_STATE p) (if (d.railOf p).isSome then 0 else 8)) d

/-- Does a conversion, in 1/65536 of VDDIO_H, fall in the band of a level: its centre is (2·level + 1)/`n`, its half-width `tol`
thousandths (R501)? -/
def inBand (n tol level : Nat) (c : BitVec 16) : Bool :=
  decide (((c.toNat * n : Nat) - ((2 * level + 1) * 65536 : Nat) : Int).natAbs * 1000 ≤ tol * n * 65536)

/-- The level of a strap of `n`/2 levels: the one in whose band all eight conversions fall (R501). -/
def strapLevel (n tol : Nat) (cs : Vector (BitVec 16) 8) : Option Nat :=
  (List.range (n / 2)).find? (fun l => cs.toList.all (inBand n tol l))

/-- First point of a boot (R23, R316, R325, R414, R448, R503): the supervisor runs. -/
def bootSupervisor (d : Dev) (x : BootInputs) : Dev :=
  let absent := !x.tsOk && !x.batOk
  let addr := strapLevel 32 15 x.addrsel
  let node := strapLevel 16 30 x.nodesel
  let d0 := (d.logTorn x.torn).fwBoot (decide (d.nvm.resetKind = 4)) x.slotBad
  let d1 := { d0 with
    boot := .supervisor
    board := { d0.board with addrsel := addr, nodesel := node }
    path := { d0.path with st := if x.vinValid then .onInput else .onBattery, valid := x.vinValid, present := d0.path.present || x.vinValid,
                           vinHigh := d0.path.vinHigh || x.vinValid,
                           open_ := absent || d0.dischForbidden }
    chg := { d0.chg with absent := absent, presTest := absent }
    load := { d0.load with pfw := d0.load.pfw || !x.vinValid } }
  let d2 := (((d1.causeIf x.vinValid 90 0x04).causeIf absent 93 0x03).causeIf addr.isNone 123 0x30).causeIf node.isNone 123 0x31
  d2.clockFollow.setNum K.PMB_ADDR (match d2.board.addrsel with | some l => ((0x40 + l : Nat) : Int) | none => 0)

/-- Second point (R23, R244, R260, R382, R438): the settings are loaded and verified, the node starts. -/
def bootSettings (d : Dev) (ecc : List NvmEcc) : Dev :=
  let d1 := (ecc.foldl nvmEcc d).loadSettings [] true
  let d2 := (ldosFollow d { d1 with boot := .verified, eff := d1.objs.filter (fun e => bootKey e.1) }.settleSettings).dischargeFollow
  let levels := (List.range 16).foldl (fun m i => if bitAt (d2.effNum (K.SEQ_OUT_MODE i)) 1 then m + 2 ^ i else m) 0
  let d3 := { d2 with seqr := { d2.seqr with out := levels, outOff := false } }
  (d3.setNum K.RESET_KIND d.nvm.resetKind).nodeStart

/-- The first events of a boot (R413, R433): the payload of the second is the whole of `RESET_INFO`. -/
def bootEvents (d : Dev) : Dev :=
  let d1 := d.logBoot
  { d1 with ev := { d1.ev with front := d1.ev.front ++ [⟨123, d.nvm.resetKind, 0, 1, (d.obj K.RESET_INFO).bs⟩] } }

/-- Third point (R23, R124, R223, R515): the engine programs are loaded and checked; the phases await their qualification. -/
def bootLoad (d : Dev) : Dev := { forUnits 16 (fun e (d : Dev) => d.loadEngine e) d with boot := .loaded }.phasesUnknown

/-- Last point (R23, R224, R424): the power state is entered, the power-up request left to wait for the qualifications. -/
def bootRun (d : Dev) : Dev :=
  let on := decide (d.path.st = .onInput)
  let d2 := { d with
    boot := .complete, power := if on then .active else .keep
    load := { d.load with pfw := d.load.pfw || !on }
    seqr := { d.seqr with autoUp := on && bitAt (d.effNum K.SEQ_AUTO) 0 } }
  ((d2.cause 123 (if on then 0x20 else 0x22)).putBit K.CLOCK_STATUS 2 (decide (d2.effNum K.LF_SOURCE = 1) && !d2.bit K.CLOCK_STATUS 1)).clockFollow.lilFollow

/-- BOOT (R23, R514): the boot goes on from the point it has reached, through the points in order, up to the one that the command
names. Notes, log 25. -/
def bootDevice (d : Dev) (x : BootInputs) : Dev :=
  let n := x.upTo.rank
  let d1 := if d.boot = .held ∧ n ≥ 1 then (d.bootSupervisor x).bootEvents else d
  let d2 := if d1.boot = .supervisor ∧ n ≥ 2 then d1.bootSettings x.ecc else d1
  let d3 := if d2.boot = .verified ∧ n ≥ 3 then d2.bootLoad else d2
  if d3.boot = .loaded ∧ n ≥ 4 then d3.bootRun else d3

/-! ### KEEP -/

/-- The device leaves KEEP for ACTIVE (R427). -/
def leaveKeep (d : Dev) : Dev :=
  let d1 := forUnits 32 (fun p d => if (d.railOf p).isSome then d.setSvc p 0 else d) { d with power := .active }
  let d2 := { d1 with seqr := { d1.seqr with autoUp := bitAt (d1.effNum K.SEQ_AUTO) 1, qualWait := true } }
  (d2.cause 123 0x20).clockFollow.lilFollow

/-- PP_RETURN (R315). -/
def ppReturn (d : Dev) : Dev :=
  let long := d.path.valid && decide ((d.path.validNs : Int) ≥ d.num K.T_RETURN * 1000000) && d.supRuns
  let idle := decide (d.seqr.prog = 0) && d.seqr.reqPath.isNone
  if long && (decide (d.path.st = .onBattery) || (decide (d.path.st = .handover) && idle)) then
    let d1 := ({ d with path := { d.path with st := .onInput } }).cause 90 0x01
    (if d.power = .keep then d1.leaveKeep else d1).chgEval
  else d

/-- ECONOMY_EXIT (R424, R426): the rail enables that waited apply at this edge. -/
def economyExit (d : Dev) : Dev :=
  let wait := d.pendT.filter d.staysPending
  if d.power = .economy ∧ (wait ≠ [] ∨ d.flag K.ECONOMY_EN = false) then
    let d1 := { d.economyLeave with power := .active, pendT := d.pendT.filter (fun e => !d.staysPending e) }
    wait.foldl (fun d e => d.applyWrite e.1 e.2) (d1.cause 123 0x20).clockFollow
  else d

/-! ### DOME -/

/-- Rule of a Dome request (R428). -/
def domeRule (d : Dev) (v : Int) : Reason :=
  if v ≠ 0x656D6F64 then .signature
  else if d.path.st = .handover then .state
  else if d.anyUnitOn ∨ d.seqr.prog ≠ 0 ∨ d.pendT.any (fun e => decide (e.1 / 256 = 0x2910) && decide (e.2.int ≠ 0)) = true then .inUse
  else if d.nvmBusy then .busy
  else if d.deltaUsed > 20480 then .capacity else .none

/-- What waits in the supervisor queue is dispatched and recorded (R330, R428). -/
def flushEvents (d : Dev) : Dev :=
  let d1 := (List.range d.ev.queue.length).foldl (fun d _ => d.eventDispatch) d
  (List.range d1.log.wait.length).foldl (fun d _ => d.logRecordWrite true) d1

/-- What stops with DOME (R317, R428, R429, R435), the deltas being held. -/
def domeDown (d : Dev) (deltas : List (Nat × Val)) : Dev :=
  { d with
    power := .dome, nvm := { d.nvm with deltas := deltas }, chg := { d.chg with st := .disabled, iNow := 0 }, ops := []
    load := { d.load with pfw := true, throttle := false }, clk := { d.clk with lfCount := 0 } }

/-- SYS follows its target without a charge (R312, R317). -/
def sysFollow (d : Dev) : Dev := { d with path := { d.path with inIlim := false, sysTgt := d.sysTarget } }

/-- An accepted Dome request (R428, R429, R317). `SESSION_STATUS` is of class V: over DOME it keeps the ends that the entry itself
causes, and no earlier one (R5, R463). -/
def domeEnter (d : Dev) (osn : Nat) : Dev :=
  let d0 := { d with acc := { d.acc with ifs := d.acc.ifs.map (fun i : Iface => if i.level ≥ 2 then i else { i with endCause := 0 }) } }
  let d1 := (((d0.flushEvents.eventLoss.accOff.causeOsn 123 0x23 osn).sessionsEnd 4 osn).applyPending).commitEvents (decide (d.power = .keep))
  let d2 := d1.flushEvents
  (d2.enginesIdle.allMid.domeDown d2.deltas).sysFollow.clockFollow.lilFollow

/-- KEEP_DOME_TIMEOUT (R428). -/
def keepDomeTimeout (d : Dev) : Dev :=
  if d.power = .keep ∧ d.flag K.KEEP_DOME_EN = true ∧ d.supRuns = true ∧ d.domeRule 0x656D6F64 = .none then d.domeEnter 0 else d

/-- Does a cause wake the device: a timer's match or terminal event, or another event, has to have occurred in DOME, each in its
`TM_EVENT_MASK` (R308, R277, R366, R430, R500)? -/
def wakes (d : Dev) : WakeCause → Bool
  | .timer t => bitAt (d.route (74 + t)) 9 && [1, 2].any (fun c : Nat => d.ev.domeSeen.contains (74 + t.val, c))
  | .event s c => decide (90 ≤ s.val) && decide (s.val ≤ 103) && bitAt (d.route s) 9 && d.ev.domeSeen.contains (s.val, c.val)
  | .monitor w => d.wmRuns w && [false, true].any (fun o => (d.wmSide w o).asserted && !d.wmAsync w o && (d.wmRoute w o).testBit 8)
  | .vinPresent => true
  | .button => d.btn.pressed && bitAt (d.route 96) 9
  | .svc => d.board.ioH && decide (d.effNum K.SVC_EN ≠ 0) && d.flag K.SVC_WAKE

/-- `WAKE_CAUSE` (R450): the kind of cause and the event source it stands on. -/
def wakeWord : WakeCause → Int
  | .timer t => 32768 + (74 + t.val : Nat)
  | .event s _ => 16384 + s.val
  | .monitor w => 8192 + (50 + w.val : Nat)
  | .vinPresent => 4096 + 90
  | .button => 2048 + 96
  | .svc => 1024 + 100

/-- What a Dome exit brings back beside the settings (R430, R435): all that the Dome-retained memory and the pins hold. -/
def wakeDev (d : Dev) : Dev :=
  { free := d.free, eff := d.eff, osnNext := d.osnNext, boot := .complete
    objs := dropRetries (d.objs.filter (fun e => keptKey e.1))
    ev := { esnNext := d.ev.esnNext, esnSet := true, dome := d.ev.dome, domeLost := d.ev.domeLost }
    clk := { lfCount := d.clk.lfCount, lfMode := d.clk.lfMode }
    tms := d.tms, wms := (Vector.range 24).map (fun w => if bitAt (d.wmCfg w) 6 then vget d.wms w else {}), path := { d.path with validNs := 0, hiRun := 0, loRun := 0 }
    btn := { pressed := d.btn.pressed, warned := d.btn.warned, long := d.btn.long, longTime := d.btn.longTime }, log := { d.log with torn := 0 }
    node := { nmt := d.node.nmt, id := d.node.id, hb := d.node.hb }
    canA := { enabled := d.canA.enabled }, canB := { enabled := d.canB.enabled }
    acc := { d.acc with ifs := d.acc.ifs.map (fun i : Iface => { ({} : Iface) with endCause := i.endCause }) }
    chg := { absent := d.chg.absent, presTest := d.chg.presTest, judged := d.chg.judged, safeNs := d.chg.safeNs }
    ldos := d.ldos, load := { pfw := true, pfwVin := d.load.pfwVin }
    seqr := { out := d.seqr.out, outOff := d.seqr.outOff, sqiPin := d.seqr.sqiPin, sqi := d.seqr.sqi, sqiSeen := d.seqr.sqiSeen }
    store := { d.store with lastFailed := false, factoryVals := false }
    fw := d.fw, nvm := { d.nvm with deltas := [] }, board := d.board, die := d.die }

/-- DOME_WAKE (R430). -/
def domeWake (d : Dev) (c : WakeCause) : Dev :=
  if d.power = .dome ∧ d.wakes c = true then
    let act := decide (d.path.st = .onInput)
    let d0 := match c with | .svc => d.cause 100 0x30 | _ => d
    let d1 := (d0.wakeDev.loadSettings d.nvm.deltas false).settleSettings.dischargeFollow
    let d2 := d1.setNum K.WAKE_CAUSE (wakeWord c)
    let d3 := { d2 with ev := { d2.ev with front := [⟨123, 0x24, 0, 1, leBytes 2 (wakeWord c)⟩] } }
    let d4 := (forUnits 16 (fun e (d : Dev) => d.loadEngine e) (d3.setNum K.RESET_KIND d.nvm.resetKind)).phasesUnknown
    let d5 := { d4 with
      power := if act then .active else .keep
      seqr := { d4.seqr with autoUp := act && d4.flag K.DOME_WAKE_PWRUP } }
    let lf := fun (i : Nat) (x : Dev) => x.putBit K.CLOCK_STATUS i (d.bit K.CLOCK_STATUS i)
    let d6 := (lf 2 (lf 1 ((d5.setNum K.PMB_ADDR (d.num K.PMB_ADDR)).cause 123 (if act then 0x20 else 0x22)))).clockFollow.lilFollow
    match c with | .svc => d6.answering .nack | _ => d6
  else d

/-- A match or terminal event that occurs in DOME wakes at the occurrence, without DOME_WAKE (R308). -/
def timerWake (d : Dev) : Dev :=
  match (List.finRange 16).find? (fun t => d.wakes (.timer t)) with
  | some t => d.domeWake (.timer t)
  | none => d

/-! ### SHIP and the supervisor -/

/-- SHIP_ENTRY (R330). -/
def shipEntry (d : Dev) : Dev :=
  if d.btn.shipPending ∧ d.power = .keep then
    let d1 := ((d.accOff.cause 97 0x03).commitEvents true).flushEvents
    ({ d1 with
      power := .ship, ldos := Vector.replicate 4 {}, chg := { d1.chg with st := .disabled, iNow := 0 }
      path := { d1.path with open_ := true, inIlim := false, sysTgt := none }, btn := { d1.btn with shipPending := false }
      seqr := { d1.seqr with outOff := true } } : Dev).dischargeFollow.clockFollow
  else d

/-- SUPERVISOR_RESUME (R22): the deferred responses run; a firmware gap ends only by FW_START. -/
def supervisorResume (d : Dev) : Dev :=
  if d.fw.gap || decide (d.boot = .held) then d else ({ d with supAbsent := false, supHalted := false }).lateResponses

/-- IO_GROUP_SUPPLY_CHANGE (R52, R500): without VDDIO_S no PWM output is driven, and every SG line reads below 0.20 V. -/
def ioSupply (d : Dev) (h up : Bool) : Dev :=
  if h then { d with board := { d.board with ioH := up } }
  else
    let d1 := { d with board := { d.board with ioS := up } }
    if !up && decide (d.power = .active) && decide (d.boot.rank ≥ 1) then forUnits 8 (fun g d => d.sgComparator g) d1.allMid
    else if !up then d1.allMid else d1

/-- The power-up request of a boot, a wake or a return is made once every qualification has ended, and the first step of a
power-up program waits for them as well (R224, R315, R427, R430). -/
def autoUpEdge (d : Dev) : Dev :=
  let open_ := !d.ticking || (List.range 32).any (fun p => (d.railOf p).isSome &&
    (decide ((d.sg (p / 4)).st = .unknown) || decide (d.svcOf p = 2) || (decide (d.svcOf p = 0) && d.groupPresent (p / 4))))
  let d1 := if open_ then d else { d with seqr := { d.seqr with qualWait := false } }
  if !d1.seqr.autoUp then d1
  else if d1.path.st ≠ .onInput then { d1 with seqr := { d1.seqr with autoUp := false } }
  else if open_ then d1
  else { d1 with seqr := { d1.seqr with autoUp := false, reqUp := true } }

end Dev

end Sys2Proof.Machine
end

