-- ==== Sys2Proof/Machine/Read.lean ====
section
/-! DEFINITION. What a read of an object returns (R376): the value held, or the value that the state gives, and what the
read itself clears. -/

namespace Sys2Proof.Machine

/-- The index of an object's unit 0: rail blocks and engine windows stand once for each unit (R12). -/
def canonIdx (idx : Nat) : Nat :=
  if 0x2500 ≤ idx ∧ idx < 0x2600 then 0x2500 + idx % 0x20
  else if 0x4000 ≤ idx ∧ idx < 0x5000 then 0x4000 + idx % 0x100 else idx

/-- The unit an object belongs to: the block's unit, or the one its sub-index names (R12). -/
def keyUnit (key : Nat) : Nat :=
  let idx := key / 256
  if 0x2500 ≤ idx ∧ idx < 0x2600 then (idx - 0x2500) / 0x20
  else if 0x4000 ≤ idx ∧ idx < 0x5000 then (idx - 0x4000) / 0x100 else key % 256 - 1

namespace Dev

/-- A two-wire target port. -/
def tw (d : Dev) (t : TwPort) : TwTarget := match t with | .pmb => d.pmb | .svc => d.svc

/-- Change a two-wire target port. -/
def modTw (d : Dev) (t : TwPort) (f : TwTarget → TwTarget) : Dev :=
  match t with
  | .pmb => { d with pmb := f d.pmb }
  | .svc => { d with svc := f d.svc }

/-- Numbers of the sensing, phase and engine chapters that the state gives: `i` is the unit (R51, R88–R90, R132–R134). -/
def roControl (d : Dev) (c i sub : Nat) : Option Int :=
  match c with
  | 0x2211 => some (roundShift (d.rl i).plaus.vTel 16)
  | 0x2212 => some (clampI 0 65535 (roundShift (d.rl i).plaus.iTel 20))
  | 0x2229 => some d.cap.st.code
  | 0x2310 => some (d.driveWord i)
  | 0x2311 => some (d.slopeCode i (d.driveWord (0x20 + i)))
  | 0x2315 => some (d.phaseStatus i)
  | 0x2316 => some (d.ph i).wc
  | 0x23C6 => some (d.activeMask i)
  | 0x23C8 => some (d.modState i)
  | 0x23E0 => some (d.sg i).st.code
  | 0x2401 => some (d.engState i)
  | 0x2402 => some (d.engStatus i)
  | 0x2403 => some (d.wcet i (d.engine i).prog)
  | 0x2409 => some (d.railMask i)
  | 0x240A => some (b2i (d.engine i).bankB)
  | 0x2411 => some (d.engine i).shadowSt.code
  | 0x2414 => some (d.wcet i (d.engine i).shadow)
  | 0x2417 => some (d.engine i).prog.id
  | 0x400A => some (Assoc.get zeroAt (d.engine i).mailIn (sub - 1) % 4294967296)
  | 0x400B => some (d.portWord i (sub - 1) % 4294967296)
  | 0x400C => some (d.engine i).stampAt
  | 0x4010 => some ((d.engine i).linkMap.getD (sub - 1) 0xFFFF)
  | _ => none

/-- Numbers of the rail, load, supervision, regulator and sequencer chapters that the state gives (R167, R191, R192,
R231–R234, R261–R263). -/
def roRails (d : Dev) (c i sub : Nat) : Option Int :=
  match c with
  | 0x2500 => some (if fieldAt (d.loopStatus i) 13 3 = 4 then 2 else d.num (K.LOOP_MODE i))
  | 0x2501 => some (d.loopStatus i)
  | 0x2503 => some (d.portWord (d.railEngine i) (sub - 1))
  | 0x250E =>
    let w := d.portWord (d.nat K.SHED_ENGINE) (24 + i)
    match sub with
    | 1 => some (fieldAt w 0 6)
    | 2 => some (fieldAt w 8 6)
    | 3 => some (clampI 0 65535 (roundShift (d.portWord (d.nat K.SHED_ENGINE) (16 + i)) 4))
    | _ => some (d.polWait.filter (fun x => keyUnit x.1 == i)).length
  | 0x2514 => some (d.voutStatus i)
  | 0x2611 => some (d.lil.st.code + 128 * b2i d.lil.trainFail)
  | 0x2617 => some (d.pendingIntents i).length
  | 0x2624 => some d.throttleStatus
  | 0x262C => some d.pfwStatus
  | 0x2769 => some (d.plausStatus i)
  | 0x2810 => some (d.bkStatus i)
  | 0x2845 => some (d.ldoStatus i)
  | 0x2905 => some d.seqState
  | 0x2907 => some d.seqr.groups
  | 0x2911 => some (d.unitState i)
  | 0x2921 => some (b2i (d.seqr.out.testBit i))
  | 0x2929 => some (b2i (d.seqr.sqi.testBit i))
  | _ => none

/-- Numbers of the monitor, event, power-path and port chapters that the state gives (R284, R285, R311, R333–R335,
R368–R370). -/
def roBoard (d : Dev) (c i : Nat) : Option Int :=
  match c with
  | 0x2A09 => some (d.wmStatus i)
  | 0x2A0A => some (d.wmApplied i)
  | 0x2A21 => some (d.wmSyncMask false)
  | 0x2A22 => some (d.wmSyncMask true)
  | 0x2C01 => some d.ev.esnNext
  | 0x2C05 => some (d.intStatus i)
  | 0x2C06 => some (vget d.ev.ints i).lost
  | 0x2C0B => some d.ev.queue.length
  | 0x2D00 => some d.path.st.code
  | 0x2D04 => some (min 65535 (d.path.validNs / 1000000) : Nat)
  | 0x2D07 => some d.ppStatus
  | 0x2D1D => some d.chg.st.code
  | 0x2D1E => some d.chgStatus
  | 0x2D43 => some d.accStatus
  | 0x2D51 => some (128 * b2i d.btn.pressed + 64 * b2i d.btn.warned)
  | 0x2D54 => some d.shipStatus
  | 0x2E05 => some (32768 * b2i d.pmbCtrl.busStuck + 16384 * b2i d.pmbCtrl.sclStuck + 8192 * b2i d.pmbCtrl.busy + d.pmb.cml)
  | 0x2E25 => some (32768 * b2i d.lbCtrl.busStuck + 16384 * b2i d.lbCtrl.sclStuck + 8192 * b2i d.lbCtrl.alertStuck + 4096 * b2i (d.lbCtrl.started || (d.lbLive && d.supRuns && d.lbNext.isSome)))
  | 0x2E62 => some (d.tw (if i = 0 then .pmb else .svc)).ptr
  | 0x2E65 => some (d.tw (if i = 0 then .pmb else .svc)).staging.length
  | _ => none

/-- Numbers of the network, log, power, storage and access chapters that the state gives (R402–R404, R423, R450, R451,
R468). -/
def roSystem (d : Dev) (c i sub : Nat) : Option Int :=
  match c with
  | 0x1001 => some d.node.errReg
  | 0x1018 => if sub = 3 then some d.revisionNumber else none
  | 0x2084 =>
    some (d.running (fun p => match sub with
      | 1 => p == .avs | 2 => p == .pmbus | 3 => p == .canA | 4 => p == .canB | 5 => p == .svc | _ => p == .seq))
  | 0x2086 => some d.osnNext
  | 0x2F01 => some d.node.id
  | 0x2F07 => some (b2i d.node.activeB)
  | 0x2F0E => some d.node.nmt.code
  | 0x3003 => some d.logCount
  | 0x3004 => some d.logCapacity
  | 0x3005 => some d.logStatus
  | 0x3006 => some d.logFirst
  | 0x3007 => some d.logLast
  | 0x300C => some d.log.torn
  | 0x21C0 => some (match d.power with | .active => 0 | .economy => 1 | _ => 2)
  | 0x21C9 => some (min 65535 d.deltaUsed : Nat)
  | 0x3100 => some d.storeStatus
  | 0x3101 => some d.storeCount
  | 0x3110 => some (d.slot i).st
  | 0x3111 => some (b2i d.fw.runningB)
  | 0x311A => some d.fw.result
  | 0x3204 => some d.credMask
  | 0x3209 => some (d.sessionStatus sub)
  | 0x320D => some d.debugStatus
  | _ => none

/-- A number that the state gives, of an RO object or of `LOOP_MODE`. -/
def roNum (d : Dev) (key : Nat) : Option Int :=
  let c := canonIdx (key / 256)
  let i := keyUnit key
  let sub := key % 256
  (d.roControl c i sub).or ((d.roRails c i sub).or ((d.roBoard c i).or (d.roSystem c i sub)))

/-- `OP_QUERY_RESULT` (R379, R403). -/
def queryResult (d : Dev) : List Byte :=
  let q := d.nat K.OP_QUERY_OSN
  if q = 0 ∨ follows q d.osnNext = true then [0, 0, 0, 0, 6, 0, 0, 0, 0, 0, 0, 0]
  else
    match d.ops.find? (fun e => e.osn == q) with
    | some e =>
      leBytes 4 q ++ leBytes 1 e.st.code ++ leBytes 1 e.src.code ++ leBytes 2 (e.key / 256 : Nat) ++ leBytes 1 (e.key % 256 : Nat) ++
        leBytes 1 e.reason.code ++ leBytes 1 e.src.busCode ++ [0]
    | none => leBytes 4 q ++ [7, 0, 0, 0, 0, 0, 0, 0]

/-- `PMB_STATUS_VIEW` (R368). -/
def statusView (d : Dev) : List Byte :=
  (List.range 18).flatMap (fun pg =>
    let g := vget d.pages pg
    leBytes 1 g.vout ++ leBytes 1 g.iout ++ leBytes 1 g.inp ++ leBytes 1 g.temp ++ leBytes 1 g.mfr ++ leBytes 2 (d.statusWord pg d.pmb.cml))

/-- `STATE_VIEW` (R134): the committed state region; that of a standard program is not described. Notes, log 6. -/
def stateView (d : Dev) (e : Nat) : List Byte × Dev :=
  let g := d.engine e
  if g.prog.standard then
    ((List.range 512).flatMap (fun k => leBytes 4 (Config.freeValue (d.free + k)).toNat), { d with free := d.free + 512 })
  else ((List.range 512).flatMap (fun a => leBytes 4 (Assoc.get zeroAt g.committed a)), d)

/-- The bytes of a block that the state gives, and what the read draws or records (R415, R461). -/
def roBytes (d : Dev) (key : Nat) : Option (List Byte × Dev) :=
  let i := keyUnit key
  let pure := fun bs : List Byte => some (bs, d)
  match canonIdx (key / 256) with
  | 0x100A => pure d.swVersion
  | 0x2083 => pure d.queryResult
  | 0x2214 => pure d.telemSnapshot
  | 0x222A => pure d.capInfo
  | 0x222B => pure d.capData
  | 0x2444 => pure d.libraryIndex
  | 0x4021 => pure (d.progHeader i)
  | 0x4022 => some (d.stateView i)
  | 0x4023 => pure (d.driveDecl i)
  | 0x2C03 => pure (d.intNext i)
  | 0x2E0A => pure d.pmbCtrl.result
  | 0x2E0B => pure d.statusView
  | 0x2E2A => pure d.lbCtrl.result
  | 0x2F08 => let r := d.draw; some (leBytes 2 (d.canStatus (if i = 0 then .a else .b) r.1), r.2)
  | 0x2F09 => pure ((d.port (if i = 0 then .a else .b)).counts.toList.flatMap (leBytes 4))
  | 0x2F22 => pure (d.bxtStatus (if i = 0 then .a else .b))
  | 0x3002 => some (d.logWindow i)
  | 0x300B => pure d.logMediaMap
  | 0x3102 => pure (d.imageInfo (decide (i = 1)))
  | 0x3112 => pure (d.fwInfo i)
  | 0x3205 => some (d.nonceDraw (i + 1))
  | _ => none

/-- What a read clears (R50, R51, R88, R132, R191, R297, R310, R323, R335). -/
def readClears (d : Dev) (key : Nat) : Dev :=
  let i := keyUnit key
  match canonIdx (key / 256) with
  | 0x2213 => d.setNum key 0
  | 0x2315 => (d.putBit key 10 false).putBit key 4 false
  | 0x2402 => d.engStatusClear i
  | 0x2405 => d.setNum key 0
  | 0x2514 => d.modRl i (fun r => { r with vClamped := false, vRefused := false })
  | 0x2B07 => d.tmCaptureClear i
  | 0x2B09 => d.tmStatusClear i
  | 0x2D1F => d.chgFaultClear
  | 0x2D54 => { d with btn := { d.btn with shipCancelled := false } }
  | _ => d

/-- The bytes a read returns, and the device after it (R376, R12). -/
def readObj (d : Dev) (key : Nat) : List Byte × Dev :=
  match objRow key with
  | none => (leBytes 1 (arrayCount (key / 256)), d)
  | some r =>
    match d.roBytes key with
    | some x => x
    | none =>
      let v := match d.roNum key with
        | some n => Val.num n
        | none => match r.dflt with
          | .nodeId _ => .num (d.cobId key)
          | .nodeIdU _ => .num (d.cobId key)
          | .coef => let k := d.coefOf key (d.obj key); .coef k.1 k.2
          | .keepResp => .num (d.respOf (14 + (key / 256 - 0x2848)) key : Nat)
          | _ => d.obj key
      (v.encode r.ty, d.readClears key)

/-- The rule of a read (R373, R4, R49, R459). -/
def readRule (d : Dev) (p : Src) (key : Nat) : Reason :=
  match objRow key with
  | none => if !idxExists (key / 256) then .noObject else if key % 256 = 0 then .none else .noSub
  | some r =>
    if r.acc = .wo then .writeOnly
    else if r.acc = .ro ∧ d.level p < r.level then .access
    else if key = K.CAP_DATA ∧ (d.cap.st = .armed ∨ d.cap.st = .triggered) then .busy
    else if key / 256 = 0x3205 ∧ ownSub p (key % 256) = false then .access
    else .none

end Dev

end Sys2Proof.Machine
end

