-- ==== Sys2Proof/Machine/Rules.lean ====
section
/-! DEFINITION. The rules that the chapters of the spec give single objects (R373 step 6), and what an accepted write does
beside holding its value: one action for each such object. -/

namespace Sys2Proof.Machine

/-- The objects whose writes have a rule or an effect of their own; `plain` is every other object. -/
inductive Act where
  | plain
  | historyClear | store | restore | factory | hbEntry | mapCount | mapEntry
  | profile | schedFlag | schedAt | underlying | senseDiv | capPre | capCtrl
  | phaseRail | imonGain | phaseCmd
  | bankSwap | bankCopy | bankA | bankB | shadowSel | progSwap | bypass | railEngine | auxEngine | soleEngine | libStore
  | mailStage | mailPost | progImage
  | manualIref | policy | policyHold | voutCommand | voutBoot | marginValue | voutMax | voutMin | marginState
  | avsSelect | svcPhase | svcGroup | otFault | uvLimit
  | buckCommand | buckFsw | stepAction | stepWait | seqStart | seqLen | seqCmd | unitOn
  | wmSource | wmConfig | wmRoute | wmEngine | wmTest | pkTest
  | tmPeriod | tmCompare | tmIdle | tmCtrl | tmStart | tmStop
  | intAck | evEngine | evTest | chgChem | tsTh | shipCmd
  | xfer | bulkWindow | bulkObject | bulkLoad
  | logCursor | logSeek | logClear | logMark | dome | softReset
  | fwErase | fwWrite | fwVerify | fwSwitch | fwConfirm
  | lock | cred | response | password | authClose | debugOpen
  deriving DecidableEq, Repr

/-- The action of an object, by the index of its unit 0. -/
def actTable : List (Nat × Act) := [
  (0x1010, .store), (0x1011, .restore), (0x1016, .hbEntry), (0x2100, .profile), (0x2101, .profile), (0x2106, .underlying),
  (0x2201, .senseDiv), (0x2223, .capPre), (0x2228, .capCtrl), (0x2300, .phaseRail), (0x2301, .imonGain), (0x230B, .phaseCmd),
  (0x240B, .bankSwap), (0x240C, .bankCopy), (0x240D, .bankA), (0x240E, .bankB), (0x2410, .shadowSel), (0x2413, .progSwap),
  (0x2415, .bypass), (0x2440, .railEngine), (0x2441, .auxEngine), (0x2442, .soleEngine), (0x2443, .soleEngine), (0x2446, .libStore),
  (0x4000, .bankA), (0x4001, .bankA), (0x4002, .bankB), (0x4003, .bankB), (0x4008, .mailStage), (0x4009, .mailPost),
  (0x4020, .progImage)] ++ [
  (0x2502, .manualIref), (0x2508, .policy), (0x2509, .policy), (0x250A, .policy), (0x250B, .policy), (0x250C, .policy),
  (0x250D, .policyHold), (0x2513, .marginState), (0x2601, .avsSelect), (0x2701, .svcPhase), (0x2720, .svcGroup), (0x2723, .otFault),
  (0x276C, .uvLimit), (0x2800, .buckCommand), (0x2803, .buckFsw), (0x2900, .stepAction), (0x2901, .stepWait), (0x2902, .seqStart),
  (0x2903, .seqLen), (0x2904, .seqCmd), (0x2910, .unitOn), (0x2A00, .wmSource), (0x2A04, .wmConfig), (0x2A05, .wmRoute),
  (0x2A07, .wmEngine), (0x2A0C, .wmTest), (0x2A40, .pkTest), (0x2B00, .tmPeriod), (0x2B01, .tmCompare), (0x2B02, .tmIdle),
  (0x2B03, .tmIdle), (0x2B08, .tmCtrl), (0x2B20, .tmStart), (0x2B21, .tmStop)] ++ [
  (0x2C04, .intAck), (0x2C0A, .evEngine), (0x2C0D, .evTest), (0x2D11, .chgChem), (0x2D30, .tsTh), (0x2D52, .shipCmd), (0x2E09, .xfer),
  (0x2E29, .xfer), (0x2E60, .bulkWindow), (0x2E61, .bulkObject), (0x2E63, .bulkLoad), (0x3000, .logCursor), (0x3001, .logSeek),
  (0x3009, .logClear), (0x300A, .logMark), (0x21C4, .dome), (0x21D0, .softReset), (0x3103, .factory), (0x3113, .fwErase),
  (0x3114, .fwWrite), (0x3115, .fwVerify), (0x3116, .fwSwitch), (0x3117, .fwConfirm), (0x3200, .lock), (0x3202, .cred),
  (0x3203, .cred), (0x3206, .response), (0x3207, .password), (0x3208, .authClose), (0x320C, .debugOpen)]

/-- The action of an object. -/
def actOf (key : Nat) : Act :=
  let sub := key % 256
  match canonIdx (key / 256) with
  | 0x1003 => .historyClear
  | 0x2103 => if sub = 1 then .schedFlag else .schedAt
  | 0x2510 =>
    match sub with
    | 1 => .voutCommand | 3 => .voutBoot | 4 => .marginValue | 5 => .marginValue | 6 => .voutMax | 7 => .voutMin | _ => .plain
  | c =>
    if (0x1600 ≤ c ∧ c < 0x1604) ∨ (0x1A00 ≤ c ∧ c < 0x1A04) then (if sub = 0 then .mapCount else .mapEntry)
    else match actTable.find? (fun e => e.1 == c) with
      | some e => e.2
      | none => .plain

namespace Dev

/-- The device as if a write were accepted: relations between objects are judged on it. Notes, log 12. -/
def withWrite (d : Dev) (key : Nat) (v : Val) : Dev := { d with pendT := d.pendT ++ [(key, v)] }

/-- The invariants of a rail's policy tables (R163), on the values of some objects. -/
def policyOk (val : Nat → Int) (n : Nat) : Bool :=
  let add := fun c => val (K.ADD_AT n c)
  let shed := fun c => val (K.SHED_AT n c)
  let lim := fun c => val (K.ILIM_AT n c)
  (List.range 32).all (fun c =>
    (decide (c = 31) || decide (add c < add (c + 1))) && (decide (c = 0) || decide (shed c < add (c - 1))) && decide (add c ≤ lim c)) &&
    decide (val (K.MITTEN_ENTER n) < val (K.MITTEN_EXIT n)) && decide (val (K.MITTEN_EXIT n) ≤ add 0)

/-- Rule of a policy entry (R163, R164): with the values in force; writes that wait are not. Notes, log 12. -/
def policyRule (d : Dev) (n key : Nat) (v : Val) : Reason :=
  if d.accNum (K.POLICY_HOLD n) = 1 ∨ policyOk (fun k => if k = key then v.int else d.num k) n = true then .none else .order

/-- Rule of `POLICY_HOLD` (R164): a release checks the whole table as accepted. -/
def holdRule (d : Dev) (n : Nat) (v : Int) : Reason := if v = 1 ∨ policyOk d.accNum n = true then .none else .order

/-- The voltage objects of a rail that R44 names. -/
def railVolts (n : Nat) : List Nat :=
  [K.VOUT_COMMAND n, K.VOUT_BOOT n, K.VOUT_MARGIN_HIGH n, K.VOUT_MARGIN_LOW n, K.VOUT_MAX n, K.VOUT_MIN n,
   K.VOUT_OV_FAULT_LIMIT n, K.VOUT_UV_FAULT_LIMIT n]

/-- Rule of `VSENSE_DIV` (R44). -/
def senseDivRule (d : Dev) (n : Nat) (v : Int) : Reason :=
  if d.unitOn n then .range
  else if v = 1 ∧ (railVolts n).any (fun k => decide (d.accNum k > 7373)) = true then .range else .none

/-- Rule of the settings that a profile sets (R28, R29, R112). -/
def underlyingRule (d : Dev) (key : Nat) (v : Val) : Reason :=
  if d.accNum K.PERF_PROFILE ≠ 3 then .profileOwned else d.budgetRule key v

/-- Would a change of an owner leave an enabled unit without a program for its drive words (R101)? -/
def driveLost (d : Dev) (key : Nat) (v : Val) : Bool := unserves d.coming (d.coming.setObj key v)

/-- Rule of a change of a unit's engine (R101, R112, R133): refused while `busy`. -/
def engineRule (d : Dev) (busy : Bool) (key : Nat) (v : Val) : Reason :=
  if busy then .range else if d.driveLost key v then .drive else d.budgetRule key v

/-- Rule of `TS_TH` (R322), on accepted values. -/
def tsThRule (d : Dev) : Reason :=
  let t := fun i => d.accNum (K.TS_TH i)
  let h := d.accNum K.TS_HYST
  if (List.range 4).all (fun i => decide (200 ≤ t i) && decide (t i ≤ 9400)) &&
    decide (t 0 - t 1 ≥ max 1 h) && decide (t 1 - t 2 ≥ max 1 h) && decide (t 2 - t 3 ≥ max 1 h) && decide (t 3 > d.accNum K.TS_DISCH_HOT)
  then .none else .order

/-- Rule of `AVS_SELECT` (R192): a duplicate is refused. -/
def avsSelectRule (d : Dev) (n : Nat) (v : Int) : Reason :=
  if v ≠ 255 ∧ (List.range 8).any (fun m => decide (m ≠ n) && decide (d.accNum (K.AVS_SELECT m) = v)) = true then .range else .none

/-- Rule of a consumer entry (R402): a second entry for a node is refused. -/
def hbRule (d : Dev) (i : Nat) (v : Int) : Reason :=
  let node := v.toNat / 65536 % 256
  if node ≠ 0 ∧ (List.range 4).any (fun j => decide (j ≠ i) && decide ((d.accNum (K.CONSUMER_HEARTBEAT_TIME j)).toNat / 65536 % 256 = node)) = true
  then .range else .none

/-- Is the communication object of a mapping valid: bit 31 of its COB-ID is clear (R389)? `idx` is the mapping's index. -/
def mapValid (d : Dev) (idx : Nat) : Bool :=
  let k := if idx < 0x1A00 then K.RPDO_COB_ID (idx - 0x1600) else K.TPDO_COB_ID (idx - 0x1A00)
  let now := match d.accepted k with | .num i => i.toNat | _ => d.cobId k
  !now.testBit 31

/-- The number of bytes of a type that a PDO can carry (R389). -/
def pdoSize (t : Ty) : Option Nat :=
  match t with
  | .bool => some 1 | .u8 => some 1 | .u16 => some 2 | .i16 => some 2 | .u32 => some 4 | .i32 => some 4 | _ => none

/-- May an entry of a mapping name this object (R389)? Sub-index 00 of an array is a U8 that every level reads (R12). -/
def mappable (rpdo : Bool) (v : Nat) : Bool :=
  match objRow (v / 256) with
  | none => !rpdo && idxExists (v / 65536) && decide (v % 65536 = 8)
  | some r =>
    let size := decide (pdoSize r.ty = some (v % 256 / 8)) && decide (v % 8 = 0)
    size && decide (r.app ≠ .u) &&
      (if rpdo then decide (r.acc ≠ .ro) && decide (r.level ≤ 1) else decide (r.acc = .rw) || (decide (r.acc = .ro) && decide (r.level = 0)))

/-- The lengths in bits that the first `n` entries of a mapping give (R389). -/
def mapBits (d : Dev) (idx n : Nat) : Nat := ((List.range n).map (fun i => (d.accNum (idx * 256 + 1 + i)).toNat % 256)).sum

/-- Rule of a mapping count (R389). -/
def mapCountRule (d : Dev) (idx : Nat) (v : Int) : Reason :=
  if d.mapValid idx then .range else if v > 8 ∨ d.mapBits idx v.toNat > 64 then .range else .none

/-- Rule of a mapping entry (R389). -/
def mapEntryRule (d : Dev) (idx : Nat) (v : Int) : Reason :=
  if d.mapValid idx ∨ d.accNum (idx * 256) ≠ 0 then .state
  else if mappable (decide (idx < 0x1A00)) v.toNat then .none else .range

/-- The SDO abort of a refused mapping write (R389), which names codes of its own. -/
def mapAbort (key : Nat) (r : Reason) : Nat :=
  match actOf key, r with
  | .mapEntry, .range => 0x06040041
  | .mapCount, .range => 0x06040042
  | _, _ => r.abort

/-- Rule of a descriptor of `PMB_XFER` or `LB_XFER` (R355): its form, the controller's enable, and the transfer in progress. -/
def xferRule (d : Dev) (lb : Bool) (bs : List Byte) : Reason :=
  let b := fun i => (bs.getD i 0).toNat
  let c := if lb then d.lbCtrl else d.pmbCtrl
  let on := if lb then d.effNum K.LB_CONFIG % 2 = 1 else d.effNum K.PMB_CONFIG / 2 % 2 = 1 ∧ d.num K.PMB_ADDR ≠ 0
  if b 0 > 127 ∨ b 1 > 3 ∨ b 2 > 32 ∨ b 3 > 32 ∨ bs.length ≠ 4 + b 2 then .range
  else if c.busy then .busy
  else if !on || !d.ticking then .state else .none

/-- The descriptor of an accepted transfer (R355). On LB it starts when no other transfer waits (R364). A stuck bus starts none:
the result says so (R342). -/
def xferStart (d : Dev) (lb : Bool) (bs : List Byte) : Dev :=
  let f := fun c : TwCtrl =>
    if c.busStuck || c.sclStuck then { c with desc := bs, result := [3, 7, 0, 0] }
    else { c with busy := true, desc := bs, retries := 0, deferred := false, started := !lb || d.lbWait.isEmpty, result := [1, 0, 0, 0] }
  if lb then { d with lbCtrl := f d.lbCtrl } else { d with pmbCtrl := f d.pmbCtrl }

/-- Does the key name a DOMAIN object (R370)? -/
def isDomain (key : Nat) : Bool := match objRow key with | some r => decide (r.ty = .domain) | none => false

/-- The bulk side of a two-wire port: sub-index 01 is the bulk port, 02 SVC (R370). -/
def bulkPort (i : Nat) : TwPort := if i = 0 then .pmb else .svc

/-- `MAILBOX_STAGE` (R102, R307). -/
def stageRule (d : Dev) (e sub : Nat) : Reason :=
  if d.mailboxRule e ≠ .none then d.mailboxRule e else if sub ≥ 0x1D ∧ d.bit K.EV_ENGINE_EN e = true then .owned else .none

/-- `EV_ENGINE_EN` (R307). -/
def evEngineRule (d : Dev) (v : Int) : Reason :=
  if (List.range 16).any (fun e => bitAt v e && (d.engine e).prog.standard) then .owned else .none

/-- Rules of the objects of the rail and voltage chapters; `n` is the unit (R150, R163, R169, R191). -/
def railRule (d : Dev) (a : Act) (p : Src) (n key : Nat) (v : Val) : Reason :=
  let x := v.int
  match a with
  | .manualIref => if fieldAt (d.loopStatus n) 13 3 = 3 then .none else .mode
  | .policy => d.policyRule n key v
  | .policyHold => d.holdRule n x
  | .voutCommand => d.targetRule p n
  | .marginState => d.targetRule p n
  | .voutBoot => if d.accNum (K.VOUT_MIN n) ≤ x ∧ x ≤ d.accNum (K.VOUT_MAX n) then .none else .range
  | .voutMax => if x > d.accNum (K.VOUT_MIN n) then .none else .range
  | .voutMin => if x < d.accNum (K.VOUT_MAX n) then .none else .range
  | .uvLimit => if x < d.accNum (K.VOUT_OV_FAULT_LIMIT n) then .none else .range
  | .otFault => if x > d.accNum (K.SG_OT_WARN n) then .none else .range
  | .avsSelect => d.avsSelectRule n x
  | .senseDiv => d.senseDivRule n x
  | .buckCommand => d.buckCommandRule p
  | .buckFsw => if d.unitOn (8 + n) then .range else .none
  | .unitOn => d.unitRule p n x
  | .phaseRail => if d.phaseRailRule n ≠ .none then d.phaseRailRule n else if d.driveLost key v then .drive else d.budgetRule key v
  | .imonGain => if (d.ph n).inSet then .inUse else .none
  | .phaseCmd => if x = 1 then d.realignRule n else if x = 4 then d.pulseRule n else .none
  | .svcPhase => d.svcRule [n] x
  | .svcGroup => d.svcRule (d.assignedOf n) x
  | _ => .none

/-- Rules of the objects of the engine, profile and capture chapters. -/
def engRule (d : Dev) (a : Act) (e key : Nat) (v : Val) : Reason :=
  let x := v.int
  match a with
  | .profile => d.switchRule key x
  | .schedAt => d.profileAtRule x
  | .underlying => d.underlyingRule key v
  | .capPre => if x < d.num K.CAP_LEN then .none else .range
  | .capCtrl => if x = 1 then d.capArmRule else .none
  | .bankSwap => d.bankSwapRule e x
  | .bankCopy => d.bankCopyRule e
  | .bankA => d.coefRule e false
  | .bankB => d.coefRule e true
  | .shadowSel => d.shadowRule e
  | .progImage => d.shadowRule e
  | .progSwap => d.progSwapRule e
  | .bypass => if x = 1 ∧ d.num K.LOCK_STATE = 1 then .range else .none
  | .railEngine => d.engineRule (d.unitOn e) key v
  | .auxEngine => d.engineRule (d.unitOn (8 + e)) key v
  | .soleEngine => d.engineRule d.anyRailOn key v
  | .libStore => d.libStoreRule x
  | .mailStage => d.stageRule e (key % 256)
  | .mailPost => d.mailboxRule e
  | _ => .none

/-- Rules of the objects of the sequencer, monitor, timer, event and battery chapters. -/
def boardRule (d : Dev) (a : Act) (i key : Nat) (v : Val) : Reason :=
  let x := v.int
  match a with
  | .stepAction => d.stepActionRule i x
  | .stepWait => d.stepWaitRule i x
  | .seqStart => seqProgRule x (d.num (K.SEQ_PROG_LEN i))
  | .seqLen => seqProgRule (d.num (K.SEQ_PROG_START i)) x
  | .seqCmd => d.seqCmdRule x
  | .wmSource => d.wmSourceRule i
  | .wmConfig => d.wmConfigRule i x
  | .wmRoute => wmRouteRule x
  | .wmEngine => d.wmEngineRule i
  | .wmTest => d.wmTestRule i
  | .pkTest => d.pkTestRule i
  | .tmPeriod => if x = 0 then .periodZero else .none
  | .tmIdle => if d.tmRuns i then .inUse else .none
  | .tmCtrl => d.tmCtrlRule i x
  | .evEngine => d.evEngineRule x
  | .chgChem => if d.accNum K.CHG_EN = 0 then .none else .inUse
  | .tsTh => (d.withWrite key v).tsThRule
  | .shipCmd => d.shipRule x
  | _ => .none

/-- Rules of the objects of the network, two-wire, log, power, storage and access chapters. -/
def systemRule (d : Dev) (a : Act) (p : Src) (i key : Nat) (v : Val) : Reason :=
  let x := v.int
  match a with
  | .store => d.storeRule x 0x65766173
  | .restore => d.restoreRule x
  | .factory => d.storeRule x 0x74636166
  | .hbEntry => d.hbRule i x
  | .mapCount => d.mapCountRule (key / 256) x
  | .mapEntry => d.mapEntryRule (key / 256) x
  | .xfer => d.xferRule (decide (key / 256 = 0x2E29)) v.bs
  | .bulkObject => if isDomain x.toNat then .none else .range
  | .logCursor => if x ≤ d.logCount then .none else .range
  | .logClear => d.logClearRule x
  | .dome => d.domeRule x
  | .softReset => softRule x
  | .fwErase => d.fwEraseRule
  | .fwWrite => d.fwWriteRule v.bs
  | .fwVerify => if x = 0 then .none else d.fwVerifyRule
  | .fwSwitch => d.fwSwitchRule x
  | .fwConfirm => if x = 0 then .none else d.fwConfirmRule
  | .lock => d.lockRule x
  | .cred => d.credRule key v.bs
  | .response => d.attemptRule p (i + 1) true v.bs
  | .password => d.attemptRule p (i + 1) false v.bs
  | .authClose => if ownSub p (i + 1) then .none else .access
  | _ => .none

/-- The rule of the object's own chapter (R373 step 6); an object has a rule in one chapter. -/
def chapterRule (d : Dev) (p : Src) (key : Nat) (v : Val) : Reason :=
  let a := actOf key
  let i := keyUnit key
  if d.railRule a p i key v ≠ .none then d.railRule a p i key v
  else if d.engRule a i key v ≠ .none then d.engRule a i key v
  else if d.boardRule a i key v ≠ .none then d.boardRule a i key v
  else d.systemRule a p i key v

end Dev

end Sys2Proof.Machine
end

