-- ==== Sys2Proof/Machine/Host.lean ====
section
/-! DEFINITION. The operation table at work (R21, R373–R379): how a port's write or read is entered, decided, carried out,
recorded and answered. -/

namespace Sys2Proof.Machine

/-- What a port meets before an operation is entered (R345, R377, R387, R514). -/
inductive Gate where
  | open_ | silent | absent | full
  deriving DecidableEq, Repr

/-- The bytes of a write that its record carries (R409, R458). -/
def recordFirst (key : Nat) (bs : List Byte) : List Byte := if secretIdx (key / 256) then [] else bs.take 4

/-- The bus of a CAN source. -/
def Src.bus : Src → Option Bus
  | .canA => some .a | .canB => some .b | _ => none

/-- The two-wire target of a source. -/
def Src.tw : Src → Option TwPort
  | .pmbus => some .pmb | .svc => some .svc | _ => none

/-- The source of a two-wire target (R377). -/
def TwPort.src : TwPort → Src
  | .pmb => .pmbus | .svc => .svc

/-- The source of a CAN bus (R377). -/
def Bus.src : Bus → Src
  | .a => .canA | .b => .canB

/-- One part of an operation that addresses several units: its object and record bytes, how it is decided, and what it does. -/
structure Part where
  key : Nat
  first : List Byte
  rule : Reason
  go : Nat → Dev → Dev
  no : Nat → Dev → Dev

namespace Dev

/-- Is the two-wire target live (12_two_wire_ports.md; R336, R503)? -/
def twLive (d : Dev) (t : TwPort) : Bool :=
  match t with
  | .pmb => d.board.ioH && d.ticking && decide (d.num K.PMB_ADDR ≠ 0)
  | .svc => d.board.ioH && decide (d.effNum K.SVC_EN ≠ 0) && (d.ticking || decide (d.power = .keep))

/-- Do SDO, PDO and bulk traffic work on a bus (R384, R387)? -/
def canServes (d : Dev) (b : Bus) : Bool :=
  d.canHears b && (decide (d.node.nmt = .preOperational) || decide (d.node.nmt = .operational))

/-- What a port meets. -/
def gateOf (d : Dev) (p : Src) : Gate :=
  let live := match p.tw, p.bus with
    | some t, _ => d.twLive t
    | _, some b => d.canServes b
    | _, _ => false
  if !live then .silent else if !d.opsOpen then .absent else if !d.hasEntry p then .full else .open_

/-- An event of a two-wire port, counted where its code is (R367, R368). -/
def twEvent (d : Dev) (t : TwPort) (code osn : Nat) : Dev :=
  let d1 := d.causeOsn t.src.evSource code osn
  match [1, 2, 3, 4, 7, 8, 11].findIdx? (· == code) with
  | some i => d1.bump (match t with | .pmb => K.PMB_ERR_COUNT i | .svc => K.SVC_ERR_COUNT i) 32
  | none => d1

/-- A bit of STATUS_CML with its event (R345). -/
def twFault (d : Dev) (t : TwPort) (bit code osn : Nat) : Dev :=
  (d.modTw t (fun x => { x with cml := Machine.putBit x.cml bit true })).twEvent t code osn

/-- How a port answers where no operation is entered (R345, R377). -/
def turnedAway (d : Dev) (p : Src) (g : Gate) : Dev :=
  let d1 := if g = .full then d.bump K.OP_OVERLOAD_COUNT 32 else d
  match p.tw with
  | some t => if g = .silent then d1.answering .nack else (d1.twEvent t 4 0).answering .nack
  | none => if g = .full then d1.sdoAbort p Reason.overload.abort else d1

/-- Carry something out at a port that is open. -/
def atPort (d : Dev) (p : Src) (f : Dev → Dev) : Dev := if d.gateOf p = .open_ then f d else d.turnedAway p (d.gateOf p)

/-- How a port answers a decided write (R345, R348, R374, R387). The SDO answer to a store or restore waits (R393). -/
def answerWrite (d : Dev) (p : Src) (key : Nat) (r : Reason) (osn : Nat) : Dev :=
  match p.tw with
  | some t => (if r = .none then d else d.twFault t 6 6 osn).answering .ack
  | none =>
    if r ≠ .none then d.sdoAbort p (mapAbort key r)
    else if d.busyOn key ∧ (key = K.STORE_PARAMETERS ∨ key = K.RESTORE_DEFAULT_PARAMETERS) then d else d.reply p .ack

/-- `OP_LAST`, and the write that OBJ_RESULT describes (R357, R379). -/
def noteLast (d : Dev) (p : Src) (osn : Nat) (r : Reason) : Dev :=
  let d1 := match p.lastIx with | some i => d.setNum (K.OP_LAST i) osn | none => d
  match p.tw with
  | some t => d1.modTw t (fun x => { x with lastOsn := osn, lastReason := r })
  | none => d1

/-- The level a write of an object needs (R4, R370). -/
def writeLevel (d : Dev) (r : ObjRow) (key : Nat) : Nat :=
  if actOf key = .bulkLoad then
    match objRow (d.nat (K.BULK_OBJECT (keyUnit key))) with | some x => x.level | none => 0
  else r.level

/-- The value that a write's bytes give an object. -/
def valueOf (key : Nat) (bs : List Byte) : Val :=
  match objRow key with | some r => r.ty.decode bs | none => .num 0

/-- How an access of a write is decided (R373, R376): the first reason that applies. -/
def writeRule (d : Dev) (p : Src) (key : Nat) (bs : List Byte) : Reason :=
  match objRow key with
  | none => if !idxExists (key / 256) then .noObject else if key % 256 = 0 then .readOnly else .noSub
  | some r =>
    if r.acc = .ro then .readOnly
    else if d.level p < d.writeLevel r key then .access
    else if !lengthOk r bs then .length
    else if !rangeOk d r key (r.ty.decode bs) then .range
    else if d.busyOn key then .busy
    else d.chapterRule p key (r.ty.decode bs)

/-- Does the accepted write run for a time (R376)? -/
def runs (key : Nat) (v : Val) : Bool :=
  match actOf key with
  | .store => true | .restore => true | .factory => true | .libStore => true | .shadowSel => true | .progImage => true
  | .fwErase => true | .logClear => true | .fwVerify => decide (v.int ≠ 0) | _ => false

/-- A value that takes effect where its apply point says (R8): of apply point S at once for a phase without a rail (R57). -/
def holdWrite (d : Dev) (key : Nat) (v : Val) : Dev :=
  match objRow key with
  | none => d
  | some r =>
    match r.app with
    | .t => { d with pendT := d.pendT ++ [(key, v)] }
    | .s =>
      let idx := key / 256
      if decide (0x2300 ≤ idx) && decide (idx < 0x2320) && (d.railOf (key % 256 - 1)).isNone then d.setObj key v
      else { d with pendS := d.pendS ++ [(key, v)] }
    | .b => d.setObj key (match v with | .coef m sh => d.heldCoef key (m, sh) | _ => v)
    | _ => d.setObj key v

/-- What an accepted write of the rail and voltage chapters does; `n` is the unit. -/
def railAct (d : Dev) (a : Act) (p : Src) (n key : Nat) (v : Val) (osn : Nat) : Dev :=
  let x := v.int
  match a with
  | .policy => { d.holdWrite key v with polWait := d.polWait ++ [(key, v)] }
  | .voutCommand =>
    let d1 := d.holdWrite key v
    if d1.accNum (K.MARGIN_STATE n) = 0 then d1.acceptTarget p n x osn else d1
  | .marginValue =>
    let d1 := d.holdWrite key v
    let sel := d1.accNum (K.MARGIN_STATE n)
    if (sel = 1 ∧ key = K.VOUT_MARGIN_LOW n) ∨ (sel = 2 ∧ key = K.VOUT_MARGIN_HIGH n) then d1.acceptTarget p n x osn else d1
  | .marginState => let d1 := d.holdWrite key v; d1.acceptTarget p n (d1.marginTarget n x) osn
  | .buckCommand => (d.holdWrite key v).postBuck n x p.voutClass osn
  | .phaseCmd =>
    d.withOsn osn (fun d =>
      if x = 1 then d.realign n else if x = 2 then d.disablePhase n 3 else if x = 3 then d.releaseLatch n else d.singlePulse n)
  | .svcPhase => d.withOsn osn (fun d => d.svcRun [n] x)
  | .svcGroup => d.withOsn osn (fun d => d.svcRun (d.assignedOf n) x)
  | _ => d.holdWrite key v

/-- What an accepted write of the engine, profile and capture chapters does. -/
def engAct (d : Dev) (a : Act) (p : Src) (e key : Nat) (v : Val) (osn : Nat) : Dev :=
  let x := v.int
  match a with
  | .profile => d.switchAccept key x p osn
  | .schedFlag => (d.setObj key v).profileSched x
  | .schedAt => (d.setObj key v).profileAt x
  | .capCtrl => if x = 1 then d.capArm else if x = 2 then d.capTrigger 0 false else d.capAbort
  | .bankSwap => if x = 1 then d.modEng e (fun g => { g with swapBank := true }) else d
  | .bankCopy => if x = 1 then d.bankCopy e else d
  | .shadowSel => d.shadowSel e x.toNat
  | .progImage => d.shadowImage e v.bs
  | .progSwap => d.progSwap e x
  | .libStore => { d with nvm := { d.nvm with libRun := some (x.toNat % 256, x.toNat / 256), libImage := (d.engine (x.toNat % 256)).shadow } }
  | .mailPost => if x = 1 then d.mailboxPost e else d
  | _ => d.holdWrite key v

/-- What an accepted write of the sequencer, monitor, timer, event and battery chapters does. -/
def boardAct (d : Dev) (a : Act) (i key : Nat) (v : Val) (osn : Nat) : Dev :=
  let x := v.int
  match a with
  | .wmTest => d.wmTestStart i x.toNat
  | .pkTest => d.pkTestStart i
  | .tmPeriod => d.tmPeriodWrite i x
  | .tmCompare => d.tmCompareWrite i x
  | .tmCtrl => d.tmCtrl i x
  | .tmStart => d.tmGlobalStart x.toNat
  | .tmStop => d.tmGlobalStop x.toNat
  | .intAck => d.intAck i x.toNat
  | .evTest => d.evTest x osn
  | .chgChem =>
    let own := if x = 0 then [(K.CHG_VREG, 4200), (K.CHG_VPRE, 3000), (K.BAT_CUTOFF, 3000)]
      else [(K.CHG_VREG, 3600), (K.CHG_VPRE, 2500), (K.BAT_CUTOFF, 2500)]
    { d with pendT := d.pendT ++ [(key, v)] ++ own.map (fun e : Nat × Int => (e.1, Val.num e.2)) }
  | .shipCmd => d.withOsn osn shipRequest
  | _ => d.holdWrite key v

/-- What an accepted write of the network, two-wire, log, power, storage and access chapters does. -/
def systemAct (d : Dev) (a : Act) (p : Src) (i key : Nat) (v : Val) (osn : Nat) : Dev :=
  let x := v.int
  match a with
  | .historyClear => d.historyClear
  | .store => d.storeBegin false osn
  | .restore => d.restoreBegin
  | .factory => d.storeBegin true osn
  | .xfer => d.xferStart (decide (key / 256 = 0x2E29)) v.bs
  | .bulkWindow => (d.setObj key v).modTw (bulkPort i) (fun t => { t with staging := [] })
  | .bulkObject => (d.setObj key v).modTw (bulkPort i) (fun t => { t with staging := [] })
  | .logSeek => d.setNum (K.LOG_CURSOR i) (d.seekIndex x.toNat)
  | .logClear => d.logClear osn
  | .logMark => d.logTimeMark p v.bs osn
  | .dome => d.domeEnter osn
  | .softReset => { d with softDue := true }
  | .fwErase => d.fwErase
  | .fwWrite => d.fwWrite v.bs
  | .fwVerify => if x = 0 then d else d.fwVerify
  | .fwSwitch => d.fwSwitch osn
  | .fwConfirm => if x = 0 then d else d.fwConfirm osn
  | .lock => d.lockWrite x osn
  | .cred => d.credWrite key v.bs osn
  | .response => d.attemptOpen (i + 1) true v.bs osn
  | .password => d.attemptOpen (i + 1) false v.bs osn
  | .authClose => if x = 1 then d.sessionEnd (i + 1) 1 osn else d
  | .debugOpen => d.debugOpenWrite p x osn
  | _ => d.holdWrite key v

/-- The chapters whose objects an action belongs to. -/
def chapterOf (a : Act) : Nat :=
  match a with
  | .manualIref => 1 | .policy => 1 | .policyHold => 1 | .voutCommand => 1 | .voutBoot => 1 | .marginValue => 1 | .voutMax => 1
  | .voutMin => 1 | .marginState => 1 | .avsSelect => 1 | .svcPhase => 1 | .svcGroup => 1 | .otFault => 1 | .uvLimit => 1
  | .buckCommand => 1 | .buckFsw => 1 | .unitOn => 1 | .senseDiv => 1 | .phaseRail => 1 | .imonGain => 1 | .phaseCmd => 1
  | .profile => 2 | .schedFlag => 2 | .schedAt => 2 | .underlying => 2 | .capPre => 2 | .capCtrl => 2 | .bankSwap => 2 | .bankCopy => 2
  | .bankA => 2 | .bankB => 2 | .shadowSel => 2 | .progSwap => 2 | .bypass => 2 | .railEngine => 2 | .auxEngine => 2
  | .soleEngine => 2 | .libStore => 2 | .mailStage => 2 | .mailPost => 2 | .progImage => 2
  | .stepAction => 3 | .stepWait => 3 | .seqStart => 3 | .seqLen => 3 | .seqCmd => 3 | .wmSource => 3 | .wmConfig => 3 | .wmRoute => 3
  | .wmEngine => 3 | .wmTest => 3 | .pkTest => 3 | .tmPeriod => 3 | .tmCompare => 3 | .tmIdle => 3 | .tmCtrl => 3 | .tmStart => 3
  | .tmStop => 3 | .intAck => 3 | .evEngine => 3 | .evTest => 3 | .chgChem => 3 | .tsTh => 3 | .shipCmd => 3
  | .plain => 0
  | _ => 4

/-- What an accepted write does (R373, R8). -/
def carryOut (d : Dev) (p : Src) (key : Nat) (v : Val) (osn : Nat) : Dev :=
  let a := actOf key
  let i := keyUnit key
  match chapterOf a with
  | 0 => d.holdWrite key v
  | 1 => d.railAct a p i key v osn
  | 2 => d.engAct a p i key v osn
  | 3 => d.boardAct a i key v osn
  | _ => d.systemAct a p i key v osn

/-- What a refusal does beside its record (R30, R169, R289, R293, R445, R459). -/
def refusedAct (d : Dev) (p : Src) (key : Nat) (v : Val) (r : Reason) (osn : Nat) : Dev :=
  let i := keyUnit key
  let target := decide (r = .notOwner) || decide (r = .seqActive)
  match actOf key with
  | .voutCommand => if target then d.targetRefused p i else d
  | .marginState => if target then d.targetRefused p i else d
  | .profile => d.switchRefused key v.int r
  | .underlying => if r = .profileOwned then d.switchRefused key v.int r else d
  | .schedAt => if r = .late then d.switchRefused K.PERF_PROFILE (d.num K.PERF_PROFILE) r else d
  | .tmCtrl => if r = .periodZero then d.putBit (K.TM_STATUS i) 10 true else d
  | .tmPeriod => if r = .periodZero then d.putBit (K.TM_STATUS i) 10 true else d
  | .fwWrite => d.fwWriteRefused v.bs osn
  | .seqCmd => if (v.int = 1 ∧ (r = .noInput ∨ r = .busy)) ∨ (v.int = 2 ∧ r = .busy) then d.causeOsn 119 v.int.toNat osn else d
  | .response => if r = .access ∧ ownSub p (i + 1) = true then d.attemptFail (i + 1) true osn else d
  | .password => if r = .access ∧ ownSub p (i + 1) = true then d.attemptFail (i + 1) false osn else d
  | _ => d

/-- Is an accepted write recorded (R378)? -/
def recordsWrite (d : Dev) (level : Nat) : Bool := d.flag K.OP_RECORD && decide (level ≥ 1)

/-- One operation that writes (R375–R378): entered, decided by `r`, recorded, and carried out. `run` enters it as RUNNING. -/
def operate (d : Dev) (p : Src) (key : Nat) (first : List Byte) (level : Nat) (run : Bool) (r : Reason) (go refused : Nat → Dev → Dev) :
    Dev :=
  let osn := d.osnNext
  let d1 := (d.enterWith p key (if r ≠ .none then .refused else if run then .running else .done) r first).noteLast p osn r
  if r = .none then go osn (if d.recordsWrite level then d1.recordOp p 0x40 osn key .none first else d1)
  else refused osn (d1.recordOp p 0x41 osn key r first)

/-- One write of one object as an operation decided by `r`, without the port's answer. -/
def writeAs (d : Dev) (p : Src) (key : Nat) (bs : List Byte) (r : Reason) : Dev :=
  let v := valueOf key bs
  let level := match objRow key with | some o => d.writeLevel o key | none => 0
  d.operate p key (recordFirst key bs) level (runs key v) r (fun osn d => d.carryOut p key v osn) (fun osn x => x.refusedAct p key v r osn)

/-- The write that an access makes: an accepted `BULK_LOAD` writes the staged bytes to the object it names (R361). -/
def resolve (d : Dev) (p : Src) (key : Nat) (bs : List Byte) : Nat × List Byte :=
  if actOf key = .bulkLoad ∧ d.writeRule p key bs = .none then
    (d.nat (K.BULK_OBJECT (keyUnit key)), slice (d.tw (bulkPort (keyUnit key))).staging 0 (ofLe bs))
  else (key, bs)

/-- An accepted `BULK_LOAD` leaves the staging buffer cleared (R361). -/
def clearStaged (d : Dev) (key : Nat) (r : Reason) : Dev :=
  if actOf key = .bulkLoad ∧ r = .none then d.modTw (bulkPort (keyUnit key)) (fun t => { t with staging := [] }) else d

/-- The decision of a write. -/
def decideWrite (d : Dev) (p : Src) (key : Nat) (bs : List Byte) : Reason :=
  d.writeRule p (d.resolve p key bs).1 (d.resolve p key bs).2

/-- One write of one object as an operation, without the port's answer. -/
def writeOp (d : Dev) (p : Src) (key : Nat) (bs : List Byte) : Dev :=
  let w := d.resolve p key bs
  (d.writeAs p w.1 w.2 (d.decideWrite p key bs)).clearStaged key (d.decideWrite p key bs)

/-- A host write of one object at its port: the operation and the answer. -/
def hostWrite (d : Dev) (p : Src) (key : Nat) (bs : List Byte) : Dev :=
  d.atPort p (fun d => (d.writeOp p key bs).answerWrite p (d.resolve p key bs).1 (d.decideWrite p key bs) d.osnNext)

/-- The record of one refused part of an operation, an event of its own (R180). Notes, log 26. -/
def recordApart (d : Dev) (p : Src) (osn : Nat) (x : Part) : Dev :=
  let arg := leBytes 2 (x.key / 256 : Nat) ++ leBytes 1 (x.key % 256 : Nat) ++ leBytes 1 x.rule.code ++ slice x.first 0 4 ++ leBytes 1 p.busCode
  { d with ev := { d.ev with causes := d.ev.causes ++ [⟨p.evSource, 0x41, osn, 1, arg⟩] } }

/-- The reason of an operation over parts: that of its first part when every part is refused. -/
def partsReason (parts : List Part) : Reason :=
  match parts with
  | [] => .none
  | x :: _ => if parts.all (fun y => decide (y.rule ≠ .none)) then x.rule else .none

/-- What one part of an operation does. -/
def runPart (p : Src) (osn : Nat) (d : Dev) (x : Part) : Dev :=
  if x.rule = .none then x.go osn d else x.no osn (d.recordApart p osn x)

/-- An operation over parts, each of them accepted or refused on its own (R176, R180). -/
def operateParts (d : Dev) (p : Src) (key : Nat) (first : List Byte) (level : Nat) (parts : List Part) : Dev :=
  let osn := d.osnNext
  let r := partsReason parts
  let d1 := (d.enterWith p key (if r = .none then .done else .refused) r first).noteLast p osn r
  parts.foldl (runPart p osn) (if r = .none ∧ d.recordsWrite level then d1.recordOp p 0x40 osn key .none first else d1)

/-- A refused read (R378): recorded, and answered with its reason. -/
def readRefused (d : Dev) (p : Src) (key : Nat) (r : Reason) : Dev :=
  let osn := d.osnNext
  let d1 := (d.enter p key .refused r).recordOp p 0x41 osn key r []
  match p.tw with
  | some t => (d1.twFault t 6 6 osn).answering (.refused r)
  | none => d1.sdoAbort p r.abort

/-- One read as an operation (R376): the bytes of its snapshot. -/
def readOp (d : Dev) (p : Src) (key : Nat) : List Byte × Dev :=
  let x := d.readObj key
  (x.1, x.2.enter p key .done .none)

/-- A host read of one object at its port. -/
def hostRead (d : Dev) (p : Src) (key : Nat) : Dev :=
  d.atPort p (fun d =>
    if d.readRule p key ≠ .none then d.readRefused p key (d.readRule p key)
    else let x := d.readOp p key; x.2.reply p (.data x.1))

end Dev

end Sys2Proof.Machine
end

