-- ==== Sys2Proof/Machine/Avs.lean ====
section
/-! DEFINITION. AVSBus (R175–R179). Notes, log 27. -/

namespace Sys2Proof.Machine

namespace Dev

/-- The highest `SG_TEMP` among a rail's present groups (R176, R350). A rail without one has none that the spec states: a
free value. Notes, log 6. -/
def railTemp (d : Dev) (n : Nat) : Int × Dev :=
  match (List.range 8).filter (fun g => d.groupPresent g && (groupPhases g).any (d.assigned n)) with
  | [] => d.draw
  | g :: gs => (gs.foldl (fun m g => max m (d.num (K.SG_TEMP g))) (d.num (K.SG_TEMP g)), d)

/-- Does the port answer (R175, R427)? -/
def avsLive (d : Dev) : Bool := d.board.ioS && decide (d.effNum K.AVS_EN ≠ 0) && d.ticking

/-- The rails a select addresses; 15 addresses every rail that has a select (R175). -/
def avsRails (d : Dev) (sel : Nat) : List Nat :=
  (List.range 8).filter (fun n => let v := d.num (K.AVS_SELECT n); decide (v ≠ 255) && (decide (sel = 15) || decide (v = sel)))

/-- StatusAlert (R178). -/
def avsAlert (d : Dev) : Bool := (d.avsRails 15).any (fun n => decide (d.avsStatus n / 1024 % 32 ≠ 0))

/-- Leave a response (R177, R178). -/
def avsAnswer (d : Dev) (code : Nat) (value : Int) : Dev := d.answering (.avs code d.avsAlert value)

/-- A frame is counted (R192). -/
def avsCount (d : Dev) : Dev := d.modNum K.AVS_FRAME_COUNT (fun x => (x + 1) % 4294967296)

/-- The object that a write's operation is recorded with: the first addressed rail's target or rate (R378). -/
def avsKey (d : Dev) (w : AvsWrite) : Nat :=
  match d.avsRails w.sel with
  | n :: _ => if w.type = 1 then K.AVS_RATE_RISE n else K.VOUT_TARGET n
  | [] => K.AVS_SELECT 0

/-- How a write is decided for a rail (R169, R176). -/
def avsRule (d : Dev) (n type : Nat) : Reason :=
  if type = 0 ∨ type = 1 ∨ type = 4 then d.targetRule .avs n else if type = 14 then .none else .range

/-- What an accepted write does to a rail (R176). -/
def avsGo (n : Nat) (w : AvsWrite) (osn : Nat) (d : Dev) : Dev :=
  match w.type with
  | 0 => d.acceptTarget .avs n (roundDiv ((w.data : Int) * 4096) 1000) osn
  | 1 =>
    let rise := w.data / 256
    let fall := w.data % 256
    let d1 := if rise = 0 then d else d.setNum (K.AVS_RATE_RISE n) (100 * rise : Nat)
    if fall = 0 then d1 else d1.setNum (K.AVS_RATE_FALL n) (100 * fall : Nat)
  | 4 => d.acceptTarget .avs n (d.effNum (K.VOUT_BOOT n)) osn
  | 14 => d.modRl n (fun r => { r with avsAlerts := r.avsAlerts - (r.avsAlerts &&& w.data) })
  | _ => d

/-- What a write that is refused or not supported does to a rail (R169, R178). -/
def avsNo (n : Nat) (w : AvsWrite) (_ : Nat) (d : Dev) : Dev :=
  if w.type = 0 ∨ w.type = 1 ∨ w.type = 4 then d.targetRefused .avs n else d.modRl n (fun r => { r with avsAlerts := r.avsAlerts ||| 1024 })

/-- The parts of a write: one for each addressed rail. -/
def avsParts (d : Dev) (w : AvsWrite) : List Part :=
  (d.avsRails w.sel).map (fun n =>
    ⟨if w.type = 1 then K.AVS_RATE_RISE n else K.VOUT_TARGET n, leBytes 2 w.data, d.avsRule n w.type, avsGo n w, avsNo n w⟩)

/-- Every held write and the committing one as one operation (R176). -/
def avsEnter (d : Dev) (w : AvsWrite) : Dev :=
  let ws := d.load.held ++ [w]
  let d1 := { d with load := { d.load with held := [] } }
  d1.operateParts .avs (d1.avsKey w) (leBytes 2 w.data) 1 (ws.flatMap d1.avsParts)

/-- Can the table take an AVS operation now (R179, R377)? -/
def avsOpen (d : Dev) : Bool := d.opsOpen && d.hasEntry .avs

/-- The last frame of each select, write or read, is kept while no operation is entered (R179). -/
def avsWait (d : Dev) (w : AvsWrite) : Dev :=
  { d with load := { d.load with waiting := d.load.waiting.filter (fun x => x.sel ≠ w.sel) ++ [w] } }

/-- A write (R176, R179). -/
def avsWrite (d : Dev) (hold : Bool) (w : AvsWrite) : Dev :=
  if hold then { d with load := { d.load with held := d.load.held ++ [w] } }
  else if d.avsOpen then d.avsEnter w else d.avsWait w

/-- A read of a rail (R176): its value, `none` for a type without a read. A rail without a present group has no
temperature that the spec states. Notes, log 6. -/
def avsValue (d : Dev) (n type : Nat) : Option (Int × Dev) :=
  match type with
  | 0 => some (roundDiv (d.num (K.VOUT_TARGET n) * 1000) 4096, d)
  | 1 => some (d.num (K.AVS_RATE_RISE n) / 100 * 256 + d.num (K.AVS_RATE_FALL n) / 100, d)
  | 2 => some (min 65535 (roundDiv ((d.roNum (K.READ_IOUT n)).getD 0 * 25) 4), d)
  | 3 =>
    let t := d.railTemp n
    some (roundDiv (t.1 * 5) 8 % 65536, t.2)
  | 14 => some (d.avsStatus n, d)
  | _ => none

/-- The object that the operation of a read or of command 10b is recorded with (R378): that which the type reads, of the
addressed rail. -/
def avsReadKey (d : Dev) (sel type : Nat) : Nat :=
  match (d.avsRails sel).head? with
  | some n => if type = 1 then K.AVS_RATE_RISE n else if type = 2 then K.READ_IOUT n else if type = 14 then K.VOUT_STATUS n else K.VOUT_TARGET n
  | none => K.AVS_SELECT 0

/-- What a read answers (R176, R177). -/
def avsReply (d : Dev) (sel type : Nat) : Dev :=
  match (if sel = 15 then none else (d.avsRails sel).head?).bind (fun n => d.avsValue n type) with
  | some x => x.2.avsAnswer 0 x.1
  | none => d.avsAnswer 2 0

/-- Can a read be served (R177)? -/
def avsReadRule (d : Dev) (cmd sel type : Nat) : Reason :=
  if cmd = 3 ∧ sel ≠ 15 ∧ (d.avsRails sel).isEmpty = false ∧ [0, 1, 2, 3, 14].contains type = true then .none else .range

/-- A read, or command 10b, which is not supported: one operation (R21), answered also where none can be entered yet (R179).
Notes, log 60. -/
def avsRead (d : Dev) (cmd sel type : Nat) : Dev :=
  let go := fun (_ : Nat) (d : Dev) => d.avsReply sel type
  let no := fun (_ : Nat) (d : Dev) => d.avsAnswer 2 0
  let r := d.avsReadRule cmd sel type
  if d.avsOpen then d.operate .avs (d.avsReadKey sel type) [] 0 false r go no
  else (if r = .none then go 0 d else no 0 d).avsWait { sel := sel, type := type, cmd := cmd }

/-- One frame with a good CRC (R175–R179): `cmd` 0 write and commit, 1 write and hold, 2 not supported, 3 read. A write is
answered before it is decided (R177, R178). -/
def avsFrame (d : Dev) (cmd sel type data : Nat) : Dev :=
  if d.avsLive then
    let d1 := d.avsCount
    if cmd ≥ 2 then d1.avsRead cmd sel type
    else (d1.avsWrite (decide (cmd = 1)) { sel := sel, type := type, data := data }).answering (.avs 0 d1.avsAlert 0)
  else d

/-- A frame whose CRC fails (R177). -/
def avsBadCrc (d : Dev) : Dev :=
  if d.avsLive then ((d.avsCount).bump K.AVS_CRC_ERR_COUNT 16).avsAnswer 3 0 else d

/-- A frame that was kept is entered; one that reads has been answered (R177, R179). -/
def avsLate (d : Dev) (w : AvsWrite) : Dev :=
  if w.cmd < 2 then d.avsEnter w
  else d.operate .avs (d.avsReadKey w.sel w.type) [] 0 false (d.avsReadRule w.cmd w.sel w.type) (fun _ d => d) (fun _ d => d)

/-- AVS_HELD_ENTRY (R179): the frame kept for a select is entered. -/
def avsHeldEntry (d : Dev) (sel : Nat) : Dev :=
  match d.load.waiting.find? (fun w => w.sel == sel) with
  | some w =>
    if d.avsOpen then ({ d with load := { d.load with waiting := d.load.waiting.filter (fun x => x.sel ≠ sel) } }).avsLate w else d
  | none => d

end Dev

end Sys2Proof.Machine
end

