-- ==== Sys2Proof/Machine/Pmbus.lean ====
section
/-! DEFINITION. The PMBus target and SVC: how a command is answered (R344–R349), the commands of R350, their formats (R351),
status (R352, R353), alert response (R354) and object access (R357). Notes, log 28. -/

namespace Sys2Proof.Machine

/-- The kinds of page (R349). -/
inductive PageKind where
  | mp | bk | ldo | ph | ff
  deriving DecidableEq, Repr

/-- The kind of a page value; `PMB_PAGE` holds no other value (R349). -/
def pageKind (pg : Nat) : PageKind :=
  if pg < 8 then .mp else if pg < 14 then .bk else if pg < 18 then .ldo else if pg < 64 then .ph else .ff

/-- The unit of a page within its kind. -/
def pageUnit (pg : Nat) : Nat := if pg < 8 then pg else if pg < 14 then pg - 8 else if pg < 18 then pg - 14 else pg - 32

/-- The pages on which a paged command is supported (R350); page FFh takes every paged command (R349, R180). -/
def cmdPages (code : Nat) : List PageKind :=
  if [0x01, 0x02, 0x20, 0x21, 0x88, 0x8B, 0x7A, 0x7C].contains code then [.mp, .bk, .ldo, .ff]
  else if [0x03, 0x78, 0x79, 0x7B, 0x7D, 0x7E, 0x80, 0x8D].contains code then [.mp, .bk, .ldo, .ph, .ff]
  else if [0x24, 0x25, 0x26, 0x2B, 0x40, 0x44, 0x46].contains code then [.mp, .ff]
  else if code = 0x27 then [.mp, .bk, .ff]
  else if code = 0x8C then [.mp, .bk, .ph, .ff] else []

/-- The commands that do not depend on the page (R350). -/
def portCmds : List Nat := [0x00, 0x10, 0x15, 0x16, 0x19, 0x98, 0x99, 0x9A, 0x9B, 0xD0, 0xD1, 0xD2]

/-- Does `PMB_WRITE_PROTECT` block a write (R345)? -/
def protects (wp : Nat) (code : Nat) : Bool :=
  let free := match wp with
    | 0x80 => [0x10]
    | 0x40 => [0x10, 0x00, 0x01]
    | 0x20 => [0x10, 0x00, 0x01, 0x02, 0x21]
    | _ => [code]
  !free.contains code

/-- Mantissa of LINEAR11 of the value `num / den` at exponent `e − 10`. -/
def lin11Mantissa (num den : Int) (e : Nat) : Int :=
  if e ≤ 10 then roundDiv (num * 2 ^ (10 - e)) den else roundDiv num (den * 2 ^ (e - 10))

/-- LINEAR11 of a value (R351): the smallest exponent from −10 at which the mantissa fits, else exponent 15 saturated. -/
def lin11 (num den : Int) : Nat :=
  let fits := fun e => let m := lin11Mantissa num den e; decide (-1024 ≤ m) && decide (m ≤ 1023)
  match (List.range 26).find? fits with
  | some e => (e + 22) % 32 * 2048 + (lin11Mantissa num den e % 2048).toNat
  | none => 15 * 2048 + (if num < 0 then 0x400 else 0x3FF)

/-- The value of a LINEAR11 word in units of 1 / `scale`, rounded (R351). -/
def lin11Value (w : Nat) (scale : Int) : Int :=
  let m : Int := if w % 2048 ≥ 1024 then (w % 2048 : Nat) - 2048 else (w % 2048 : Nat)
  let e := w / 2048 % 32
  if e < 16 then m * scale * 2 ^ e else roundDiv (m * scale) (2 ^ (32 - e))

/-- PEC of R346. -/
def pecOf (bs : List Byte) : Nat := bs.foldl (fun c b => crc8Byte c b.toNat) 0

namespace Dev

/-- The page of a port (R349). -/
def pageOf (d : Dev) (t : TwPort) : Nat := match t with | .pmb => d.nat K.PMB_PAGE | .svc => d.nat K.SVC_PAGE

/-- The object of a port's page. -/
def pageKey (t : TwPort) : Nat := match t with | .pmb => K.PMB_PAGE | .svc => K.SVC_PAGE

/-- Is a command supported on a page (R350)? -/
def cmdOk (code pg : Nat) : Bool := portCmds.contains code || (cmdPages code).contains (pageKind pg)

/-- Invalid data (R345): bit 5 or 6 of STATUS_CML with its code, and the answer. -/
def pmbBad (d : Dev) (t : TwPort) (bit code : Nat) (a : Answer) : Dev := (d.twFault t bit code 0).answering a

/-- A command byte that is not supported (R345). -/
def pmbUnsupported (d : Dev) (t : TwPort) : Dev := d.pmbBad t 7 5 .nack

/-- Take a command at its port: the gate, and the support on the present page (R345). -/
def pmbOpen (d : Dev) (t : TwPort) (code : Nat) (f : Dev → Dev) : Dev :=
  d.atPort t.src (fun d => if cmdOk code (d.pageOf t) then f d else d.pmbUnsupported t)

/-- A block as the device sends it: its count, then its bytes (R344). -/
def block (bs : List Byte) : List Byte := leBytes 1 bs.length ++ bs

/-- The address byte of a port, for PEC (R346). -/
def addrByte (d : Dev) (t : TwPort) : Nat := match t with | .pmb => 2 * d.nat K.PMB_ADDR | .svc => 0xB0

/-- The PEC of a write (R346): over the address byte, the command and the data bytes. -/
def writePec (d : Dev) (t : TwPort) (code : Nat) (bs : List Byte) : Nat := pecOf (leBytes 1 (d.addrByte t) ++ leBytes 1 code ++ bs)

/-- Take a write of the data bytes `bs`: write protection, length and PEC (R345, R346). -/
def pmbWrite (d : Dev) (x : TwFrame) (code : Nat) (bs : List Byte) (f : Dev → Dev) : Dev :=
  d.pmbOpen x.port code (fun d =>
    if protects (d.nat K.PMB_WRITE_PROTECT) code then d.pmbBad x.port 6 6 .nack
    else if x.form = .long then d.pmbBad x.port 6 6 .nack
    else if x.form = .short then d.pmbBad x.port 6 6 .ack
    else match x.pec with
      | some b => if b.toNat = d.writePec x.port code bs then f d else d.pmbBad x.port 5 1 .nack
      | none => if bitAt (d.effNum K.PMB_CONFIG) 2 then d.pmbBad x.port 6 6 .ack else f d)

/-- The bytes of a read, with PEC where the controller clocks it (R346). -/
def pmbData (d : Dev) (x : TwFrame) (code : Nat) (bs : List Byte) : Dev :=
  let a := d.addrByte x.port
  let pec := pecOf (leBytes 1 a ++ leBytes 1 code ++ leBytes 1 (a + 1 : Nat) ++ bs)
  d.answering (.data (if x.pec.isNone then bs else bs ++ leBytes 1 pec))

/-- Take a read (R345): data bytes written to a command that takes none are NACKed, and a command byte alone reads nothing. -/
def pmbAsk (d : Dev) (x : TwFrame) (code : Nat) (f : Dev → Dev) : Dev :=
  d.pmbOpen x.port code (fun d =>
    match x.form with
    | .whole => f d
    | .long => d.pmbBad x.port 6 6 .nack
    | .short => d.answering .ack)

/-- A read as one operation on an object (R344, R347). -/
def pmbRead (d : Dev) (x : TwFrame) (code key : Nat) (f : Dev → List Byte × Dev) : Dev :=
  d.pmbAsk x code (fun d => let r := f d; (r.2.enter x.port.src key .done .none).pmbData x code r.1)

/-- A read of a paged command of `n` bytes; page FFh reads FFh in every byte and sets `invalid_data` (R349). `key` is the
object of the unit on the page. -/
def pmbPaged (d : Dev) (x : TwFrame) (code n : Nat) (key : Nat → Nat) (f : Nat → Dev → List Byte × Dev) : Dev :=
  d.pmbAsk x code (fun d =>
    let pg := d.pageOf x.port
    if pageKind pg = .ff then
      ((d.enter x.port.src (pageKey x.port) .done .none).twFault x.port 6 6 d.osnNext).pmbData x code (List.replicate n 0xFF)
    else let r := f pg d; (r.2.enter x.port.src (key pg) .done .none).pmbData x code r.1)

/-- A write of one object by a command (R348). -/
def pmbSet (d : Dev) (p : Src) (key : Nat) (bs : List Byte) : Dev :=
  (d.writeOp p key bs).answerWrite p (d.resolve p key bs).1 (d.decideWrite p key bs) d.osnNext

/-- The parts of a write to one object of each listed key (R180). -/
def writePart (d : Dev) (p : Src) (key : Nat) (bs : List Byte) (r : Reason) : Part :=
  ⟨key, bs, r, fun osn d => d.carryOut p key (valueOf key bs) osn, fun osn x => x.refusedAct p key (valueOf key bs) r osn⟩

/-- A write in parts, and its answer (R180, R345). -/
def pmbParts (d : Dev) (t : TwPort) (key : Nat) (bs : List Byte) (parts : List Part) : Dev :=
  let d1 := d.operateParts t.src key bs 1 parts
  (if parts.any (fun x => decide (x.rule ≠ .none)) then d1.twFault t 6 6 d.osnNext else d1).answering .ack

/-- The decision of a 16-bit number that a format gives, which may lie outside the object's type (R351). -/
def numRule (d : Dev) (p : Src) (key : Nat) (v : Int) : Reason :=
  if 0 ≤ v ∧ v ≤ 65535 then d.writeRule p key (leBytes 2 v) else if d.writeRule p key (leBytes 2 0) = .access then .access else .range

/-- A write of the word `w`, which gives the number `v`, to the object of the page's unit; on page FFh to that of every
multiphase rail (R180). -/
def pmbNumber (d : Dev) (x : TwFrame) (code : Nat) (key : Nat → Nat) (w : BitVec 16) (v : Int) : Dev :=
  d.pmbWrite x code (leBytes 2 w.toNat) (fun d =>
    let pg := d.pageOf x.port
    let p := x.port.src
    if pageKind pg = .ff then
      d.pmbParts x.port (key 0) (leBytes 2 v) ((List.range 8).map (fun n => d.writePart p (key n) (leBytes 2 v) (d.numRule p (key n) v)))
    else (d.writeAs p (key pg) (leBytes 2 v) (d.numRule p (key pg) v)).answerWrite p (key pg) (d.numRule p (key pg) v) d.osnNext)

/-- A R/W word in LINEAR16 (R350): the object of the page holds the word itself. -/
def pmbWord (d : Dev) (x : TwFrame) (code : Nat) (key : Nat → Nat) (w : Option (BitVec 16)) : Dev :=
  match w with
  | some w => d.pmbNumber x code key w w.toNat
  | none => d.pmbPaged x code 2 key (fun pg d => (leBytes 2 (d.num (key pg)), d))

/-- A R/W word in LINEAR11 with `scale` object units to one unit of the format (R350, R351). -/
def pmbLinear (d : Dev) (x : TwFrame) (code : Nat) (scale : Int) (key : Nat → Nat) (w : Option (BitVec 16)) : Dev :=
  match w with
  | some w => d.pmbNumber x code key w (lin11Value w.toNat scale)
  | none => d.pmbPaged x code 2 key (fun pg d => (leBytes 2 (lin11 (d.num (key pg)) scale), d))

/-- A R/W byte held by one object, whatever the page (R349, R350). -/
def pmbByte (d : Dev) (x : TwFrame) (code key : Nat) (b : Option Byte) : Dev :=
  match b with
  | some b => d.pmbWrite x code [b] (fun d => d.pmbSet x.port.src key [b])
  | none => d.pmbRead x code key (fun d => (leBytes 1 (d.num key), d))

/-- A read byte or block that never changes (R350). -/
def pmbConst (d : Dev) (x : TwFrame) (code : Nat) (bs : List Byte) : Dev := d.pmbRead x code (pageKey x.port) (fun d => (bs, d))

/-- A write of OPERATION (R180, R350): bit 7 writes `UNIT_ON`, bits 5 and 4 the margin state of a rail; on page FFh bit 7
requests power-up or power-down (R257) and the margin state goes to each multiphase rail. -/
def pmbOperate (d : Dev) (x : TwFrame) (b : Byte) : Dev :=
  d.pmbWrite x 0x01 [b] (fun d =>
    let pg := d.pageOf x.port
    let p := x.port.src
    let on := b.toNat / 128
    let m := b.toNat / 16 % 4
    let ok := [BitVec.ofNat 8 on]
    let mb := leBytes 1 m
    let margin := fun n => d.writePart p (K.MARGIN_STATE n) mb (d.writeRule p (K.MARGIN_STATE n) mb)
    let seq := [BitVec.ofNat 8 (2 - on)]
    match pageKind pg with
    | .ff => d.pmbParts x.port K.SEQ_CMD [b] (d.writePart p K.SEQ_CMD seq (d.writeRule p K.SEQ_CMD seq) :: (List.range 8).map margin)
    | .mp =>
      d.pmbParts x.port (K.UNIT_ON pg) [b] [d.writePart p (K.UNIT_ON pg) ok (d.writeRule p (K.UNIT_ON pg) ok), margin (pageUnit pg)]
    | _ => d.pmbSet p (K.UNIT_ON pg) ok)

/-- A read of OPERATION (R350). -/
def pmbOperation (d : Dev) (x : TwFrame) (b : Option Byte) : Dev :=
  match b with
  | some b => d.pmbOperate x b
  | none =>
    d.pmbPaged x 0x01 1 K.UNIT_ON (fun pg d =>
      let m := if pg < 8 then d.nat (K.MARGIN_STATE pg) else 0
      (leBytes 1 (128 * b2n (d.unitOn pg) + (match m with | 1 => 0x18 | 2 => 0x28 | _ => 0) : Nat), d))

/-- The `CLEAR_FAULTS` object of a unit (R353). -/
def clearKey (u : Nat) : Nat := if u < 8 then K.CLEAR_FAULTS u else if u < 14 then K.BK_CLEAR_FAULTS (u - 8) else K.LDO_CLEAR_FAULTS (u - 14)

/-- CLEAR_FAULTS of a page clears its latched bits and STATUS_CML, and writes the unit's own object (R353). -/
def clearPage (d : Dev) (t : TwPort) (pg : Nat) : Dev :=
  let d1 := (d.pageClear (pageIx pg)).modTw t (fun x => { x with cml := 0 })
  if pg < 18 then { d1 with pendT := d1.pendT ++ [(clearKey pg, .num 1)] } else d1

/-- Every page (R349). -/
def allPages : List Nat := List.range 18 ++ (List.range 32).map (· + 32)

/-- CLEAR_FAULTS (R353, R354). -/
def pmbClearFaults (d : Dev) (x : TwFrame) : Dev :=
  d.pmbWrite x 0x03 [] (fun d =>
    let pg := d.pageOf x.port
    let pages := if pageKind pg = .ff then allPages else [pg]
    let key := if pg < 18 then clearKey pg else pageKey x.port
    (d.operate x.port.src key [] 1 false .none (fun _ d => (pages.foldl (fun d pg => d.clearPage x.port pg) d).alertRelease)
      (fun _ d => d)).answering .ack)

/-- A latched status register of a page (R352). -/
def statusReg (d : Dev) (pg : Nat) (r : StReg) : Int :=
  let g := vget d.pages (pageIx pg)
  match r with | .vout => g.vout | .iout => g.iout | .inp => g.inp | .temp => g.temp | .mfr => g.mfr

/-- A write of 1 clears latched bits of a register on the pages it addresses (R353). -/
def statusClear (d : Dev) (pg : Nat) (r : StReg) (b : Byte) : Dev :=
  (if pageKind pg = .ff then List.range 8 else [pg]).foldl (fun d pg =>
    (List.range 8).foldl (fun d i => if b.toNat.testBit i then d.stBit (pageIx pg) r i false else d) d) d

/-- STATUS_VOUT to STATUS_MFR_SPECIFIC (R350, R352, R353). -/
def pmbStatus (d : Dev) (x : TwFrame) (code : Nat) (r : StReg) (b : Option Byte) : Dev :=
  match b with
  | none => d.pmbPaged x code 1 (fun _ => pageKey x.port) (fun pg d => (leBytes 1 (d.statusReg pg r), d))
  | some b =>
    d.pmbWrite x code [b] (fun d =>
      let pg := d.pageOf x.port
      (d.operate x.port.src (pageKey x.port) [b] 1 false .none (fun _ d => d.statusClear pg r b) (fun _ d => d)).answering .ack)

/-- STATUS_CML (R350, R352, R353). -/
def pmbStatusCml (d : Dev) (x : TwFrame) (b : Option Byte) : Dev :=
  match b with
  | none => d.pmbPaged x 0x7E 1 (fun _ => pageKey x.port) (fun _ d => (leBytes 1 (d.tw x.port).cml, d))
  | some b =>
    d.pmbWrite x 0x7E [b] (fun d =>
      (d.operate x.port.src (pageKey x.port) [b] 1 false .none
        (fun _ d => d.modTw x.port (fun t => { t with cml := Int.ofNat (t.cml.toNat - (t.cml.toNat &&& b.toNat)) })) (fun _ d => d)).answering .ack)

/-- STATUS_BYTE and STATUS_WORD (R350, R352). -/
def pmbStatusWord (d : Dev) (x : TwFrame) (code n : Nat) : Dev :=
  d.pmbPaged x code n (fun _ => pageKey x.port) (fun pg d => (leBytes n (d.statusWord (pageIx pg) (d.tw x.port).cml), d))

/-- READ_VIN (R350). -/
def pmbReadVin (d : Dev) (x : TwFrame) : Dev :=
  d.pmbPaged x 0x88 2 (fun _ => K.VIN_VALUE) (fun _ d => (leBytes 2 (lin11 (d.num K.VIN_VALUE) 65536), d))

/-- The object of a page that a measurement rests on. -/
def measKey (mp bk ldo ph : Nat → Nat) (pg : Nat) : Nat :=
  let u := pageUnit pg
  match pageKind pg with | .mp => mp u | .bk => bk u | .ldo => ldo u | _ => ph u

/-- READ_VOUT (R350): LINEAR16 at exponent −12. -/
def pmbReadVout (d : Dev) (x : TwFrame) : Dev :=
  d.pmbPaged x 0x8B 2 (measKey K.READ_VOUT K.BK_READ_VOUT (fun l => K.HK_RAW (0x17 + l)) K.ISENSE) (fun pg d =>
    let u := pageUnit pg
    let v := match pageKind pg with
      | .mp => roundDiv ((d.roNum (K.READ_VOUT u)).getD 0) 16
      | .bk => roundDiv (d.num (K.BK_READ_VOUT u)) 16
      | _ => roundDiv (d.ldoMv u * 4096) 1000
    (leBytes 2 (clampI 0 65535 v), d))

/-- READ_IOUT (R350). -/
def pmbReadIout (d : Dev) (x : TwFrame) : Dev :=
  d.pmbPaged x 0x8C 2 (measKey K.READ_IOUT K.BK_READ_IOUT K.ISENSE K.ISENSE) (fun pg d =>
    let u := pageUnit pg
    let w := match pageKind pg with
      | .mp => lin11 ((d.roNum (K.READ_IOUT u)).getD 0) 16
      | .bk => lin11 (d.num (K.BK_READ_IOUT u)) 1000
      | _ => lin11 (d.num (K.ISENSE u)) 256
    (leBytes 2 w, d))

/-- READ_TEMPERATURE_1 (R350). -/
def pmbReadTemperature (d : Dev) (x : TwFrame) : Dev :=
  d.pmbPaged x 0x8D 2 (measKey (fun _ => K.SG_TEMP 0) (fun _ => K.DIE_TEMP 0) (fun _ => K.DIE_TEMP 0) (fun p => K.SG_TEMP (p / 4))) (fun pg d =>
    let u := pageUnit pg
    let r := match pageKind pg with
      | .mp => d.railTemp u
      | .ph => (d.num (K.SG_TEMP (u / 4)), d)
      | _ => (d.num (K.DIE_TEMP 0), d)
    (leBytes 2 (lin11 r.1 16), r.2))

/-- OBJ_SELECT (R357): a read gives the selection; a write that has not three bytes is refused. -/
def objSelect (d : Dev) (x : TwFrame) (bs : List Byte) : Dev :=
  match bs with
  | [] => d.pmbRead x 0xD0 (pageKey x.port) (fun d => let s := (d.tw x.port).sel; (block (leBytes 2 (s / 256 : Nat) ++ leBytes 1 (s % 256 : Nat)), d))
  | [a, b, c] =>
    d.pmbWrite x 0xD0 (block bs) (fun d =>
      ((d.enter x.port.src (pageKey x.port) .done .none).modTw x.port (fun t => { t with sel := ofLe [a, b] * 256 + c.toNat })).answering .ack)
  | _ => d.pmbWrite x 0xD0 (block bs) (fun d => d.pmbBad x.port 6 6 (if bs.length < 3 then .ack else .nack))

/-- OBJ_DATA (R357): a write, or a read of at most 255 bytes. -/
def objData (d : Dev) (x : TwFrame) (bs : Option (List Byte)) : Dev :=
  match bs with
  | some bs => d.pmbWrite x 0xD1 (block bs) (fun d => d.pmbSet x.port.src (d.tw x.port).sel bs)
  | none =>
    d.pmbAsk x 0xD1 (fun d =>
      let key := (d.tw x.port).sel
      let r := d.readRule x.port.src key
      if r ≠ .none then d.readRefused x.port.src key r
      else
        let v := d.readOp x.port.src key
        if v.1.length > 255 then d.readRefused x.port.src key .length else v.2.pmbData x 0xD1 (block v.1))

/-- OBJ_RESULT (R357). -/
def objResult (d : Dev) (x : TwFrame) : Dev :=
  d.pmbRead x 0xD2 (pageKey x.port) (fun d =>
    let t := d.tw x.port
    let busy := d.ops.any (fun e => e.osn == t.lastOsn && e.st == .running)
    let st : Nat := if busy then 1 else if t.lastReason ≠ .none then 2 else 0
    (block (leBytes 4 t.lastOsn ++ leBytes 1 st ++ leBytes 1 t.lastReason.code ++ [0, 0]), d))

/-- UNSUPPORTED_COMMAND (R345): a command byte that the target does not take on the present page. -/
def unsupportedCommand (d : Dev) (t : TwPort) (code : Nat) : Dev :=
  let svcBulk := decide (t = .svc) && decide (code = 0xE0)
  if cmdOk code (d.pageOf t) || svcBulk then d else d.atPort t.src (fun d => d.pmbUnsupported t)

/-- QUICK_COMMAND (R344). -/
def quickCommand (d : Dev) (t : TwPort) : Dev := if d.twLive t then d.answering .ack else d.answering .nack

/-- ALERT_RESPONSE (R354): the target address, with PEC (R346) where the read is clocked for one. -/
def alertResponse (d : Dev) (won pec : Bool) : Dev :=
  if !d.twLive .pmb then d
  else if d.alert then
    let bs := leBytes 1 (2 * d.nat K.PMB_ADDR : Nat)
    if won then ({ d with alert := false }.cause 98 0x11).answering (.data (if pec then bs ++ leBytes 1 (pecOf (0x19 :: bs)) else bs))
    else d
  else d.answering .nack

/-- TARGET_TIMEOUT (R338). -/
def targetTimeout (d : Dev) (t : TwPort) : Dev := if d.twLive t then d.twFault t 1 3 0 else d

/-- UNEXPECTED_START (R339). -/
def unexpectedStart (d : Dev) (t : TwPort) : Dev := if d.twLive t then d.twFault t 1 2 0 else d

end Dev

end Sys2Proof.Machine
end

