-- ==== Sys2Proof/Machine/TwoWire.lean ====
section
/-! DEFINITION. The bulk port and BULK_ACCESS (R358–R362), and the controllers of the PMBus and LB buses (R340–R343, R355, R356,
R363–R365). Notes, logs 29 and 30. -/

namespace Sys2Proof.Machine

/-- The addresses that a write of `n` bytes reaches from a pointer, with the wrap within its 32-byte page (R360). -/
def pageAddrs (ptr n : Nat) : List Nat := (List.range n).map (fun i => ptr / 32 * 32 + (ptr + i) % 32)

namespace Dev

/-- The bulk side of a port: 0 the bulk port, 1 SVC (R370). -/
def bulkIx (t : TwPort) : Nat := match t with | .pmb => 0 | .svc => 1

/-- The address of the bulk port (R502): 50h and the level of ADDRSEL, none where the strap selects none. -/
def bulkAddr (d : Dev) : Option Nat := d.board.addrsel.map (0x50 + ·)

/-- Does the port take bulk transfers now (R366, R368, R502)? -/
def bulkLive (d : Dev) (t : TwPort) : Bool :=
  d.twLive t && (match t with | .pmb => d.bulkAddr.isSome && decide (d.effNum K.PMB_CONFIG % 2 = 1) | .svc => true)

/-- The window code of a port, and the object named for window FF00h. -/
def bulkWindow (d : Dev) (t : TwPort) : Nat := d.nat (K.BULK_WINDOW (bulkIx t))
/-- The object named by `BULK_OBJECT`. -/
def bulkNamed (d : Dev) (t : TwPort) : Nat := d.nat (K.BULK_OBJECT (bulkIx t))

/-- The bulk pointer moves. -/
def bulkPoint (d : Dev) (t : TwPort) (a : Nat) : Dev := d.modTw t (fun x => { x with ptr := a % 65536 })

/-- A NACK of the bulk protocol with its code (R362). -/
def bulkNack (d : Dev) (t : TwPort) (code : Nat) : Dev := (d.twEvent t code 0).answering .nack

/-- Take a bulk transfer at its first byte (R362). -/
def bulkOpen (d : Dev) (t : TwPort) (f : Dev → Dev) : Dev :=
  if !d.bulkLive t then d.answering .nack
  else if !d.opsOpen then d.bulkNack t 4
  else if !d.hasEntry t.src then (d.bump K.OP_OVERLOAD_COUNT 32).bulkNack t 4
  else f d

/-- Why the window cannot be read at this moment, by capture state or level (R359, R362). -/
def bulkBlocked (d : Dev) (t : TwPort) : Bool :=
  let w := d.bulkWindow t
  let p := t.src
  if w ≤ 5 then decide (d.cap.st ≠ .done) || decide (d.level p < 2)
  else if 0x400 ≤ w ∧ w ≤ 0x40F then decide (d.level p < 3)
  else if w = 0xFF00 then let r := d.readRule p (d.bulkNamed t); decide (r = .access) || decide (r = .busy)
  else false

/-- Does the window or the level forbid a write (R359, R362)? -/
def bulkForbids (d : Dev) (t : TwPort) : Bool :=
  let w := d.bulkWindow t
  if 0x200 ≤ w ∧ w ≤ 0x20F then decide (d.level t.src < 2)
  else if w = 0xFF00 then
    match objRow (d.bulkNamed t) with
    | some r => decide (r.acc = .ro) || decide (d.level t.src < r.level)
    | none => false
  else true

/-- The bytes of the coefficient window of an engine (R359). -/
def coefBytes (d : Dev) (e : Nat) : List Byte :=
  let bank := fun b => (List.range 256).flatMap (fun c => let k := d.coefRaw e b c; (Val.coef k.1 k.2).encode .coef)
  bank false ++ bank true ++ leBytes 1 (d.num (coefKey e false 256)) ++ leBytes 1 (d.num (coefKey e true 256))

/-- The bytes of a window from byte 0, the device after the snapshot, and the object the read is an operation on (R359); `reads`
tells the bytes that are read. -/
def windowBytes (d : Dev) (t : TwPort) (reads : List Nat) : Nat × List Byte × Dev :=
  let w := d.bulkWindow t
  if w ≤ 5 then (K.CAP_DATA, slice d.capData (65536 * w) 65536, d)
  else if w = 0x100 then
    let c := d.nat (K.LOG_CURSOR (bulkIx t))
    let d1 := d.logMeet c (fun r => reads.any (fun a => a / 32 == r))
    (K.LOG_WINDOW (bulkIx t), (List.range 2048).flatMap (fun r => d1.logAt (c + r)), d1)
  else if w < 0x400 then (coefKey (w - 0x200) false 0, d.coefBytes (w - 0x200), d)
  else if w < 0x500 then (K.STATE_VIEW (w - 0x400), d.stateView (w - 0x400))
  else (d.bulkNamed t, d.readObj (d.bulkNamed t))

/-- A read of `n` bytes from the pointer, which wraps at the end of the window (R358, R361). -/
def bulkReadOp (d : Dev) (t : TwPort) (n : Nat) : Dev :=
  let p := t.src
  if d.bulkBlocked t then d.bulkNack t 6
  else if d.bulkWindow t = 0xFF00 ∧ d.readRule p (d.bulkNamed t) ≠ .none then
    d.readRefused p (d.bulkNamed t) (d.readRule p (d.bulkNamed t))
  else
    let ptr := (d.tw t).ptr
    let as := (List.range n).map (fun i => (ptr + i) % 65536)
    let w := d.windowBytes t as
    let bs := as.map (fun a => w.2.1.getD a 0)
    ((w.2.2.enter p w.1 .done .none).bulkPoint t (ptr + n)).answering (.data bs)

/-- The entries of a coefficient window that addresses reach: bank and number; 256 is the tag (R359). -/
def coefAt (a : Nat) : Bool × Nat := if a < 0x1000 then (decide (a ≥ 0x800), a % 0x800 / 8) else (decide (a = 0x1001), 256)

/-- The byte that a write leaves at an address: the last one written there (R360). -/
def lastByte (as : List Nat) (bs : List Byte) (a : Nat) : Byte :=
  match ((as.zip bs).reverse.find? (fun x => x.1 == a)) with
  | some x => x.2
  | none => 0

/-- The objects that a coefficient write changes, with their bytes. -/
def coefWrites (e : Nat) (as : List Nat) (bs : List Byte) : List (Nat × List Byte) :=
  let starts := as.eraseDups.filter (fun a => decide (a ≥ 0x1000) || decide (a % 8 = 0))
  starts.map (fun a =>
    let k := coefAt a
    (coefKey e k.1 k.2, if a < 0x1000 then (List.range 8).map (fun i => lastByte as bs (a + i)) else [lastByte as bs a]))

/-- The form of a write into a coefficient window (R360). -/
def coefForm (ptr n : Nat) (as : List Nat) : Bool :=
  if ptr < 0x1000 then decide (ptr % 8 = 0) && decide (n % 8 = 0) else decide (n ≤ 2) && as.all (fun a => decide (a ≤ 0x1001))

/-- How a write of several coefficients is decided: its form, then each entry, as a whole (R119, R122, R360). -/
def coefRuleAll (d : Dev) (p : Src) (form : Bool) (ws : List (Nat × List Byte)) : Reason :=
  if !form then .range
  else match ws.find? (fun w => decide (d.writeRule p w.1 w.2 ≠ .none)) with
    | some w => d.writeRule p w.1 w.2
    | none => .none

/-- Every entry of an accepted write takes its value (R119). -/
def coefStore (ws : List (Nat × List Byte)) (d : Dev) : Dev := ws.foldl (fun d w => d.holdWrite w.1 (valueOf w.1 w.2)) d

/-- What follows an accepted bulk write (R358, R360). -/
def bulkWrote (d : Dev) (t : TwPort) (last : Nat) (bs : List Byte) : Dev :=
  (d.setNum (K.BULK_LAST_CRC (bulkIx t)) (crc32 bs)).bulkPoint t last

/-- A refused bulk write commits 06h (R367). -/
def bulkRefused (t : TwPort) (osn : Nat) (d : Dev) : Dev := d.twEvent t 6 osn

/-- A write into a coefficient window (R360). -/
def bulkCoef (d : Dev) (t : TwPort) (e ptr : Nat) (bs : List Byte) : Dev :=
  let as := pageAddrs ptr bs.length
  let ws := coefWrites e as bs
  let r := d.coefRuleAll t.src (coefForm ptr bs.length as) ws
  let k := coefAt (ptr % 0x1002)
  d.operate t.src (coefKey e k.1 k.2) (bs.take 4) 2 false r
    (fun _ d => (coefStore ws d).bulkWrote t (ptr / 32 * 32 + (ptr + bs.length) % 32) bs) (bulkRefused t)

/-- A write into the staging buffer (R361). -/
def bulkStage (d : Dev) (t : TwPort) (ptr : Nat) (bs : List Byte) : Dev :=
  let as := pageAddrs ptr bs.length
  let r : Reason := if as.all (fun a => decide (a < 19200)) then .none else .range
  d.operate t.src (K.BULK_OBJECT (bulkIx t)) (bs.take 4) 0 false r
    (fun _ d => (d.modTw t (fun x => { x with staging := (as.zip bs).foldl (fun m y => patch m y.1 [y.2]) x.staging })).bulkWrote t
      (ptr / 32 * 32 + (ptr + bs.length) % 32) bs) (bulkRefused t)

/-- A bulk write (R358, R360–R362): the pointer, whose low byte a window that cannot be read NACKs, and the data where there are
any. -/
def bulkWriteAt (d : Dev) (t : TwPort) (ptr : Nat) (bs : List Byte) : Dev :=
  d.bulkOpen t (fun d =>
    let w := d.bulkWindow t
    let d1 := d.bulkPoint t ptr
    if d.bulkBlocked t then d.bulkNack t 6
    else if bs = [] then d1.answering .ack
    else if d.bulkForbids t then d1.bulkNack t 6
    else (if w = 0xFF00 then d1.bulkStage t ptr bs else d1.bulkCoef t (w - 0x200) ptr bs).answering .ack)

/-- BULK_WRITE (R360). -/
def bulkWrite (d : Dev) (ptr : Nat) (bs : List Byte) : Dev := d.bulkWriteAt .pmb ptr bs

/-- BULK_READ (R358): from the present pointer. -/
def bulkRead (d : Dev) (n : Nat) : Dev := d.bulkOpen .pmb (fun d => d.bulkReadOp .pmb n)

/-- BULK_ACCESS (R358): the bulk protocol behind command byte E0h of SVC, whose writes `PMB_WRITE_PROTECT` can block (R345). -/
def bulkAccess (d : Dev) (write : Bool) (ptr : Nat) (bs : List Byte) (n : Nat) : Dev :=
  if write then
    if d.twLive .svc && d.opsOpen && d.hasEntry .svc && protects (d.nat K.PMB_WRITE_PROTECT) 0xE0 then d.pmbBad .svc 6 6 .nack
    else d.bulkWriteAt .svc ptr bs
  else d.bulkOpen .svc (fun d => if d.bulkBlocked .svc then d.bulkNack .svc 6 else (d.bulkPoint .svc ptr).bulkReadOp .svc n)

/-- The event of a controller, counted where its code is (R367–R369). -/
def ctrlEvent (d : Dev) (lb : Bool) (code : Nat) : Dev :=
  let d1 := d.cause (if lb then 99 else 98) code
  match [1, 2, 3, 4, 7, 8, 11].findIdx? (· == code) with
  | some i => d1.bump (if lb then K.LB_ERR_COUNT i else K.PMB_ERR_COUNT i) 32
  | none => d1

/-- A controller. -/
def ctrl (d : Dev) (lb : Bool) : TwCtrl := if lb then d.lbCtrl else d.pmbCtrl

/-- Change a controller. -/
def modCtrl (d : Dev) (lb : Bool) (f : TwCtrl → TwCtrl) : Dev :=
  if lb then { d with lbCtrl := f d.lbCtrl } else { d with pmbCtrl := f d.pmbCtrl }

/-- A transfer ends failed with its code (R355). -/
def xferFail (d : Dev) (lb : Bool) (code : Nat) : Dev :=
  d.modCtrl lb (fun c => if c.busy then { c with busy := false, started := false, deferred := false, result := leBytes 1 (3 : Nat) ++ leBytes 1 code ++ [0, 0] } else c)

/-- The read length of a descriptor (R355). -/
def xferReads (c : TwCtrl) : Nat := (c.desc.getD 3 0).toNat

/-- XFER_COMPLETE (R355): done, with at most the bytes that the descriptor reads, or failed; LB first makes the retries of
`LB_RETRY_COUNT` (R369). A wrong PEC is told by code 01h (R367). -/
def xferComplete (d : Dev) (lb : Bool) (status : Nat) (bs : List Byte) : Dev :=
  let c := d.ctrl lb
  if !c.started then d
  else if status = 0 then
    let got := bs.take (xferReads c)
    d.modCtrl lb (fun c => { c with
      busy := false, started := false, deferred := false, result := leBytes 1 (2 : Nat) ++ [0] ++ leBytes 1 got.length ++ [0] ++ got })
  else
    let d1 := if status = 6 then d.ctrlEvent lb 1 else d
    if lb && decide ((c.retries : Int) < d.num K.LB_RETRY_COUNT) then d1.modCtrl lb (fun c => { c with retries := c.retries + 1 })
    else d1.xferFail lb status

/-- An error met by the transfer of LB that is not `LB_XFER` (R340, R341, R363): it is retried up to `LB_RETRY_COUNT` times, or has
failed where its time is over. -/
def jobError (d : Dev) (code : Nat) (over_ : Bool) : Dev :=
  let d1 := d.ctrlEvent true code
  match d.lbNext with
  | some j =>
    if over_ || decide ((d.lbCtrl.tries : Int) ≥ d.num K.LB_RETRY_COUNT) then d1.lbFail j
    else d1.modCtrl true (fun c => { c with tries := c.tries + 1 })
  | none => d1

/-- BUS_ERROR (R340): a START or STOP that the controller did not generate. On LB the transfer may be a stage read or an alert
read. -/
def busError (d : Dev) (lb : Bool) : Dev :=
  if (d.ctrl lb).started then (d.xferFail lb 4).ctrlEvent lb 8
  else if lb && d.lbLive && d.supRuns then d.jobError 8 false else d

/-- CONTROLLER_TIMEOUT (R341): after 25 ms no stage read can complete within its 2 ms (R363). -/
def controllerTimeout (d : Dev) (lb : Bool) : Dev :=
  if (d.ctrl lb).started then (d.xferFail lb 5).ctrlEvent lb 0x0C
  else if lb && d.lbLive && d.supRuns then d.jobError 0x0C true else d

/-- ARBITRATION_LOST (R340, R356): on LB a bus error; on PMBus during an own address the device becomes target, otherwise
the transfer is retried up to `PMB_RETRY_COUNT` times. -/
def arbitrationLost (d : Dev) (lb own : Bool) : Dev :=
  let c := d.ctrl lb
  if lb then d.busError true
  else if !c.started then d
  else if own then d.modCtrl false (fun c => { c with deferred := true })
  else
    let d1 := d.ctrlEvent false 7
    if (c.retries : Int) < d.num K.PMB_RETRY_COUNT then d1.modCtrl false (fun c => { c with retries := c.retries + 1, deferred := false })
    else d1.xferFail false 3

/-- The transfers that wait for a stuck LB fail (R342, R363). -/
def lbStuck (d : Dev) (lb : Bool) : Dev := if lb then d.lbWait.foldl lbFail d else d

/-- BUS_RECOVERY (R342): nine clocks free SDA, or the bus is stuck; with SCL held low no clock can be sent. -/
def busRecovery (d : Dev) (lb freed sclLow : Bool) : Dev :=
  if !d.ctrlOn lb then d
  else if sclLow then (((d.modCtrl lb (fun c => { c with sclStuck := true })).lbStuck lb).xferFail lb 7).ctrlEvent lb 0x0A
  else if freed then (d.modCtrl lb (fun c => { c with busStuck := false, sclStuck := false })).ctrlEvent lb 0x0B
  else (((d.modCtrl lb (fun c => { c with busStuck := true, sclStuck := false })).lbStuck lb).xferFail lb 7).ctrlEvent lb 9

/-- The bytes that the Read Word of a stage's status sends (R363). -/
def stageAsk (d : Dev) (p : Nat) : List Byte :=
  let a := 2 * d.nat (K.LB_STAGE_ADDR p)
  leBytes 1 (a : Nat) ++ leBytes 1 (d.num K.LB_STAGE_STATUS_CMD) ++ leBytes 1 (a + 1 : Nat)

/-- Is the PEC of a stage's answer wrong (R346, R363)? -/
def stagePecBad (d : Dev) (p : Nat) (x : StageAnswer) : Bool :=
  match x.word with
  | some w => bitAt (d.effNum K.LB_CONFIG) 1 && decide (x.pec.toNat ≠ pecOf (d.stageAsk p ++ leBytes 2 w.toNat))
  | none => false

/-- STAGE_STATUS_READ (R228, R363, R364): the read of a listed stage that is next on LB ends with its answer; it has failed where
none came, or its PEC is wrong. -/
def stageStatusRead (d : Dev) (p : Nat) (x : StageAnswer) : Dev :=
  let bad := d.stagePecBad p x
  let w := if bad then none else x.word
  let put := fun d : Dev =>
    let d1 := d.modCtrl true (fun c => { c with sent := d.stageAsk p })
    if bad then d1.ctrlEvent true 1 else d1
  if d.lbLive && d.supRuns then
    if d.lbTurn (.sgRead p) then
      let d1 := (put d).lbDrop (.sgRead p)
      match w with
      | some w => d1.stageReport p w
      | none => d1
    else if d.lbTurn (.qualRead p) then ((put d).lbDrop (.qualRead p)).qualRead p w
    else d
  else d

/-- One address of an alert burst (R365): the eight latest are kept, and EV99 20h carries the address and the status word
where the device is listed. -/
def lbAlertOne (d : Dev) (x : BitVec 7 × BitVec 16) : Dev :=
  let a := x.1.toNat
  let d1 := (List.range 7).foldl (fun d i => d.setNum (K.LB_ALERT_ADDR (7 - i)) (d.num (K.LB_ALERT_ADDR (6 - i)))) d
  let listed := (List.range 32).any (fun p => decide (d.num (K.LB_STAGE_ADDR p) = a))
  (d1.setNum (K.LB_ALERT_ADDR 0) a).causeArg 99 0x20 0 (leBytes 1 a ++ [0] ++ leBytes 2 (if listed then x.2.toNat else 0))

/-- LB_ALERT_SERVICE (R364, R365), where no transfer goes before it, else it waits for its turn: the addresses received, each with
its status word, until the line is released; an alert response that is not acknowledged, or `LB_ALERT_MAX` reads, with the
line still low leave it stuck. -/
def lbAlertService (d : Dev) (xs : List (BitVec 7 × BitVec 16)) (released : Bool) : Dev :=
  let d0 := d.lbAsk .alert
  if !(d.lbLive && d.supRuns) then d
  else if !d0.lbTurn .alert then d0
  else
    let d := d0.lbDrop .alert
    let m := d.nat K.LB_ALERT_MAX
    let now := xs.take m
    let d1 := now.foldl lbAlertOne d
    if released && decide (xs.length ≤ m) then d1.modCtrl true (fun c => { c with alertStuck := false, alertReads := 0 })
    else (d1.modCtrl true (fun c => { c with alertStuck := true, alertReads := now.length })).ctrlEvent true 0x21

end Dev

end Sys2Proof.Machine
end

