-- ==== Sys2Proof/Machine/Can.lean ====
section
/-! DEFINITION. SDO servers (R387), process data (R388–R390) and the bulk extension (R394–R399). Notes, logs 31 and 32. -/

namespace Sys2Proof.Machine

/-- The key of an index and a sub-index. -/
def objKey (index : BitVec 16) (sub : BitVec 8) : Nat := index.toNat * 256 + sub.toNat

namespace Dev

/-- The server ends its transfer with an abort (R387). -/
def sdoEnd (d : Dev) (b : Bus) (code : Nat) : Dev := (d.setSdo b .idle).sdoAbort b.src code

/-- A request to an SDO server (R387, R400): an unknown command specifier is answered with an abort. -/
def onSdo (d : Dev) (f : SdoFrame) (go : Dev → Dev) : Dev :=
  d.onCan f.toCanFrame (fun d => if f.unknown then (if d.canServes f.bus then d.sdoEnd f.bus 0x05040001 else d) else go d)

/-- SDO_INITIATE_DOWNLOAD (R387): an initiate ends any transfer in progress; an expedited write is an operation at once, and a
segmented one reserves its entry (R375). -/
def sdoInitDown (d : Dev) (b : Bus) (key : Nat) (expedited : Bool) (size : Option Nat) (bs : List Byte) : Dev :=
  if d.canServes b then
    let d1 := d.setSdo b .idle
    if expedited then d1.hostWrite b.src key bs
    else d1.atPort b.src (fun d => (d.setSdo b (.down key size [] false)).reply b.src .ack)
  else d

/-- SDO_DOWNLOAD_SEGMENT (R387): the write is entered with its last segment. -/
def sdoDownSegment (d : Dev) (b : Bus) (toggle last : Bool) (bs : List Byte) : Dev :=
  if d.canServes b then
    match (d.port b).sdo with
    | .down key size acc t =>
      if toggle ≠ t then d.sdoEnd b 0x05030000
      else if last then
        let all := acc ++ bs
        if size.isSome ∧ size ≠ some all.length then d.sdoEnd b 0x06070010 else (d.setSdo b .idle).hostWrite b.src key all
      else (d.setSdo b (.down key size (acc ++ bs) (!t))).reply b.src .ack
    | _ => d.sdoEnd b 0x05040001
  else d

/-- SDO_INITIATE_UPLOAD (R387): the snapshot is taken now; up to four bytes answer at once, a longer value with its size. -/
def sdoInitUp (d : Dev) (b : Bus) (key : Nat) : Dev :=
  if d.canServes b then
    (d.setSdo b .idle).atPort b.src (fun d =>
      if d.readRule b.src key ≠ .none then d.readRefused b.src key (d.readRule b.src key)
      else
        let x := d.readOp b.src key
        if 1 ≤ x.1.length ∧ x.1.length ≤ 4 then x.2.reply b.src (.data x.1)
        else (x.2.setSdo b (.up key x.1 false)).reply b.src (.data (leBytes 4 x.1.length)))
  else d

/-- SDO_UPLOAD_SEGMENT (R387): seven bytes of the snapshot. -/
def sdoUpSegment (d : Dev) (b : Bus) (toggle : Bool) : Dev :=
  if d.canServes b then
    match (d.port b).sdo with
    | .up key rest t =>
      if toggle ≠ t then d.sdoEnd b 0x05030000
      else (d.setSdo b (if rest.length ≤ 7 then .idle else .up key (rest.drop 7) (!t))).reply b.src (.data (rest.take 7))
    | _ => d.sdoEnd b 0x05040001
  else d

/-- SDO_ABORT_TRANSFER (R387): the client ends the transfer. -/
def sdoClientAbort (d : Dev) (b : Bus) : Dev := if d.canServes b then d.setSdo b .idle else d

/-- SDO_TIMEOUT (R387). -/
def sdoTimeout (d : Dev) (b : Bus) : Dev := if d.canServes b && decide ((d.port b).sdo ≠ .idle) then d.sdoEnd b 0x05040000 else d

/-- Frames are added to those that the command already put out. -/
def addFrames (d : Dev) (fs : List (Nat × List Byte)) : Dev :=
  if fs = [] then d
  else match d.answer with
    | .frames gs => d.answering (.frames (gs ++ fs))
    | _ => d.answering (.frames fs)

/-- The object of an SDO transfer in progress. -/
def sdoKey : Sdo → Option Nat
  | .idle => none
  | .down key _ _ _ => some key
  | .up key _ _ => some key

/-- The device aborts the SDO transfer of a bus on its own (R387): the abort is put out on the bus, and told by EV103 17h. -/
def sdoBreak (d : Dev) (code : Nat) (b : Bus) : Dev :=
  match sdoKey (d.port b).sdo with
  | some key =>
    let f := [0x80] ++ leBytes 2 (key / 256 : Nat) ++ leBytes 1 (key % 256 : Nat) ++ leBytes 4 code
    let d1 := (d.setSdo b .idle).causeArg 103 0x17 0 (leBytes 4 code)
    if d.portSends b then d1.addFrames [(onBus b (0x580 + d.node.id), f)] else d1
  | none => d

/-- Before the edge of a switch-over that is due, the SDO transfers in progress are aborted (R447). -/
def fwAbort (d : Dev) : Dev := if d.fw.switchDue then buses.foldl (fun d b => d.sdoBreak 0x08000022 b) d else d

/-- The objects of a PDO mapping with their lengths in bytes (R389). -/
def pdoMap (d : Dev) (idx : Nat) : List (Nat × Nat) :=
  (List.range (d.nat (idx * 256))).map (fun i => let v := d.nat (idx * 256 + 1 + i); (v / 256, v % 256 / 8))

/-- The writes that the bytes of an RPDO make. -/
def pdoWrites : List (Nat × Nat) → List Byte → List (Nat × List Byte)
  | [], _ => []
  | (k, n) :: t, bs => (k, bs.take n) :: pdoWrites t (bs.drop n)

/-- One write of several that are one operation (R390). -/
def carryOne (p : Src) (osn : Nat) (d : Dev) (w : Nat × List Byte) : Dev :=
  let x := d.resolve p w.1 w.2
  (d.carryOut p x.1 (valueOf x.1 x.2) osn).clearStaged w.1 .none

/-- The first refused write of an RPDO. -/
def pdoRefused (d : Dev) (p : Src) (ws : List (Nat × List Byte)) : Option (Nat × List Byte) :=
  ws.find? (fun w => decide (d.decideWrite p w.1 w.2 ≠ .none))

/-- The operation of an RPDO: every mapped object, as a whole (R390). -/
def rpdoOperate (d : Dev) (p : Src) (ws : List (Nat × List Byte)) : Dev :=
  let bad := d.pdoRefused p ws
  let w := bad.getD (ws.headD (0, []))
  let r := match bad with | some x => d.decideWrite p x.1 x.2 | none => .none
  let level := (ws.map (fun w => match objRow w.1 with | some o => d.writeLevel o w.1 | none => 0)).foldl max 0
  d.operate p w.1 (recordFirst w.1 w.2) level false r (fun osn d => ws.foldl (carryOne p osn) d)
    (fun osn x => x.refusedAct p w.1 (valueOf w.1 w.2) r osn)

/-- The frame of an RPDO that waits enters its operation once its interval is over and the table takes an entry (R377, R390).
A frame whose mapping has changed its length since is ignored. -/
def rpdoEnter (d : Dev) (r : Nat) : Dev :=
  match vget d.node.rpdoHeld r with
  | some (b, bs) =>
    let m := d.pdoMap (0x1600 + r)
    if d.opsOpen && decide (vget d.node.rpdoLeft r = 0) && d.hasEntry b.src then
      let d1 := { d with node := { d.node with
        rpdoHeld := vset d.node.rpdoHeld r none, rpdoLeft := vset d.node.rpdoLeft r (d.nat K.RPDO_MIN_INTERVAL * 1000) } }
      if m ≠ [] ∧ (m.map (fun x => x.2)).sum = bs.length then d1.rpdoOperate b.src (pdoWrites m bs) else d1
    else d
  | none => d

/-- A frame of an RPDO waits; one that waited is replaced and counted (R390). -/
def rpdoHold (d : Dev) (b : Bus) (r : Nat) (bs : List Byte) : Dev :=
  let d1 := match vget d.node.rpdoHeld r with | some (c, _) => d.canCount c 3 | none => d
  { d1 with node := { d1.node with rpdoHeld := vset d1.node.rpdoHeld r (some (b, bs)) } }

/-- The intervals of the RPDOs at an edge, `ns` after the edge before (R390). -/
def rpdoEdge (d : Dev) (ns r : Nat) : Dev :=
  ({ d with node := { d.node with rpdoLeft := vmod d.node.rpdoLeft r (fun x => x - ns) } } : Dev).rpdoEnter r

/-- RPDO (R390, R400). -/
def rpdo (d : Dev) (b : Bus) (r : Nat) (bs : List Byte) : Dev :=
  let idx := 0x1600 + r
  if d.canHears b && decide (d.node.nmt = .operational) && !(d.cobId (K.RPDO_COB_ID r)).testBit 31 then
    let m := d.pdoMap idx
    let n := (m.map (fun x => x.2)).sum
    if bs.length < n then (d.canCount b 4).cause 103 0x15
    else if bs.length > n then (d.canCount b 4).cause 103 0x16
    else if m = [] then d
    else (d.rpdoHold b r bs).rpdoEnter r
  else d

/-- The bytes of a TPDO (R388). -/
def tpdoBytes (d : Dev) (r : Nat) : List Byte := (d.pdoMap (0x1A00 + r)).flatMap (fun x => slice (d.readObj x.1).1 0 x.2)

/-- May a TPDO be sent (R384, R388)? -/
def tpdoValid (d : Dev) (r : Nat) : Bool :=
  decide (d.node.nmt = .operational) && !(d.cobId (K.TPDO_COB_ID r)).testBit 31 && decide (d.pdoMap (0x1A00 + r) ≠ [])

/-- The values of a TPDO: those of the latest edge, the present ones before the first (R388). -/
def tpdoNow (d : Dev) (r : Nat) : List Byte := if vget d.node.tpdoLast r = [] then d.tpdoBytes r else vget d.node.tpdoLast r

/-- A TPDO is due: sent on its buses, or held by its inhibit time (R383, R388). -/
def tpdoSend (d : Dev) (r : Nat) : Dev :=
  if d.tpdoValid r then
    if vget d.node.tpdoInhibit r then { d with node := { d.node with tpdoHeld := vset d.node.tpdoHeld r true } }
    else
      let bs := d.tpdoNow r
      let id := d.cobId (K.TPDO_COB_ID r) % 2048
      let d1 := d.addFrames ((d.outBuses.filter d.portSends).map (fun b => (onBus b id, bs)))
      { d1 with node := { d1.node with
          tpdoHeld := vset d1.node.tpdoHeld r false,
          tpdoInhibit := vset d1.node.tpdoInhibit r (decide (d.num (K.TPDO_INHIBIT r) ≠ 0)) } }
  else d

/-- TPDO_EVENT_TIMER (R388). -/
def tpdoTimer (d : Dev) (r : Nat) : Dev := if d.num (K.TPDO_EVENT_TIMER r) ≠ 0 then d.tpdoSend r else d

/-- TPDO_INHIBIT_END (R388): what the inhibit time held is sent. -/
def tpdoInhibitEnd (d : Dev) (r : Nat) : Dev :=
  let held := vget d.node.tpdoHeld r
  let d1 := { d with node := { d.node with tpdoInhibit := vset d.node.tpdoInhibit r false, tpdoHeld := vset d.node.tpdoHeld r false } }
  if held then d1.tpdoSend r else d1

/-- A TPDO at an edge: one of type 255 is sent when a mapped value has changed (R388). -/
def tpdoEdge (d : Dev) (r : Nat) : Dev :=
  if d.canLive then
    let bs := d.tpdoBytes r
    let old := vget d.node.tpdoLast r
    let d1 := { d with node := { d.node with tpdoLast := vset d.node.tpdoLast r bs } }
    if old ≠ [] ∧ old ≠ bs ∧ d.num (K.TPDO_TRANS_TYPE r) = 255 then d1.tpdoSend r else d1
  else d

/-- A frame of the device on the bulk extension's identifier (R394). -/
def bxtOut (d : Dev) (b : Bus) (bs : List Byte) : Dev :=
  if d.portSends b then d.addFrames [(onBus b ((d.effNum K.BXT_BASE).toNat + 0x80 + d.node.id), bs)] else d

/-- A control frame (R395): op, tag, byte 2, byte 3, counter, and the two words at bytes 8 and 12. -/
def bxtControl (op tag x2 x3 idx ctr w8 w12 : Nat) : List Byte :=
  leBytes 1 op ++ leBytes 1 tag ++ leBytes 1 x2 ++ leBytes 1 x3 ++ leBytes 2 idx ++ leBytes 2 ctr ++ leBytes 4 w8 ++ leBytes 4 w12

/-- A bulk transfer. -/
def bxt (d : Dev) (b : Bus) : Bxt := (d.port b).bxt

/-- Change a bulk transfer. -/
def modBxt (d : Dev) (b : Bus) (f : Bxt → Bxt) : Dev := d.modPort b (fun p => { p with bxt := f p.bxt })

/-- An ABORT of the device to a START under a tag, which it echoes (R395, R399). -/
def bxtRefuse (d : Dev) (b : Bus) (tag kind idx off len : Nat) (r : Reason) : Dev :=
  (d.bxtOut b (bxtControl 0x2F tag kind r.code idx 0 off len)).causeArg 103 0x18 0 (leBytes 1 r.code)

/-- The device aborts the running transfer (R399). -/
def bxtAbortNow (d : Dev) (b : Bus) (r : Reason) : Dev :=
  let t := d.bxt b
  (d.bxtOut b (bxtControl 0x2F t.tag t.kind r.code t.idx 0 t.off t.len)).bxtEnd b r

/-- How a READ_START is decided (R396, R397). -/
def bxtReadRule (d : Dev) (b : Bus) (kind unit idx block len : Nat) : Reason :=
  let p := b.src
  let target : Reason := match kind with
    | 1 => if d.level p < 2 then .access else if d.cap.st ≠ .done then .busy else .none
    | 2 => .none
    | 3 => if unit < 16 then .none else .range
    | 4 => if unit ≥ 16 then .range else if d.level p < 3 then .access else .none
    | 5 =>
      let key := idx * 256 + unit
      if d.readRule p key ≠ .none then d.readRule p key else if isDomain key then .none else .range
    | _ => .range
  if target ≠ .none then target else if len = 0 ∨ block = 0 ∨ block > 64 then .range else .none

/-- Positions of the log, main and spare (R405). -/
def logPositions : Nat := 64 * (mainBlocks + spareBlocks)

/-- The bytes that the target of a read holds (R396): of the log, every position from the cursor on. -/
def bxtHolds (d : Dev) (b : Bus) (kind unit idx : Nat) : Nat :=
  match kind with
  | 1 => d.capData.length
  | 2 => 32 * (logPositions - d.nat (K.LOG_CURSOR (match b with | .a => 2 | .b => 3)))
  | 3 => 4098
  | 4 => 2048
  | _ => (d.readObj (idx * 256 + unit)).1.length

/-- `n` bytes of the target of a read from an offset, and the device after the snapshot (R396): an empty position of the log
reads as R14 gives. -/
def bxtBytes (d : Dev) (b : Bus) (kind unit idx off n : Nat) : List Byte × Dev :=
  match kind with
  | 1 => (slice d.capData off n, d)
  | 2 =>
    let c := d.nat (K.LOG_CURSOR (match b with | .a => 2 | .b => 3))
    let d1 := d.logMeet c (fun r => decide (off / 32 ≤ r) && decide (32 * r < off + n))
    (slice ((List.range (n / 32 + 2)).flatMap (fun r => d1.logAt (c + off / 32 + r))) (off % 32) n, d1)
  | 3 => (slice (d.coefBytes unit) off n, d)
  | 4 => let x := d.stateView unit; (slice x.1 off n, x.2)
  | _ => let x := d.readObj (idx * 256 + unit); (slice x.1 off n, x.2)

/-- Data frames of a transfer from frame `c`, `n` of them (R394). -/
def bxtFrames (t : Bxt) (c n : Nat) : List (List Byte) :=
  (List.range n).map (fun i => [0x30] ++ leBytes 1 t.tag ++ leBytes 2 (c + i : Nat) ++ slice t.data (60 * (c + i)) 60)

/-- The data frames of a length (R394). -/
def frameCount (len : Nat) : Nat := (len + 59) / 60

/-- Send the block that starts at frame `c` (R397). -/
def bxtSend (d : Dev) (b : Bus) (c : Nat) : Dev :=
  let t := d.bxt b
  let n := min t.block (frameCount t.len - c)
  let d1 := (bxtFrames t c n).foldl (fun d f => d.bxtOut b f) d
  d1.modBxt b (fun x => { x with
    sentTo := max x.sentTo (c + n), repeated := x.repeated + (min (c + n) x.sentTo - c), moved := min x.len (60 * max x.sentTo (c + n)) })

/-- READ_START (R397): the length granted is limited to what the target holds beyond the offset. -/
def bxtReadStart (d : Dev) (b : Bus) (tag kind unit idx block off len : Nat) : Dev :=
  if !d.canServes b then d
  else if (d.bxt b).st ≠ 0 then d.bxtRefuse b tag kind idx off len .busy
  else if !d.hasEntry b.src then (d.bump K.OP_OVERLOAD_COUNT 32).bxtRefuse b tag kind idx off len .overload
  else
    let r := d.bxtReadRule b kind unit idx block len
    let key := bxtKey b kind unit idx
    let osn := d.osnNext
    if r ≠ .none then ((d.enter b.src key .refused r).recordOp b.src 0x41 osn key r []).bxtRefuse b tag kind idx off len r
    else
      let n := min len (d.bxtHolds b kind unit idx - off)
      let x := d.bxtBytes b kind unit idx off n
      let d1 := (x.2.enter b.src key .done .none).modBxt b (fun _ =>
        { st := 1, tag := tag, kind := kind, unit := unit, idx := idx, off := off, len := n, block := block, data := x.1 })
      (d1.bxtOut b (bxtControl 0x21 tag kind unit idx block off n)).bxtSend b 0

/-- CONTINUE (R397): the block from frame `c`; past the last frame the transfer ends with RESULT. -/
def bxtContinue (d : Dev) (b : Bus) (tag c : Nat) : Dev :=
  let t := d.bxt b
  if !d.canServes b || decide (t.st ≠ 1) || decide (t.tag ≠ tag) then d
  else if c > t.sentTo then d.bxtAbortNow b .range
  else if c ≥ frameCount t.len then
    (d.bxtOut b (bxtControl 0x23 tag 0 0 0 0 (crc32 t.data) 0)).modBxt b (fun x => { x with st := 0, data := [], reason := .none })
  else d.bxtSend b c

/-- WRITE_START (R396, R398): it reserves the entry of the write (R375). -/
def bxtWriteStart (d : Dev) (b : Bus) (tag kind unit idx block off len : Nat) : Dev :=
  if !d.canServes b then d
  else if (d.bxt b).st ≠ 0 then d.bxtRefuse b tag kind idx off len .busy
  else if !d.hasEntry b.src then (d.bump K.OP_OVERLOAD_COUNT 32).bxtRefuse b tag kind idx off len .overload
  else if (kind ≠ 3 ∧ kind ≠ 5) ∨ len = 0 ∨ len > 19200 ∨ block = 0 ∨ block > 64 then d.bxtRefuse b tag kind idx off len .range
  else
    ((d.reserve b.src (bxtKey b kind unit idx)).modBxt b (fun _ =>
      { st := 2, tag := tag, kind := kind, unit := unit, idx := idx, off := off, len := len, block := block })).bxtOut b
      (bxtControl 0x21 tag kind unit idx block off len)

/-- BXT_DATA_FRAME (R398): the expected frame is taken; another is acknowledged with the counter expected. -/
def bxtDataFrame (d : Dev) (b : Bus) (tag c : Nat) (bs : List Byte) : Dev :=
  let t := d.bxt b
  let ack := fun d : Dev => let x := d.bxt b; d.bxtOut b (bxtControl 0x22 tag x.kind x.unit x.idx x.nextCtr x.off x.len)
  if !d.canServes b || decide (t.st ≠ 2) || decide (t.tag ≠ tag) then d
  else if c = t.nextCtr ∧ c < frameCount t.len then
    let d1 := d.modBxt b (fun x =>
      { x with data := x.data ++ slice bs 0 60, nextCtr := x.nextCtr + 1, moved := min x.len (60 * (x.nextCtr + 1)) })
    if (c + 1) % t.block = 0 ∨ c + 1 = frameCount t.len then ack d1 else d1
  else ack (if c < t.nextCtr then d.modBxt b (fun x => { x with repeated := x.repeated + 1 }) else d)

/-- RESULT of a write (R395, R398), and the end of the transfer. -/
def bxtResult (d : Dev) (b : Bus) (osn crc : Nat) (r : Reason) : Dev :=
  let tag := (d.bxt b).tag
  ((d.bxtRelease b).bxtOut b (bxtControl 0x23 tag (if r = .none then 0 else 2) r.code 0 0 crc osn)).modBxt b (fun x => { x with st := 0, data := [], reason := r })

/-- A coefficient write of a bulk transfer as one operation (R396, R398). -/
def bxtCoef (d : Dev) (p : Src) (e off : Nat) (bs : List Byte) : Reason × Dev :=
  let as := (List.range bs.length).map (off + ·)
  let form := decide (e < 16) && (if off < 0x1000 then decide (off % 8 = 0) && decide (bs.length % 8 = 0) && decide (off + bs.length ≤ 0x1000)
    else decide (off + bs.length ≤ 0x1002))
  let ws := if form then coefWrites e as bs else []
  let r := d.coefRuleAll p form ws
  let k := coefAt (off % 0x1002)
  (r, d.operate p (coefKey e k.1 k.2) (bs.take 4) 2 false r (fun _ d => coefStore ws d) (fun _ d => d))

/-- The write of a bulk transfer as one operation, and its RESULT (R398). -/
def bxtWrite (d : Dev) (b : Bus) (t : Bxt) (bs : List Byte) (crc : Nat) : Dev :=
  let p := b.src
  let osn := d.osnNext
  if t.kind = 3 then let x := d.bxtCoef p t.unit t.off bs; x.2.bxtResult b osn crc x.1
  else
    let key := t.idx * 256 + t.unit
    let r := if t.off ≠ 0 ∨ (objRow key).isSome ∧ isDomain key = false then Reason.range else d.writeRule p key bs
    (d.writeAs p key bs r).bxtResult b osn crc r

/-- BXT_COMMIT (R398): the operation is entered in the entry that WRITE_START reserved. -/
def bxtCommit (d : Dev) (b : Bus) (tag len crc : Nat) : Dev :=
  let t := d.bxt b
  let bs := slice t.data 0 t.len
  if !d.canServes b || decide (t.st ≠ 2) || decide (t.tag ≠ tag) then d
  else if t.nextCtr < frameCount t.len ∨ len ≠ t.len then d.bxtResult b 0 crc .length
  else if crc32 bs ≠ crc then d.bxtResult b 0 (crc32 bs) .crc
  else
    let d1 := (d.bxtRelease b).modBxt b (fun x => { x with st := 3 })
    if !d1.hasEntry b.src then (d1.bump K.OP_OVERLOAD_COUNT 32).bxtAbortNow b .overload else d1.bxtWrite b t bs crc

/-- BXT_ABORT (R399): the host ends the transfer. -/
def bxtHostAbort (d : Dev) (b : Bus) (tag : Nat) : Dev :=
  if d.canServes b && decide ((d.bxt b).tag = tag) then d.bxtEnd b .none else d

/-- BXT_TIMEOUT (R399). -/
def bxtTimeout (d : Dev) (b : Bus) : Dev := if d.canServes b && decide ((d.bxt b).st ≠ 0) then d.bxtAbortNow b .timeout else d

/-- A bulk transfer of the log on a bus is aborted with STATE (R420). -/
def bxtLogEnd (d : Dev) (b : Bus) : Dev := if (d.bxt b).st = 1 ∧ (d.bxt b).kind = 2 then d.bxtAbortNow b .state else d

/-- LOG_CLEAR_DONE (R420): the log is cleared, and the transfers of it end. -/
def logCleared (d : Dev) : Dev := if d.erasing && d.supRuns then buses.foldl bxtLogEnd d.logClearDone else d

end Dev

end Sys2Proof.Machine
end

