-- ==== Sys2Proof/Machine/Edge.lean ====
section
/-! DEFINITION. The whole of a commit edge (R24, R302): the core of the edge, then what ports and supervisor do at it. -/

namespace Sys2Proof.Machine

namespace Dev

/-- What follows an edge's core: the error register, status bits without an event, the power-up request of a boot, responses
that waited for the supervisor, the back-off, the inhibit time of EMCY, RPDOs that wait, TPDOs, a firmware switch and a soft
reset that are due (R222, R352, R388, R390–R392, R431, R447, R462). `o` is the device before the edge. -/
def afterEdge (o d : Dev) : Dev :=
  let d1 := (statusEdge o d.errorEdge).autoUpEdge
  let d2 := if d1.supRuns then d1.lateResponses else d1
  let ns := if d2.ticking then d2.tickNs else 10000
  let d3 := forUnits 4 (fun r d => d.rpdoEdge ns r) ((d2.emcyEdge ns).backoffPass (64 * ns))
  (forUnits 4 (fun r d => d.tpdoEdge r) d3).fwEdge.softEdge

/-- TICK_EDGE (R24). -/
def wholeTickEdge (d : Dev) (x : EdgeSamples) : Dev :=
  if d.ticking && decide (d.boot.rank ≥ 1) then afterEdge d (d.fwAbort.supBreak.tickEdge x) else d

/-- KEEP_EDGE (R302). -/
def wholeKeepEdge (d : Dev) : Dev :=
  if d.power = .keep ∧ d.boot.rank ≥ 1 then afterEdge d d.fwAbort.supBreak.keepEdge else d

end Dev

end Sys2Proof.Machine
end

