-- ==== Sys2Proof/Machine/State.lean ====
section
/-! DEFINITION. The state: the device and the queue of commands that wait, first in, first out. -/

namespace Sys2Proof.Machine

/-- Ways the machine can stop. Nothing in the spec stops it, so no command raises one: everything that goes wrong is
reported in the state (R300, R374). -/
inductive Fault where
  /-- Raised by no command; a stop would be safe (the model would stop where the device goes on). -/
  | none
  deriving DecidableEq, Repr

/-- Reasons a command has no meaning here. -/
inductive Refusal where
  /-- The command has no meaning yet. Raised by its arm of `exec` alone; safe. -/
  | notModelled (mnemonic : String)
  deriving DecidableEq, Repr

/-- The state of the model. -/
structure State where
  dev : Dev := {}
  /-- Commands that wait, the next one first. -/
  pending : List Instr := []
  deriving DecidableEq, Repr

/-- The device at the start of a power-on reset (R431, R432), before its boot: every object at its default but `RESET_INFO`,
which the reset writes (R433); no command waits. -/
def State.reset : State := { dev := { objs := [(K.RESET_INFO, .bytes (1 :: List.replicate 15 0))] } }

/-- A meaning as a change of the device: the machine goes on, the queue untouched, and the answer of the previous command
is gone. Notes, log 7. -/
def onDev (s : State) (f : Dev → Dev) : Host.Outcome State Fault Refusal :=
  .next { s with dev := f { s.dev with answer := .none } }

end Sys2Proof.Machine
end

