-- ==== Sys2Proof/Machine/ExecAccess.lean ====
section
/-! DEFINITION. The meanings of the commands: Access rows. Each is one line over the operations of its chapter. -/

namespace Sys2Proof.Machine

/-- AUTH_NONCE_READ (R461): A read on the interface's own sub-index draws and returns a pending nonce. -/
def execAuthNonceRead (port : Src) (s : State) : Host.Outcome State Fault Refusal :=
onDev s (fun d => d.hostRead port (K.AUTH_NONCE port.ownIx))

/-- AUTH_RESPONSE (R461): A challenge response opens a session if the HMAC matches, consuming the nonce. -/
def execAuthResponse (port : Src) (data : List Byte) (s : State) : Host.Outcome State Fault Refusal :=
onDev s (fun d => d.hostWrite port (K.AUTH_RESPONSE port.ownIx) data)

/-- AUTH_PASSWORD_ENTRY (R460): A password attempt opens an L2 or L3 session if it matches. -/
def execAuthPasswordEntry (port : Src) (data : List Byte) (s : State) : Host.Outcome State Fault Refusal :=
onDev s (fun d => d.hostWrite port (K.AUTH_PASSWORD_ENTRY port.ownIx) data)

/-- AUTH_CLOSE (R463): Ends the interface's session. -/
def execAuthClose (port : Src) (s : State) : Host.Outcome State Fault Refusal :=
onDev s (fun d => d.hostWrite port (K.AUTH_CLOSE port.ownIx) [1])

/-- SESSION_TIMEOUT (R463): Ten minutes without an operation from the interface end its session. -/
def execSessionTimeout (i : Fin 4) (s : State) : Host.Outcome State Fault Refusal :=
onDev s (fun d => d.sessionTimeout (i.val + 1))

/-- NONCE_EXPIRY (R461): A pending nonce lapses after 30 s. -/
def execNonceExpiry (i : Fin 4) (s : State) : Host.Outcome State Fault Refusal :=
onDev s (fun d => d.nonceExpiry (i.val + 1))

/-- BACKOFF_EXPIRY (R462): The authentication back-off counts down to 0 and attempts are allowed again. -/
def execBackoffExpiry (s : State) : Host.Outcome State Fault Refusal :=
onDev s (fun d => d.backoffExpiry)

/-- AUTH_PASSWORD_WRITE (R457): Sets the L2 or L3 password. -/
def execAuthPasswordWrite (port : Src) (sub : BitVec 8) (data : List Byte) (s : State) : Host.Outcome State Fault
    Refusal :=
onDev s (fun d => d.hostWrite port (0x3202*256+sub.toNat) data)

/-- AUTH_KEY_WRITE (R457): Sets the device key. -/
def execAuthKeyWrite (port : Src) (data : List Byte) (s : State) : Host.Outcome State Fault Refusal :=
onDev s (fun d => d.hostWrite port K.AUTH_KEY data)

/-- LOCK_STATE_WRITE (R456): Locks or opens the device, closing or opening the debug port. -/
def execLockStateWrite (port : Src) (data : List Byte) (s : State) : Host.Outcome State Fault Refusal :=
onDev s (fun d => d.hostWrite port K.LOCK_STATE data)

/-- DEBUG_OPEN (R465): Opens or closes the debug instructions on a locked device from an L3 session. -/
def execDebugOpen (port : Src) (data : List Byte) (s : State) : Host.Outcome State Fault Refusal :=
onDev s (fun d => d.hostWrite port K.DEBUG_OPEN data)

/-- BYPASS (R464): JTAG BYPASS instruction. -/
def execJtagBypass (s : State) : Host.Outcome State Fault Refusal :=
onDev s (fun d => d.tapLoad .bypass)

/-- IDCODE (R464): JTAG IDCODE instruction. -/
def execJtagIdcode (s : State) : Host.Outcome State Fault Refusal :=
onDev s (fun d => d.tapLoad .idcode)

/-- SAMPLE_PRELOAD (R464): JTAG SAMPLE/PRELOAD instruction. -/
def execJtagSamplePreload (s : State) : Host.Outcome State Fault Refusal :=
onDev s (fun d => d.tapLoad .samplePreload)

/-- EXTEST (R464): JTAG EXTEST, acting as BYPASS while a unit is enabled or debug is closed. -/
def execJtagExtest (s : State) : Host.Outcome State Fault Refusal :=
onDev s (fun d => d.tapLoad .extest)

/-- JTAG_CLAMP (R464): JTAG CLAMP, acting as BYPASS while a unit is enabled or debug is closed. -/
def execJtagClamp (s : State) : Host.Outcome State Fault Refusal :=
onDev s (fun d => d.tapLoad .clamp)

/-- HIGHZ (R464): JTAG HIGHZ, acting as BYPASS while a unit is enabled or debug is closed. -/
def execJtagHighz (s : State) : Host.Outcome State Fault Refusal :=
onDev s (fun d => d.tapLoad .highz)

/-- DEBUG_HALT (R464): The Sorael debug instruction halts the supervisor or an engine. -/
def execDebugHalt (target : Option (Fin 16)) (s : State) : Host.Outcome State Fault Refusal :=
onDev s (fun d => d.debugHalt (target.map (fun e => e.val)))

/-- DEBUG_BREAKPOINT (R464): The Sorael debug instruction sets breakpoints. -/
def execDebugBreakpoint (target : Option (Fin 16)) (address : Nat) (set : Bool) (s : State) : Host.Outcome State Fault
    Refusal :=
onDev s (fun d => d.debugBreak (target.map (fun e => e.val)) address set)

/-- DEBUG_MEMORY_ACCESS (R464): The Sorael debug instruction reads or writes device memory. -/
def execDebugMemoryAccess (e : Fin 16) (address : BitVec 16) (write : Option (BitVec 32)) (s : State) : Host.Outcome
    State Fault Refusal :=
onDev s (fun d => d.debugMemory e address.toNat (write.map (fun v => v.toInt)))

/-- DEBUG_RESUME (R127): A halted supervisor or engine is resumed by the debugger, leaving HALTED. -/
def execDebugResume (target : Option (Fin 16)) (s : State) : Host.Outcome State Fault Refusal :=
onDev s (fun d => d.debugResume (target.map (fun e => e.val)))

end Sys2Proof.Machine
end

