-- ==== Sys2Proof/Machine/ExecCan.lean ====
section
/-! DEFINITION. The meanings of the commands: Can rows. Each is one line over the operations of its chapter. -/

namespace Sys2Proof.Machine

/-- NMT_START (R384): NMT start puts the node in OPERATIONAL. -/
def execNmtStart (f : CanFrame) (node : BitVec 8) (s : State) : Host.Outcome State Fault Refusal :=
onDev s (fun d => d.onCan f (fun d => d.nmtStart f.bus node))

/-- NMT_STOP (R384): NMT stop puts the node in STOPPED and aborts transfers. -/
def execNmtStop (f : CanFrame) (node : BitVec 8) (s : State) : Host.Outcome State Fault Refusal :=
onDev s (fun d => d.onCan f (fun d => d.nmtStop f.bus node))

/-- NMT_ENTER_PRE_OPERATIONAL (R384): NMT enter pre-operational ends PDOs. -/
def execNmtEnterPreOperational (f : CanFrame) (node : BitVec 8) (s : State) : Host.Outcome State Fault Refusal :=
onDev s (fun d => d.onCan f (fun d => d.nmtPreOp f.bus node))

/-- NMT_RESET_NODE (R385): NMT reset node starts a reset unless guarded by enabled units. -/
def execNmtResetNode (f : CanFrame) (node : BitVec 8) (s : State) : Host.Outcome State Fault Refusal :=
onDev s (fun d => d.onCan f (fun d => d.nmtResetNode f.bus node))

/-- NMT_RESET_COMMUNICATION (R384): NMT reset communication reloads the communication objects and restarts the node
only. -/
def execNmtResetCommunication (f : CanFrame) (node : BitVec 8) (s : State) : Host.Outcome State Fault Refusal :=
onDev s (fun d => d.onCan f (fun d => d.nmtResetComm f.bus node))

/-- HEARTBEAT_PRODUCE (R386): The producer sends the NMT state every 1017h ms. -/
def execHeartbeatProduce (s : State) : Host.Outcome State Fault Refusal :=
onDev s (fun d => d.heartbeatProduce)

/-- HEARTBEAT_RECEIVED (R386): A heartbeat from a monitored node starts or resumes its consumer entry. -/
def execHeartbeatReceived (f : CanFrame) (node : BitVec 8) (s : State) : Host.Outcome State Fault Refusal :=
onDev s (fun d => d.onCan f (fun d => d.heartbeatReceived f.bus node))

/-- HEARTBEAT_TIMEOUT (R386): A consumer entry without heartbeat in its time commits an event, sends EMCY and applies
1029h. -/
def execHeartbeatTimeout (i : Fin 4) (s : State) : Host.Outcome State Fault Refusal :=
onDev s (fun d => d.heartbeatTimeout i)

/-- SDO_INITIATE_DOWNLOAD (R387): Starts an SDO write, expedited or segmented. -/
def execSdoInitiateDownload (f : SdoFrame) (index : BitVec 16) (sub : BitVec 8) (expedited : Bool) (size : Option Nat)
    (data : List Byte) (s : State) : Host.Outcome State Fault Refusal :=
onDev s (fun d => d.onSdo f (fun d => d.sdoInitDown f.bus (objKey index sub) expedited size data))

/-- SDO_DOWNLOAD_SEGMENT (R387): Carries a segment of an SDO write, entered at the last. -/
def execSdoDownloadSegment (f : SdoFrame) (toggle last : Bool) (data : List Byte) (s : State) : Host.Outcome State Fault
    Refusal :=
onDev s (fun d => d.onSdo f (fun d => d.sdoDownSegment f.bus toggle last data))

/-- SDO_INITIATE_UPLOAD (R387): Starts an SDO read and takes its snapshot. -/
def execSdoInitiateUpload (f : SdoFrame) (index : BitVec 16) (sub : BitVec 8) (s : State) : Host.Outcome State Fault
    Refusal :=
onDev s (fun d => d.meeting f.flaws (fun d => d.onSdo f (fun d => d.sdoInitUp f.bus (objKey index sub))))

/-- SDO_UPLOAD_SEGMENT (R387): Requests the next segment of an SDO read. -/
def execSdoUploadSegment (f : SdoFrame) (toggle : Bool) (s : State) : Host.Outcome State Fault Refusal :=
onDev s (fun d => d.onSdo f (fun d => d.sdoUpSegment f.bus toggle))

/-- SDO_ABORT_TRANSFER (R387): A client abort ends the server's transfer uncommitted. -/
def execSdoAbortTransfer (f : CanFrame) (s : State) : Host.Outcome State Fault Refusal :=
onDev s (fun d => d.onCan f (fun d => d.sdoClientAbort f.bus))

/-- SDO_TIMEOUT (R387): A client silent for SDO_TIMEOUT has its transfer aborted. -/
def execSdoTimeout (b : Bus) (s : State) : Host.Outcome State Fault Refusal :=
onDev s (fun d => d.sdoTimeout b)

/-- RPDO (R390): A received RPDO in OPERATIONAL writes its mapped objects as one operation. -/
def execRpdo (f : CanFrame) (r : Fin 4) (data : List Byte) (s : State) : Host.Outcome State Fault Refusal :=
onDev s (fun d => d.onCan f (fun d => d.rpdo f.bus r data))

/-- TPDO_EVENT_TIMER (R388): A TPDO event timer expiry sends the TPDO. -/
def execTpdoEventTimer (r : Fin 4) (s : State) : Host.Outcome State Fault Refusal :=
onDev s (fun d => d.tpdoTimer r)

/-- TPDO_INHIBIT_END (R388): A change held by the inhibit time is sent when it ends. -/
def execTpdoInhibitEnd (r : Fin 4) (s : State) : Host.Outcome State Fault Refusal :=
onDev s (fun d => d.tpdoInhibitEnd r)

/-- EMCY_TRANSMIT (R391): An EMCY frame for a routed event is sent in ESN order respecting the inhibit time. -/
def execEmcyTransmit (s : State) : Host.Outcome State Fault Refusal :=
onDev s (fun d => d.emcyTransmit)

/-- STORE_PARAMETERS (R393): Writing "save" to 1010h:01 requests a settings store. -/
def execStoreParameters (port : Src) (data : List Byte) (s : State) : Host.Outcome State Fault Refusal :=
onDev s (fun d => d.hostWrite port K.STORE_PARAMETERS data)

/-- RESTORE_DEFAULT_PARAMETERS (R393): Writing "load" to 1011h:01 requests a restore. -/
def execRestoreDefaultParameters (port : Src) (data : List Byte) (s : State) : Host.Outcome State Fault Refusal :=
onDev s (fun d => d.hostWrite port K.RESTORE_DEFAULT_PARAMETERS data)

/-- ERROR_HISTORY_CLEAR (R402): Writing 0 to 1003h:00 clears the EMCY history. -/
def execErrorHistoryClear (port : Src) (s : State) : Host.Outcome State Fault Refusal :=
onDev s (fun d => d.hostWrite port K.ERROR_HISTORY_COUNT [0])

/-- CAN_ERROR_PASSIVE (R400): A CAN port enters error passive. -/
def execCanErrorPassive (b : Bus) (s : State) : Host.Outcome State Fault Refusal :=
onDev s (fun d => d.canErrorPassive b)

/-- CAN_BUS_OFF (R400): A CAN port goes bus-off and schedules recovery. -/
def execCanBusOff (b : Bus) (s : State) : Host.Outcome State Fault Refusal :=
onDev s (fun d => d.canBusOff b)

/-- CAN_BUSOFF_RECOVERY (R400): After CAN_BUSOFF_DELAY the port recovers and sends EMCY 8140h. -/
def execCanBusoffRecovery (b : Bus) (s : State) : Host.Outcome State Fault Refusal :=
onDev s (fun d => d.canRecovery b)

/-- CAN_RX_OVERRUN (R400): A receive overrun commits an event and sends EMCY 8110h. -/
def execCanRxOverrun (b : Bus) (s : State) : Host.Outcome State Fault Refusal :=
onDev s (fun d => d.canRxOverrun b)

/-- CAN_TX_TIMEOUT (R400): A frame not sent within CAN_TX_TIMEOUT is dropped and counted. -/
def execCanTxTimeout (b : Bus) (s : State) : Host.Outcome State Fault Refusal :=
onDev s (fun d => d.canTxTimeout b)

/-- NODE_ID_CONFLICT (R400): A foreign frame on the node's own identifier stops transmission on that bus. -/
def execNodeIdConflict (b : Bus) (s : State) : Host.Outcome State Fault Refusal :=
onDev s (fun d => d.nodeIdConflict b)

/-- ID_CONFLICT_RESUME (R400): Transmission resumes after 10 s without a conflicting frame. -/
def execIdConflictResume (b : Bus) (s : State) : Host.Outcome State Fault Refusal :=
onDev s (fun d => d.idConflictResume b)

/-- ACTIVE_BUS_SWITCH (R383): In PRIMARY_BACKUP the active bus switches to CANB or back to CANA. -/
def execActiveBusSwitch (s : State) : Host.Outcome State Fault Refusal :=
onDev s (fun d => d.activeBusSwitch)

/-- READ_START (R397): A bulk extension READ_START takes the target snapshot and answers START_ACK. -/
def execBxtReadStart (f : CanFrame) (tag kind unit : BitVec 8) (index block : BitVec 16) (off len : BitVec 32) (s : State)
    : Host.Outcome State Fault Refusal :=
onDev s (fun d => d.meeting f.flaws (fun d =>
  d.onCan f (fun d => d.bxtReadStart f.bus tag.toNat kind.toNat unit.toNat index.toNat block.toNat off.toNat len.toNat)))

/-- WRITE_START (R398): A bulk extension WRITE_START opens a staged write. -/
def execBxtWriteStart (f : CanFrame) (tag kind unit : BitVec 8) (index block : BitVec 16) (off len : BitVec 32) (s : State)
    : Host.Outcome State Fault Refusal :=
onDev s (fun d => d.onCan f (fun d => d.bxtWriteStart f.bus tag.toNat kind.toNat unit.toNat index.toNat block.toNat off.toNat len.toNat))

/-- CONTINUE (R397): A bulk extension CONTINUE requests the block starting at its counter. -/
def execBxtContinue (f : CanFrame) (tag : BitVec 8) (ctr : BitVec 16) (s : State) : Host.Outcome State Fault Refusal :=
onDev s (fun d => d.onCan f (fun d => d.bxtContinue f.bus tag.toNat ctr.toNat))

/-- BXT_DATA_FRAME (R398): A bulk extension data frame is staged or acknowledged by counter. -/
def execBxtDataFrame (f : CanFrame) (tag : BitVec 8) (ctr : BitVec 16) (data : List Byte) (s : State) : Host.Outcome State
    Fault Refusal :=
onDev s (fun d => d.onCan f (fun d => d.bxtDataFrame f.bus tag.toNat ctr.toNat data))

/-- BXT_COMMIT (R398): A bulk extension COMMIT checks the CRC and enters the write as one operation. -/
def execBxtCommit (f : CanFrame) (tag : BitVec 8) (len crc : BitVec 32) (s : State) : Host.Outcome State Fault Refusal :=
onDev s (fun d => d.onCan f (fun d => d.bxtCommit f.bus tag.toNat len.toNat crc.toNat))

/-- BXT_ABORT (R399): A host ABORT ends the bulk transfer without effect. -/
def execBxtAbort (f : CanFrame) (tag : BitVec 8) (s : State) : Host.Outcome State Fault Refusal :=
onDev s (fun d => d.onCan f (fun d => d.bxtHostAbort f.bus tag.toNat))

/-- BXT_TIMEOUT (R399): No awaited frame within BXT_TIMEOUT aborts the bulk transfer. -/
def execBxtTimeout (b : Bus) (s : State) : Host.Outcome State Fault Refusal :=
onDev s (fun d => d.bxtTimeout b)

/-- OP_QUERY_OSN (R379): Selects the operation that OP_QUERY_RESULT describes. -/
def execOpQueryOsn (port : Src) (data : List Byte) (s : State) : Host.Outcome State Fault Refusal :=
onDev s (fun d => d.hostWrite port K.OP_QUERY_OSN data)

/-- OBJECT_WRITE (R373): A write to an object without a row of its own is checked and applied at its apply point. -/
def execObjectWrite (port : Src) (index : BitVec 16) (sub : BitVec 8) (data : List Byte) (s : State) : Host.Outcome
    State Fault Refusal :=
onDev s (fun d => d.hostWrite port (objKey index sub) data)

/-- CAN_ERROR_ACTIVE (R400): A CAN port whose error counters have fallen leaves error passive and returns to error
active, clearing its status and error-register bits. -/
def execCanErrorActive (b : Bus) (s : State) : Host.Outcome State Fault Refusal :=
onDev s (fun d => d.canErrorActive b)

end Sys2Proof.Machine
end

