-- ==== Sys2Proof/Machine/ExecClock.lean ====
section
/-! DEFINITION. The meanings of the commands: Clock rows. Each is one line over the operations of its chapter. -/

namespace Sys2Proof.Machine

/-- PERF_PROFILE_WRITE (R30): A profile write is checked and applied at an edge or held pending a scheduled tick. -/
def execPerfProfileWrite (port : Src) (data : List Byte) (s : State) : Host.Outcome State Fault Refusal :=
onDev s (fun d => d.hostWrite port K.PERF_PROFILE data)

/-- TICK_RATE_WRITE (R30): In CUSTOM a tick-rate write is checked and applied at a single edge. -/
def execTickRateWrite (port : Src) (data : List Byte) (s : State) : Host.Outcome State Fault Refusal :=
onDev s (fun d => d.hostWrite port K.TICK_RATE data)

/-- PROFILE_AT_TICK_WRITE (R37): Sets or moves the edge of a pending scheduled switch after a LATE check. -/
def execProfileAtTickWrite (port : Src) (data : List Byte) (s : State) : Host.Outcome State Fault Refusal :=
onDev s (fun d => d.hostWrite port K.PROFILE_AT_TICK data)

/-- PROFILE_SCHED_WRITE (R37): Enables scheduled profile switching, and writing 0 cancels a pending switch. -/
def execProfileSchedWrite (port : Src) (data : List Byte) (s : State) : Host.Outcome State Fault Refusal :=
onDev s (fun d => d.hostWrite port K.PROFILE_SCHED data)

/-- SYNCIN_EDGE (R35): A follower adjusts its tick by at most 2 cycles toward the SYNCIN edge and decodes the count
word. -/
def execSyncinEdge (at_ : Nat) (width : Nat) (offset : Int) (s : State) : Host.Outcome State Fault Refusal :=
onDev s (fun d => d.syncinEdge at_ width offset)

/-- SYNC_LOST (R36): A missing SYNCIN edge or a period mismatch makes the follower run free and commit EV124. -/
def execSyncLost (s : State) : Host.Outcome State Fault Refusal :=
onDev s (fun d => d.syncLost)

/-- XO_FAULT (R39): A missing or off-frequency XO or a PLL lock loss forces every phase to MID, stops bucks and starts
the fault program. -/
def execXoFault (code : Fin 4) (s : State) : Host.Outcome State Fault Refusal :=
onDev s (fun d => d.xoFault code)

/-- XO_FAULT_CLEAR (R39): Once XO has been good for 100 ms, xo_fault clears. -/
def execXoFaultClear (s : State) : Host.Outcome State Fault Refusal :=
onDev s (fun d => d.xoFaultClear)

/-- LF_XTAL_FAIL (R40): A crystal that has not started within 1 s of boot leaves the RC in use and sets lf_xtal_fail.
-/
def execLfXtalFail (s : State) : Host.Outcome State Fault Refusal :=
onDev s (fun d => d.lfXtalFail)

/-- LF_CALIBRATION (R40): The LF RC is calibrated against XO at boot and every 1 s. -/
def execLfCalibration (error : BitVec 16) (s : State) : Host.Outcome State Fault Refusal :=
onDev s (fun d => d.lfCalibration error.toInt)

/-- FROZEN_ADC (R45): When DITHER_MISS reaches 64 the rail's frozen-ADC flag is set. -/
def execFrozenAdc (n : Fin 8) (s : State) : Host.Outcome State Fault Refusal :=
onDev s (fun d => d.frozenAdc n)

/-- HK_CONVERSION (R46): The housekeeping ADC completes a VIN or scan-list conversion and updates HK_RAW. -/
def execHkConversion (ch : Fin 32) (code : BitVec 12) (s : State) : Host.Outcome State Fault Refusal :=
onDev s (fun d => d.hkConversion ch code.toNat)

/-- READ_IOUT_PEAK_READ (R47): A read returns the largest unfiltered rail current since the last read and clears it.
-/
def execReadIoutPeakRead (port : Src) (n : Fin 8) (s : State) : Host.Outcome State Fault Refusal :=
onDev s (fun d => d.hostRead port (K.READ_IOUT_PEAK n))

/-- CAP_ARM (R49): CAP_CTRL = 1 checks the capture settings and starts recording in ARMED. -/
def execCapArm (port : Src) (s : State) : Host.Outcome State Fault Refusal :=
onDev s (fun d => d.hostWrite port K.CAP_CTRL [1])

/-- CAP_FORCE_TRIGGER (R49): CAP_CTRL = 2 triggers an armed capture. -/
def execCapForceTrigger (port : Src) (s : State) : Host.Outcome State Fault Refusal :=
onDev s (fun d => d.hostWrite port K.CAP_CTRL [2])

/-- CAP_ABORT (R49): CAP_CTRL = 3 returns the capture to IDLE and discards the data. -/
def execCapAbort (port : Src) (s : State) : Host.Outcome State Fault Refusal :=
onDev s (fun d => d.hostWrite port K.CAP_CTRL [3])

/-- CAPTURE_DONE (R49): After CAP_LEN − CAP_PRE samples from the trigger the capture stops in DONE. -/
def execCaptureDone (s : State) : Host.Outcome State Fault Refusal :=
onDev s (fun d => d.captureDone)

/-- RAW_CAPTURE_SAMPLE (R48): In RAW mode each sample instant at 32 MS/s divided by CAP_DIV records all eight channels
and tests a level trigger. -/
def execRawCaptureSample (slots : List RawSlot) (s : State) : Host.Outcome State Fault Refusal :=
onDev s (fun d => d.rawSample slots)

end Sys2Proof.Machine
end

