-- ==== Sys2Proof/Machine/ExecEngine.lean ====
section
/-! DEFINITION. The meanings of the commands: Engine rows. Each is one line over the operations of its chapter. -/

namespace Sys2Proof.Machine

/-- PROG_SHADOW_SEL (R116): Loads a library program into the shadow for checking. -/
def execProgShadowSel (port : Src) (e : Fin 16) (data : List Byte) (s : State) : Host.Outcome State Fault Refusal :=
onDev s (fun d => d.hostWrite port (K.PROG_SHADOW_SEL e) data)

/-- PROG_IMAGE (R116): Writes a program image into the shadow for checking. -/
def execProgImage (port : Src) (e : Fin 16) (data : List Byte) (s : State) : Host.Outcome State Fault Refusal :=
onDev s (fun d => d.hostWrite port (K.PROG_IMAGE e) data)

/-- PROGRAM_CHECK_DONE (R110): The loader's check of a shadow program completes with CHECKED or REFUSED. -/
def execProgramCheckDone (e : Fin 16) (s : State) : Host.Outcome State Fault Refusal :=
onDev s (fun d => d.checkDone e)

/-- PROG_SWAP_REQ (R116): Requests a swap of the program alone or with the coefficient bank at the next edge. -/
def execProgSwapReq (port : Src) (e : Fin 16) (data : List Byte) (s : State) : Host.Outcome State Fault Refusal :=
onDev s (fun d => d.hostWrite port (K.PROG_SWAP_REQ e) data)

/-- BANK_SWAP_REQ (R121): Requests the inactive bank to become active at the next edge. -/
def execBankSwapReq (port : Src) (e : Fin 16) (s : State) : Host.Outcome State Fault Refusal :=
onDev s (fun d => d.hostWrite port (K.BANK_SWAP_REQ e) [1])

/-- BANK_COPY (R121): Copies every entry and the tag of the active bank into the inactive bank. -/
def execBankCopy (port : Src) (e : Fin 16) (s : State) : Host.Outcome State Fault Refusal :=
onDev s (fun d => d.hostWrite port (K.BANK_COPY e) [1])

/-- COEF_WRITE (R119): Writes an entry or tag of the inactive bank, refused for the active bank or while a swap is
pending. -/
def execCoefWrite (port : Src) (e : Fin 16) (bankB : Bool) (entry : Fin 257) (data : List Byte) (s : State) :
    Host.Outcome State Fault Refusal :=
onDev s (fun d => d.hostWrite port (Dev.coefKey e bankB entry) data)

/-- LIB_STORE (R118): Starts storing an engine's shadow image into a customer library slot. -/
def execLibStore (port : Src) (data : List Byte) (s : State) : Host.Outcome State Fault Refusal :=
onDev s (fun d => d.hostWrite port K.LIB_STORE data)

/-- LIB_STORE_DONE (R118): The library store of up to 200 ms completes. -/
def execLibStoreDone (ok : Bool) (s : State) : Host.Outcome State Fault Refusal :=
onDev s (fun d => d.libStoreDone ok)

/-- MAILBOX_POST (R102): Posts the staged mailbox words so that they appear together at the next edge. -/
def execMailboxPost (port : Src) (e : Fin 16) (s : State) : Host.Outcome State Fault Refusal :=
onDev s (fun d => d.hostWrite port (K.MAILBOX_POST e) [1])

/-- ECC_SCRUB (R128): The supervisor scrubs engine memories, writing back corrected words. -/
def execEccScrub (e : Fin 16) (found : EccRead) (s : State) : Host.Outcome State Fault Refusal :=
onDev s (fun d => d.eccScrub e found.corrected found.stall)

/-- ECC_UNCORRECTABLE (R129): An uncorrectable ECC error stops the engine or marks the word, and starts a reload as
its location requires. -/
def execEccUncorrectable (e : Fin 16) (loc : EccLoc) (s : State) : Host.Outcome State Fault Refusal :=
onDev s (fun d => d.eccUncorrectable e loc)

/-- ENGINE_RELOAD_DONE (R129): The supervisor's reload of a program or bank after an uncorrectable error is swapped
in. -/
def execEngineReloadDone (e : Fin 16) (s : State) : Host.Outcome State Fault Refusal :=
onDev s (fun d => d.reloadDone e (fun k => Assoc.get objDefault d.activeImage.entries k))

/-- ENG_STATUS_READ (R103): A read returns engine status and clears its sticky bits. -/
def execEngStatusRead (port : Src) (e : Fin 16) (s : State) : Host.Outcome State Fault Refusal :=
onDev s (fun d => d.hostRead port (K.ENG_STATUS e))

/-- ENG_CYCLES_MAX_READ (R132): A read returns the largest cycle count since the last read and clears it. -/
def execEngCyclesMaxRead (port : Src) (e : Fin 16) (s : State) : Host.Outcome State Fault Refusal :=
onDev s (fun d => d.hostRead port (K.ENG_CYCLES_MAX e))

end Sys2Proof.Machine
end

