-- ==== Sys2Proof/Machine/ExecFault.lean ====
section
/-! DEFINITION. The meanings of the commands: Fault rows. Each is one line over the operations of its chapter. -/

namespace Sys2Proof.Machine

/-- QUALIFY_PHASE (R225): A phase runs presence, offset, local-bus, single-pulse and drain checks and becomes READY or
FAILED. -/
def execQualifyPhase (p : Fin 32) (r : QualResult) (s : State) : Host.Outcome State Fault Refusal :=
onDev s (fun d => d.qualifyPhase p r)

/-- SENSE_TEST_DUE (R210): At its due time a sense test bit is posted and the remote input sources the test current
for four ticks. -/
def execSenseTestDue (n : Fin 8) (s : State) : Host.Outcome State Fault Refusal :=
onDev s (fun d => d.senseTestDue n)

/-- GLOVE_EXIT (R216): A rail leaves Glove mode after every cause has been absent for GLOVE_RECOVER edges. -/
def execGloveExit (n : Fin 8) (s : State) : Host.Outcome State Fault Refusal :=
onDev s (fun d => d.gloveExit n)

/-- GLOVE_TIMER_EXPIRY (R217): The Glove timer expiring runs FEEDBACK_LOST or ENGINE_OVERRUN. -/
def execGloveTimerExpiry (n : Fin 8) (s : State) : Host.Outcome State Fault Refusal :=
onDev s (fun d => d.gloveExpiry n)

/-- OV_TRIP (R218): Protection voltage above the OV limit for OV_COUNT edges forces MID and runs the OV response. -/
def execOvTrip (n : Fin 8) (s : State) : Host.Outcome State Fault Refusal :=
onDev s (fun d => d.ovTrip n)

/-- UV_TRIP (R218): Protection voltage below the UV limit for UV_COUNT edges runs the UV response. -/
def execUvTrip (n : Fin 8) (s : State) : Host.Outcome State Fault Refusal :=
onDev s (fun d => d.uvTrip n)

/-- OC_TRIP (R218): Rail current above the OC limit for OC_COUNT edges runs the OC response. -/
def execOcTrip (n : Fin 8) (s : State) : Host.Outcome State Fault Refusal :=
onDev s (fun d => d.ocTrip n)

/-- STAGE_OT_TRIP (R218): SG temperature above SG_OT_FAULT on three scans drains the group's phases. -/
def execStageOtTrip (g : Fin 8) (s : State) : Host.Outcome State Fault Refusal :=
onDev s (fun d => d.stageOtTrip g)

/-- SG_OT_WARNING (R219): SG temperature above SG_OT_WARN on three scans sets temp_warning and commits an event. -/
def execSgOtWarning (g : Fin 8) (s : State) : Host.Outcome State Fault Refusal :=
onDev s (fun d => d.sgOtWarning g)

/-- RETRY_ENABLE (R221): After RETRY_DELAY the rail is enabled again with a soft-start if retries remain. -/
def execRetryEnable (n : Fin 8) (s : State) : Host.Outcome State Fault Refusal :=
onDev s (fun d => d.retryEnable n)

/-- RETRY_COUNT_RESET (R221): The retry count returns to 0 once done or READY has held for 1 s after a retry. -/
def execRetryCountReset (u : Fin 18) (s : State) : Host.Outcome State Fault Refusal :=
onDev s (fun d => d.retryCountReset u)

/-- CLEAR_FAULTS_WRITE (R234): Clears a unit's fault status and retry count. -/
def execClearFaultsWrite (port : Src) (u : Fin 18) (s : State) : Host.Outcome State Fault Refusal :=
onDev s (fun d => d.hostWrite port (Dev.clearKey u) [1])

/-- DRAIN (R227): PHASE_SVC_CMD = 1 drains a phase after a capacity check. -/
def execDrain (port : Src) (p : Fin 32) (s : State) : Host.Outcome State Fault Refusal :=
onDev s (fun d => d.hostWrite port (K.PHASE_SVC_CMD p) [1])

/-- DRAIN_FORCE (R227): PHASE_SVC_CMD = 2 drains a phase without the capacity check. -/
def execDrainForce (port : Src) (p : Fin 32) (s : State) : Host.Outcome State Fault Refusal :=
onDev s (fun d => d.hostWrite port (K.PHASE_SVC_CMD p) [2])

/-- ADMIT (R227): PHASE_SVC_CMD = 3 releases and requalifies an isolated, failed or empty phase. -/
def execAdmit (port : Src) (p : Fin 32) (s : State) : Host.Outcome State Fault Refusal :=
onDev s (fun d => d.hostWrite port (K.PHASE_SVC_CMD p) [3])

/-- GROUP_DRAIN (R227): GROUP_SVC_CMD = 1 drains every assigned phase of a group as one operation. -/
def execGroupDrain (port : Src) (g : Fin 8) (s : State) : Host.Outcome State Fault Refusal :=
onDev s (fun d => d.hostWrite port (K.GROUP_SVC_CMD g) [1])

/-- GROUP_DRAIN_FORCE (R227): GROUP_SVC_CMD = 2 drains a group without the capacity check. -/
def execGroupDrainForce (port : Src) (g : Fin 8) (s : State) : Host.Outcome State Fault Refusal :=
onDev s (fun d => d.hostWrite port (K.GROUP_SVC_CMD g) [2])

/-- GROUP_ADMIT (R227): GROUP_SVC_CMD = 3 admits every assigned phase of a group. -/
def execGroupAdmit (port : Src) (g : Fin 8) (s : State) : Host.Outcome State Fault Refusal :=
onDev s (fun d => d.hostWrite port (K.GROUP_SVC_CMD g) [3])

/-- AUTO_READMIT (R223): An isolated phase drained by Stage OT is requalified after 1 s below SG_OT_WARN. -/
def execAutoReadmit (p : Fin 32) (s : State) : Host.Outcome State Fault Refusal :=
onDev s (fun d => d.autoReadmit p)

/-- WEAR_BIT_SET (R229): A drift, resistance or heat condition lasting its time sets a wear bit. -/
def execWearBitSet (p : Fin 32) (bit : Fin 3) (s : State) : Host.Outcome State Fault Refusal :=
onDev s (fun d => d.wearBitSet p bit)

/-- TEMP_HIST_MINUTE (R230): Each minute a present group's temperature bin is incremented. -/
def execTempHistMinute (s : State) : Host.Outcome State Fault Refusal :=
onDev s (fun d => d.tempHistMinute)

/-- WEAR_SNAPSHOT (R230): Every WEAR_LOG_PERIOD a wear snapshot is written to the log. -/
def execWearSnapshot (s : State) : Host.Outcome State Fault Refusal :=
onDev s (fun d => d.wearSnapshot)

end Sys2Proof.Machine
end

