-- ==== Sys2Proof/Machine/ExecLog.lean ====
section
/-! DEFINITION. The meanings of the commands: Log rows. Each is one line over the operations of its chapter. -/

namespace Sys2Proof.Machine

/-- LOG_RECORD_WRITE (R412): A record leaving the queue is written to the next log position in NVM. -/
def execLogRecordWrite (ok : Bool) (s : State) : Host.Outcome State Fault Refusal :=
onDev s (fun d => d.logRecordWrite ok)

/-- LOG_WINDOW_READ (R415, R418): A read returns the record at the interface's cursor and advances the cursor. `ecc`: it meets an
uncorrectable ECC error there. -/
def execLogWindowRead (port : Src) (ecc : Bool) (s : State) : Host.Outcome State Fault Refusal :=
onDev s (fun d => d.meeting (if ecc then [0] else []) (fun d => d.hostRead port (K.LOG_WINDOW port.ownIx)))

/-- LOG_SEEK_ESN (R415): Sets the interface's cursor to the record of the ESN or the next one. -/
def execLogSeekEsn (port : Src) (data : List Byte) (s : State) : Host.Outcome State Fault Refusal :=
onDev s (fun d => d.hostWrite port (K.LOG_SEEK_ESN (port.ownIx)) data)

/-- LOG_TIME_MARK (R410): Commits a time mark record with the host time and tag. -/
def execLogTimeMark (port : Src) (data : List Byte) (s : State) : Host.Outcome State Fault Refusal :=
onDev s (fun d => d.hostWrite port K.LOG_TIME_MARK data)

/-- LOG_CLEAR (R420): The wipe signature starts clearing the log and composes the clear record. -/
def execLogClear (port : Src) (data : List Byte) (s : State) : Host.Outcome State Fault Refusal :=
onDev s (fun d => d.hostWrite port K.LOG_CLEAR data)

/-- LOG_CLEAR_DONE (R420): The log erase completes, the clear record is written at index 0 and recording resumes. -/
def execLogClearDone (s : State) : Host.Outcome State Fault Refusal :=
onDev s (fun d => d.logCleared)

end Sys2Proof.Machine
end

