-- ==== Sys2Proof/Machine/ExecMonitor.lean ====
section
/-! DEFINITION. The meanings of the commands: Monitor rows. Each is one line over the operations of its chapter. -/

namespace Sys2Proof.Machine

/-- WM_COMPARATOR_ASSERT (R267): A filtered input crossing makes a window comparator ASSERTED and acts on its route.
-/
def execWmComparatorAssert (w : Fin 24) (upper : Bool) (uv : Int) (s : State) : Host.Outcome State Fault Refusal :=
onDev s (fun d => d.wmAssert w upper uv)

/-- WM_COMPARATOR_RELEASE (R267): An input crossing the release level makes a window comparator RELEASED. -/
def execWmComparatorRelease (w : Fin 24) (upper : Bool) (uv : Int) (s : State) : Host.Outcome State Fault Refusal :=
onDev s (fun d => d.wmRelease w upper uv)

/-- DAC_SETTLE_END (R269): A monitor DAC settles after a code change and the comparator acts on the new level. -/
def execDacSettleEnd (w : Fin 24) (upper : Bool) (uv : Int) (s : State) : Host.Outcome State Fault Refusal :=
onDev s (fun d => d.wmSettled w upper uv)

/-- WM_SAMPLE_WINDOW (R272): A sampled monitor powers its comparators for the window and decides its state at the
window end. -/
def execWmSampleWindow (w : Fin 24) (uv : Int) (s : State) : Host.Outcome State Fault Refusal :=
onDev s (fun d => d.wmWindow w uv)

/-- SWAP (R281): WM_TEST_CMD = 1 swaps input and DAC at both comparators to check assertion on the real input. -/
def execWmSwap (port : Src) (w : Fin 24) (s : State) : Host.Outcome State Fault Refusal :=
onDev s (fun d => d.hostWrite port (K.WM_TEST_CMD w) [1])

/-- TIE (R282): WM_TEST_CMD = 2 ties the comparators to internal levels and runs twelve checks. -/
def execWmTie (port : Src) (w : Fin 24) (s : State) : Host.Outcome State Fault Refusal :=
onDev s (fun d => d.hostWrite port (K.WM_TEST_CMD w) [2])

/-- WM_TEST_DONE (R280): A monitor self-test ends, restores the states and reports its result. -/
def execWmTestDone (w : Fin 24) (uv : Int) (checks : BitVec 12) (s : State) : Host.Outcome State Fault Refusal :=
onDev s (fun d => d.wmTestDone w uv checks.toNat)

/-- PK_TEST_CMD (R283): Starts the three-check test of a phase trip comparator. -/
def execPkTestCmd (port : Src) (p : Fin 32) (data : List Byte) (s : State) : Host.Outcome State Fault Refusal :=
onDev s (fun d => d.hostWrite port (K.PK_TEST_CMD p) data)

/-- PK_TEST_DONE (R283): The trip comparator test completes and fills PK_TEST_RESULT. -/
def execPkTestDone (p : Fin 32) (high low slope : Bool) (time : BitVec 16) (s : State) : Host.Outcome State Fault
    Refusal :=
onDev s (fun d => d.pkTestDone p high low slope time.toNat)

end Sys2Proof.Machine
end

