-- ==== Sys2Proof/Machine/ExecNymren.lean ====
section
/-! DEFINITION. The meanings of the commands: Nymren rows. Each is one line over the operations of its chapter. -/

namespace Sys2Proof.Machine

/-- NOP (R107): Nymren no-operation instruction. -/
def execNyNop (e : Fin 16) (s : State) : Host.Outcome State Fault Refusal :=
onDev s (fun d => d.nyExec e (.nyNop e) Engine.nyNop)

/-- END (R107): Releases the tick's port and drive words, flips state if armed, and idles the engine until the next
edge. -/
def execNyEnd (e : Fin 16) (s : State) : Host.Outcome State Fault Refusal :=
onDev s (fun d => d.nyEndAt e)

/-- COMMIT (R94): Arms the state flip that the following END carries out. -/
def execNyCommit (e : Fin 16) (s : State) : Host.Outcome State Fault Refusal :=
onDev s (fun d => d.nyExec e (.nyCommit e) Engine.nyCommit)

/-- BR (R107): Unconditional forward branch. -/
def execNyBr (e : Fin 16) (t : Fin 4096) (s : State) : Host.Outcome State Fault Refusal :=
onDev s (fun d => d.nyExec e (.nyBr e t) (Engine.nyBr t))

/-- BCC (R107): Conditional forward branch comparing a register with zero. -/
def execNyBcc (e : Fin 16) (cc : Fin 6) (ra : Fin 32) (t : Fin 4096) (s : State) : Host.Outcome State Fault Refusal :=
onDev s (fun d => d.nyExec e (.nyBcc e cc ra t) (Engine.nyBcc cc ra t))

/-- LOOP (R109): Runs the following body n times then continues after its end address. -/
def execNyLoop (e : Fin 16) (n : Fin 256) (t : Fin 4096) (s : State) : Host.Outcome State Fault Refusal :=
onDev s (fun d => d.nyExec e (.nyLoop e n t) (Engine.nyLoop n t))

/-- CALL (R107): Pushes the return address and jumps to a subroutine. -/
def execNyCall (e : Fin 16) (t : Fin 4096) (s : State) : Host.Outcome State Fault Refusal :=
onDev s (fun d => d.nyExec e (.nyCall e t) (Engine.nyCall t))

/-- RET (R107): Returns from a subroutine to the popped address. -/
def execNyRet (e : Fin 16) (s : State) : Host.Outcome State Fault Refusal :=
onDev s (fun d => d.nyExec e (.nyRet e) Engine.nyRet)

/-- SIG (R107): Raises an engine event code when END retires. -/
def execNySig (e : Fin 16) (code : Fin 256) (s : State) : Host.Outcome State Fault Refusal :=
onDev s (fun d => d.nyExec e (.nySig e code) (Engine.nySig code))

/-- BRK (R107): Halts the engine when a debugger is attached, otherwise acts as NOP. -/
def execNyBrk (e : Fin 16) (s : State) : Host.Outcome State Fault Refusal :=
onDev s (fun d => d.nyExec e (.nyBrk e) (Engine.nyBrk d.debugging))

/-- ADD (R107): Saturating 32-bit addition. -/
def execNyAdd (e : Fin 16) (rd ra rb : Fin 32) (s : State) : Host.Outcome State Fault Refusal :=
onDev s (fun d => d.nyExec e (.nyAdd e rd ra rb) (Engine.nyAdd rd ra rb))

/-- SUB (R107): Saturating 32-bit subtraction. -/
def execNySub (e : Fin 16) (rd ra rb : Fin 32) (s : State) : Host.Outcome State Fault Refusal :=
onDev s (fun d => d.nyExec e (.nySub e rd ra rb) (Engine.nySub rd ra rb))

/-- ADDW (R107): Wrapping 32-bit addition. -/
def execNyAddw (e : Fin 16) (rd ra rb : Fin 32) (s : State) : Host.Outcome State Fault Refusal :=
onDev s (fun d => d.nyExec e (.nyAddw e rd ra rb) (Engine.nyAddw rd ra rb))

/-- ADDI (R107): Saturating addition of a sign-extended immediate. -/
def execNyAddi (e : Fin 16) (rd ra : Fin 32) (imm : BitVec 16) (s : State) : Host.Outcome State Fault Refusal :=
onDev s (fun d => d.nyExec e (.nyAddi e rd ra imm) (Engine.nyAddi rd ra imm))

/-- AND (R107): Bitwise AND of two registers. -/
def execNyAnd (e : Fin 16) (rd ra rb : Fin 32) (s : State) : Host.Outcome State Fault Refusal :=
onDev s (fun d => d.nyExec e (.nyAnd e rd ra rb) (Engine.nyAnd rd ra rb))

/-- OR (R107): Bitwise OR of two registers. -/
def execNyOr (e : Fin 16) (rd ra rb : Fin 32) (s : State) : Host.Outcome State Fault Refusal :=
onDev s (fun d => d.nyExec e (.nyOr e rd ra rb) (Engine.nyOr rd ra rb))

/-- XOR (R107): Bitwise XOR of two registers. -/
def execNyXor (e : Fin 16) (rd ra rb : Fin 32) (s : State) : Host.Outcome State Fault Refusal :=
onDev s (fun d => d.nyExec e (.nyXor e rd ra rb) (Engine.nyXor rd ra rb))

/-- ANDI (R107): Bitwise AND with a zero-extended immediate. -/
def execNyAndi (e : Fin 16) (rd ra : Fin 32) (imm : BitVec 16) (s : State) : Host.Outcome State Fault Refusal :=
onDev s (fun d => d.nyExec e (.nyAndi e rd ra imm) (Engine.nyAndi rd ra imm))

/-- SHL (R107): Saturating left shift by an immediate amount. -/
def execNyShl (e : Fin 16) (rd ra sh : Fin 32) (s : State) : Host.Outcome State Fault Refusal :=
onDev s (fun d => d.nyExec e (.nyShl e rd ra sh) (Engine.nyShl rd ra sh))

/-- SHR (R107): Arithmetic right shift by an immediate amount. -/
def execNyShr (e : Fin 16) (rd ra sh : Fin 32) (s : State) : Host.Outcome State Fault Refusal :=
onDev s (fun d => d.nyExec e (.nyShr e rd ra sh) (Engine.nyShr rd ra sh))

/-- SHLV (R107): Wrapping left shift by a register amount. -/
def execNyShlv (e : Fin 16) (rd ra rb : Fin 32) (s : State) : Host.Outcome State Fault Refusal :=
onDev s (fun d => d.nyExec e (.nyShlv e rd ra rb) (Engine.nyShlv rd ra rb))

/-- MIN (R107): Signed minimum of two registers. -/
def execNyMin (e : Fin 16) (rd ra rb : Fin 32) (s : State) : Host.Outcome State Fault Refusal :=
onDev s (fun d => d.nyExec e (.nyMin e rd ra rb) (Engine.nyMin rd ra rb))

/-- MAX (R107): Signed maximum of two registers. -/
def execNyMax (e : Fin 16) (rd ra rb : Fin 32) (s : State) : Host.Outcome State Fault Refusal :=
onDev s (fun d => d.nyExec e (.nyMax e rd ra rb) (Engine.nyMax rd ra rb))

/-- CLAMP (R107): Clamps the destination register between two registers. -/
def execNyClamp (e : Fin 16) (rd ra rb : Fin 32) (s : State) : Host.Outcome State Fault Refusal :=
onDev s (fun d => d.nyExec e (.nyClamp e rd ra rb) (Engine.nyClamp rd ra rb))

/-- ABS (R107): Saturating absolute value. -/
def execNyAbs (e : Fin 16) (rd ra : Fin 32) (s : State) : Host.Outcome State Fault Refusal :=
onDev s (fun d => d.nyExec e (.nyAbs e rd ra) (Engine.nyAbs rd ra))

/-- NEG (R107): Saturating negation. -/
def execNyNeg (e : Fin 16) (rd ra : Fin 32) (s : State) : Host.Outcome State Fault Refusal :=
onDev s (fun d => d.nyExec e (.nyNeg e rd ra) (Engine.nyNeg rd ra))

/-- SLT (R107): Sets 1 if the first register is less than the second, else 0. -/
def execNySlt (e : Fin 16) (rd ra rb : Fin 32) (s : State) : Host.Outcome State Fault Refusal :=
onDev s (fun d => d.nyExec e (.nySlt e rd ra rb) (Engine.nySlt rd ra rb))

/-- SEL (R107): Selects one of two registers by the destination's truth. -/
def execNySel (e : Fin 16) (rd ra rb : Fin 32) (s : State) : Host.Outcome State Fault Refusal :=
onDev s (fun d => d.nyExec e (.nySel e rd ra rb) (Engine.nySel rd ra rb))

/-- MOV (R107): Copies a register. -/
def execNyMov (e : Fin 16) (rd ra : Fin 32) (s : State) : Host.Outcome State Fault Refusal :=
onDev s (fun d => d.nyExec e (.nyMov e rd ra) (Engine.nyMov rd ra))

/-- MOVI (R107): Loads a sign-extended immediate. -/
def execNyMovi (e : Fin 16) (rd : Fin 32) (imm : BitVec 16) (s : State) : Host.Outcome State Fault Refusal :=
onDev s (fun d => d.nyExec e (.nyMovi e rd imm) (Engine.nyMovi rd imm))

/-- MOVHI (R107): Loads an immediate into the high half keeping the low half. -/
def execNyMovhi (e : Fin 16) (rd : Fin 32) (imm : BitVec 16) (s : State) : Host.Outcome State Fault Refusal :=
onDev s (fun d => d.nyExec e (.nyMovhi e rd imm) (Engine.nyMovhi rd imm))

/-- MUL (R107): Rounded, shifted and saturated multiplication. -/
def execNyMul (e : Fin 16) (rd ra rb sh : Fin 32) (s : State) : Host.Outcome State Fault Refusal :=
onDev s (fun d => d.nyExec e (.nyMul e rd ra rb sh) (Engine.nyMul rd ra rb sh))

/-- DIVQ (R107): Shifted truncating division, saturating and setting div0 on a zero divisor. -/
def execNyDivq (e : Fin 16) (rd ra rb sh : Fin 32) (s : State) : Host.Outcome State Fault Refusal :=
onDev s (fun d => d.nyExec e (.nyDivq e rd ra rb sh) (Engine.nyDivq rd ra rb sh))

/-- LD (R93): Loads a data-memory word, reading the working copy of dirty state words. -/
def execNyLd (e : Fin 16) (rd ra : Fin 32) (imm : BitVec 16) (s : State) : Host.Outcome State Fault Refusal :=
onDev s (fun d => d.nyExec e (.nyLd e rd ra imm) (Engine.nyLd rd ra imm))

/-- ST (R94): Stores a data-memory word, marking state words dirty. -/
def execNySt (e : Fin 16) (rd ra : Fin 32) (imm : BitVec 16) (s : State) : Host.Outcome State Fault Refusal :=
onDev s (fun d => d.nyExec e (.nySt e rd ra imm) (Engine.nySt rd ra imm))

/-- LDC (R107): Loads the rounded value of an active-bank coefficient. -/
def execNyLdc (e : Fin 16) (rd ra : Fin 32) (c : BitVec 8) (s : State) : Host.Outcome State Fault Refusal :=
onDev s (fun d => d.nyExec e (.nyLdc e rd ra c) (Engine.nyLdc (d.coef e) rd ra c))

/-- LDCM (R107): Loads the mantissa of an active-bank coefficient. -/
def execNyLdcm (e : Fin 16) (rd ra : Fin 32) (c : BitVec 8) (s : State) : Host.Outcome State Fault Refusal :=
onDev s (fun d => d.nyExec e (.nyLdcm e rd ra c) (Engine.nyLdcm (d.coef e) rd ra c))

/-- CLRA (R107): Clears an accumulator. -/
def execNyClra (e : Fin 16) (a : Fin 4) (s : State) : Host.Outcome State Fault Refusal :=
onDev s (fun d => d.nyExec e (.nyClra e a) (Engine.nyClra a))

/-- LDA (R104): Places a register value into an accumulator at the register LSB. -/
def execNyLda (e : Fin 16) (a : Fin 4) (ra : Fin 32) (s : State) : Host.Outcome State Fault Refusal :=
onDev s (fun d => d.nyExec e (.nyLda e a ra) (Engine.nyLda a ra))

/-- MAC (R105): Adds a register times a coefficient to an accumulator. -/
def execNyMac (e : Fin 16) (a : Fin 4) (ra rb : Fin 32) (c : BitVec 8) (s : State) : Host.Outcome State Fault Refusal
    :=
onDev s (fun d => d.nyExec e (.nyMac e a ra rb c) (Engine.nyMac (d.coef e) a ra rb c))

/-- MSC (R105): Subtracts a register times a coefficient from an accumulator. -/
def execNyMsc (e : Fin 16) (a : Fin 4) (ra rb : Fin 32) (c : BitVec 8) (s : State) : Host.Outcome State Fault Refusal
    :=
onDev s (fun d => d.nyExec e (.nyMsc e a ra rb c) (Engine.nyMsc (d.coef e) a ra rb c))

/-- MACW (R107): Adds the shifted product of two registers to an accumulator. -/
def execNyMacw (e : Fin 16) (a : Fin 4) (ra rb sh : Fin 32) (s : State) : Host.Outcome State Fault Refusal :=
onDev s (fun d => d.nyExec e (.nyMacw e a ra rb sh) (Engine.nyMacw a ra rb sh))

/-- ACX (R104): Extracts a rounded, saturated register value from an accumulator. -/
def execNyAcx (e : Fin 16) (rd : Fin 32) (a : Fin 4) (sh : BitVec 6) (s : State) : Host.Outcome State Fault Refusal :=
onDev s (fun d => d.nyExec e (.nyAcx e rd a sh) (Engine.nyAcx rd a sh))

/-- ADDA (R107): Adds one accumulator to another with saturation. -/
def execNyAdda (e : Fin 16) (a b : Fin 4) (s : State) : Host.Outcome State Fault Refusal :=
onDev s (fun d => d.nyExec e (.nyAdda e a b) (Engine.nyAdda a b))

/-- IN (R107): Reads a sample-port word. -/
def execNyIn (e : Fin 16) (rd ra : Fin 32) (p : BitVec 9) (s : State) : Host.Outcome State Fault Refusal :=
onDev s (fun d => d.nyExec e (.nyIn e rd ra p) (Engine.nyIn (d.sampleOf e) rd ra p))

/-- OUT (R97): Writes an output-port word for the present tick. -/
def execNyOut (e : Fin 16) (rd ra q : Fin 32) (s : State) : Host.Outcome State Fault Refusal :=
onDev s (fun d => d.nyExec e (.nyOut e rd ra q) (Engine.nyOut rd ra q))

/-- OUTD (R100): Writes a drive word, dropped with drive_denied if the engine does not own it. -/
def execNyOutd (e : Fin 16) (rd ra : Fin 32) (w : BitVec 9) (s : State) : Host.Outcome State Fault Refusal :=
onDev s (fun d => d.nyExec e (.nyOutd e rd ra w) (Engine.nyOutd (d.owns e) rd ra w))

end Sys2Proof.Machine
end

