-- ==== Sys2Proof/Machine/ExecPhase.lean ====
section
/-! DEFINITION. The meanings of the commands: Phase rows. Each is one line over the operations of its chapter. -/

namespace Sys2Proof.Machine

/-- RAIL_PERIOD_START (R79): At each rail period start the period length, active set, rotation and slot times are
applied. -/
def execRailPeriodStart (n : Fin 8) (s : State) : Host.Outcome State Fault Refusal :=
onDev s (fun d => d.railPeriodStart n)

/-- SLOT_TURN_ON (R63): At a slot's turn-on the phase goes HIGH and its DAC is loaded with the clamped peak reference
and starts sloping. -/
def execSlotTurnOn (p : Fin 32) (s : State) : Host.Outcome State Fault Refusal :=
onDev s (fun d => d.slotTurnOn p)

/-- DEFERRED_TURN_ON (R61): A turn-on deferred by TOFF_MIN or a drain occurs when the wait ends. -/
def execDeferredTurnOn (p : Fin 32) (s : State) : Host.Outcome State Fault Refusal :=
onDev s (fun d => d.deferredTurnOn p)

/-- PEAK_COMPARATOR_TRIP (R66): IMON crossing the DAC level after blanking and TON_MIN ends the on-time. -/
def execPeakComparatorTrip (p : Fin 32) (sample : TripSample) (s : State) : Host.Outcome State Fault Refusal :=
onDev s (fun d => d.peakTrip p sample.steps sample.imon.toNat)

/-- BLANKING_END (R66): A comparator asserted during blanking ends the on-time at the later of LEB_NS and TON_MIN. -/
def execBlankingEnd (p : Fin 32) (s : State) : Host.Outcome State Fault Refusal :=
onDev s (fun d => d.blankingEnd p)

/-- TON_MAX_EXPIRY (R66): TON_MAX after turn-on ends the on-time and sets tonmax_hit. -/
def execTonMaxExpiry (p : Fin 32) (s : State) : Host.Outcome State Fault Refusal :=
onDev s (fun d => d.tonMaxExpiry p)

/-- TIMED_TURN_OFF (R67): In timed mode the on-time ends at the clamped commanded time. -/
def execTimedTurnOff (p : Fin 32) (s : State) : Host.Outcome State Fault Refusal :=
onDev s (fun d => d.timedTurnOff p)

/-- ZERO_CROSSING (R69): In diode emulation IMON falling below ZC_OFFSET puts the output at MID. -/
def execZeroCrossing (p : Fin 32) (steps : Nat) (s : State) : Host.Outcome State Fault Refusal :=
onDev s (fun d => d.zeroCrossing p steps)

/-- TIMED_ZERO_CROSSING (R69): In timed mode the diode-emulation zero crossing is taken at the model's predicted zero.
-/
def execTimedZeroCrossing (p : Fin 32) (s : State) : Host.Outcome State Fault Refusal :=
onDev s (fun d => d.timedZeroCrossing p)

/-- IMON_CONVERSION (R70): The current converter holds and converts a phase's IMON in its 25 ns slot. -/
def execImonConversion (p : Fin 32) (code : BitVec 12) (s : State) : Host.Outcome State Fault Refusal :=
onDev s (fun d => d.imonConversion p code.toNat)

/-- PLACED_HOLD (R71): A placed hold at the chosen instant replaces a regular hold, or is dropped as late. -/
def execPlacedHold (p : Fin 32) (late : Bool) (s : State) : Host.Outcome State Fault Refusal :=
onDev s (fun d => d.placedHold p late)

/-- ASYNC_TRIP (R68): A routed trip of kind TERMINATE ends the on-time and blocks turn-ons, or of kind DISABLE forces
MID with a latch. -/
def execAsyncTrip (w : Fin 24) (upper : Bool) (p : Fin 32) (s : State) : Host.Outcome State Fault Refusal :=
onDev s (fun d => d.asyncTrip w upper p)

/-- TRIP_RELEASE (R68): Release of a TERMINATE trip input lets regulation resume at the next slot. -/
def execTripRelease (w : Fin 24) (upper : Bool) (p : Fin 32) (s : State) : Host.Outcome State Fault Refusal :=
onDev s (fun d => d.tripRelease w upper p)

/-- SG_FAULT_COMPARATOR (R85): The SG fault comparator forces every active phase of the group to MID with a DISABLE
latch. -/
def execSgFaultComparator (g : Fin 8) (s : State) : Host.Outcome State Fault Refusal :=
onDev s (fun d => d.sgComparator g)

/-- REALIGN (R58): PHASE_CMD = 1 ends the phase's local period and binds it to its rail's slot grid. -/
def execRealign (port : Src) (p : Fin 32) (s : State) : Host.Outcome State Fault Refusal :=
onDev s (fun d => d.hostWrite port (K.PHASE_CMD p) [1])

/-- FORCE_MID (R88): PHASE_CMD = 2 forces the phase to MID with a DISABLE latch. -/
def execForceMid (port : Src) (p : Fin 32) (s : State) : Host.Outcome State Fault Refusal :=
onDev s (fun d => d.hostWrite port (K.PHASE_CMD p) [2])

/-- RELEASE (R68): PHASE_CMD = 3 releases the phase's DISABLE latch. -/
def execRelease (port : Src) (p : Fin 32) (s : State) : Host.Outcome State Fault Refusal :=
onDev s (fun d => d.hostWrite port (K.PHASE_CMD p) [3])

/-- SINGLE_PULSE (R87): PHASE_CMD = 4 fires one timed on-time of PULSE_TON from the local generator. -/
def execSinglePulse (port : Src) (p : Fin 32) (s : State) : Host.Outcome State Fault Refusal :=
onDev s (fun d => d.hostWrite port (K.PHASE_CMD p) [4])

/-- SINGLE_PULSE_TURN_OFF (R87): The single pulse ends, takes its placed hold and drains by diode emulation, filling
PULSE_RESULT. -/
def execSinglePulseTurnOff (p : Fin 32) (s : State) : Host.Outcome State Fault Refusal :=
onDev s (fun d => d.singlePulseTurnOff p)

/-- PHASE_RAIL_WRITE (R73): Assigns a phase to a rail or unassigns it, changing its service state. -/
def execPhaseRailWrite (port : Src) (p : Fin 32) (data : List Byte) (s : State) : Host.Outcome State Fault Refusal :=
onDev s (fun d => d.hostWrite port (K.PHASE_RAIL p) data)

/-- PHASE_STATUS_READ (R88): A read returns the phase status and clears tonmax_hit and isample_late. -/
def execPhaseStatusRead (port : Src) (p : Fin 32) (s : State) : Host.Outcome State Fault Refusal :=
onDev s (fun d => d.hostRead port (K.PHASE_STATUS p))

end Sys2Proof.Machine
end

