-- ==== Sys2Proof/Machine/ExecPmbus.lean ====
section
/-! DEFINITION. The meanings of the commands: Pmbus rows. Each is one line over the operations of its chapter. -/

namespace Sys2Proof.Machine

/-- PAGE (R349): PMBus PAGE selects the unit that paged commands address. -/
def execPmbPage (x : TwFrame) (data : Option Byte) (s : State) : Host.Outcome State Fault Refusal :=
onDev s (fun d => d.pmbByte x 0x00 (Dev.pageKey x.port) data)

/-- OPERATION_ON_OFF (R350): PMBus OPERATION bit 7 switches a unit, or on page FFh requests power-up or power-down. -/
def execPmbOperation (x : TwFrame) (data : Option Byte) (s : State) : Host.Outcome State Fault Refusal :=
onDev s (fun d => d.pmbOperation x data)

/-- OPERATION_MARGIN (R180): PMBus OPERATION bits 5–2 set MARGIN_STATE of a rail. -/
def execPmbOperationMargin (x : TwFrame) (data : Byte) (s : State) : Host.Outcome State Fault Refusal :=
onDev s (fun d => d.pmbOperate x data)

/-- ON_OFF_CONFIG (R350): PMBus read of ON_OFF_CONFIG returns 18h. -/
def execPmbOnOffConfig (x : TwFrame) (s : State) : Host.Outcome State Fault Refusal :=
onDev s (fun d => d.pmbPaged x 0x02 1 K.UNIT_ON (fun _ d => ([0x18], d)))

/-- CLEAR_FAULTS (R353): PMBus CLEAR_FAULTS clears latched status bits and the unit's fault status. -/
def execPmbClearFaults (x : TwFrame) (s : State) : Host.Outcome State Fault Refusal :=
onDev s (fun d => d.pmbClearFaults x)

/-- WRITE_PROTECT (R345): PMBus WRITE_PROTECT sets or reads PMB_WRITE_PROTECT. -/
def execPmbWriteProtect (x : TwFrame) (data : Option Byte) (s : State) : Host.Outcome State Fault Refusal :=
onDev s (fun d => d.pmbByte x 0x10 K.PMB_WRITE_PROTECT data)

/-- STORE_USER_ALL (R436): PMBus STORE_USER_ALL requests a settings store. -/
def execPmbStoreUserAll (x : TwFrame) (s : State) : Host.Outcome State Fault Refusal :=
onDev s (fun d => d.pmbWrite x 0x15 [] (fun d => d.pmbSet x.port.src K.STORE_PARAMETERS (leBytes 4 (0x65766173 : Nat))))

/-- RESTORE_USER_ALL (R440): PMBus RESTORE_USER_ALL requests a restore from the active image. -/
def execPmbRestoreUserAll (x : TwFrame) (s : State) : Host.Outcome State Fault Refusal :=
onDev s (fun d => d.pmbWrite x 0x16 [] (fun d => d.pmbSet x.port.src K.RESTORE_DEFAULT_PARAMETERS (leBytes 4 (0x64616F6C
    : Nat))))

/-- CAPABILITY (R350): PMBus CAPABILITY returns D4h. -/
def execPmbCapability (x : TwFrame) (s : State) : Host.Outcome State Fault Refusal :=
onDev s (fun d => d.pmbConst x 0x19 [0xD4])

/-- VOUT_MODE (R350): PMBus VOUT_MODE returns 14h. -/
def execPmbVoutMode (x : TwFrame) (s : State) : Host.Outcome State Fault Refusal :=
onDev s (fun d => d.pmbPaged x 0x20 1 K.UNIT_ON (fun _ d => ([0x14], d)))

/-- VOUT_COMMAND (R180): PMBus VOUT_COMMAND sets or reads the unit's commanded voltage. -/
def execPmbVoutCommand (x : TwFrame) (data : Option (BitVec 16)) (s : State) : Host.Outcome State Fault Refusal :=
onDev s (fun d => d.pmbWord x 0x21 (Dev.measKey K.VOUT_COMMAND K.BK_VOUT_COMMAND K.LDO_VOUT K.VOUT_COMMAND) data)

/-- VOUT_MAX (R180): PMBus VOUT_MAX sets or reads the rail's upper target limit. -/
def execPmbVoutMax (x : TwFrame) (data : Option (BitVec 16)) (s : State) : Host.Outcome State Fault Refusal :=
onDev s (fun d => d.pmbWord x 0x24 K.VOUT_MAX data)

/-- VOUT_MARGIN_HIGH (R181): PMBus VOUT_MARGIN_HIGH sets or reads the high margin voltage. -/
def execPmbVoutMarginHigh (x : TwFrame) (data : Option (BitVec 16)) (s : State) : Host.Outcome State Fault Refusal :=
onDev s (fun d => d.pmbWord x 0x25 K.VOUT_MARGIN_HIGH data)

/-- VOUT_MARGIN_LOW (R181): PMBus VOUT_MARGIN_LOW sets or reads the low margin voltage. -/
def execPmbVoutMarginLow (x : TwFrame) (data : Option (BitVec 16)) (s : State) : Host.Outcome State Fault Refusal :=
onDev s (fun d => d.pmbWord x 0x26 K.VOUT_MARGIN_LOW data)

/-- VOUT_TRANSITION_RATE (R180): PMBus VOUT_TRANSITION_RATE sets or reads the host slew. -/
def execPmbVoutTransitionRate (x : TwFrame) (data : Option (BitVec 16)) (s : State) : Host.Outcome State Fault Refusal
    :=
onDev s (fun d => d.pmbLinear x 0x27 100 (Dev.measKey K.VOUT_TRANSITION_RATE K.BK_SLEW K.BK_SLEW K.BK_SLEW) data)

/-- VOUT_MIN (R180): PMBus VOUT_MIN sets or reads the rail's lower target limit. -/
def execPmbVoutMin (x : TwFrame) (data : Option (BitVec 16)) (s : State) : Host.Outcome State Fault Refusal :=
onDev s (fun d => d.pmbWord x 0x2B K.VOUT_MIN data)

/-- VOUT_OV_FAULT_LIMIT (R350): PMBus command sets or reads the rail OV limit. -/
def execPmbVoutOvFaultLimit (x : TwFrame) (data : Option (BitVec 16)) (s : State) : Host.Outcome State Fault Refusal
    :=
onDev s (fun d => d.pmbWord x 0x40 K.VOUT_OV_FAULT_LIMIT data)

/-- VOUT_UV_FAULT_LIMIT (R350): PMBus command sets or reads the rail UV limit. -/
def execPmbVoutUvFaultLimit (x : TwFrame) (data : Option (BitVec 16)) (s : State) : Host.Outcome State Fault Refusal
    :=
onDev s (fun d => d.pmbWord x 0x44 K.VOUT_UV_FAULT_LIMIT data)

/-- IOUT_OC_FAULT_LIMIT (R350): PMBus command sets or reads the rail OC limit. -/
def execPmbIoutOcFaultLimit (x : TwFrame) (data : Option (BitVec 16)) (s : State) : Host.Outcome State Fault Refusal
    :=
onDev s (fun d => d.pmbLinear x 0x46 16 K.IOUT_OC_FAULT_LIMIT data)

/-- STATUS_BYTE (R352): PMBus STATUS_BYTE returns the derived status byte. -/
def execPmbStatusByte (x : TwFrame) (s : State) : Host.Outcome State Fault Refusal :=
onDev s (fun d => d.pmbStatusWord x 0x78 1)

/-- STATUS_WORD (R352): PMBus STATUS_WORD returns the derived status word. -/
def execPmbStatusWord (x : TwFrame) (s : State) : Host.Outcome State Fault Refusal :=
onDev s (fun d => d.pmbStatusWord x 0x79 2)

/-- STATUS_VOUT (R352): PMBus STATUS_VOUT reads, or clears bits written 1. -/
def execPmbStatusVout (x : TwFrame) (data : Option Byte) (s : State) : Host.Outcome State Fault Refusal :=
onDev s (fun d => d.pmbStatus x 0x7A .vout data)

/-- STATUS_IOUT (R352): PMBus STATUS_IOUT reads, or clears bits written 1. -/
def execPmbStatusIout (x : TwFrame) (data : Option Byte) (s : State) : Host.Outcome State Fault Refusal :=
onDev s (fun d => d.pmbStatus x 0x7B .iout data)

/-- STATUS_INPUT (R352): PMBus STATUS_INPUT reads, or clears bits written 1. -/
def execPmbStatusInput (x : TwFrame) (data : Option Byte) (s : State) : Host.Outcome State Fault Refusal :=
onDev s (fun d => d.pmbStatus x 0x7C .inp data)

/-- STATUS_TEMPERATURE (R352): PMBus STATUS_TEMPERATURE reads, or clears bits written 1. -/
def execPmbStatusTemperature (x : TwFrame) (data : Option Byte) (s : State) : Host.Outcome State Fault Refusal :=
onDev s (fun d => d.pmbStatus x 0x7D .temp data)

/-- STATUS_CML (R352): PMBus STATUS_CML reads, or clears bits written 1. -/
def execPmbStatusCml (x : TwFrame) (data : Option Byte) (s : State) : Host.Outcome State Fault Refusal :=
onDev s (fun d => d.pmbStatusCml x data)

/-- STATUS_MFR_SPECIFIC (R352): PMBus STATUS_MFR_SPECIFIC reads, or clears bits written 1. -/
def execPmbStatusMfrSpecific (x : TwFrame) (data : Option Byte) (s : State) : Host.Outcome State Fault Refusal :=
onDev s (fun d => d.pmbStatus x 0x80 .mfr data)

/-- READ_VIN (R350): PMBus READ_VIN returns VIN in LINEAR11. -/
def execPmbReadVin (x : TwFrame) (s : State) : Host.Outcome State Fault Refusal :=
onDev s (fun d => d.pmbReadVin x)

/-- READ_VOUT (R350): PMBus READ_VOUT returns the unit's output voltage. -/
def execPmbReadVout (x : TwFrame) (s : State) : Host.Outcome State Fault Refusal :=
onDev s (fun d => d.pmbReadVout x)

/-- READ_IOUT (R350): PMBus READ_IOUT returns the unit or phase current. -/
def execPmbReadIout (x : TwFrame) (s : State) : Host.Outcome State Fault Refusal :=
onDev s (fun d => d.pmbReadIout x)

/-- READ_TEMPERATURE_1 (R350): PMBus READ_TEMPERATURE_1 returns the relevant stage or die temperature. -/
def execPmbReadTemperature1 (x : TwFrame) (s : State) : Host.Outcome State Fault Refusal :=
onDev s (fun d => d.pmbReadTemperature x)

/-- PMBUS_REVISION (R350): PMBus PMBUS_REVISION returns 33h. -/
def execPmbRevision (x : TwFrame) (s : State) : Host.Outcome State Fault Refusal :=
onDev s (fun d => d.pmbConst x 0x98 [0x33])

/-- MFR_ID (R350): PMBus MFR_ID returns "SORAEL". -/
def execPmbMfrId (x : TwFrame) (s : State) : Host.Outcome State Fault Refusal :=
onDev s (fun d => d.pmbConst x 0x99 (Dev.block [0x53, 0x4F, 0x52, 0x41, 0x45, 0x4C]))

/-- MFR_MODEL (R350): PMBus MFR_MODEL returns "CPL4832". -/
def execPmbMfrModel (x : TwFrame) (s : State) : Host.Outcome State Fault Refusal :=
onDev s (fun d => d.pmbConst x 0x9A (Dev.block [0x43, 0x50, 0x4C, 0x34, 0x38, 0x33, 0x32]))

/-- MFR_REVISION (R350): PMBus MFR_REVISION returns "B1". -/
def execPmbMfrRevision (x : TwFrame) (s : State) : Host.Outcome State Fault Refusal :=
onDev s (fun d => d.pmbConst x 0x9B (Dev.block [0x42, 0x31]))

/-- OBJ_SELECT (R357): Selects the object that OBJ_DATA accesses. -/
def execObjSelect (x : TwFrame) (data : List Byte) (s : State) : Host.Outcome State Fault Refusal :=
onDev s (fun d => d.objSelect x data)

/-- OBJ_DATA (R357): Reads or writes the selected object as one operation. -/
def execObjData (x : TwFrame) (data : Option (List Byte)) (s : State) : Host.Outcome State Fault Refusal :=
onDev s (fun d => d.meeting (if data.isSome then [] else x.flaws) (fun d => d.objData x data))

/-- OBJ_RESULT (R357): Returns the OSN, state and reason of the port's last write. -/
def execObjResult (x : TwFrame) (s : State) : Host.Outcome State Fault Refusal :=
onDev s (fun d => d.objResult x)

/-- UNSUPPORTED_COMMAND (R345): A PMBus or SVC command byte that the target does not support, or not on the present
page, is NACKed, sets invalid_cmd and commits code 05h. -/
def execUnsupportedCommand (t : TwPort) (code : Byte) (s : State) : Host.Outcome State Fault Refusal :=
onDev s (fun d => d.unsupportedCommand t code.toNat)

end Sys2Proof.Machine
end

