-- ==== Sys2Proof/Machine/ExecPower.lean ====
section
/-! DEFINITION. The meanings of the commands: Power rows. Each is one line over the operations of its chapter. -/

namespace Sys2Proof.Machine

/-- INPUT_CONVERTER_START (R312): VIN at or above 4.60 V starts the input converter regulating SYS. -/
def execInputConverterStart (s : State) : Host.Outcome State Fault Refusal :=
onDev s (fun d => d.convStart)

/-- INPUT_CONVERTER_STOP (R312): VIN below 4.40 V stops the input converter. -/
def execInputConverterStop (s : State) : Host.Outcome State Fault Refusal :=
onDev s (fun d => d.convStop)

/-- VIN_PRESENT_CHANGE (R314): The VIN detect comparator changes vin_present, used for wake, ship exit and ship
cancel. -/
def execVinPresentChange (present : Bool) (s : State) : Host.Outcome State Fault Refusal :=
onDev s (fun d => d.vinPresent present)

/-- PP_RETURN (R315): The VIN valid count reaching T_RETURN returns the power path to ON_INPUT. -/
def execPpReturn (s : State) : Host.Outcome State Fault Refusal :=
onDev s (fun d => d.ppReturn)

/-- DISCH_OC (R313): Excess discharge current opens the battery switch and latches disch_oc. -/
def execDischOc (s : State) : Host.Outcome State Fault Refusal :=
onDev s (fun d => d.dischOc)

/-- CHG_EN_WRITE (R319): Enables or disables the charger. -/
def execChgEnWrite (port : Src) (data : List Byte) (s : State) : Host.Outcome State Fault Refusal :=
onDev s (fun d => d.hostWrite port K.CHG_EN data)

/-- CHG_CHEM_WRITE (R318): Sets the chemistry and its default voltages while the charger is disabled. -/
def execChgChemWrite (port : Src) (data : List Byte) (s : State) : Host.Outcome State Fault Refusal :=
onDev s (fun d => d.hostWrite port K.CHG_CHEM data)

/-- CHG_PRECHARGE_DONE (R319): BAT reaching CHG_VPRE + 100 mV moves PRECHARGE to CC. -/
def execChgPrechargeDone (s : State) : Host.Outcome State Fault Refusal :=
onDev s (fun d => d.chgPrechargeDone)

/-- CHG_CV_ENTRY (R319): BAT reaching V_reg moves CC to CV. -/
def execChgCvEntry (s : State) : Host.Outcome State Fault Refusal :=
onDev s (fun d => d.chgCvEntry)

/-- CHG_TERMINATION (R319): Charge current below CHG_ITERM for 2 s moves CV to DONE. -/
def execChgTermination (s : State) : Host.Outcome State Fault Refusal :=
onDev s (fun d => d.chgTermination)

/-- CHG_PRE_TIMEOUT (R319): The precharge timer reaching CHG_PRE_TIME blocks the charger with dead_cell. -/
def execChgPreTimeout (s : State) : Host.Outcome State Fault Refusal :=
onDev s (fun d => d.chgPreTimeout)

/-- CHG_SAFETY_TIMEOUT (R320): The safety timer reaching CHG_SAFETY_TIME blocks the charger with safety_timer. -/
def execChgSafetyTimeout (s : State) : Host.Outcome State Fault Refusal :=
onDev s (fun d => d.chgSafetyTimeout)

/-- CHG_RECHARGE (R319): BAT below V_reg − CHG_RECHG_DELTA for 100 ms restarts charging from DONE. -/
def execChgRecharge (s : State) : Host.Outcome State Fault Refusal :=
onDev s (fun d => d.chgRecharge)

/-- TS_ZONE_CHANGE (R322): Three conversions beyond a boundary change the thermistor zone, pausing or reducing charge.
-/
def execTsZoneChange (zone : Fin 5) (s : State) : Host.Outcome State Fault Refusal :=
onDev s (fun d => d.tsZone zone)

/-- BAT_OV (R323): BAT above V_reg + 100 mV for 1 ms latches bat_ov. -/
def execBatOv (s : State) : Host.Outcome State Fault Refusal :=
onDev s (fun d => d.batOv)

/-- TS_SHORT (R323): TS ratio below 1% on three conversions latches ts_short. -/
def execTsShort (s : State) : Host.Outcome State Fault Refusal :=
onDev s (fun d => d.tsShort)

/-- VIN_OV (R323): VIN above 17.5 V stops the input converter and latches vin_ov. -/
def execVinOv (s : State) : Host.Outcome State Fault Refusal :=
onDev s (fun d => d.vinOv)

/-- CHG_THERMAL (R323): A die sensor above 150 °C on three scans latches chg_thermal. -/
def execChgThermal (s : State) : Host.Outcome State Fault Refusal :=
onDev s (fun d => d.chgThermal)

/-- DISCH_HOT (R323): TS ratio at or below TS_DISCH_HOT latches disch_hot and forbids discharge. -/
def execDischHot (s : State) : Host.Outcome State Fault Refusal :=
onDev s (fun d => d.dischHot)

/-- BAT_UV (R323): BAT below BAT_CUTOFF for 10 ms latches bat_uv and opens the battery switch. -/
def execBatUv (s : State) : Host.Outcome State Fault Refusal :=
onDev s (fun d => d.batUv)

/-- CHG_FAULT_READ (R323): A read returns the charger faults and clears each bit whose condition has ended. -/
def execChgFaultRead (port : Src) (s : State) : Host.Outcome State Fault Refusal :=
onDev s (fun d => d.hostRead port K.CHG_FAULT)

/-- BATTERY_REMOVAL (R324): An open thermistor or a BAT rise stops the charger, opens the switch and latches
bat_absent. -/
def execBatteryRemoval (byBat : Bool) (s : State) : Host.Outcome State Fault Refusal :=
onDev s (fun d => d.batteryRemoval byBat)

/-- BATTERY_PRESENT (R325): Both presence conditions held for 1 s clear bat_absent and restore the ideal diode. -/
def execBatteryPresent (s : State) : Host.Outcome State Fault Refusal :=
onDev s (fun d => d.batteryPresent)

/-- ACC_SHORT (R327): ACC below 4.50 V in current limit for 10 ms turns the boost off for a retry or latches it off.
-/
def execAccShort (s : State) : Host.Outcome State Fault Refusal :=
onDev s (fun d => d.accShort)

/-- ACC_RETRY (R327): One second after an ACC shutdown the boost retries. -/
def execAccRetry (s : State) : Host.Outcome State Fault Refusal :=
onDev s (fun d => d.accRetry)

/-- ACC_RESTART (R327): Clears latched_off of the ACC boost. -/
def execAccRestart (port : Src) (s : State) : Host.Outcome State Fault Refusal :=
onDev s (fun d => d.hostWrite port K.ACC_RESTART [1])

/-- BTN_PRESS (R328): A debounced press of BTN# commits EV96 01h and may wake or cancel ship. -/
def execBtnPress (s : State) : Host.Outcome State Fault Refusal :=
onDev s (fun d => d.btnPress)

/-- BTN_RELEASE (R328): A release before the long-press time commits EV96 02h. -/
def execBtnRelease (s : State) : Host.Outcome State Fault Refusal :=
onDev s (fun d => d.btnRelease)

/-- BTN_LONG_WARNING (R328): A press lasting BTN_LONG_TIME − 2 s commits EV96 03h. -/
def execBtnLongWarning (s : State) : Host.Outcome State Fault Refusal :=
onDev s (fun d => d.btnWarn)

/-- LONG_PRESS_RESET (R329): A press held for BTN_LONG_TIME opens the battery switch, discharges SYS and restarts
after 300 ms. -/
def execLongPressReset (s : State) : Host.Outcome State Fault Refusal :=
onDev s (fun d => d.longPressReset)

/-- SHIP_CMD (R330): The ship signature requests ship mode and starts SHIP_DELAY. -/
def execShipCmd (port : Src) (data : List Byte) (s : State) : Host.Outcome State Fault Refusal :=
onDev s (fun d => d.hostWrite port K.SHIP_CMD data)

/-- SHIP_ENTRY (R330): At the end of the ship delay the keep rails stop and the battery switch opens. -/
def execShipEntry (s : State) : Host.Outcome State Fault Refusal :=
onDev s (fun d => d.shipEntry)

/-- SHIP_EXIT (R331): VIN present or BTN# held 500 ms leaves SHIP with a power-on reset of kind ship exit. -/
def execShipExit (s : State) : Host.Outcome State Fault Refusal :=
onDev s (fun d => d.shipExit)

/-- SHIP_STATUS_READ (R335): A read returns ship status and clears cancelled. -/
def execShipStatusRead (port : Src) (s : State) : Host.Outcome State Fault Refusal :=
onDev s (fun d => d.hostRead port K.SHIP_STATUS)

/-- IO_GROUP_SUPPLY_CHANGE (R500): The supply of an I/O group (VDDIO_S or VDDIO_H) falls below or rises above 1.5 V,
putting every pin of the group in or out of high impedance. -/
def execIoGroupSupplyChange (h up : Bool) (s : State) : Host.Outcome State Fault Refusal :=
onDev s (fun d => d.ioSupply h up)

end Sys2Proof.Machine
end

