-- ==== Sys2Proof/Machine/ExecSeq.lean ====
section
/-! DEFINITION. The meanings of the commands: Seq rows. Each is one line over the operations of its chapter. -/

namespace Sys2Proof.Machine

/-- SEQ_NOP (R251): A sequencer step with action NOP. -/
def execSeqNop (s : State) : Host.Outcome State Fault Refusal :=
onDev s (fun d => d.seqNop)

/-- SEQ_ENABLE (R251): A sequencer step enables a unit as an operation of source SEQ. -/
def execSeqEnable (s : State) : Host.Outcome State Fault Refusal :=
onDev s (fun d => d.seqEnable)

/-- SEQ_DISABLE (R251): A sequencer step disables a unit as an operation of source SEQ. -/
def execSeqDisable (s : State) : Host.Outcome State Fault Refusal :=
onDev s (fun d => d.seqDisable)

/-- SEQ_SET_VOUT (R251): A sequencer step sets a rail or buck target at the sequencer slew. -/
def execSeqSetVout (s : State) : Host.Outcome State Fault Refusal :=
onDev s (fun d => d.seqSetVout)

/-- SEQ_OUT (R251): A sequencer step drives a SEQ output level. -/
def execSeqOut (s : State) : Host.Outcome State Fault Refusal :=
onDev s (fun d => d.seqOut)

/-- SEQ_SIGNAL (R251): A sequencer step commits EV117 with its value. -/
def execSeqSignal (s : State) : Host.Outcome State Fault Refusal :=
onDev s (fun d => d.seqSignal)

/-- SEQ_STEP_TIMEOUT (R253): A step's wait timing out applies its on_timeout action. -/
def execSeqStepTimeout (s : State) : Host.Outcome State Fault Refusal :=
onDev s (fun d => d.seqStepTimeout)

/-- SEQ_PROGRAM_END (R257): The last step of a program completes and the program's closing action runs. -/
def execSeqProgramEnd (s : State) : Host.Outcome State Fault Refusal :=
onDev s (fun d => d.seqProgramEnd)

/-- POWER_UP (R257): SEQ_CMD = 1 requests the power-up program. -/
def execPowerUp (port : Src) (s : State) : Host.Outcome State Fault Refusal :=
onDev s (fun d => d.hostWrite port K.SEQ_CMD [1])

/-- POWER_DOWN (R257): SEQ_CMD = 2 requests the power-down program. -/
def execPowerDown (port : Src) (s : State) : Host.Outcome State Fault Refusal :=
onDev s (fun d => d.hostWrite port K.SEQ_CMD [2])

/-- ABORT (R257): SEQ_CMD = 3 aborts a power-up or commanded power-down. -/
def execAbort (port : Src) (s : State) : Host.Outcome State Fault Refusal :=
onDev s (fun d => d.hostWrite port K.SEQ_CMD [3])

/-- SQI_EDGE (R259): A sampled change on an SQI input commits EV118 and may request a program. -/
def execSqiEdge (i : Fin 4) (level : Bool) (s : State) : Host.Outcome State Fault Refusal :=
onDev s (fun d => d.sqiEdge i level)

end Sys2Proof.Machine
end

