-- ==== Sys2Proof/Machine/ExecState.lean ====
section
/-! DEFINITION. The meanings of the commands: State rows. Each is one line over the operations of its chapter. -/

namespace Sys2Proof.Machine

/-- ECONOMY_EXIT (R426): After a rail enable in ECONOMY the device returns to ACTIVE once PLL_H locks and the tick
rate is restored. -/
def execEconomyExit (s : State) : Host.Outcome State Fault Refusal :=
onDev s (fun d => d.economyExit)

/-- DOME_CMD (R428): The dome signature requests DOME, saving deltas and context and stopping every clock but LF. -/
def execDomeCmd (port : Src) (data : List Byte) (s : State) : Host.Outcome State Fault Refusal :=
onDev s (fun d => d.hostWrite port K.DOME_CMD data)

/-- KEEP_DOME_TIMEOUT (R428): In KEEP with KEEP_DOME_EN, KEEP_DOME_TIME without operations requests DOME. -/
def execKeepDomeTimeout (s : State) : Host.Outcome State Fault Refusal :=
onDev s (fun d => d.keepDomeTimeout)

/-- DOME_WAKE (R430): A wake source restarts the supervisor, reloads settings with deltas and enters ACTIVE or KEEP.
-/
def execDomeWake (cause : WakeCause) (s : State) : Host.Outcome State Fault Refusal :=
onDev s (fun d => d.domeWake cause)

/-- POWER_ON_RESET (R431): SYS rising through 2.60 V after losing retention resets the device and returns K objects to
default. -/
def execPowerOnReset (s : State) : Host.Outcome State Fault Refusal :=
onDev s (fun d => d.powerOnReset)

/-- CORE_BROWN_OUT (R431): SYS below 2.90 V or the core supply out of range resets the device keeping K objects. -/
def execCoreBrownOut (sys : Bool) (s : State) : Host.Outcome State Fault Refusal :=
onDev s (fun d => d.coreBrownOut sys)

/-- RESET_PIN (R431): RESET# low for at least 1 µs resets the device. -/
def execResetPin (s : State) : Host.Outcome State Fault Refusal :=
onDev s (fun d => d.resetPin)

/-- SUPERVISOR_WATCHDOG (R431): A supervisor gap of 50 ms, lockstep mismatch or supervisor ECC error resets the
device. -/
def execSupervisorWatchdog (detail : Fin 3) (s : State) : Host.Outcome State Fault Refusal :=
onDev s (fun d => d.supervisorWatchdog detail)

/-- SOFT_RESET (R431): The boot signature resets the device after the operation and the log write complete. -/
def execSoftReset (port : Src) (data : List Byte) (s : State) : Host.Outcome State Fault Refusal :=
onDev s (fun d => d.hostWrite port K.SOFT_RESET data)

/-- BOOT (R23): After a reset the device starts the supervisor, verifies the image, loads engines, qualifies phases
and requests power-up. -/
def execBoot (x : BootInputs) (s : State) : Host.Outcome State Fault Refusal :=
onDev s (fun d => d.bootDevice x)

/-- SUPERVISOR_RESUME (R22): When the supervisor runs again deferred events, log writes and operations are processed
in order. -/
def execSupervisorResume (s : State) : Host.Outcome State Fault Refusal :=
onDev s (fun d => d.supervisorResume)

/-- STORE_DONE (R436): A settings store erases, writes, verifies and flips the inactive image, or fails. -/
def execStoreDone (verified : Bool) (s : State) : Host.Outcome State Fault Refusal :=
onDev s (fun d => d.storeDone verified)

/-- RESTORE_DONE (R440): A restore completes, reloading every N object from the active image. -/
def execRestoreDone (s : State) : Host.Outcome State Fault Refusal :=
onDev s (fun d => d.restoreDone)

/-- FACTORY_SETTINGS (R441): The fact signature stores an image with no entries. -/
def execFactorySettings (port : Src) (data : List Byte) (s : State) : Host.Outcome State Fault Refusal :=
onDev s (fun d => d.hostWrite port K.FACTORY_SETTINGS data)

/-- FW_ERASE (R445): Starts erasing the firmware slot that is neither running nor confirmed. -/
def execFwErase (port : Src) (data : List Byte) (s : State) : Host.Outcome State Fault Refusal :=
onDev s (fun d => d.hostWrite port K.FW_ERASE data)

/-- FW_ERASE_DONE (R445, R495): The slot erase completes and the slot becomes WRITING, or its verify fails. -/
def execFwEraseDone (s : State) : Host.Outcome State Fault Refusal :=
onDev s (fun d => d.fwEraseDone)

/-- FW_WRITE (R445): Writes a chunk of firmware image into the WRITING slot. -/
def execFwWrite (port : Src) (data : List Byte) (s : State) : Host.Outcome State Fault Refusal :=
onDev s (fun d => d.hostWrite port K.FW_WRITE data)

/-- FW_VERIFY (R445): Starts checking the written firmware image. -/
def execFwVerify (port : Src) (data : List Byte) (s : State) : Host.Outcome State Fault Refusal :=
onDev s (fun d => d.hostWrite port K.FW_VERIFY data)

/-- FW_VERIFY_DONE (R445): The firmware check ends with VERIFIED or INVALID. -/
def execFwVerifyDone (s : State) : Host.Outcome State Fault Refusal :=
onDev s (fun d => d.fwVerifyDone)

/-- FW_SWITCH (R446): The swap signature requests a switch-over to the other firmware slot at the next edge. -/
def execFwSwitch (port : Src) (data : List Byte) (s : State) : Host.Outcome State Fault Refusal :=
onDev s (fun d => d.hostWrite port K.FW_SWITCH data)

/-- FW_START (R447): The new firmware starts, takes the hand-over block and sends queued events and operations. -/
def execFwStart (ok : Bool) (gapUs : Nat) (s : State) : Host.Outcome State Fault Refusal :=
onDev s (fun d => d.fwStart ok gapUs)

/-- FW_CONFIRM (R448): Confirms the TRIAL firmware slot. -/
def execFwConfirm (port : Src) (data : List Byte) (s : State) : Host.Outcome State Fault Refusal :=
onDev s (fun d => d.hostWrite port K.FW_CONFIRM data)

/-- FW_AUTO_CONFIRM (R448): The TRIAL slot is confirmed after FW_CONFIRM_TIME of running. -/
def execFwAutoConfirm (s : State) : Host.Outcome State Fault Refusal :=
onDev s (fun d => d.fwAutoConfirm)

end Sys2Proof.Machine
end

