-- ==== Sys2Proof/Machine/ExecTick.lean ====
section
/-! DEFINITION. The meanings of the commands: Tick rows. Each is one line over the operations of its chapter. -/

namespace Sys2Proof.Machine

/-- TICK_EDGE (R24): At each tick edge every engine sample port latches its inputs and the outputs released in the
previous tick are committed. -/
def execTickEdge (x : EdgeSamples) (s : State) : Host.Outcome State Fault Refusal :=
onDev s (fun d => d.wholeTickEdge x)

/-- KEEP_EDGE (R302): In KEEP a keep edge every 10 µs commits events and applies writes in place of tick edges. -/
def execKeepEdge (s : State) : Host.Outcome State Fault Refusal :=
onDev s (fun d => d.wholeKeepEdge)

/-- OVERRUN (R125): An engine that has not retired END at its stop point is stopped and its tick's outputs and state
are discarded. -/
def execOverrun (e : Fin 16) (s : State) : Host.Outcome State Fault Refusal :=
onDev s (fun d => d.overrunAt e)

end Sys2Proof.Machine
end

