-- ==== Sys2Proof/Machine/ExecTimer.lean ====
section
/-! DEFINITION. The meanings of the commands: Timer rows. Each is one line over the operations of its chapter. -/

namespace Sys2Proof.Machine

/-- TIMER_CLOCK_EDGE (R291): A timer clock edge applies writes, advances the count, tests match and capture and
applies actions. -/
def execTimerClockEdge (clocks : Nat) (s : State) : Host.Outcome State Fault Refusal :=
onDev s (fun d => d.timerClockEdge clocks)

/-- LF_TIMER_STEP (R287): In DOME or debug halt each LF edge advances running timers by the fractional increment; an
enabled match or terminal event of it wakes the device from DOME (R308). -/
def execLfTimerStep (s : State) : Host.Outcome State Fault Refusal :=
onDev s (fun d => d.lfTimerStep.timerWake)

/-- START (R293): TM_CTRL = 1 starts a timer, refused with PERIOD_ZERO. -/
def execTmStart (port : Src) (t : Fin 16) (s : State) : Host.Outcome State Fault Refusal :=
onDev s (fun d => d.hostWrite port (K.TM_CTRL t) [1])

/-- STOP (R293): TM_CTRL = 2 stops a timer keeping its count. -/
def execTmStop (port : Src) (t : Fin 16) (s : State) : Host.Outcome State Fault Refusal :=
onDev s (fun d => d.hostWrite port (K.TM_CTRL t) [2])

/-- RESET (R293): TM_CTRL = 3 sets the count to 0 and restarts the prescaler. -/
def execTmReset (port : Src) (t : Fin 16) (s : State) : Host.Outcome State Fault Refusal :=
onDev s (fun d => d.hostWrite port (K.TM_CTRL t) [3])

/-- TM_GLOBAL_START (R295): Starts every timer of the mask on one base clock. -/
def execTmGlobalStart (port : Src) (data : List Byte) (s : State) : Host.Outcome State Fault Refusal :=
onDev s (fun d => d.hostWrite port K.TM_GLOBAL_START data)

/-- TM_GLOBAL_STOP (R295): Stops every timer of the mask on one base clock. -/
def execTmGlobalStop (port : Src) (data : List Byte) (s : State) : Host.Outcome State Fault Refusal :=
onDev s (fun d => d.hostWrite port K.TM_GLOBAL_STOP data)

/-- TM_PERIOD_WRITE (R289): Writes a timer period, taking effect by preload at a terminal event or the next clock
edge. -/
def execTmPeriodWrite (port : Src) (t : Fin 16) (data : List Byte) (s : State) : Host.Outcome State Fault Refusal :=
onDev s (fun d => d.hostWrite port (K.TM_PERIOD t) data)

/-- TM_COMPARE_WRITE (R290): Writes a timer compare value, setting compare_late if already passed. -/
def execTmCompareWrite (port : Src) (t : Fin 16) (data : List Byte) (s : State) : Host.Outcome State Fault Refusal :=
onDev s (fun d => d.hostWrite port (K.TM_COMPARE t) data)

/-- TM_CAPTURE_READ (R292): A read returns the captured count and clears capture_flag. -/
def execTmCaptureRead (port : Src) (t : Fin 16) (s : State) : Host.Outcome State Fault Refusal :=
onDev s (fun d => d.hostRead port (K.TM_CAPTURE t))

/-- TM_STATUS_READ (R310): A read returns timer status and clears its read-clear bits. -/
def execTmStatusRead (port : Src) (t : Fin 16) (s : State) : Host.Outcome State Fault Refusal :=
onDev s (fun d => d.hostRead port (K.TM_STATUS t))

/-- EVENT_DISPATCH (R306): An event leaves the supervisor queue in ESN order to the log, PMBus status and EMCY routes.
-/
def execEventDispatch (s : State) : Host.Outcome State Fault Refusal :=
onDev s (fun d => d.eventDispatch)

/-- EVENT_LOSS (R303): When queue space returns one event-loss event naming the lost ESNs is queued. -/
def execEventLoss (s : State) : Host.Outcome State Fault Refusal :=
onDev s (fun d => d.eventLoss)

/-- INT_ACK (R305): Removes every event of the line with an ESN of the value or less. -/
def execIntAck (port : Src) (line : Fin 4) (data : List Byte) (s : State) : Host.Outcome State Fault Refusal :=
onDev s (fun d => d.hostWrite port (K.INT_ACK line) data)

/-- EV_TEST (R311): Commits EV126 code 10h carrying the written value. -/
def execEvTest (port : Src) (data : List Byte) (s : State) : Host.Outcome State Fault Refusal :=
onDev s (fun d => d.hostWrite port K.EV_TEST data)

end Sys2Proof.Machine
end

