-- ==== Sys2Proof/Machine/ExecTwoWire.lean ====
section
/-! DEFINITION. The meanings of the commands: TwoWire rows. Each is one line over the operations of its chapter. -/

namespace Sys2Proof.Machine

/-- BULK_ACCESS (R358): SVC command E0h carries the bulk port protocol. -/
def execBulkAccess (write : Bool) (ptr : BitVec 16) (data : List Byte) (n : BulkGet) (s : State) : Host.Outcome State
    Fault Refusal :=
onDev s (fun d => d.meeting n.flaws (fun d => d.bulkAccess write ptr.toNat data n.bytes))

/-- QUICK_COMMAND (R344): A Quick Command to the target address is acknowledged and ignored. -/
def execQuickCommand (t : TwPort) (s : State) : Host.Outcome State Fault Refusal :=
onDev s (fun d => d.quickCommand t)

/-- ALERT_RESPONSE (R354): An alert response read while asserting returns the target address and may release
PMB_ALERT#. -/
def execAlertResponse (read : AlertRead) (s : State) : Host.Outcome State Fault Refusal :=
onDev s (fun d => d.alertResponse read.won read.pec)

/-- TARGET_TIMEOUT (R338): SCL held low for 25 ms resets the target interface and discards the transfer. -/
def execTargetTimeout (t : TwPort) (s : State) : Host.Outcome State Fault Refusal :=
onDev s (fun d => d.targetTimeout t)

/-- UNEXPECTED_START (R339): A START at any bit position ends the transfer in progress. -/
def execUnexpectedStart (t : TwPort) (s : State) : Host.Outcome State Fault Refusal :=
onDev s (fun d => d.unexpectedStart t)

/-- PMB_XFER (R355): Writing a descriptor starts one controller transfer on the PMBus bus. -/
def execPmbXfer (port : Src) (data : List Byte) (s : State) : Host.Outcome State Fault Refusal :=
onDev s (fun d => d.hostWrite port K.PMB_XFER data)

/-- LB_XFER (R355): Writing a descriptor starts one controller transfer on LB. -/
def execLbXfer (port : Src) (data : List Byte) (s : State) : Host.Outcome State Fault Refusal :=
onDev s (fun d => d.hostWrite port K.LB_XFER data)

/-- XFER_COMPLETE (R355): A controller transfer ends done or failed and fills its result. -/
def execXferComplete (lb : Bool) (status : BitVec 8) (data : List Byte) (s : State) : Host.Outcome State Fault Refusal
    :=
onDev s (fun d => d.xferComplete lb status.toNat data)

/-- ARBITRATION_LOST (R356): Lost arbitration makes the device a target for its own address or abandons and retries.
-/
def execArbitrationLost (lb : Bool) (own : Bool) (s : State) : Host.Outcome State Fault Refusal :=
onDev s (fun d => d.arbitrationLost lb own)

/-- BUS_ERROR (R340): A START or STOP the controller did not generate abandons the transfer. -/
def execBusError (lb : Bool) (s : State) : Host.Outcome State Fault Refusal :=
onDev s (fun d => d.busError lb)

/-- CONTROLLER_TIMEOUT (R341): Target clock stretching beyond 25 ms abandons the transfer. -/
def execControllerTimeout (lb : Bool) (s : State) : Host.Outcome State Fault Refusal :=
onDev s (fun d => d.controllerTimeout lb)

/-- BUS_RECOVERY (R342): The controller sends up to nine clocks to free SDA, or marks the bus stuck and waits
RECOVERY_INTERVAL. -/
def execBusRecovery (lb : Bool) (freed : Bool) (sclLow : Bool) (s : State) : Host.Outcome State Fault Refusal :=
onDev s (fun d => d.busRecovery lb freed sclLow)

/-- STAGE_STATUS_READ (R363): An LB read of a listed stage's status word reports fault or failure. -/
def execStageStatusRead (p : Fin 32) (answer : StageAnswer) (s : State) : Host.Outcome State Fault Refusal :=
onDev s (fun d => d.stageStatusRead p answer)

/-- LB_ALERT_SERVICE (R365): While LB_ALERT# is low the controller reads alert addresses and stage statuses. -/
def execLbAlertService (served : List (BitVec 7 × BitVec 16)) (released : Bool) (s : State) : Host.Outcome State Fault
    Refusal :=
onDev s (fun d => d.lbAlertService served released)

/-- BULK_WRITE (R360): A bulk port write sets the pointer and writes data into the selected window. -/
def execBulkWrite (ptr : BitVec 16) (data : List Byte) (s : State) : Host.Outcome State Fault Refusal :=
onDev s (fun d => d.bulkWrite ptr.toNat data)

/-- BULK_READ (R358): A bulk port read returns window bytes from the pointer onward. -/
def execBulkRead (n : BulkGet) (s : State) : Host.Outcome State Fault Refusal :=
onDev s (fun d => d.meeting n.flaws (fun d => d.bulkRead n.bytes))

/-- BULK_WINDOW_WRITE (R361): Selects the port's bulk window and clears its staging buffer. -/
def execBulkWindowWrite (port : Src) (sub : Fin 256) (data : List Byte) (s : State) : Host.Outcome State Fault Refusal
    :=
onDev s (fun d => d.hostWrite port (0x2E60*256+sub) data)

/-- BULK_OBJECT_WRITE (R361): Names the DOMAIN object of window FF00h and clears staging. -/
def execBulkObjectWrite (port : Src) (sub : Fin 256) (data : List Byte) (s : State) : Host.Outcome State Fault Refusal
    :=
onDev s (fun d => d.hostWrite port (0x2E61*256+sub) data)

/-- BULK_LOAD (R361): Commits the first n staged bytes as one write of the named object. -/
def execBulkLoad (port : Src) (sub : Fin 256) (data : List Byte) (s : State) : Host.Outcome State Fault Refusal :=
onDev s (fun d => d.hostWrite port (0x2E63*256+sub) data)

end Sys2Proof.Machine
end

