-- ==== Sys2Proof/Machine/ExecUnit.lean ====
section
/-! DEFINITION. The meanings of the commands: Unit rows. Each is one line over the operations of its chapter. -/

namespace Sys2Proof.Machine

/-- UNIT_ENABLE (R247): A UNIT_ON write of 1 enables a rail, buck or LDO after the enable checks. -/
def execUnitEnable (port : Src) (u : Fin 18) (s : State) : Host.Outcome State Fault Refusal :=
onDev s (fun d => d.hostWrite port (K.UNIT_ON u) [1])

/-- UNIT_DISABLE (R248): A UNIT_ON write of 0 disables a unit without a ramp. -/
def execUnitDisable (port : Src) (u : Fin 18) (s : State) : Host.Outcome State Fault Refusal :=
onDev s (fun d => d.hostWrite port (K.UNIT_ON u) [0])

/-- BK_VOUT_COMMAND_WRITE (R239): Sets a buck target and posts it with its command step. -/
def execBkVoutCommandWrite (port : Src) (b : Fin 6) (data : List Byte) (s : State) : Host.Outcome State Fault Refusal
    :=
onDev s (fun d => d.hostWrite port (K.BK_VOUT_COMMAND b) data)

/-- BUCK_PERIOD_START (R237): A buck period begins at its interleaved offset and its feedback is converted. -/
def execBuckPeriodStart (b : Fin 6) (code : BitVec 12) (s : State) : Host.Outcome State Fault Refusal :=
onDev s (fun d => d.buckPeriodStart b code.toNat)

/-- BUCK_TURN_OFF (R237): The buck turns off at the committed duty or at its peak current limit. -/
def execBuckTurnOff (b : Fin 6) (limit : Bool) (mA : Nat) (s : State) : Host.Outcome State Fault Refusal :=
onDev s (fun d => d.buckTurnOff b limit mA)

/-- BUCK_VIN_UV (R240): VIN below 4.40 V stops every buck without a fault. -/
def execBuckVinUv (s : State) : Host.Outcome State Fault Refusal :=
onDev s (fun d => d.buckVinUv)

/-- BUCK_VIN_RESUME (R240): VIN above 4.60 V for 1 ms resumes enabled bucks with a soft-start. -/
def execBuckVinResume (s : State) : Host.Outcome State Fault Refusal :=
onDev s (fun d => d.buckVinResume)

/-- BK_OC_TRIP (R241): The peak limit ending BK_OC_COUNT consecutive periods trips buck OC. -/
def execBkOcTrip (b : Fin 6) (s : State) : Host.Outcome State Fault Refusal :=
onDev s (fun d => d.bkOcTrip b)

/-- BK_OV_TRIP (R241): Feedback above the OV level at two edges trips buck OV. -/
def execBkOvTrip (b : Fin 6) (s : State) : Host.Outcome State Fault Refusal :=
onDev s (fun d => d.bkOvTrip b)

/-- BK_UV_TRIP (R241): Feedback below the UV level at eight edges trips buck UV. -/
def execBkUvTrip (b : Fin 6) (s : State) : Host.Outcome State Fault Refusal :=
onDev s (fun d => d.bkUvTrip b)

/-- BK_THERMAL_TRIP (R241): A die sensor above 150 °C on three scans trips buck THERMAL. -/
def execBkThermalTrip (b : Fin 6) (s : State) : Host.Outcome State Fault Refusal :=
onDev s (fun d => d.bkThermalTrip b)

/-- BK_RETRY_ENABLE (R241): After BK_RETRY_DELAY the buck is enabled again if retries remain. -/
def execBkRetryEnable (b : Fin 6) (s : State) : Host.Outcome State Fault Refusal :=
onDev s (fun d => d.retryEnable (8 + b))

/-- LDO_RAMP_DONE (R243): An LDO reference ramp reaches its setting. -/
def execLdoRampDone (l : Fin 4) (s : State) : Host.Outcome State Fault Refusal :=
onDev s (fun d => d.ldoRampDone l)

/-- LDO_OC_TRIP (R245): The LDO current limit held for 1 ms trips LDO OC. -/
def execLdoOcTrip (l : Fin 4) (s : State) : Host.Outcome State Fault Refusal :=
onDev s (fun d => d.ldoOcTrip l)

/-- LDO_UV_TRIP (R245): LDO output low on three scans after the ramp trips LDO UV. -/
def execLdoUvTrip (l : Fin 4) (s : State) : Host.Outcome State Fault Refusal :=
onDev s (fun d => d.ldoUvTrip l)

/-- LDO_THERMAL_TRIP (R245): A die sensor above 150 °C trips LDO THERMAL. -/
def execLdoThermalTrip (l : Fin 4) (s : State) : Host.Outcome State Fault Refusal :=
onDev s (fun d => d.ldoThermalTrip l)

/-- LDO_RETRY_ENABLE (R245): After 100 ms the LDO is enabled again if retries remain. -/
def execLdoRetryEnable (l : Fin 4) (s : State) : Host.Outcome State Fault Refusal :=
onDev s (fun d => d.retryEnable (14 + l))

/-- KEEP_RAIL_START (R244): A keep rail enables once SYS reaches 3.0 V with LDOIN valid. -/
def execKeepRailStart (l : Fin 4) (s : State) : Host.Outcome State Fault Refusal :=
onDev s (fun d => d.keepRailStart l)

/-- KEEP_RAIL_STOP (R244): A keep rail stops when SYS falls below 2.8 V. -/
def execKeepRailStop (l : Fin 4) (s : State) : Host.Outcome State Fault Refusal :=
onDev s (fun d => d.keepRailStop l)

end Sys2Proof.Machine
end

