-- ==== Sys2Proof/Machine/ExecVolt.lean ====
section
/-! DEFINITION. The meanings of the commands: Volt rows. Each is one line over the operations of its chapter. -/

namespace Sys2Proof.Machine

/-- LOOP_MODE_WRITE (R150): Sets the requested loop mode, AUTO or MANUAL, with a bumpless transfer. -/
def execLoopModeWrite (port : Src) (n : Fin 8) (data : List Byte) (s : State) : Host.Outcome State Fault Refusal :=
onDev s (fun d => d.hostWrite port (K.LOOP_MODE n) data)

/-- POLICY_ENTRY_WRITE (R163): Writes a policy table entry after the ordering check and queues it for posting. -/
def execPolicyEntryWrite (port : Src) (n : Fin 8) (index : BitVec 16) (sub : BitVec 8) (data : List Byte) (s : State)
    : Host.Outcome State Fault Refusal :=
onDev s (fun d => d.hostWrite port (objKey index sub) data)

/-- POLICY_HOLD_WRITE (R164): Holds a rail's policy, or releases it after checking the whole table. -/
def execPolicyHoldWrite (port : Src) (n : Fin 8) (data : List Byte) (s : State) : Host.Outcome State Fault Refusal :=
onDev s (fun d => d.hostWrite port (K.POLICY_HOLD n) data)

/-- POLICY_ENTRY_POST (R162): Waiting policy entries are posted to PM-SHED, at most 11 per edge. -/
def execPolicyEntryPost (s : State) : Host.Outcome State Fault Refusal :=
onDev s (fun d => if d.supRuns then d.policyEntryPost else d)

/-- VOUT_COMMAND_WRITE (R169): A host write of VOUT_COMMAND is accepted by ownership and clamped as a new target. -/
def execVoutCommandWrite (port : Src) (n : Fin 8) (data : List Byte) (s : State) : Host.Outcome State Fault Refusal :=
onDev s (fun d => d.hostWrite port (K.VOUT_COMMAND n) data)

/-- MARGIN_STATE_WRITE (R181): Selects margin off, low or high and posts the corresponding target. -/
def execMarginStateWrite (port : Src) (n : Fin 8) (data : List Byte) (s : State) : Host.Outcome State Fault Refusal :=
onDev s (fun d => d.hostWrite port (K.MARGIN_STATE n) data)

/-- AVS_WRITE_AND_COMMIT (R176): An AVSBus write and commit enters every held write and its own as one operation. -/
def execAvsWriteAndCommit (sel type : Fin 16) (data : BitVec 16) (s : State) : Host.Outcome State Fault Refusal :=
onDev s (fun d => d.avsFrame 0 sel type data.toNat)

/-- AVS_WRITE_AND_HOLD (R176): An AVSBus write and hold is stored without an operation. -/
def execAvsWriteAndHold (sel type : Fin 16) (data : BitVec 16) (s : State) : Host.Outcome State Fault Refusal :=
onDev s (fun d => d.avsFrame 1 sel type data.toNat)

/-- AVS_TARGET_VOLTAGE (R176): AVSBus type 0h write sets the rail target in mV. -/
def execAvsTargetVoltage (sel : Fin 16) (hold : Bool) (data : BitVec 16) (s : State) : Host.Outcome State Fault
    Refusal :=
onDev s (fun d => d.avsFrame (b2n hold) sel 0 data.toNat)

/-- AVS_TRANSITION_RATE (R176): AVSBus type 1h write sets the AVS rise and fall rates. -/
def execAvsTransitionRate (sel : Fin 16) (hold : Bool) (data : BitVec 16) (s : State) : Host.Outcome State Fault
    Refusal :=
onDev s (fun d => d.avsFrame (b2n hold) sel 1 data.toNat)

/-- AVS_RESET_VOLTAGE (R176): AVSBus type 4h write sets the target to VOUT_BOOT. -/
def execAvsResetVoltage (sel : Fin 16) (hold : Bool) (data : BitVec 16) (s : State) : Host.Outcome State Fault Refusal
    :=
onDev s (fun d => d.avsFrame (b2n hold) sel 4 data.toNat)

/-- AVS_STATUS_WRITE (R176): AVSBus type Eh write clears the alert bits written 1. -/
def execAvsStatusWrite (sel : Fin 16) (hold : Bool) (data : BitVec 16) (s : State) : Host.Outcome State Fault Refusal
    :=
onDev s (fun d => d.avsFrame (b2n hold) sel 14 data.toNat)

/-- AVS_READ_VOLTAGE (R176): AVSBus read of type 0h returns VOUT_TARGET in mV. -/
def execAvsReadVoltage (sel : Fin 16) (s : State) : Host.Outcome State Fault Refusal :=
onDev s (fun d => d.avsFrame 3 sel 0 0)

/-- AVS_READ_RATE (R176): AVSBus read of type 1h returns the two AVS rates. -/
def execAvsReadRate (sel : Fin 16) (s : State) : Host.Outcome State Fault Refusal :=
onDev s (fun d => d.avsFrame 3 sel 1 0)

/-- AVS_READ_CURRENT (R176): AVSBus read of type 2h returns READ_IOUT. -/
def execAvsReadCurrent (sel : Fin 16) (s : State) : Host.Outcome State Fault Refusal :=
onDev s (fun d => d.avsFrame 3 sel 2 0)

/-- AVS_READ_TEMPERATURE (R176): AVSBus read of type 3h returns the highest SG temperature of the rail. -/
def execAvsReadTemperature (sel : Fin 16) (s : State) : Host.Outcome State Fault Refusal :=
onDev s (fun d => d.avsFrame 3 sel 3 0)

/-- AVS_READ_STATUS (R178): AVSBus read of type Eh returns the rail's status word. -/
def execAvsReadStatus (sel : Fin 16) (s : State) : Host.Outcome State Fault Refusal :=
onDev s (fun d => d.avsFrame 3 sel 14 0)

/-- AVS_UNSUPPORTED (R177): Command 10b, an unsupported type or an unmapped or broadcast read is answered 10b. Bit 2 of `cmd` is
CmdGroup: every type of group 1 is unsupported (R175). Notes, log 27. -/
def execAvsUnsupported (cmd : Fin 8) (sel type : Fin 16) (s : State) : Host.Outcome State Fault Refusal :=
onDev s (fun d => d.avsFrame (cmd % 4) sel (if cmd.val ≥ 4 then 16 else type) 0)

/-- AVS_BAD_CRC (R177): A frame whose CRC fails is answered 11b and counted. -/
def execAvsBadCrc (s : State) : Host.Outcome State Fault Refusal :=
onDev s (fun d => d.avsBadCrc)

/-- AVS_HELD_ENTRY (R179): The last AVS frame held per select is entered when the supervisor runs or an entry frees.
-/
def execAvsHeldEntry (sel : Fin 16) (s : State) : Host.Outcome State Fault Refusal :=
onDev s (fun d => d.avsHeldEntry sel)

/-- LIL_EN_WRITE (R185): Enabling LIL starts training, disabling it takes the link DOWN. -/
def execLilEnWrite (port : Src) (data : List Byte) (s : State) : Host.Outcome State Fault Refusal :=
onDev s (fun d => d.hostWrite port K.LIL_EN data)

/-- LIL_UP (R185): After clock lock and 32 idle words the link goes UP and accepts frames. -/
def execLilUp (s : State) : Host.Outcome State Fault Refusal :=
onDev s (fun d => d.lilUp)

/-- LIL_TRAIN_TIMEOUT (R185): 100 µs without reaching UP sets lil_train_fail while training continues. -/
def execLilTrainTimeout (s : State) : Host.Outcome State Fault Refusal :=
onDev s (fun d => d.lilTrainTimeout)

/-- LIL_WORD_ERROR (R185): A word outside a frame that is neither idle nor header is counted and skipped. -/
def execLilWordError (s : State) : Host.Outcome State Fault Refusal :=
onDev s (fun d => d.lilWordError)

/-- LIL_LINK_DROP (R185): Too many word errors or no transition for 40 bits drops the link to TRAINING. -/
def execLilLinkDrop (s : State) : Host.Outcome State Fault Refusal :=
onDev s (fun d => d.lilLinkDrop)

/-- LIL_FRAME (R186): A received 40-bit frame has its CRC checked and is queued for handling at the next edge. -/
def execLilFrame (w : BitVec 40) (s : State) : Host.Outcome State Fault Refusal :=
onDev s (fun d => d.lilFrame w)

/-- INTENT_RETRACT (R187): An unmatched intent is retracted at its deadline and counted. -/
def execIntentRetract (n : Fin 8) (slot : Fin 8) (s : State) : Host.Outcome State Fault Refusal :=
onDev s (fun d => d.intentRetract n slot)

/-- INTENT_RESUME (R188): Returns a suspended rail to ACCEPT. -/
def execIntentResume (port : Src) (n : Fin 8) (s : State) : Host.Outcome State Fault Refusal :=
onDev s (fun d => d.hostWrite port (K.INTENT_RESUME n) [1])

/-- THROTTLE_GRACE_EXPIRY (R189): A THROTTLE# request held for THROTTLE_GRACE trips the rail's THROTTLE fault kind. -/
def execThrottleGraceExpiry (n : Fin 8) (s : State) : Host.Outcome State Fault Refusal :=
onDev s (fun d => d.throttleGrace n)

/-- THROTTLE_RELEASE (R189): THROTTLE# is released once no cause holds and THROTTLE_HOLD has passed. -/
def execThrottleRelease (s : State) : Host.Outcome State Fault Refusal :=
onDev s (fun d => d.throttleRelease)

/-- PFW_RELEASE (R190): PFW# releases once every cause has ended, VIN having been high for PFW_RELEASE. -/
def execPfwRelease (s : State) : Host.Outcome State Fault Refusal :=
onDev s (fun d => d.pfwRelease)

/-- RDY_ASSERT (R174): RDYn asserts once its condition has held continuously for RDY_DELAY. -/
def execRdyAssert (n : Fin 8) (s : State) : Host.Outcome State Fault Refusal :=
onDev s (fun d => d.rdyAssert n)

end Sys2Proof.Machine
end

