-- ==== Sys2Proof/Machine/Dispatch.lean ====
section
/-! DEFINITION. One arm for each command. -/

namespace Sys2Proof.Machine

def exec (i : Instr) (s : State) : Host.Outcome State Fault Refusal :=
  match i with
  | .tickEdge x => Sys2Proof.Machine.execTickEdge x s
  | .keepEdge => Sys2Proof.Machine.execKeepEdge s
  | .overrun e => Sys2Proof.Machine.execOverrun e s
  | .nyNop e => Sys2Proof.Machine.execNyNop e s
  | .nyEnd e => Sys2Proof.Machine.execNyEnd e s
  | .nyCommit e => Sys2Proof.Machine.execNyCommit e s
  | .nyBr e t => Sys2Proof.Machine.execNyBr e t s
  | .nyBcc e cc ra t => Sys2Proof.Machine.execNyBcc e cc ra t s
  | .nyLoop e n t => Sys2Proof.Machine.execNyLoop e n t s
  | .nyCall e t => Sys2Proof.Machine.execNyCall e t s
  | .nyRet e => Sys2Proof.Machine.execNyRet e s
  | .nySig e code => Sys2Proof.Machine.execNySig e code s
  | .nyBrk e => Sys2Proof.Machine.execNyBrk e s
  | .nyAdd e rd ra rb => Sys2Proof.Machine.execNyAdd e rd ra rb s
  | .nySub e rd ra rb => Sys2Proof.Machine.execNySub e rd ra rb s
  | .nyAddw e rd ra rb => Sys2Proof.Machine.execNyAddw e rd ra rb s
  | .nyAddi e rd ra imm => Sys2Proof.Machine.execNyAddi e rd ra imm s
  | .nyAnd e rd ra rb => Sys2Proof.Machine.execNyAnd e rd ra rb s
  | .nyOr e rd ra rb => Sys2Proof.Machine.execNyOr e rd ra rb s
  | .nyXor e rd ra rb => Sys2Proof.Machine.execNyXor e rd ra rb s
  | .nyAndi e rd ra imm => Sys2Proof.Machine.execNyAndi e rd ra imm s
  | .nyShl e rd ra sh => Sys2Proof.Machine.execNyShl e rd ra sh s
  | .nyShr e rd ra sh => Sys2Proof.Machine.execNyShr e rd ra sh s
  | .nyShlv e rd ra rb => Sys2Proof.Machine.execNyShlv e rd ra rb s
  | .nyMin e rd ra rb => Sys2Proof.Machine.execNyMin e rd ra rb s
  | .nyMax e rd ra rb => Sys2Proof.Machine.execNyMax e rd ra rb s
  | .nyClamp e rd ra rb => Sys2Proof.Machine.execNyClamp e rd ra rb s
  | .nyAbs e rd ra => Sys2Proof.Machine.execNyAbs e rd ra s
  | .nyNeg e rd ra => Sys2Proof.Machine.execNyNeg e rd ra s
  | .nySlt e rd ra rb => Sys2Proof.Machine.execNySlt e rd ra rb s
  | .nySel e rd ra rb => Sys2Proof.Machine.execNySel e rd ra rb s
  | .nyMov e rd ra => Sys2Proof.Machine.execNyMov e rd ra s
  | .nyMovi e rd imm => Sys2Proof.Machine.execNyMovi e rd imm s
  | .nyMovhi e rd imm => Sys2Proof.Machine.execNyMovhi e rd imm s
  | .nyMul e rd ra rb sh => Sys2Proof.Machine.execNyMul e rd ra rb sh s
  | .nyDivq e rd ra rb sh => Sys2Proof.Machine.execNyDivq e rd ra rb sh s
  | .nyLd e rd ra imm => Sys2Proof.Machine.execNyLd e rd ra imm s
  | .nySt e rd ra imm => Sys2Proof.Machine.execNySt e rd ra imm s
  | .nyLdc e rd ra c => Sys2Proof.Machine.execNyLdc e rd ra c s
  | .nyLdcm e rd ra c => Sys2Proof.Machine.execNyLdcm e rd ra c s
  | .nyClra e a => Sys2Proof.Machine.execNyClra e a s
  | .nyLda e a ra => Sys2Proof.Machine.execNyLda e a ra s
  | .nyMac e a ra rb c => Sys2Proof.Machine.execNyMac e a ra rb c s
  | .nyMsc e a ra rb c => Sys2Proof.Machine.execNyMsc e a ra rb c s
  | .nyMacw e a ra rb sh => Sys2Proof.Machine.execNyMacw e a ra rb sh s
  | .nyAcx e rd a sh => Sys2Proof.Machine.execNyAcx e rd a sh s
  | .nyAdda e a b => Sys2Proof.Machine.execNyAdda e a b s
  | .nyIn e rd ra p => Sys2Proof.Machine.execNyIn e rd ra p s
  | .nyOut e rd ra q => Sys2Proof.Machine.execNyOut e rd ra q s
  | .nyOutd e rd ra w => Sys2Proof.Machine.execNyOutd e rd ra w s
  | .perfProfileWrite port data => Sys2Proof.Machine.execPerfProfileWrite port data s
  | .tickRateWrite port data => Sys2Proof.Machine.execTickRateWrite port data s
  | .profileAtTickWrite port data => Sys2Proof.Machine.execProfileAtTickWrite port data s
  | .profileSchedWrite port data => Sys2Proof.Machine.execProfileSchedWrite port data s
  | .syncinEdge at_ width offset => Sys2Proof.Machine.execSyncinEdge at_ width offset s
  | .syncLost => Sys2Proof.Machine.execSyncLost s
  | .xoFault code => Sys2Proof.Machine.execXoFault code s
  | .xoFaultClear => Sys2Proof.Machine.execXoFaultClear s
  | .lfXtalFail => Sys2Proof.Machine.execLfXtalFail s
  | .lfCalibration error => Sys2Proof.Machine.execLfCalibration error s
  | .frozenAdc n => Sys2Proof.Machine.execFrozenAdc n s
  | .hkConversion ch code => Sys2Proof.Machine.execHkConversion ch code s
  | .readIoutPeakRead port n => Sys2Proof.Machine.execReadIoutPeakRead port n s
  | .capArm port => Sys2Proof.Machine.execCapArm port s
  | .capForceTrigger port => Sys2Proof.Machine.execCapForceTrigger port s
  | .capAbort port => Sys2Proof.Machine.execCapAbort port s
  | .captureDone => Sys2Proof.Machine.execCaptureDone s
  | .railPeriodStart n => Sys2Proof.Machine.execRailPeriodStart n s
  | .slotTurnOn p => Sys2Proof.Machine.execSlotTurnOn p s
  | .deferredTurnOn p => Sys2Proof.Machine.execDeferredTurnOn p s
  | .peakComparatorTrip p sample => Sys2Proof.Machine.execPeakComparatorTrip p sample s
  | .blankingEnd p => Sys2Proof.Machine.execBlankingEnd p s
  | .tonMaxExpiry p => Sys2Proof.Machine.execTonMaxExpiry p s
  | .timedTurnOff p => Sys2Proof.Machine.execTimedTurnOff p s
  | .zeroCrossing p steps => Sys2Proof.Machine.execZeroCrossing p steps s
  | .timedZeroCrossing p => Sys2Proof.Machine.execTimedZeroCrossing p s
  | .imonConversion p code => Sys2Proof.Machine.execImonConversion p code s
  | .placedHold p late => Sys2Proof.Machine.execPlacedHold p late s
  | .asyncTrip w upper p => Sys2Proof.Machine.execAsyncTrip w upper p s
  | .tripRelease w upper p => Sys2Proof.Machine.execTripRelease w upper p s
  | .sgFaultComparator g => Sys2Proof.Machine.execSgFaultComparator g s
  | .realign port p => Sys2Proof.Machine.execRealign port p s
  | .forceMid port p => Sys2Proof.Machine.execForceMid port p s
  | .release port p => Sys2Proof.Machine.execRelease port p s
  | .singlePulse port p => Sys2Proof.Machine.execSinglePulse port p s
  | .singlePulseTurnOff p => Sys2Proof.Machine.execSinglePulseTurnOff p s
  | .phaseRailWrite port p data => Sys2Proof.Machine.execPhaseRailWrite port p data s
  | .phaseStatusRead port p => Sys2Proof.Machine.execPhaseStatusRead port p s
  | .progShadowSel port e data => Sys2Proof.Machine.execProgShadowSel port e data s
  | .progImage port e data => Sys2Proof.Machine.execProgImage port e data s
  | .programCheckDone e => Sys2Proof.Machine.execProgramCheckDone e s
  | .progSwapReq port e data => Sys2Proof.Machine.execProgSwapReq port e data s
  | .bankSwapReq port e => Sys2Proof.Machine.execBankSwapReq port e s
  | .bankCopy port e => Sys2Proof.Machine.execBankCopy port e s
  | .coefWrite port e bankB entry data => Sys2Proof.Machine.execCoefWrite port e bankB entry data s
  | .libStore port data => Sys2Proof.Machine.execLibStore port data s
  | .libStoreDone ok => Sys2Proof.Machine.execLibStoreDone ok s
  | .mailboxPost port e => Sys2Proof.Machine.execMailboxPost port e s
  | .eccScrub e found => Sys2Proof.Machine.execEccScrub e found s
  | .eccUncorrectable e loc => Sys2Proof.Machine.execEccUncorrectable e loc s
  | .engineReloadDone e => Sys2Proof.Machine.execEngineReloadDone e s
  | .engStatusRead port e => Sys2Proof.Machine.execEngStatusRead port e s
  | .engCyclesMaxRead port e => Sys2Proof.Machine.execEngCyclesMaxRead port e s
  | .loopModeWrite port n data => Sys2Proof.Machine.execLoopModeWrite port n data s
  | .policyEntryWrite port n index sub data => Sys2Proof.Machine.execPolicyEntryWrite port n index sub data s
  | .policyHoldWrite port n data => Sys2Proof.Machine.execPolicyHoldWrite port n data s
  | .policyEntryPost => Sys2Proof.Machine.execPolicyEntryPost s
  | .voutCommandWrite port n data => Sys2Proof.Machine.execVoutCommandWrite port n data s
  | .marginStateWrite port n data => Sys2Proof.Machine.execMarginStateWrite port n data s
  | .avsWriteAndCommit sel type data => Sys2Proof.Machine.execAvsWriteAndCommit sel type data s
  | .avsWriteAndHold sel type data => Sys2Proof.Machine.execAvsWriteAndHold sel type data s
  | .avsTargetVoltage sel hold data => Sys2Proof.Machine.execAvsTargetVoltage sel hold data s
  | .avsTransitionRate sel hold data => Sys2Proof.Machine.execAvsTransitionRate sel hold data s
  | .avsResetVoltage sel hold data => Sys2Proof.Machine.execAvsResetVoltage sel hold data s
  | .avsStatusWrite sel hold data => Sys2Proof.Machine.execAvsStatusWrite sel hold data s
  | .avsReadVoltage sel => Sys2Proof.Machine.execAvsReadVoltage sel s
  | .avsReadRate sel => Sys2Proof.Machine.execAvsReadRate sel s
  | .avsReadCurrent sel => Sys2Proof.Machine.execAvsReadCurrent sel s
  | .avsReadTemperature sel => Sys2Proof.Machine.execAvsReadTemperature sel s
  | .avsReadStatus sel => Sys2Proof.Machine.execAvsReadStatus sel s
  | .avsUnsupported cmd sel type => Sys2Proof.Machine.execAvsUnsupported cmd sel type s
  | .avsBadCrc => Sys2Proof.Machine.execAvsBadCrc s
  | .avsHeldEntry sel => Sys2Proof.Machine.execAvsHeldEntry sel s
  | .lilEnWrite port data => Sys2Proof.Machine.execLilEnWrite port data s
  | .lilUp => Sys2Proof.Machine.execLilUp s
  | .lilTrainTimeout => Sys2Proof.Machine.execLilTrainTimeout s
  | .lilWordError => Sys2Proof.Machine.execLilWordError s
  | .lilLinkDrop => Sys2Proof.Machine.execLilLinkDrop s
  | .lilFrame w => Sys2Proof.Machine.execLilFrame w s
  | .intentRetract n slot => Sys2Proof.Machine.execIntentRetract n slot s
  | .intentResume port n => Sys2Proof.Machine.execIntentResume port n s
  | .throttleGraceExpiry n => Sys2Proof.Machine.execThrottleGraceExpiry n s
  | .throttleRelease => Sys2Proof.Machine.execThrottleRelease s
  | .pfwRelease => Sys2Proof.Machine.execPfwRelease s
  | .rdyAssert n => Sys2Proof.Machine.execRdyAssert n s
  | .qualifyPhase p r => Sys2Proof.Machine.execQualifyPhase p r s
  | .senseTestDue n => Sys2Proof.Machine.execSenseTestDue n s
  | .gloveExit n => Sys2Proof.Machine.execGloveExit n s
  | .gloveTimerExpiry n => Sys2Proof.Machine.execGloveTimerExpiry n s
  | .ovTrip n => Sys2Proof.Machine.execOvTrip n s
  | .uvTrip n => Sys2Proof.Machine.execUvTrip n s
  | .ocTrip n => Sys2Proof.Machine.execOcTrip n s
  | .stageOtTrip g => Sys2Proof.Machine.execStageOtTrip g s
  | .sgOtWarning g => Sys2Proof.Machine.execSgOtWarning g s
  | .retryEnable n => Sys2Proof.Machine.execRetryEnable n s
  | .retryCountReset u => Sys2Proof.Machine.execRetryCountReset u s
  | .clearFaultsWrite port u => Sys2Proof.Machine.execClearFaultsWrite port u s
  | .drain port p => Sys2Proof.Machine.execDrain port p s
  | .drainForce port p => Sys2Proof.Machine.execDrainForce port p s
  | .admitPhase port p => Sys2Proof.Machine.execAdmit port p s
  | .groupDrain port g => Sys2Proof.Machine.execGroupDrain port g s
  | .groupDrainForce port g => Sys2Proof.Machine.execGroupDrainForce port g s
  | .groupAdmit port g => Sys2Proof.Machine.execGroupAdmit port g s
  | .autoReadmit p => Sys2Proof.Machine.execAutoReadmit p s
  | .wearBitSet p bit => Sys2Proof.Machine.execWearBitSet p bit s
  | .tempHistMinute => Sys2Proof.Machine.execTempHistMinute s
  | .wearSnapshot => Sys2Proof.Machine.execWearSnapshot s
  | .unitEnable port u => Sys2Proof.Machine.execUnitEnable port u s
  | .unitDisable port u => Sys2Proof.Machine.execUnitDisable port u s
  | .bkVoutCommandWrite port b data => Sys2Proof.Machine.execBkVoutCommandWrite port b data s
  | .buckPeriodStart b code => Sys2Proof.Machine.execBuckPeriodStart b code s
  | .buckTurnOff b limit mA => Sys2Proof.Machine.execBuckTurnOff b limit mA s
  | .buckVinUv => Sys2Proof.Machine.execBuckVinUv s
  | .buckVinResume => Sys2Proof.Machine.execBuckVinResume s
  | .bkOcTrip b => Sys2Proof.Machine.execBkOcTrip b s
  | .bkOvTrip b => Sys2Proof.Machine.execBkOvTrip b s
  | .bkUvTrip b => Sys2Proof.Machine.execBkUvTrip b s
  | .bkThermalTrip b => Sys2Proof.Machine.execBkThermalTrip b s
  | .bkRetryEnable b => Sys2Proof.Machine.execBkRetryEnable b s
  | .ldoRampDone l => Sys2Proof.Machine.execLdoRampDone l s
  | .ldoOcTrip l => Sys2Proof.Machine.execLdoOcTrip l s
  | .ldoUvTrip l => Sys2Proof.Machine.execLdoUvTrip l s
  | .ldoThermalTrip l => Sys2Proof.Machine.execLdoThermalTrip l s
  | .ldoRetryEnable l => Sys2Proof.Machine.execLdoRetryEnable l s
  | .keepRailStart l => Sys2Proof.Machine.execKeepRailStart l s
  | .keepRailStop l => Sys2Proof.Machine.execKeepRailStop l s
  | .seqNop => Sys2Proof.Machine.execSeqNop s
  | .seqEnable => Sys2Proof.Machine.execSeqEnable s
  | .seqDisable => Sys2Proof.Machine.execSeqDisable s
  | .seqSetVout => Sys2Proof.Machine.execSeqSetVout s
  | .seqOut => Sys2Proof.Machine.execSeqOut s
  | .seqSignal => Sys2Proof.Machine.execSeqSignal s
  | .seqStepTimeout => Sys2Proof.Machine.execSeqStepTimeout s
  | .seqProgramEnd => Sys2Proof.Machine.execSeqProgramEnd s
  | .powerUp port => Sys2Proof.Machine.execPowerUp port s
  | .powerDown port => Sys2Proof.Machine.execPowerDown port s
  | .abort port => Sys2Proof.Machine.execAbort port s
  | .sqiEdge k level => Sys2Proof.Machine.execSqiEdge k level s
  | .wmComparatorAssert w upper uv => Sys2Proof.Machine.execWmComparatorAssert w upper uv s
  | .wmComparatorRelease w upper uv => Sys2Proof.Machine.execWmComparatorRelease w upper uv s
  | .dacSettleEnd w upper uv => Sys2Proof.Machine.execDacSettleEnd w upper uv s
  | .wmSampleWindow w uv => Sys2Proof.Machine.execWmSampleWindow w uv s
  | .wmSwap port w => Sys2Proof.Machine.execWmSwap port w s
  | .wmTie port w => Sys2Proof.Machine.execWmTie port w s
  | .wmTestDone w uv checks => Sys2Proof.Machine.execWmTestDone w uv checks s
  | .pkTestCmd port p data => Sys2Proof.Machine.execPkTestCmd port p data s
  | .pkTestDone p high low slope time => Sys2Proof.Machine.execPkTestDone p high low slope time s
  | .timerClockEdge clocks => Sys2Proof.Machine.execTimerClockEdge clocks s
  | .lfTimerStep => Sys2Proof.Machine.execLfTimerStep s
  | .tmStart port t => Sys2Proof.Machine.execTmStart port t s
  | .tmStop port t => Sys2Proof.Machine.execTmStop port t s
  | .tmReset port t => Sys2Proof.Machine.execTmReset port t s
  | .tmGlobalStart port data => Sys2Proof.Machine.execTmGlobalStart port data s
  | .tmGlobalStop port data => Sys2Proof.Machine.execTmGlobalStop port data s
  | .tmPeriodWrite port t data => Sys2Proof.Machine.execTmPeriodWrite port t data s
  | .tmCompareWrite port t data => Sys2Proof.Machine.execTmCompareWrite port t data s
  | .tmCaptureRead port t => Sys2Proof.Machine.execTmCaptureRead port t s
  | .tmStatusRead port t => Sys2Proof.Machine.execTmStatusRead port t s
  | .eventDispatch => Sys2Proof.Machine.execEventDispatch s
  | .eventLoss => Sys2Proof.Machine.execEventLoss s
  | .intAck port line data => Sys2Proof.Machine.execIntAck port line data s
  | .evTest port data => Sys2Proof.Machine.execEvTest port data s
  | .inputConverterStart => Sys2Proof.Machine.execInputConverterStart s
  | .inputConverterStop => Sys2Proof.Machine.execInputConverterStop s
  | .vinPresentChange present => Sys2Proof.Machine.execVinPresentChange present s
  | .ppReturn => Sys2Proof.Machine.execPpReturn s
  | .dischOc => Sys2Proof.Machine.execDischOc s
  | .chgEnWrite port data => Sys2Proof.Machine.execChgEnWrite port data s
  | .chgChemWrite port data => Sys2Proof.Machine.execChgChemWrite port data s
  | .chgPrechargeDone => Sys2Proof.Machine.execChgPrechargeDone s
  | .chgCvEntry => Sys2Proof.Machine.execChgCvEntry s
  | .chgTermination => Sys2Proof.Machine.execChgTermination s
  | .chgPreTimeout => Sys2Proof.Machine.execChgPreTimeout s
  | .chgSafetyTimeout => Sys2Proof.Machine.execChgSafetyTimeout s
  | .chgRecharge => Sys2Proof.Machine.execChgRecharge s
  | .tsZoneChange zone => Sys2Proof.Machine.execTsZoneChange zone s
  | .batOv => Sys2Proof.Machine.execBatOv s
  | .tsShort => Sys2Proof.Machine.execTsShort s
  | .vinOv => Sys2Proof.Machine.execVinOv s
  | .chgThermal => Sys2Proof.Machine.execChgThermal s
  | .dischHot => Sys2Proof.Machine.execDischHot s
  | .batUv => Sys2Proof.Machine.execBatUv s
  | .chgFaultRead port => Sys2Proof.Machine.execChgFaultRead port s
  | .batteryRemoval byBat => Sys2Proof.Machine.execBatteryRemoval byBat s
  | .batteryPresent => Sys2Proof.Machine.execBatteryPresent s
  | .accShort => Sys2Proof.Machine.execAccShort s
  | .accRetry => Sys2Proof.Machine.execAccRetry s
  | .accRestart port => Sys2Proof.Machine.execAccRestart port s
  | .btnPress => Sys2Proof.Machine.execBtnPress s
  | .btnRelease => Sys2Proof.Machine.execBtnRelease s
  | .btnLongWarning => Sys2Proof.Machine.execBtnLongWarning s
  | .longPressReset => Sys2Proof.Machine.execLongPressReset s
  | .shipCmd port data => Sys2Proof.Machine.execShipCmd port data s
  | .shipEntry => Sys2Proof.Machine.execShipEntry s
  | .shipExit => Sys2Proof.Machine.execShipExit s
  | .shipStatusRead port => Sys2Proof.Machine.execShipStatusRead port s
  | .pmbPage x data => Sys2Proof.Machine.execPmbPage x data s
  | .pmbOperation x data => Sys2Proof.Machine.execPmbOperation x data s
  | .pmbOperationMargin x data => Sys2Proof.Machine.execPmbOperationMargin x data s
  | .pmbOnOffConfig x => Sys2Proof.Machine.execPmbOnOffConfig x s
  | .pmbClearFaults x => Sys2Proof.Machine.execPmbClearFaults x s
  | .pmbWriteProtect x data => Sys2Proof.Machine.execPmbWriteProtect x data s
  | .pmbStoreUserAll x => Sys2Proof.Machine.execPmbStoreUserAll x s
  | .pmbRestoreUserAll x => Sys2Proof.Machine.execPmbRestoreUserAll x s
  | .pmbCapability x => Sys2Proof.Machine.execPmbCapability x s
  | .pmbVoutMode x => Sys2Proof.Machine.execPmbVoutMode x s
  | .pmbVoutCommand x data => Sys2Proof.Machine.execPmbVoutCommand x data s
  | .pmbVoutMax x data => Sys2Proof.Machine.execPmbVoutMax x data s
  | .pmbVoutMarginHigh x data => Sys2Proof.Machine.execPmbVoutMarginHigh x data s
  | .pmbVoutMarginLow x data => Sys2Proof.Machine.execPmbVoutMarginLow x data s
  | .pmbVoutTransitionRate x data => Sys2Proof.Machine.execPmbVoutTransitionRate x data s
  | .pmbVoutMin x data => Sys2Proof.Machine.execPmbVoutMin x data s
  | .pmbVoutOvFaultLimit x data => Sys2Proof.Machine.execPmbVoutOvFaultLimit x data s
  | .pmbVoutUvFaultLimit x data => Sys2Proof.Machine.execPmbVoutUvFaultLimit x data s
  | .pmbIoutOcFaultLimit x data => Sys2Proof.Machine.execPmbIoutOcFaultLimit x data s
  | .pmbStatusByte x => Sys2Proof.Machine.execPmbStatusByte x s
  | .pmbStatusWord x => Sys2Proof.Machine.execPmbStatusWord x s
  | .pmbStatusVout x data => Sys2Proof.Machine.execPmbStatusVout x data s
  | .pmbStatusIout x data => Sys2Proof.Machine.execPmbStatusIout x data s
  | .pmbStatusInput x data => Sys2Proof.Machine.execPmbStatusInput x data s
  | .pmbStatusTemperature x data => Sys2Proof.Machine.execPmbStatusTemperature x data s
  | .pmbStatusCml x data => Sys2Proof.Machine.execPmbStatusCml x data s
  | .pmbStatusMfrSpecific x data => Sys2Proof.Machine.execPmbStatusMfrSpecific x data s
  | .pmbReadVin x => Sys2Proof.Machine.execPmbReadVin x s
  | .pmbReadVout x => Sys2Proof.Machine.execPmbReadVout x s
  | .pmbReadIout x => Sys2Proof.Machine.execPmbReadIout x s
  | .pmbReadTemperature1 x => Sys2Proof.Machine.execPmbReadTemperature1 x s
  | .pmbRevision x => Sys2Proof.Machine.execPmbRevision x s
  | .pmbMfrId x => Sys2Proof.Machine.execPmbMfrId x s
  | .pmbMfrModel x => Sys2Proof.Machine.execPmbMfrModel x s
  | .pmbMfrRevision x => Sys2Proof.Machine.execPmbMfrRevision x s
  | .objSelect x data => Sys2Proof.Machine.execObjSelect x data s
  | .objData x data => Sys2Proof.Machine.execObjData x data s
  | .objResult x => Sys2Proof.Machine.execObjResult x s
  | .bulkAccess write ptr data n => Sys2Proof.Machine.execBulkAccess write ptr data n s
  | .quickCommand t => Sys2Proof.Machine.execQuickCommand t s
  | .alertResponse read => Sys2Proof.Machine.execAlertResponse read s
  | .targetTimeout t => Sys2Proof.Machine.execTargetTimeout t s
  | .unexpectedStart t => Sys2Proof.Machine.execUnexpectedStart t s
  | .pmbXfer port data => Sys2Proof.Machine.execPmbXfer port data s
  | .lbXfer port data => Sys2Proof.Machine.execLbXfer port data s
  | .xferComplete lb status data => Sys2Proof.Machine.execXferComplete lb status data s
  | .arbitrationLost lb own => Sys2Proof.Machine.execArbitrationLost lb own s
  | .busError lb => Sys2Proof.Machine.execBusError lb s
  | .controllerTimeout lb => Sys2Proof.Machine.execControllerTimeout lb s
  | .busRecovery lb freed sclLow => Sys2Proof.Machine.execBusRecovery lb freed sclLow s
  | .stageStatusRead p answer => Sys2Proof.Machine.execStageStatusRead p answer s
  | .lbAlertService served released => Sys2Proof.Machine.execLbAlertService served released s
  | .bulkWrite ptr data => Sys2Proof.Machine.execBulkWrite ptr data s
  | .bulkRead n => Sys2Proof.Machine.execBulkRead n s
  | .bulkWindowWrite port sub data => Sys2Proof.Machine.execBulkWindowWrite port sub data s
  | .bulkObjectWrite port sub data => Sys2Proof.Machine.execBulkObjectWrite port sub data s
  | .bulkLoad port sub data => Sys2Proof.Machine.execBulkLoad port sub data s
  | .nmtStart b node => Sys2Proof.Machine.execNmtStart b node s
  | .nmtStop b node => Sys2Proof.Machine.execNmtStop b node s
  | .nmtEnterPreOperational b node => Sys2Proof.Machine.execNmtEnterPreOperational b node s
  | .nmtResetNode b node => Sys2Proof.Machine.execNmtResetNode b node s
  | .nmtResetCommunication b node => Sys2Proof.Machine.execNmtResetCommunication b node s
  | .heartbeatProduce => Sys2Proof.Machine.execHeartbeatProduce s
  | .heartbeatReceived b node => Sys2Proof.Machine.execHeartbeatReceived b node s
  | .heartbeatTimeout k => Sys2Proof.Machine.execHeartbeatTimeout k s
  | .sdoInitiateDownload b index sub expedited size data => Sys2Proof.Machine.execSdoInitiateDownload b index sub expedited size data s
  | .sdoDownloadSegment b toggle last data => Sys2Proof.Machine.execSdoDownloadSegment b toggle last data s
  | .sdoInitiateUpload b index sub => Sys2Proof.Machine.execSdoInitiateUpload b index sub s
  | .sdoUploadSegment b toggle => Sys2Proof.Machine.execSdoUploadSegment b toggle s
  | .sdoAbortTransfer b => Sys2Proof.Machine.execSdoAbortTransfer b s
  | .sdoTimeout b => Sys2Proof.Machine.execSdoTimeout b s
  | .rpdo b r data => Sys2Proof.Machine.execRpdo b r data s
  | .tpdoEventTimer r => Sys2Proof.Machine.execTpdoEventTimer r s
  | .tpdoInhibitEnd r => Sys2Proof.Machine.execTpdoInhibitEnd r s
  | .emcyTransmit => Sys2Proof.Machine.execEmcyTransmit s
  | .storeParameters port data => Sys2Proof.Machine.execStoreParameters port data s
  | .restoreDefaultParameters port data => Sys2Proof.Machine.execRestoreDefaultParameters port data s
  | .errorHistoryClear port => Sys2Proof.Machine.execErrorHistoryClear port s
  | .canErrorPassive b => Sys2Proof.Machine.execCanErrorPassive b s
  | .canBusOff b => Sys2Proof.Machine.execCanBusOff b s
  | .canBusoffRecovery b => Sys2Proof.Machine.execCanBusoffRecovery b s
  | .canRxOverrun b => Sys2Proof.Machine.execCanRxOverrun b s
  | .canTxTimeout b => Sys2Proof.Machine.execCanTxTimeout b s
  | .nodeIdConflict b => Sys2Proof.Machine.execNodeIdConflict b s
  | .idConflictResume b => Sys2Proof.Machine.execIdConflictResume b s
  | .activeBusSwitch => Sys2Proof.Machine.execActiveBusSwitch s
  | .bxtReadStart b tag kind unit index block off len => Sys2Proof.Machine.execBxtReadStart b tag kind unit index block off len s
  | .bxtWriteStart b tag kind unit index block off len => Sys2Proof.Machine.execBxtWriteStart b tag kind unit index block off len s
  | .bxtContinue b tag ctr => Sys2Proof.Machine.execBxtContinue b tag ctr s
  | .bxtDataFrame b tag ctr data => Sys2Proof.Machine.execBxtDataFrame b tag ctr data s
  | .bxtCommit b tag len crc => Sys2Proof.Machine.execBxtCommit b tag len crc s
  | .bxtAbort b tag => Sys2Proof.Machine.execBxtAbort b tag s
  | .bxtTimeout b => Sys2Proof.Machine.execBxtTimeout b s
  | .opQueryOsn port data => Sys2Proof.Machine.execOpQueryOsn port data s
  | .objectWrite port index sub data => Sys2Proof.Machine.execObjectWrite port index sub data s
  | .logRecordWrite ok => Sys2Proof.Machine.execLogRecordWrite ok s
  | .logWindowRead port ecc => Sys2Proof.Machine.execLogWindowRead port ecc s
  | .logSeekEsn port data => Sys2Proof.Machine.execLogSeekEsn port data s
  | .logTimeMark port data => Sys2Proof.Machine.execLogTimeMark port data s
  | .logClear port data => Sys2Proof.Machine.execLogClear port data s
  | .logClearDone => Sys2Proof.Machine.execLogClearDone s
  | .economyExit => Sys2Proof.Machine.execEconomyExit s
  | .domeCmd port data => Sys2Proof.Machine.execDomeCmd port data s
  | .keepDomeTimeout => Sys2Proof.Machine.execKeepDomeTimeout s
  | .domeWake cause => Sys2Proof.Machine.execDomeWake cause s
  | .powerOnReset => Sys2Proof.Machine.execPowerOnReset s
  | .coreBrownOut sys => Sys2Proof.Machine.execCoreBrownOut sys s
  | .resetPin => Sys2Proof.Machine.execResetPin s
  | .supervisorWatchdog detail => Sys2Proof.Machine.execSupervisorWatchdog detail s
  | .softReset port data => Sys2Proof.Machine.execSoftReset port data s
  | .boot x => Sys2Proof.Machine.execBoot x s
  | .supervisorResume => Sys2Proof.Machine.execSupervisorResume s
  | .storeDone verified => Sys2Proof.Machine.execStoreDone verified s
  | .restoreDone => Sys2Proof.Machine.execRestoreDone s
  | .factorySettings port data => Sys2Proof.Machine.execFactorySettings port data s
  | .fwErase port data => Sys2Proof.Machine.execFwErase port data s
  | .fwEraseDone => Sys2Proof.Machine.execFwEraseDone s
  | .fwWrite port data => Sys2Proof.Machine.execFwWrite port data s
  | .fwVerify port data => Sys2Proof.Machine.execFwVerify port data s
  | .fwVerifyDone => Sys2Proof.Machine.execFwVerifyDone s
  | .fwSwitch port data => Sys2Proof.Machine.execFwSwitch port data s
  | .fwStart ok gapUs => Sys2Proof.Machine.execFwStart ok gapUs s
  | .fwConfirm port data => Sys2Proof.Machine.execFwConfirm port data s
  | .fwAutoConfirm => Sys2Proof.Machine.execFwAutoConfirm s
  | .authNonceRead port => Sys2Proof.Machine.execAuthNonceRead port s
  | .authResponse port data => Sys2Proof.Machine.execAuthResponse port data s
  | .authPasswordEntry port data => Sys2Proof.Machine.execAuthPasswordEntry port data s
  | .authClose port => Sys2Proof.Machine.execAuthClose port s
  | .sessionTimeout k => Sys2Proof.Machine.execSessionTimeout k s
  | .nonceExpiry k => Sys2Proof.Machine.execNonceExpiry k s
  | .backoffExpiry => Sys2Proof.Machine.execBackoffExpiry s
  | .authPasswordWrite port sub data => Sys2Proof.Machine.execAuthPasswordWrite port sub data s
  | .authKeyWrite port data => Sys2Proof.Machine.execAuthKeyWrite port data s
  | .lockStateWrite port data => Sys2Proof.Machine.execLockStateWrite port data s
  | .debugOpen port data => Sys2Proof.Machine.execDebugOpen port data s
  | .jtagBypass => Sys2Proof.Machine.execJtagBypass s
  | .jtagIdcode => Sys2Proof.Machine.execJtagIdcode s
  | .jtagSamplePreload => Sys2Proof.Machine.execJtagSamplePreload s
  | .jtagExtest => Sys2Proof.Machine.execJtagExtest s
  | .jtagClamp => Sys2Proof.Machine.execJtagClamp s
  | .jtagHighz => Sys2Proof.Machine.execJtagHighz s
  | .debugHalt target => Sys2Proof.Machine.execDebugHalt target s
  | .debugBreakpoint target address set => Sys2Proof.Machine.execDebugBreakpoint target address set s
  | .debugMemoryAccess e address write => Sys2Proof.Machine.execDebugMemoryAccess e address write s
  | .ioGroupSupplyChange h up => Sys2Proof.Machine.execIoGroupSupplyChange h up s
  | .canErrorActive b => Sys2Proof.Machine.execCanErrorActive b s
  | .unsupportedCommand t code => Sys2Proof.Machine.execUnsupportedCommand t code s
  | .debugResume target => Sys2Proof.Machine.execDebugResume target s
  | .rawCaptureSample slots => Sys2Proof.Machine.execRawCaptureSample slots s

end Sys2Proof.Machine
end

