-- ==== Sys2Proof/Machine/Pins.lean ====
section
/-! DEFINITION. What the device does with its pins in each state (R52, R464, R485, R500, R504). -/

namespace Sys2Proof.Machine

/-- The pins of R504; `plain` is an input without an internal pull, of VDDIO_H or VDDIO_S. -/
inductive DevicePin where
  | pwm (p : Fin 32) | sense | sg (g : Fin 8) | rdy (n : Fin 8) | throttle | pfw | avsData | lil | seq (i : Fin 16) | int (i : Fin 4)
  | pmb | lb | alert | svc | canTx (b : Bus) | tickout | tapIn | trst | tdo | strap | ts | btn | sw (b : Fin 6) | fb (b : Fin 6)
  | ldo (l : Fin 4) | acc | reset | plain (h : Bool)
  deriving DecidableEq, Repr, Inhabited

/-- What the device does with a pin: a level it drives, an open-drain output released, an input, a pull, a bias, load or
termination, the signal of the function it has been given, or nothing at all; `taken` gives it to the boundary scan. -/
inductive PinLook where
  | highZ | low | high | mid | released | input | pullUp | pullDown | loaded | live | taken
  deriving DecidableEq, Repr, Inhabited

/-- The supply group of a pin (R485): `some true` VDDIO_H, `some false` VDDIO_S, none for a pin of neither. -/
def DevicePin.group : DevicePin → Option Bool
  | .pwm _ | .sg _ | .rdy _ | .throttle | .pfw | .avsData => some false
  | .seq _ | .int _ | .pmb | .lb | .alert | .svc | .canTx _ | .tickout | .tapIn | .trst | .tdo | .reset => some true
  | .plain h => some h
  | .sense | .lil | .strap | .ts | .btn | .sw _ | .fb _ | .ldo _ | .acc => none

/-- Does the boundary scan reach a pin's output: a logic pin that is none of the JTAG port (R464)? Notes, log 79. -/
def DevicePin.scanned : DevicePin → Bool
  | .tapIn | .trst | .tdo => false
  | x => x.group.isSome

/-- The level of a phase output or switch node. -/
def Level.look : Level → PinLook | .low => .low | .high => .high | .mid => .mid

namespace Dev

/-- Has a pin its supply (R500)? -/
def pinPowered (d : Dev) (x : DevicePin) : Bool :=
  match x.group with
  | some true => d.board.ioH
  | some false => d.board.ioS
  | none => true

/-- A pin in SHIP (R504): the pulls of RDY, BTN# and RESET# are left, and the plain inputs. -/
def shipPin : DevicePin → PinLook
  | .rdy _ => .pullDown
  | .btn => .pullUp
  | .reset => .pullUp
  | .plain _ => .input
  | _ => .highZ

/-- A pin as its function has it (R504). Before the boot has given it one, its function rests: no event holds an INT line, the ports
take nothing, and the SEQ outputs are off (R432). -/
def functionPin (d : Dev) : DevicePin → PinLook
  | .pwm p => (d.ph p).out.look
  | .sense => if d.ticking || decide (d.power = .keep) then .input else .highZ
  | .sg _ => if d.power = .dome then .highZ else .pullUp
  | .rdy n => if d.ticking && (d.rl n).rdy then .high else .low
  | .throttle => if d.ticking && d.load.throttle then .low else .released
  | .pfw => if d.ticking && !d.load.pfw then .released else .low
  | .avsData => if d.avsLive then .live else .highZ
  | .lil => if d.ticking && d.flag K.LIL_EN then .loaded else .highZ
  | .seq i =>
    if d.seqr.outOff then .highZ
    else if !d.seqr.out.testBit i then .low
    else if bitAt (d.effNum (K.SEQ_OUT_MODE i)) 0 then .high else .released
  | .int i => if (vget d.ev.ints i).asserted then .low else .released
  | .pmb => if d.opsOpen && d.twLive .pmb then .live else .highZ
  | .lb => if d.ticking && d.ctrlOn true then .live else .highZ
  | .alert => if !d.ticking then .highZ else if d.alert then .low else .released
  | .svc => if d.power = .dome then .input else if d.opsOpen && d.twLive .svc then .live else .highZ
  | .canTx b => if d.canLive && (d.port b).enabled then .live else .high
  | .tickout => if d.ticking && d.tickoutDriven then .live else .low
  | .tapIn => .pullUp
  | .trst => .pullDown
  | .tdo => .highZ
  | .strap => .pullDown
  | .ts => if decide (d.boot.rank ≥ 1) && decide (d.power ≠ .dome) then .loaded else .highZ
  | .btn => .pullUp
  | .sw b => if d.ticking && (d.bk b).on then .live else .highZ
  | .fb b => if (d.bk b).on then .input else if (d.bk b).discharge then .loaded else .highZ
  | .ldo l => if (vget d.ldos l).on then .live else if (vget d.ldos l).discharge then .loaded else .highZ
  | .acc => if d.boost.on then .live else .highZ
  | .reset => .pullUp
  | .plain _ => .input

/-- What the device does with a pin (R504): nothing without its supply (R500), and nothing of its own while EXTEST, CLAMP or HIGHZ
takes the pins (R464). -/
def pin (d : Dev) (x : DevicePin) : PinLook :=
  if !d.pinPowered x then .highZ
  else if d.power = .ship then shipPin x
  else if d.pinsTaken && x.scanned then (if d.tapActs = .highz then .highZ else .taken)
  else d.functionPin x

/-- The PWM output of a phase at its pin (R52). -/
def pwmPin (d : Dev) (p : Fin 32) : PinLook := d.pin (.pwm p)

/-- A SEQ output at its pin (R260). -/
def seqPin (d : Dev) (i : Fin 16) : PinLook := d.pin (.seq i)

end Dev

end Sys2Proof.Machine
end

