-- ==== Sys2Proof/Safety.lean ====
section
/-! DEFINITION. The terms claims are stated in: the device as a command finds it, what an event controller is about to
commit, the invariant of the operation table, and which object a port's command writes or reads. -/

namespace Sys2Proof.Machine

/-- The state with another device and the same queue. -/
def State.withDev (s : State) (d : Dev) : State := { s with dev := d }

namespace Dev

/-- The device as a command finds it: the answer of the command before is gone. Notes, log 7. -/
def heard (d : Dev) : Dev := { d with answer := .none }

/-- A cause of the source and code waits for the next commit (R300). -/
def posts (d : Dev) (src code : Nat) : Prop := ∃ c ∈ d.ev.causes, c.src = src ∧ c.code = code

/-- Every object but those listed reads as before. -/
def sameObjects (d e : Dev) (but : List Nat) : Prop := ∀ k, k ∉ but → e.obj k = d.obj k

/-- Engine `e` carries out the Nymren instruction: it runs a program of a customer's, the tick is not over for it, the word of
its program memory at its pc is the instruction's, and no breakpoint of a debugger stands there (R92, R106, R127, R464). -/
def carriesOut (d : Dev) (e : Nat) (i : Instr) : Prop := d.fetches e i = true ∧ d.breaksAt e = false

end Dev

/-- The engine of a Nymren instruction. -/
def nymrenOf : Instr → Option (Fin 16)
  | .nyNop e | .nyEnd e | .nyCommit e | .nyBr e _ | .nyBcc e _ _ _ | .nyLoop e _ _ | .nyCall e _ | .nyRet e | .nySig e _ | .nyBrk e
  | .nyAdd e _ _ _ | .nySub e _ _ _ | .nyAddw e _ _ _ | .nyAddi e _ _ _ | .nyAnd e _ _ _ | .nyOr e _ _ _ | .nyXor e _ _ _
  | .nyAndi e _ _ _ | .nyShl e _ _ _ | .nyShr e _ _ _ | .nyShlv e _ _ _ | .nyMin e _ _ _ | .nyMax e _ _ _ | .nyClamp e _ _ _
  | .nyAbs e _ _ | .nyNeg e _ _ | .nySlt e _ _ _ | .nySel e _ _ _ | .nyMov e _ _ | .nyMovi e _ _ | .nyMovhi e _ _
  | .nyMul e _ _ _ _ | .nyDivq e _ _ _ _ | .nyLd e _ _ _ | .nySt e _ _ _ | .nyLdc e _ _ _ | .nyLdcm e _ _ _
  | .nyClra e _ | .nyLda e _ _ | .nyMac e _ _ _ _ | .nyMsc e _ _ _ _ | .nyMacw e _ _ _ _ | .nyAcx e _ _ _ | .nyAdda e _ _
  | .nyIn e _ _ _ | .nyOut e _ _ _ | .nyOutd e _ _ _ => some e
  | _ => none

/-- A row of R107 whose operation is `rd := value`: the exact value, whether it goes through sat32, and the cycles. -/
structure RegWrite where
  e : Fin 16
  rd : Fin 32
  value : Int
  saturates : Bool
  cycles : Nat

/-- The rows of R107 that write one register and nothing else, `a` and `b` the registers `ra` and `rb` as they read before. -/
def regWrite (d : Dev) : Instr → Option RegWrite
  | .nyAdd e rd ra rb => some ⟨e, rd, (d.engine e).reg ra + (d.engine e).reg rb, true, 1⟩
  | .nySub e rd ra rb => some ⟨e, rd, (d.engine e).reg ra - (d.engine e).reg rb, true, 1⟩
  | .nyAddw e rd ra rb => some ⟨e, rd, wrap32 ((d.engine e).reg ra + (d.engine e).reg rb), false, 1⟩
  | .nyAddi e rd ra imm => some ⟨e, rd, (d.engine e).reg ra + imm.toInt, true, 1⟩
  | .nyAnd e rd ra rb => some ⟨e, rd, (BitVec.ofInt 32 ((d.engine e).reg ra) &&& BitVec.ofInt 32 ((d.engine e).reg rb)).toInt, false, 1⟩
  | .nyOr e rd ra rb => some ⟨e, rd, (BitVec.ofInt 32 ((d.engine e).reg ra) ||| BitVec.ofInt 32 ((d.engine e).reg rb)).toInt, false, 1⟩
  | .nyXor e rd ra rb => some ⟨e, rd, (BitVec.ofInt 32 ((d.engine e).reg ra) ^^^ BitVec.ofInt 32 ((d.engine e).reg rb)).toInt, false, 1⟩
  | .nyAndi e rd ra imm => some ⟨e, rd, (BitVec.ofInt 32 ((d.engine e).reg ra) &&& imm.setWidth 32).toInt, false, 1⟩
  | .nyShl e rd ra sh => some ⟨e, rd, (d.engine e).reg ra * 2 ^ sh.val, true, 1⟩
  | .nyShr e rd ra sh => some ⟨e, rd, Int.fdiv ((d.engine e).reg ra) (2 ^ sh.val), false, 1⟩
  | .nyShlv e rd ra rb => some ⟨e, rd, wrap32 ((d.engine e).reg ra * 2 ^ (((d.engine e).reg rb % 32).toNat)), false, 1⟩
  | .nyMin e rd ra rb => some ⟨e, rd, min ((d.engine e).reg ra) ((d.engine e).reg rb), false, 1⟩
  | .nyMax e rd ra rb => some ⟨e, rd, max ((d.engine e).reg ra) ((d.engine e).reg rb), false, 1⟩
  | .nyClamp e rd ra rb => some ⟨e, rd, min (max ((d.engine e).reg rd) ((d.engine e).reg ra)) ((d.engine e).reg rb), false, 1⟩
  | .nyAbs e rd ra => some ⟨e, rd, ((d.engine e).reg ra).natAbs, true, 1⟩
  | .nyNeg e rd ra => some ⟨e, rd, -(d.engine e).reg ra, true, 1⟩
  | .nySlt e rd ra rb => some ⟨e, rd, if (d.engine e).reg ra < (d.engine e).reg rb then 1 else 0, false, 1⟩
  | .nySel e rd ra rb => some ⟨e, rd, if (d.engine e).reg rd ≠ 0 then (d.engine e).reg ra else (d.engine e).reg rb, false, 1⟩
  | .nyMov e rd ra => some ⟨e, rd, (d.engine e).reg ra, false, 1⟩
  | .nyMovi e rd imm => some ⟨e, rd, imm.toInt, false, 1⟩
  | .nyMovhi e rd imm => some ⟨e, rd, wrap32 ((d.engine e).reg rd % 65536 + imm.toNat * 65536), false, 1⟩
  | .nyMul e rd ra rb sh => some ⟨e, rd, roundShift ((d.engine e).reg ra * (d.engine e).reg rb) sh, true, 2⟩
  | .nyLdc e rd ra c =>
    let k := d.coef e (((d.engine e).reg ra + c.toNat) % 256).toNat
    some ⟨e, rd, roundShift k.1 k.2, true, 1⟩
  | .nyLdcm e rd ra c => some ⟨e, rd, (d.coef e (((d.engine e).reg ra + c.toNat) % 256).toNat).1, false, 1⟩
  | .nyAcx e rd a s =>
    let x := (d.engine e).accs[a]
    some ⟨e, rd, if -16 ≤ s.toInt then roundShift x (16 + s.toInt).toNat else x * 2 ^ (-16 - s.toInt).toNat, true, 2⟩
  | .nyIn e rd ra p => some ⟨e, rd, wrap32 (d.sampleOf e (((d.engine e).reg ra + p.toNat) % 512).toNat), false, 1⟩
  | _ => none

/-- A row of R107 that changes one accumulator: the exact value, whether it goes through sat72, and the cycles. -/
structure AccWrite where
  e : Fin 16
  a : Fin 4
  value : Int
  saturates : Bool

/-- The rows of R107 that write an accumulator, all of one cycle. -/
def accWrite (d : Dev) : Instr → Option AccWrite
  | .nyClra e a => some ⟨e, a, 0, false⟩
  | .nyLda e a ra => some ⟨e, a, (d.engine e).reg ra * 65536, false⟩
  | .nyMac e a ra rb c =>
    let k := d.coef e (((d.engine e).reg rb + c.toNat) % 256).toNat
    let x := (d.engine e).reg ra * k.1
    some ⟨e, a, (d.engine e).accs[a] + if k.2 ≤ 16 then x * 2 ^ (16 - k.2) else roundShift x (k.2 - 16), true⟩
  | .nyMsc e a ra rb c =>
    let k := d.coef e (((d.engine e).reg rb + c.toNat) % 256).toNat
    let x := (d.engine e).reg ra * k.1
    some ⟨e, a, (d.engine e).accs[a] - if k.2 ≤ 16 then x * 2 ^ (16 - k.2) else roundShift x (k.2 - 16), true⟩
  | .nyMacw e a ra rb sh =>
    let x := (d.engine e).reg ra * (d.engine e).reg rb
    some ⟨e, a, (d.engine e).accs[a] + if sh.val ≤ 16 then x * 2 ^ (16 - sh.val) else roundShift x (sh.val - 16), true⟩
  | .nyAdda e a b => some ⟨e, a, (d.engine e).accs[a] + (d.engine e).accs[b], true⟩
  | _ => none

/-- A write that a command carries to its port: the port, the object and the bytes (R344, R370, R384). -/
structure HostWrite where
  port : Src
  key : Nat
  bytes : List Byte

/-- The writes of the command table. -/
def hostWriteOf : Instr → Option HostWrite
  | .authResponse port data => some ⟨port, K.AUTH_RESPONSE port.ownIx, data⟩
  | .authPasswordEntry port data => some ⟨port, K.AUTH_PASSWORD_ENTRY port.ownIx, data⟩
  | .authClose port => some ⟨port, K.AUTH_CLOSE port.ownIx, [1]⟩
  | .authPasswordWrite port sub data => some ⟨port, 0x3202*256+sub.toNat, data⟩
  | .authKeyWrite port data => some ⟨port, K.AUTH_KEY, data⟩
  | .lockStateWrite port data => some ⟨port, K.LOCK_STATE, data⟩
  | .debugOpen port data => some ⟨port, K.DEBUG_OPEN, data⟩
  | .storeParameters port data => some ⟨port, K.STORE_PARAMETERS, data⟩
  | .restoreDefaultParameters port data => some ⟨port, K.RESTORE_DEFAULT_PARAMETERS, data⟩
  | .errorHistoryClear port => some ⟨port, K.ERROR_HISTORY_COUNT, [0]⟩
  | .opQueryOsn port data => some ⟨port, K.OP_QUERY_OSN, data⟩
  | .objectWrite port index sub data => some ⟨port, objKey index sub, data⟩
  | .perfProfileWrite port data => some ⟨port, K.PERF_PROFILE, data⟩
  | .tickRateWrite port data => some ⟨port, K.TICK_RATE, data⟩
  | .profileAtTickWrite port data => some ⟨port, K.PROFILE_AT_TICK, data⟩
  | .profileSchedWrite port data => some ⟨port, K.PROFILE_SCHED, data⟩
  | .capArm port => some ⟨port, K.CAP_CTRL, [1]⟩
  | .capForceTrigger port => some ⟨port, K.CAP_CTRL, [2]⟩
  | .capAbort port => some ⟨port, K.CAP_CTRL, [3]⟩
  | .progShadowSel port e data => some ⟨port, K.PROG_SHADOW_SEL e, data⟩
  | .progImage port e data => some ⟨port, K.PROG_IMAGE e, data⟩
  | .progSwapReq port e data => some ⟨port, K.PROG_SWAP_REQ e, data⟩
  | .bankSwapReq port e => some ⟨port, K.BANK_SWAP_REQ e, [1]⟩
  | .bankCopy port e => some ⟨port, K.BANK_COPY e, [1]⟩
  | .coefWrite port e bankB entry data => some ⟨port, Dev.coefKey e bankB entry, data⟩
  | .libStore port data => some ⟨port, K.LIB_STORE, data⟩
  | .mailboxPost port e => some ⟨port, K.MAILBOX_POST e, [1]⟩
  | .clearFaultsWrite port u => some ⟨port, Dev.clearKey u, [1]⟩
  | .drain port p => some ⟨port, K.PHASE_SVC_CMD p, [1]⟩
  | .drainForce port p => some ⟨port, K.PHASE_SVC_CMD p, [2]⟩
  | .admitPhase port p => some ⟨port, K.PHASE_SVC_CMD p, [3]⟩
  | .groupDrain port g => some ⟨port, K.GROUP_SVC_CMD g, [1]⟩
  | .groupDrainForce port g => some ⟨port, K.GROUP_SVC_CMD g, [2]⟩
  | .groupAdmit port g => some ⟨port, K.GROUP_SVC_CMD g, [3]⟩
  | .logSeekEsn port data => some ⟨port, K.LOG_SEEK_ESN port.ownIx, data⟩
  | .logTimeMark port data => some ⟨port, K.LOG_TIME_MARK, data⟩
  | .logClear port data => some ⟨port, K.LOG_CLEAR, data⟩
  | .wmSwap port w => some ⟨port, K.WM_TEST_CMD w, [1]⟩
  | .wmTie port w => some ⟨port, K.WM_TEST_CMD w, [2]⟩
  | .pkTestCmd port p data => some ⟨port, K.PK_TEST_CMD p, data⟩
  | .realign port p => some ⟨port, K.PHASE_CMD p, [1]⟩
  | .forceMid port p => some ⟨port, K.PHASE_CMD p, [2]⟩
  | .release port p => some ⟨port, K.PHASE_CMD p, [3]⟩
  | .singlePulse port p => some ⟨port, K.PHASE_CMD p, [4]⟩
  | .phaseRailWrite port p data => some ⟨port, K.PHASE_RAIL p, data⟩
  | .chgEnWrite port data => some ⟨port, K.CHG_EN, data⟩
  | .chgChemWrite port data => some ⟨port, K.CHG_CHEM, data⟩
  | .accRestart port => some ⟨port, K.ACC_RESTART, [1]⟩
  | .shipCmd port data => some ⟨port, K.SHIP_CMD, data⟩
  | .powerUp port => some ⟨port, K.SEQ_CMD, [1]⟩
  | .powerDown port => some ⟨port, K.SEQ_CMD, [2]⟩
  | .abort port => some ⟨port, K.SEQ_CMD, [3]⟩
  | .domeCmd port data => some ⟨port, K.DOME_CMD, data⟩
  | .softReset port data => some ⟨port, K.SOFT_RESET, data⟩
  | .factorySettings port data => some ⟨port, K.FACTORY_SETTINGS, data⟩
  | .fwErase port data => some ⟨port, K.FW_ERASE, data⟩
  | .fwWrite port data => some ⟨port, K.FW_WRITE, data⟩
  | .fwVerify port data => some ⟨port, K.FW_VERIFY, data⟩
  | .fwSwitch port data => some ⟨port, K.FW_SWITCH, data⟩
  | .fwConfirm port data => some ⟨port, K.FW_CONFIRM, data⟩
  | .tmStart port t => some ⟨port, K.TM_CTRL t, [1]⟩
  | .tmStop port t => some ⟨port, K.TM_CTRL t, [2]⟩
  | .tmReset port t => some ⟨port, K.TM_CTRL t, [3]⟩
  | .tmGlobalStart port data => some ⟨port, K.TM_GLOBAL_START, data⟩
  | .tmGlobalStop port data => some ⟨port, K.TM_GLOBAL_STOP, data⟩
  | .tmPeriodWrite port t data => some ⟨port, K.TM_PERIOD t, data⟩
  | .tmCompareWrite port t data => some ⟨port, K.TM_COMPARE t, data⟩
  | .intAck port line data => some ⟨port, K.INT_ACK line, data⟩
  | .evTest port data => some ⟨port, K.EV_TEST, data⟩
  | .pmbXfer port data => some ⟨port, K.PMB_XFER, data⟩
  | .lbXfer port data => some ⟨port, K.LB_XFER, data⟩
  | .bulkWindowWrite port sub data => some ⟨port, 0x2E60*256+sub, data⟩
  | .bulkObjectWrite port sub data => some ⟨port, 0x2E61*256+sub, data⟩
  | .bulkLoad port sub data => some ⟨port, 0x2E63*256+sub, data⟩
  | .unitEnable port u => some ⟨port, K.UNIT_ON u, [1]⟩
  | .unitDisable port u => some ⟨port, K.UNIT_ON u, [0]⟩
  | .bkVoutCommandWrite port b data => some ⟨port, K.BK_VOUT_COMMAND b, data⟩
  | .loopModeWrite port n data => some ⟨port, K.LOOP_MODE n, data⟩
  | .policyEntryWrite port _ index sub data => some ⟨port, objKey index sub, data⟩
  | .policyHoldWrite port n data => some ⟨port, K.POLICY_HOLD n, data⟩
  | .voutCommandWrite port n data => some ⟨port, K.VOUT_COMMAND n, data⟩
  | .marginStateWrite port n data => some ⟨port, K.MARGIN_STATE n, data⟩
  | .lilEnWrite port data => some ⟨port, K.LIL_EN, data⟩
  | .intentResume port n => some ⟨port, K.INTENT_RESUME n, [1]⟩
  | _ => none

/-- The reads of the command table: the port and the object. -/
def hostReadOf : Instr → Option (Src × Nat)
  | .authNonceRead port => some (port, K.AUTH_NONCE port.ownIx)
  | .readIoutPeakRead port n => some (port, K.READ_IOUT_PEAK n)
  | .engStatusRead port e => some (port, K.ENG_STATUS e)
  | .engCyclesMaxRead port e => some (port, K.ENG_CYCLES_MAX e)
  | .logWindowRead port false => some (port, K.LOG_WINDOW port.ownIx)
  | .phaseStatusRead port p => some (port, K.PHASE_STATUS p)
  | .chgFaultRead port => some (port, K.CHG_FAULT)
  | .shipStatusRead port => some (port, K.SHIP_STATUS)
  | .tmCaptureRead port t => some (port, K.TM_CAPTURE t)
  | .tmStatusRead port t => some (port, K.TM_STATUS t)
  | _ => none

/-- An accepted value of apply point T: it waits for the next tick edge (R8). -/
def Dev.atEdge (d : Dev) (key : Nat) (v : Val) : Dev := { d with pendT := d.pendT ++ [(key, v)] }

/-- An accepted write, entered with the next OSN, noted in `OP_LAST` and recorded where `OP_RECORD` and its level ask for
it, and not yet carried out (R375–R379). -/
def Dev.admitted (d : Dev) (w : HostWrite) : Dev :=
  let level := match objRow w.key with | some o => d.writeLevel o w.key | none => 0
  let st := if Dev.runs w.key (Dev.valueOf w.key w.bytes) then .running else .done
  let m := ({ d with
    osnNext := nextNo d.osnNext,
    ops := dropOldest w.port d.ops ++ [⟨d.osnNext, st, w.port, w.key, .none, recordFirst w.key w.bytes⟩] } : Dev).noteLast w.port d.osnNext .none
  if d.flag K.OP_RECORD && decide (level ≥ 1) then m.recordOp w.port 0x40 d.osnNext w.key .none (recordFirst w.key w.bytes) else m

/-- What an accepted write does to the admitted device: regulators, phases, voltage and policies. -/
def regulatorEffect (m : Dev) (osn : Nat) : Instr → Option Dev
  | .unitEnable _ u => some (m.atEdge (K.UNIT_ON u) (.num 1))
  | .unitDisable _ u => some (m.atEdge (K.UNIT_ON u) (.num 0))
  | .bkVoutCommandWrite p b bs => some ((m.atEdge (K.BK_VOUT_COMMAND b) (.num (ofLe bs))).postBuck b (ofLe bs) p.voutClass osn)
  | .voutCommandWrite p n bs =>
    let m1 := m.atEdge (K.VOUT_COMMAND n) (.num (ofLe bs))
    some (if m1.accNum (K.MARGIN_STATE n) = 0 then m1.acceptTarget p n (ofLe bs) osn else m1)
  | .marginStateWrite p n bs =>
    let m1 := m.atEdge (K.MARGIN_STATE n) (.num (ofLe bs))
    some (m1.acceptTarget p n (m1.marginTarget n (ofLe bs)) osn)
  | .loopModeWrite _ n bs => some (m.atEdge (K.LOOP_MODE n) (.num (ofLe bs)))
  | .policyHoldWrite _ n bs => some (m.atEdge (K.POLICY_HOLD n) (.num (ofLe bs)))
  | .policyEntryWrite _ _ i sub bs =>
    if actOf (objKey i sub) = .policy then
      some { m.holdWrite (objKey i sub) (Dev.valueOf (objKey i sub) bs) with
        polWait := m.polWait ++ [(objKey i sub, Dev.valueOf (objKey i sub) bs)] }
    else none
  | .lilEnWrite _ bs => some (m.atEdge K.LIL_EN (.num (ofLe bs)))
  | .intentResume _ n => some (m.atEdge (K.INTENT_RESUME n) (.num 1))
  | .phaseRailWrite _ p bs => some (m.atEdge (K.PHASE_RAIL p) (.num (ofLe bs)))
  | .realign _ p => some (m.withOsn osn (fun m => m.realign p))
  | .forceMid _ p => some (m.withOsn osn (fun m => m.disablePhase p 3))
  | .release _ p => some (m.withOsn osn (fun m => m.releaseLatch p))
  | .singlePulse _ p => some (m.withOsn osn (fun m => m.singlePulse p))
  | .drain _ p => some (m.withOsn osn (fun m => m.svcRun [p] 1))
  | .drainForce _ p => some (m.withOsn osn (fun m => m.svcRun [p] 2))
  | .admitPhase _ p => some (m.withOsn osn (fun m => m.svcRun [p] 3))
  | .groupDrain _ g => some (m.withOsn osn (fun m => m.svcRun (m.assignedOf g) 1))
  | .groupDrainForce _ g => some (m.withOsn osn (fun m => m.svcRun (m.assignedOf g) 2))
  | .groupAdmit _ g => some (m.withOsn osn (fun m => m.svcRun (m.assignedOf g) 3))
  | .clearFaultsWrite _ u => some (m.atEdge (Dev.clearKey u) (.num 1))
  | _ => none

/-- What an accepted write does to the admitted device: profiles, capture, engines and their mailboxes. -/
def engineEffect (m : Dev) (osn : Nat) : Instr → Option Dev
  | .perfProfileWrite p bs => some (m.switchAccept K.PERF_PROFILE (ofLe bs) p osn)
  | .tickRateWrite p bs => some (m.switchAccept K.TICK_RATE (ofLe bs) p osn)
  | .profileSchedWrite _ bs => some ((m.setNum K.PROFILE_SCHED (ofLe bs)).profileSched (ofLe bs))
  | .profileAtTickWrite _ bs => some ((m.setNum K.PROFILE_AT_TICK (ofLe bs)).profileAt (ofLe bs))
  | .capArm _ => some m.capArm
  | .capForceTrigger _ => some (m.capTrigger 0 false)
  | .capAbort _ => some m.capAbort
  | .progShadowSel _ e bs => some (m.shadowSel e (ofLe bs))
  | .progImage _ e bs => some (m.shadowImage e bs)
  | .progSwapReq _ e bs => some (m.progSwap e (ofLe bs))
  | .bankSwapReq _ e => some (m.modEng e (fun g => { g with swapBank := true }))
  | .bankCopy _ e => some (m.bankCopy e)
  | .coefWrite _ e b c bs =>
    some (m.setObj (Dev.coefKey e b c) (match Dev.valueOf (Dev.coefKey e b c) bs with
      | .coef k sh => m.heldCoef (Dev.coefKey e b c) (k, sh)
      | v => v))
  | .libStore _ bs =>
    some { m with nvm := { m.nvm with
      libRun := some (ofLe bs % 256, ofLe bs / 256), libImage := (m.engine (ofLe bs % 256)).shadow } }
  | .mailboxPost _ e => some (m.mailboxPost e)
  | _ => none

/-- What an accepted write does to the admitted device: sequencer, monitors, timers, events, battery and log. -/
def boardEffect (m : Dev) (osn : Nat) : Instr → Option Dev
  | .powerUp _ => some (m.atEdge K.SEQ_CMD (.num 1))
  | .powerDown _ => some (m.atEdge K.SEQ_CMD (.num 2))
  | .abort _ => some (m.atEdge K.SEQ_CMD (.num 3))
  | .wmSwap _ w => some (m.wmTestStart w 1)
  | .wmTie _ w => some (m.wmTestStart w 2)
  | .pkTestCmd _ p _ => some (m.pkTestStart p)
  | .tmStart _ t => some (m.tmCtrl t 1)
  | .tmStop _ t => some (m.tmCtrl t 2)
  | .tmReset _ t => some (m.tmCtrl t 3)
  | .tmGlobalStart _ bs => some (m.tmGlobalStart (ofLe bs))
  | .tmGlobalStop _ bs => some (m.tmGlobalStop (ofLe bs))
  | .tmPeriodWrite _ t bs => some (m.tmPeriodWrite t (ofLe bs))
  | .tmCompareWrite _ t bs => some (m.tmCompareWrite t (ofLe bs))
  | .intAck _ l bs => some (m.intAck l (ofLe bs))
  | .evTest _ bs => some (m.evTest (ofLe bs) osn)
  | .chgEnWrite _ bs => some (m.atEdge K.CHG_EN (.num (ofLe bs)))
  | .chgChemWrite _ bs =>
    let v : Int × Int × Int := if ofLe bs = 0 then (4200, 3000, 3000) else (3600, 2500, 2500)
    some ((((m.atEdge K.CHG_CHEM (.num (ofLe bs))).atEdge K.CHG_VREG (.num v.1)).atEdge K.CHG_VPRE (.num v.2.1)).atEdge K.BAT_CUTOFF (.num v.2.2))
  | .accRestart _ => some (m.atEdge K.ACC_RESTART (.num 1))
  | .shipCmd _ _ => some (m.withOsn osn Dev.shipRequest)
  | .logSeekEsn p bs => some (m.setNum (K.LOG_CURSOR p.ownIx) (m.seekIndex (ofLe bs)))
  | .logTimeMark p bs => some (m.logTimeMark p bs osn)
  | .logClear _ _ => some (m.logClear osn)
  | .errorHistoryClear _ => some m.historyClear
  | .opQueryOsn _ bs => some (m.setNum K.OP_QUERY_OSN (ofLe bs))
  | _ => none

/-- What an accepted write does to the admitted device: power states, storage, firmware, bulk, controllers, access, and the
generic write of an object. -/
def systemEffect (m : Dev) (osn : Nat) : Instr → Option Dev
  | .domeCmd _ _ => some (m.domeEnter osn)
  | .softReset _ _ => some { m with softDue := true }
  | .storeParameters _ _ => some (m.storeBegin false osn)
  | .restoreDefaultParameters _ _ => some m.restoreBegin
  | .factorySettings _ _ => some (m.storeBegin true osn)
  | .fwErase _ _ => some m.fwErase
  | .fwWrite _ bs => some (m.fwWrite bs)
  | .fwVerify _ bs => some (if ofLe bs = 0 then m else m.fwVerify)
  | .fwSwitch _ _ => some (m.fwSwitch osn)
  | .fwConfirm _ bs => some (if ofLe bs = 0 then m else m.fwConfirm osn)
  | .pmbXfer _ bs => some (m.xferStart false bs)
  | .lbXfer _ bs => some (m.xferStart true bs)
  | .bulkWindowWrite _ sub bs =>
    some ((m.setNum (0x2E6000 + sub) (ofLe bs)).modTw (if sub = 1 then .pmb else .svc) (fun t => { t with staging := [] }))
  | .bulkObjectWrite _ sub bs =>
    some ((m.setNum (0x2E6100 + sub) (ofLe bs)).modTw (if sub = 1 then .pmb else .svc) (fun t => { t with staging := [] }))
  | .authResponse p bs => some (m.attemptOpen (p.ownIx + 1) true bs osn)
  | .authPasswordEntry p bs => some (m.attemptOpen (p.ownIx + 1) false bs osn)
  | .authClose p => some (m.sessionEnd (p.ownIx + 1) 1 osn)
  | .authPasswordWrite _ sub bs => some ((m.setObj (0x320200 + sub.toNat) (.bytes bs)).causeOsn 122 (0x3F + sub.toNat) osn)
  | .authKeyWrite _ bs => some ((m.setObj K.AUTH_KEY (.bytes bs)).causeOsn 122 0x42 osn)
  | .lockStateWrite _ bs => some (m.lockWrite (ofLe bs) osn)
  | .debugOpen p bs => some (m.debugOpenWrite p (ofLe bs) osn)
  | .objectWrite p i sub bs =>
    if actOf (objKey i sub) = .bulkLoad then none else some (m.carryOut p (objKey i sub) (Dev.valueOf (objKey i sub) bs) osn)
  | _ => none

/-- A port takes a command byte: it enters operations, and the command is supported on the present page (R345, R350). -/
def Dev.takes (d : Dev) (t : TwPort) (code : Nat) : Prop := d.gateOf t.src = .open_ ∧ Dev.cmdOk code (d.pageOf t) = true

/-- A port takes a write of the data bytes `bs`: not protected, of the command's length, with the right PEC or with none where none
is required (R345, R346). -/
def Dev.takesWrite (d : Dev) (x : TwFrame) (code : Nat) (bs : List Byte) : Prop :=
  d.takes x.port code ∧ protects (d.nat K.PMB_WRITE_PROTECT) code = false ∧ x.form = .whole ∧
    (∀ b, x.pec = some b → b.toNat = d.writePec x.port code bs) ∧ (x.pec = none → bitAt (d.effNum K.PMB_CONFIG) 2 = false)

/-- A command that reads (R350): its frame and code, whether page FFh answers FFh in its place (R349), the object of its operation,
its bytes, and the device once they are taken. -/
structure PmbRead where
  x : TwFrame
  code : Nat
  paged : Bool
  key : Nat
  bytes : List Byte
  after : Dev

/-- The reads of the commands of R350 and R357. -/
def pmbReadOf (d : Dev) : Instr → Option PmbRead
  | .pmbPage x none => some ⟨x, 0x00, false, Dev.pageKey x.port, leBytes 1 (d.num (Dev.pageKey x.port)), d⟩
  | .pmbOperation x none =>
    let pg := d.pageOf x.port
    let m := if pg < 8 then d.nat (K.MARGIN_STATE pg) else 0
    some ⟨x, 0x01, true, K.UNIT_ON pg,
      leBytes 1 (((if d.unitOn pg then 0x80 else 0) + (if m = 1 then 0x18 else if m = 2 then 0x28 else 0) : Nat)), d⟩
  | .pmbOnOffConfig x => some ⟨x, 0x02, true, K.UNIT_ON (d.pageOf x.port), [0x18], d⟩
  | .pmbWriteProtect x none => some ⟨x, 0x10, false, K.PMB_WRITE_PROTECT, leBytes 1 (d.num K.PMB_WRITE_PROTECT), d⟩
  | .pmbCapability x => some ⟨x, 0x19, false, Dev.pageKey x.port, [0xD4], d⟩
  | .pmbVoutMode x => some ⟨x, 0x20, true, K.UNIT_ON (d.pageOf x.port), [0x14], d⟩
  | .pmbVoutCommand x none =>
    let k := Dev.measKey K.VOUT_COMMAND K.BK_VOUT_COMMAND K.LDO_VOUT K.VOUT_COMMAND (d.pageOf x.port)
    some ⟨x, 0x21, true, k, leBytes 2 (d.num k), d⟩
  | .pmbVoutMax x none => some ⟨x, 0x24, true, K.VOUT_MAX (d.pageOf x.port), leBytes 2 (d.num (K.VOUT_MAX (d.pageOf x.port))), d⟩
  | .pmbVoutMarginHigh x none =>
    some ⟨x, 0x25, true, K.VOUT_MARGIN_HIGH (d.pageOf x.port), leBytes 2 (d.num (K.VOUT_MARGIN_HIGH (d.pageOf x.port))), d⟩
  | .pmbVoutMarginLow x none =>
    some ⟨x, 0x26, true, K.VOUT_MARGIN_LOW (d.pageOf x.port), leBytes 2 (d.num (K.VOUT_MARGIN_LOW (d.pageOf x.port))), d⟩
  | .pmbVoutTransitionRate x none =>
    let k := Dev.measKey K.VOUT_TRANSITION_RATE K.BK_SLEW K.BK_SLEW K.BK_SLEW (d.pageOf x.port)
    some ⟨x, 0x27, true, k, leBytes 2 (lin11 (d.num k) 100), d⟩
  | .pmbVoutMin x none => some ⟨x, 0x2B, true, K.VOUT_MIN (d.pageOf x.port), leBytes 2 (d.num (K.VOUT_MIN (d.pageOf x.port))), d⟩
  | .pmbVoutOvFaultLimit x none =>
    some ⟨x, 0x40, true, K.VOUT_OV_FAULT_LIMIT (d.pageOf x.port), leBytes 2 (d.num (K.VOUT_OV_FAULT_LIMIT (d.pageOf x.port))), d⟩
  | .pmbVoutUvFaultLimit x none =>
    some ⟨x, 0x44, true, K.VOUT_UV_FAULT_LIMIT (d.pageOf x.port), leBytes 2 (d.num (K.VOUT_UV_FAULT_LIMIT (d.pageOf x.port))), d⟩
  | .pmbIoutOcFaultLimit x none =>
    some ⟨x, 0x46, true, K.IOUT_OC_FAULT_LIMIT (d.pageOf x.port), leBytes 2 (lin11 (d.num (K.IOUT_OC_FAULT_LIMIT (d.pageOf x.port))) 16), d⟩
  | .pmbStatusByte x => some ⟨x, 0x78, true, Dev.pageKey x.port, leBytes 1 (d.statusWord (pageIx (d.pageOf x.port)) (d.tw x.port).cml), d⟩
  | .pmbStatusWord x => some ⟨x, 0x79, true, Dev.pageKey x.port, leBytes 2 (d.statusWord (pageIx (d.pageOf x.port)) (d.tw x.port).cml), d⟩
  | .pmbStatusVout x none => some ⟨x, 0x7A, true, Dev.pageKey x.port, leBytes 1 (vget d.pages (pageIx (d.pageOf x.port))).vout, d⟩
  | .pmbStatusIout x none => some ⟨x, 0x7B, true, Dev.pageKey x.port, leBytes 1 (vget d.pages (pageIx (d.pageOf x.port))).iout, d⟩
  | .pmbStatusInput x none => some ⟨x, 0x7C, true, Dev.pageKey x.port, leBytes 1 (vget d.pages (pageIx (d.pageOf x.port))).inp, d⟩
  | .pmbStatusTemperature x none => some ⟨x, 0x7D, true, Dev.pageKey x.port, leBytes 1 (vget d.pages (pageIx (d.pageOf x.port))).temp, d⟩
  | .pmbStatusCml x none => some ⟨x, 0x7E, true, Dev.pageKey x.port, leBytes 1 (d.tw x.port).cml, d⟩
  | .pmbStatusMfrSpecific x none => some ⟨x, 0x80, true, Dev.pageKey x.port, leBytes 1 (vget d.pages (pageIx (d.pageOf x.port))).mfr, d⟩
  | .pmbReadVin x => some ⟨x, 0x88, true, K.VIN_VALUE, leBytes 2 (lin11 (d.num K.VIN_VALUE) 65536), d⟩
  | .pmbReadVout x =>
    let u := pageUnit (d.pageOf x.port)
    let v := match pageKind (d.pageOf x.port) with
      | .mp => roundDiv ((d.roNum (K.READ_VOUT u)).getD 0) 16
      | .bk => roundDiv (d.num (K.BK_READ_VOUT u)) 16
      | _ => roundDiv (d.ldoMv u * 4096) 1000
    some ⟨x, 0x8B, true, Dev.measKey K.READ_VOUT K.BK_READ_VOUT (fun l => K.HK_RAW (0x17 + l)) K.ISENSE (d.pageOf x.port),
      leBytes 2 (clampI 0 65535 v), d⟩
  | .pmbReadIout x =>
    let u := pageUnit (d.pageOf x.port)
    let w := match pageKind (d.pageOf x.port) with
      | .mp => lin11 ((d.roNum (K.READ_IOUT u)).getD 0) 16
      | .bk => lin11 (d.num (K.BK_READ_IOUT u)) 1000
      | _ => lin11 (d.num (K.ISENSE u)) 256
    some ⟨x, 0x8C, true, Dev.measKey K.READ_IOUT K.BK_READ_IOUT K.ISENSE K.ISENSE (d.pageOf x.port), leBytes 2 w, d⟩
  | .pmbReadTemperature1 x =>
    let u := pageUnit (d.pageOf x.port)
    let r := match pageKind (d.pageOf x.port) with
      | .mp => d.railTemp u
      | .ph => (d.num (K.SG_TEMP (u / 4)), d)
      | _ => (d.num (K.DIE_TEMP 0), d)
    some ⟨x, 0x8D, true,
      Dev.measKey (fun _ => K.SG_TEMP 0) (fun _ => K.DIE_TEMP 0) (fun _ => K.DIE_TEMP 0) (fun p => K.SG_TEMP (p / 4)) (d.pageOf x.port),
      leBytes 2 (lin11 r.1 16), r.2⟩
  | .pmbRevision x => some ⟨x, 0x98, false, Dev.pageKey x.port, [0x33], d⟩
  | .pmbMfrId x => some ⟨x, 0x99, false, Dev.pageKey x.port, [6, 0x53, 0x4F, 0x52, 0x41, 0x45, 0x4C], d⟩
  | .pmbMfrModel x => some ⟨x, 0x9A, false, Dev.pageKey x.port, [7, 0x43, 0x50, 0x4C, 0x34, 0x38, 0x33, 0x32], d⟩
  | .pmbMfrRevision x => some ⟨x, 0x9B, false, Dev.pageKey x.port, [2, 0x42, 0x31], d⟩
  | .objSelect x [] =>
    some ⟨x, 0xD0, false, Dev.pageKey x.port, [3] ++ leBytes 2 ((d.tw x.port).sel / 256 : Nat) ++ leBytes 1 ((d.tw x.port).sel % 256 : Nat), d⟩
  | .objResult x =>
    let t := d.tw x.port
    let busy := d.ops.any (fun e => e.osn == t.lastOsn && e.st == .running)
    some ⟨x, 0xD2, false, Dev.pageKey x.port,
      [8] ++ leBytes 4 t.lastOsn ++ [if busy then 1 else if t.lastReason ≠ .none then 2 else 0] ++ leBytes 1 t.lastReason.code ++ [0, 0], d⟩
  | _ => none

/-- A write command: its frame, its code and the data bytes that its PEC covers (R344–R346). -/
def pmbWriteFrame : Instr → Option (TwFrame × Nat × List Byte)
  | .pmbPage x (some b) => some (x, 0x00, [b])
  | .pmbOperation x (some b) => some (x, 0x01, [b])
  | .pmbOperationMargin x b => some (x, 0x01, [b])
  | .pmbClearFaults x => some (x, 0x03, [])
  | .pmbWriteProtect x (some b) => some (x, 0x10, [b])
  | .pmbStoreUserAll x => some (x, 0x15, [])
  | .pmbRestoreUserAll x => some (x, 0x16, [])
  | .pmbVoutCommand x (some v) => some (x, 0x21, leBytes 2 v.toNat)
  | .pmbVoutMax x (some v) => some (x, 0x24, leBytes 2 v.toNat)
  | .pmbVoutMarginHigh x (some v) => some (x, 0x25, leBytes 2 v.toNat)
  | .pmbVoutMarginLow x (some v) => some (x, 0x26, leBytes 2 v.toNat)
  | .pmbVoutTransitionRate x (some v) => some (x, 0x27, leBytes 2 v.toNat)
  | .pmbVoutMin x (some v) => some (x, 0x2B, leBytes 2 v.toNat)
  | .pmbVoutOvFaultLimit x (some v) => some (x, 0x40, leBytes 2 v.toNat)
  | .pmbVoutUvFaultLimit x (some v) => some (x, 0x44, leBytes 2 v.toNat)
  | .pmbIoutOcFaultLimit x (some v) => some (x, 0x46, leBytes 2 v.toNat)
  | .pmbStatusVout x (some b) => some (x, 0x7A, [b])
  | .pmbStatusIout x (some b) => some (x, 0x7B, [b])
  | .pmbStatusInput x (some b) => some (x, 0x7C, [b])
  | .pmbStatusTemperature x (some b) => some (x, 0x7D, [b])
  | .pmbStatusCml x (some b) => some (x, 0x7E, [b])
  | .pmbStatusMfrSpecific x (some b) => some (x, 0x80, [b])
  | .objSelect x (b :: bs) => some (x, 0xD0, leBytes 1 (b :: bs).length ++ b :: bs)
  | .objData x (some bs) => some (x, 0xD1, leBytes 1 bs.length ++ bs)
  | _ => none

/-- The number that a command writes: its frame and code, the object of a unit, and the value in the object's unit (R180, R350,
R351). -/
def pmbNumberOf : Instr → Option (TwFrame × Nat × (Nat → Nat) × Int)
  | .pmbVoutCommand x (some v) => some (x, 0x21, Dev.measKey K.VOUT_COMMAND K.BK_VOUT_COMMAND K.LDO_VOUT K.VOUT_COMMAND, v.toNat)
  | .pmbVoutMax x (some v) => some (x, 0x24, K.VOUT_MAX, v.toNat)
  | .pmbVoutMarginHigh x (some v) => some (x, 0x25, K.VOUT_MARGIN_HIGH, v.toNat)
  | .pmbVoutMarginLow x (some v) => some (x, 0x26, K.VOUT_MARGIN_LOW, v.toNat)
  | .pmbVoutTransitionRate x (some v) =>
    some (x, 0x27, Dev.measKey K.VOUT_TRANSITION_RATE K.BK_SLEW K.BK_SLEW K.BK_SLEW, lin11Value v.toNat 100)
  | .pmbVoutMin x (some v) => some (x, 0x2B, K.VOUT_MIN, v.toNat)
  | .pmbVoutOvFaultLimit x (some v) => some (x, 0x40, K.VOUT_OV_FAULT_LIMIT, v.toNat)
  | .pmbVoutUvFaultLimit x (some v) => some (x, 0x44, K.VOUT_UV_FAULT_LIMIT, v.toNat)
  | .pmbIoutOcFaultLimit x (some v) => some (x, 0x46, K.IOUT_OC_FAULT_LIMIT, lin11Value v.toNat 16)
  | _ => none

/-- The write of one object that a command makes: its frame and code, and the write (R180, R349, R350, R357, R436, R440). A number
outside 16 bits, and page FFh or OPERATION of a rail, make no such write. -/
def pmbObjectOf (d : Dev) (c : Instr) : Option (TwFrame × Nat × HostWrite) :=
  let operation := fun (x : TwFrame) (b : Byte) =>
    match pageKind (d.pageOf x.port) with
    | .ff | .mp => none
    | _ => some (x, 0x01, (⟨x.port.src, K.UNIT_ON (d.pageOf x.port), [BitVec.ofNat 8 (b.toNat / 128)]⟩ : HostWrite))
  match c with
  | .pmbPage x (some b) => some (x, 0x00, ⟨x.port.src, Dev.pageKey x.port, [b]⟩)
  | .pmbOperation x (some b) => operation x b
  | .pmbOperationMargin x b => operation x b
  | .pmbWriteProtect x (some b) => some (x, 0x10, ⟨x.port.src, K.PMB_WRITE_PROTECT, [b]⟩)
  | .pmbStoreUserAll x => some (x, 0x15, ⟨x.port.src, K.STORE_PARAMETERS, [0x73, 0x61, 0x76, 0x65]⟩)
  | .pmbRestoreUserAll x => some (x, 0x16, ⟨x.port.src, K.RESTORE_DEFAULT_PARAMETERS, [0x6C, 0x6F, 0x61, 0x64]⟩)
  | .objData x (some bs) =>
    if actOf (d.tw x.port).sel = .bulkLoad then none else some (x, 0xD1, ⟨x.port.src, (d.tw x.port).sel, bs⟩)
  | c =>
    match pmbNumberOf c with
    | some (x, code, key, v) =>
      if pageKind (d.pageOf x.port) = .ff ∨ v < 0 ∨ 65535 < v then none
      else some (x, code, ⟨x.port.src, key (d.pageOf x.port), leBytes 2 v⟩)
    | none => none


/-- The operation table and the next OSN (R375, R379). -/
def Dev.opTable (d : Dev) : List OpEntry × Nat := (d.ops, d.osnNext)

/-- A sound entry (R375, R376): it is reserved and has no OSN yet, or its OSN counts from 1 and it runs, is done or is refused;
and it carries a reason exactly when it is refused. -/
def OpEntry.sound (e : OpEntry) : Prop :=
  ((e.st = .reserved ∧ e.osn = 0) ∨
    ((1 ≤ e.osn ∧ e.osn ≤ 4294967295) ∧ (e.st = .running ∨ e.st = .done ∨ e.st = .refused))) ∧
  (e.st = .refused ↔ e.reason ≠ .none)

/-- A sound operation table: every entry is sound, and the next OSN counts from 1 as well. -/
def tableSound (t : List OpEntry × Nat) : Prop := (1 ≤ t.2 ∧ t.2 ≤ 4294967295) ∧ ∀ e ∈ t.1, e.sound

end Sys2Proof.Machine
end

