-- ==== Sys2Proof/Certificates/Slice0/Obligations.lean ====
section
/-! DEFINITION. The statements for the provers, from the spec's numbered rules. `exec c s` is a command's effect on
everything but the queue; a clause that ends in `exec c s = .next t` says where the command completes, what the next
state holds, and, by an equation of the form `t = { s with dev := { s.dev with … } }` whose listed fields are taken from
`t`, that nothing else of the state changes. -/

open Sys2Proof Sys2Proof.Machine Sys2Proof.Machine.Dev

/-- A step runs the command at the front of the queue. Log 1. -/
def Obligations.StepRunsFrontCommand : Prop :=
  ∀ (s : State) (c : Instr) (rest : List Instr), s.pending = c :: rest → step s = exec c { s with pending := rest }

/-- A step on an empty queue. Log 2. -/
def Obligations.EmptyQueueIdles : Prop := ∀ s : State, s.pending = [] → step s = .next s

/-- What the spec refuses is reported in the state (R10, R374): nothing stops the device. -/
def Obligations.CommandsRunToEnd : Prop :=
  (∀ (c : Instr) (s : State), ∃ d, exec c s = .next { dev := d, pending := s.pending } ∧
    ∀ q, exec c { s with pending := q } = .next { dev := d, pending := q }) ∧
  (∀ (s : State) (d : Dev) (rest : List Instr), ∃ t, Host.Core.run Sys2Proof.core s.pending.length s = .next t ∧ t.pending = [] ∧
    ∃ m, Host.Core.run Sys2Proof.core s.pending.length { s with pending := s.pending ++ rest } = .next { dev := m, pending := rest } ∧ m = t.dev)

/-- Reset (R431–R433). The contents of a new device's memories are the model's choice: logs 4, 5 and 8. -/
def Obligations.ResetState : Prop :=
  let d := State.reset.dev
  State.reset.pending = [] ∧ (∀ k, k ≠ K.RESET_INFO → d.obj k = objDefault k) ∧ d.obj K.RESET_INFO = .bytes (1 :: List.replicate 15 0) ∧
    d.ops = [] ∧ d.osnNext = 1 ∧ d.boot = .held ∧ (∀ u, u < 18 → d.unitOn u = false) ∧
    (∀ p : Fin 32, (d.ph p).out = .mid ∧ (d.ph p).inSet = false ∧ (d.ph p).w = 0) ∧
    (∀ e : Fin 16, d.engine e = Engine.init) ∧ d.pageOf .pmb = 0 ∧ d.pageOf .svc = 0 ∧
    (∀ i, vget d.pages i = {}) ∧ d.alert = false ∧ d.ev.causes = [] ∧ d.ev.queue = [] ∧ d.log.recs = [] ∧
    (∀ i : Fin 4, (vget d.acc.ifs i).level = 0) ∧ d.flag K.DEBUG_OPEN = false ∧ d.supRuns = false ∧ d.seqr.prog = 0

/-- R454. A session's level is 0 where none is held. -/
def Obligations.InterfaceLevels : Prop :=
  ∀ (d : Dev) (p : Src) (i : Nat), p.iface = some i →
    (d.num K.LOCK_STATE = 0 → d.level p = 3) ∧
    (d.num K.LOCK_STATE = 1 → (d.iface i).level = 0 → d.level p = 1) ∧
    (d.num K.LOCK_STATE = 1 → (d.iface i).level = 2 → d.level p = 2) ∧
    (d.num K.LOCK_STATE = 1 → (d.iface i).level = 3 → d.level p = 3)

/-- R460, and the decision of the write of AUTH_PASSWORD_ENTRY that carries the attempt. -/
def Obligations.PasswordAttempts : Prop :=
  ∀ (s : State) (p : Src) (i : Nat) (level : Byte) (pw : List Byte), pw.length = 8 → p.iface = some i →
    let d := s.dev.heard
    let stored := fun l : Nat => (d.obj (K.AUTH_PASSWORD (l - 2))).bs
    let right := (level.toNat = 2 ∨ level.toNat = 3) ∧ pw = stored level.toNat ∧ ∃ b ∈ stored level.toNat, b ≠ 0;
    (∀ j : Fin 4, ∃ r, objRow (K.AUTH_PASSWORD_ENTRY j) = some r ∧ ∀ bs : List Byte, lengthOk r bs = true ↔ bs.length = 9) ∧
    (d.attemptOk i false (level :: pw) = true ↔ right) ∧
    (d.num K.AUTH_BACKOFF = 0 → (right → d.attemptRule p i false (level :: pw) = .none) ∧
      (¬ right → d.attemptRule p i false (level :: pw) = .access)) ∧
    (d.gateOf p = .open_ → d.num K.AUTH_BACKOFF = 0 → (∀ e ∈ d.ops, e.key = K.AUTH_PASSWORD_ENTRY (i - 1) → e.st ≠ .running) →
      let k := (satU 8 (d.num K.AUTH_FAIL_COUNT + 1)).toNat
      ∃ t, exec (.authPasswordEntry p (level :: pw)) s = .next t ∧
        (right → t.dev.num K.AUTH_FAIL_COUNT = 0 ∧ (t.dev.iface i).level = level.toNat) ∧
        (¬ right → t.dev.nat K.AUTH_FAIL_COUNT = k ∧ t.dev.nat K.AUTH_BACKOFF = min 256 (2 ^ (k - 1)) ∧ (t.dev.iface i).level < 2)) ∧
    (stored 2 ≠ stored 3 → d.attemptOk i false (2 :: stored 3) = false ∧ d.attemptOk i false (3 :: stored 2) = false) ∧
    (∀ l : Byte, l ≠ 2 → l ≠ 3 → d.attemptOk i false (l :: pw) = false)

/-- R458: the records that wait for the next commit edge. -/
def Obligations.CredentialsStayOut : Prop :=
  ∀ (s : State) (c : Instr) (w : HostWrite), let d := s.dev.heard
    hostWriteOf c = some w → (w.key / 256 = 0x3202 ∨ w.key / 256 = 0x3203 ∨ w.key / 256 = 0x3207) → d.gateOf w.port = .open_ →
    (∀ x ∈ d.ev.causes, x.osn ≠ d.osnNext) →
    ∃ t, exec c s = .next t ∧
      (∀ x ∈ t.dev.ev.causes, x.src = w.port.evSource → x.code = 0x40 ∨ x.code = 0x41 → x.osn = d.osnNext →
        slice x.arg 4 4 = [0, 0, 0, 0]) ∧
      (∀ e ∈ t.dev.ops, e.osn = d.osnNext → e ∉ d.ops → e.first = [])

/-- PROGRAM_CHECK_DONE, LIB_STORE_DONE, OVERRUN (R110, R118, R125). That the library keeps the image of the moment of the write is
log 65; what the edge does to a stopped engine is `OverrunDiscards`. -/
def Obligations.EngineCommandsComplete : Prop :=
  (∀ (s : State) (e : Fin 16), let d := s.dev.heard
    (d.engine e).shadowSt = .loading → d.supRuns = true →
    let c := (d.endOp (K.PROG_SHADOW_SEL e) .none).endOp (K.PROG_IMAGE e) .none
    let result := if (d.engine e).shadow.id = 0xFFFF then some (1, 0) else c.checkImage e (d.engine e).shadow c.budget (d.engine e).shadow.unchecked
    exec (.programCheckDone e) s = .next (s.withDev
      (match result with
        | none => (c.modEng e (fun g => { g with shadowSt := .checked })).setNum (K.PROG_CHECK_RESULT e) 0
        | some (reason, at_) => (c.modEng e (fun g => { g with shadowSt := .refused })).setNum (K.PROG_CHECK_RESULT e) ((reason : Int) * 16777216 + at_)))) ∧
  (∀ (s : State) (e : Fin 16), ((s.dev.engine e).shadowSt ≠ .loading ∨ s.dev.supRuns = false) →
    exec (.programCheckDone e) s = .next (s.withDev s.dev.heard)) ∧
  (∀ (s : State) (ok : Bool) (e slot : Nat), let d := s.dev.heard
    d.nvm.libRun = some (e, slot) →
    let kept := if ok then vset d.nvm.lib slot { d.nvm.libImage with unchecked := false } else d.nvm.lib
    let v : Nvm := { d.nvm with libRun := none, libImage := Image.none, lib := kept }
    exec (.libStoreDone ok) s = .next (s.withDev
      (Dev.endOp { d with nvm := v } K.LIB_STORE (if ok then .none else .nvm)))) ∧
  (∀ (s : State) (ok : Bool), s.dev.nvm.libRun = none → exec (.libStoreDone ok) s = .next (s.withDev s.dev.heard)) ∧
  (∀ (s : State) (e : Fin 16), let d := s.dev.heard
    (d.engRuns e = true → (d.engine e).ended = false → (d.engine e).overran = false →
      let t := s.withDev (d.modEng e (fun g => { g with overran := true, overrunCause := if (d.engine e).prog.unchecked then 0 else 1 }))
      exec (.overrun e) s = .next t ∧ t.dev.engExecutes e = false) ∧
    ((d.engRuns e = false ∨ (d.engine e).ended = true ∨ (d.engine e).overran = true) → exec (.overrun e) s = .next (s.withDev d)))

/-- ECC_SCRUB, ECC_UNCORRECTABLE, ENGINE_RELOAD_DONE (R127–R130). Log 19: a swap that waits for a shadow which becomes REFUSED. -/
def Obligations.EccCommandsComplete : Prop :=
  (∀ (s : State) (e : Fin 16) (stall : Bool), let d := s.dev.heard
    let reads := stall && d.engRuns e && (d.engine e).executes;
    ((d.supRuns = true ∨ reads = true) →
      exec (.eccScrub e ⟨true, stall⟩) s = .next (s.withDev
        ((d.modEng e (fun g => { g with eccCorrected := true, cycles := if reads then g.cycles + 2 else g.cycles })).setNum (K.ENG_ECC_COUNT e)
          (satU 16 (d.num (K.ENG_ECC_COUNT e) + 1))))) ∧
    (d.supRuns = false → reads = false → exec (.eccScrub e ⟨true, stall⟩) s = .next (s.withDev d)) ∧
    exec (.eccScrub e ⟨false, stall⟩) s = .next (s.withDev d)) ∧
  (∀ (s : State) (e : Fin 16) (loc : EccLoc), let d := s.dev.heard
    let m := (d.modEng e (fun g => { g with eccFatal := true })).causeArg (Dev.engSrc e) (4 + e % 2) 0 (leBytes 1 3 ++ leBytes 3 (Dev.eccAddr loc))
    let stop : Engine → Engine := fun g => if g.ended then g else { g with overran := true, overrunCause := 3 }
    exec (.eccUncorrectable e loc) s = .next (s.withDev (match loc with
      | .code _ => m.modEng e (fun g => { stop g with st := if g.st = .running then .fault else g.st, overrunCause := 3, badProg := true })
      | .activeBank _ => m.modEng e (fun g => { stop g with st := if g.st = .running then .fault else g.st, overrunCause := 3, badBank := true })
      | .state _ => m.modEng e (fun g => { stop g with badState := true })
      | .shadow _ => (m.modEng e (fun g => { g with
          shadowSt := .refused, swapProg := 0, swapBank := g.swapBank && decide (g.swapProg ≠ 2) })).setNum (K.PROG_CHECK_RESULT e) 0x01000000
      | .inactiveBank c =>
        let key := coefKey e (!(d.engine e).bankB) c
        m.setObj key (m.heldCoef key (0, 0))
      | .scratch a => m.modEng e (fun g => { g with scratch := Assoc.set zeroAt g.scratch (0x200 + a) 0 })))) ∧
  (∀ (s : State) (e : Fin 16), let d := s.dev.heard
    d.supRuns = true →
    let filled := (forUnits 257 (fun c x => x.fillCoef e (!(d.engine e).bankB) c (coefKey e (d.engine e).bankB c)
        (Assoc.get objDefault d.activeImage.entries (coefKey e (d.engine e).bankB c))) d).modEng e (fun g =>
          { g with swapBank := true, badBank := false, st := if g.st = .fault ∧ g.badProg = false then .running else g.st })
    let m := if (d.engine e).badBank then filled else d;
    ((d.engine e).badProg = false → exec (.engineReloadDone e) s = .next (s.withDev m)) ∧
    ((d.engine e).badProg = true →
      (∀ new, m.libraryCopy (m.engine e).prog = some new →
        (m.checkImage e new m.budget (m.flag (K.CHECK_BYPASS e)) = none →
          exec (.engineReloadDone e) s = .next (s.withDev (m.modEng e (fun g =>
            { g with shadow := { new with unchecked := m.flag (K.CHECK_BYPASS e) }, shadowSt := .pending, swapProg := 1 })))) ∧
        (∀ reason at_, m.checkImage e new m.budget (m.flag (K.CHECK_BYPASS e)) = some (reason, at_) →
          exec (.engineReloadDone e) s = .next (s.withDev (((m.modEng e (fun g => { g with badProg := false })).setNum (K.PROG_CHECK_RESULT e)
            ((reason : Int) * 16777216 + at_)).causeArg (Dev.engSrc e) (6 + e % 2) 0 [3, 0, 0, 0])))) ∧
      (m.libraryCopy (m.engine e).prog = none →
        exec (.engineReloadDone e) s = .next (s.withDev (((m.modEng e (fun g => { g with badProg := false })).setNum (K.PROG_CHECK_RESULT e)
          0x01000000).causeArg (Dev.engSrc e) (6 + e % 2) 0 [3, 0, 0, 0]))))) ∧
  (∀ (s : State) (e : Fin 16), s.dev.supRuns = false → exec (.engineReloadDone e) s = .next (s.withDev s.dev.heard))

/-- R125 and R94 at the release window of engine `e`. -/
def Obligations.OverrunDiscards : Prop :=
  (∀ (d : Dev) (e : Fin 16), satU 8 (d.num (K.OVERRUN_CONSEC e) + 1) < d.num (K.OVERRUN_LIMIT e) →
    let t := d.engOverrun e;
    (t.engine e).port = (d.engine e).port ∧ (t.engine e).committed = (d.engine e).committed ∧
    (t.engine e).portTick = [] ∧ (t.engine e).driveTick = [] ∧ (t.engine e).dirty = [] ∧ (t.engine e).overrunFlag = true ∧ t.drive = d.drive ∧
    t.num (K.OVERRUN_COUNT e) = satU 32 (d.num (K.OVERRUN_COUNT e) + 1) ∧ t.num (K.OVERRUN_CONSEC e) = satU 8 (d.num (K.OVERRUN_CONSEC e) + 1) ∧
    t.bit K.ENG_OVERRUN_MASK e = true) ∧
  (∀ (d : Dev) (e : Fin 16) (stamp : Int),
    let t := d.engRelease e stamp;
    (t.engine e).portTick = [] ∧ (t.engine e).driveTick = [] ∧ (t.engine e).dirty = [] ∧ t.num (K.OVERRUN_CONSEC e) = 0 ∧
    t.num (K.ENG_CYCLES_LAST e) = (d.engine e).cycles ∧ t.bit K.ENG_OVERRUN_MASK e = false ∧
    (t.engine e).port = (d.engine e).portTick.foldl (fun m x => Assoc.set zeroAt m x.1 x.2) (d.engine e).port ∧
    (t.engine e).committed = (if (d.engine e).armed then (d.engine e).dirty.foldl (fun m x => Assoc.set zeroAt m x.1 x.2) (d.engine e).committed
      else (d.engine e).committed))

/-- TICK_EDGE and KEEP_EDGE (R24, R25, R302). What follows the core of an edge is `Dev.afterEdge`. -/
def Obligations.EdgesComplete : Prop :=
  (∀ (s : State) (x : EdgeSamples), let d := s.dev.heard
    (d.power = .active ∨ d.power = .economy) → d.boot ≠ .held →
    let b := d.fwAbort.supBreak
    let core := ((((b.edgeRelease b.nextTick).edgeLatch b.nextTick x b.rawSlots).edgeDecide b.nextTick).commitEvents false).setNum K.TICK_COUNT b.nextTick
    let last := (core.capEdge core.anyNewIntent).tmWaiting
    exec (.tickEdge x) s = .next (s.withDev (d.afterEdge last)) ∧ core.num K.TICK_COUNT = b.nextTick) ∧
  (∀ (s : State) (x : EdgeSamples), s.dev.power ≠ .active → s.dev.power ≠ .economy →
    exec (.tickEdge x) s = .next (s.withDev s.dev.heard)) ∧
  (∀ s : State, let d := s.dev.heard
    d.power = .keep → d.boot ≠ .held →
    let m := (forUnits 24 (fun w d => d.wmSync w) (forUnits 24 (fun w d => d.wmRefresh w) d.fwAbort.supBreak.applyPending.rateFollow)).statusLatch
    exec .keepEdge s = .next (s.withDev (d.afterEdge ((m.seqEdge.chargeEdge 10000).commitEvents true)))) ∧
  (∀ s : State, s.dev.power ≠ .keep → exec .keepEdge s = .next (s.withDev s.dev.heard))

/-- The rows of R107 that write one register, as `regWrite` lists them (R91, R103–R107). -/
def Obligations.NymrenRegisterResults : Prop :=
  ∀ (s : State) (i : Instr) (x : RegWrite), regWrite s.dev.heard i = some x → s.dev.heard.carriesOut x.e i →
    let v := if x.saturates then sat32 x.value else x.value
    exec i s = .next (s.withDev (s.dev.heard.modEng x.e (fun g =>
      let after := Engine.afterLoops g.pc g.loops
      { g with regs := if x.rd = 0 then g.regs else g.regs.set x.rd v, sat := g.sat || (v != x.value), pc := after.1, loops := after.2, cycles := g.cycles + x.cycles })))

/-- CLRA, LDA, MAC, MSC, MACW, ADDA, DIVQ, LD and ST (R93, R94, R103–R107). -/
def Obligations.NymrenAccumulatorsAndMemory : Prop :=
  (∀ (s : State) (i : Instr) (x : AccWrite), accWrite s.dev.heard i = some x → s.dev.heard.carriesOut x.e i →
    let v := if x.saturates then max (-(2 ^ 71)) (min (2 ^ 71 - 1) x.value) else x.value
    exec i s = .next (s.withDev (s.dev.heard.modEng x.e (fun g =>
      { g.next 1 with accs := g.accs.set x.a v, sat := g.sat || (v != x.value), accSat := g.accSat || (v != x.value) })))) ∧
  (∀ (s : State) (e : Fin 16) (rd ra rb sh : Fin 32), let d := s.dev.heard
    d.carriesOut e (.nyDivq e rd ra rb sh) →
    let a := (d.engine e).reg ra
    let b := (d.engine e).reg rb;
    (b ≠ 0 → exec (.nyDivq e rd ra rb sh) s = .next (s.withDev (d.modEng e (fun g => (g.setSat rd ((a * 2 ^ sh.val).tdiv b)).next 20)))) ∧
    (b = 0 → exec (.nyDivq e rd ra rb sh) s = .next (s.withDev (d.modEng e (fun g =>
      { (g.setReg rd (if a > 0 then 2147483647 else if a < 0 then -2147483648 else 0)).next 20 with div0 := true }))))) ∧
  (∀ (s : State) (e : Fin 16) (rd ra : Fin 32) (imm : BitVec 16), let d := s.dev.heard
    d.carriesOut e (.nyLd e rd ra imm) →
    let at_ := (((d.engine e).reg ra + imm.toNat) % 65536).toNat
    let word := if at_ < 0x200 then ((d.engine e).dirty.find at_).getD ((d.engine e).committed.get zeroAt at_)
      else if at_ < 0x600 then (d.engine e).scratch.get zeroAt at_ else 0
    exec (.nyLd e rd ra imm) s = .next (s.withDev (d.modEng e (fun g =>
      { (g.setReg rd (wrap32 word)).next 2 with addrErr := g.addrErr || decide (at_ ≥ 0x600) })))) ∧
  (∀ (s : State) (e : Fin 16) (rd ra : Fin 32) (imm : BitVec 16), let d := s.dev.heard
    d.carriesOut e (.nySt e rd ra imm) →
    let at_ := (((d.engine e).reg ra + imm.toNat) % 65536).toNat
    let v := (d.engine e).reg rd
    exec (.nySt e rd ra imm) s = .next (s.withDev (d.modEng e (fun g =>
      if at_ < 0x200 then { g.next 1 with dirty := g.dirty.put at_ v }
      else if at_ < 0x600 then { g.next 1 with scratch := g.scratch.set zeroAt at_ v }
      else { g.next 1 with addrErr := true })))) ∧
  (∀ (s : State) (e : Fin 16) (rd ra : Fin 32) (imm : BitVec 16), let d := s.dev.heard
    d.carriesOut e (.nySt e rd ra imm) →
    let at_ := (((d.engine e).reg ra + imm.toNat) % 65536).toNat
    ∃ t, exec (.nySt e rd ra imm) s = .next t ∧
      (∀ a, a ≠ at_ → (t.dev.engine e).load a = (d.engine e).load a) ∧
      (at_ < 0x600 → (t.dev.engine e).load at_ = (d.engine e).reg rd))

/-- NOP, COMMIT, BR, Bcc, LOOP, CALL, RET, SIG, BRK, END (R94, R97, R107, R109, R127). A fifth CALL level and a RET without a
CALL do not occur, because the loader refuses them (R109, R110). What END releases takes effect in the release window (R92). -/
def Obligations.NymrenControlFlow : Prop :=
  ∀ (s : State) (e : Fin 16), let d := s.dev.heard
    let does := fun (i : Instr) (f : Engine → Engine) => d.carriesOut e i → exec i s = .next (s.withDev (d.modEng e f))
    does (.nyNop e) (fun g => g.next 1) ∧
    does (.nyCommit e) (fun g => { g.next 1 with armed := true }) ∧
    (∀ t, does (.nyBr e t) (fun g => { g with pc := t, cycles := g.cycles + 2 })) ∧
    (∀ cc ra t, let a := (d.engine e).reg ra
      let holds := (cc = 0 ∧ a = 0) ∨ (cc = 1 ∧ a ≠ 0) ∨ (cc = 2 ∧ a < 0) ∨ (cc = 3 ∧ a ≥ 0) ∨ (cc = 4 ∧ a > 0) ∨ (cc = 5 ∧ a ≤ 0);
      (holds → does (.nyBcc e cc ra t) (fun g => { g with pc := t, cycles := g.cycles + 2 })) ∧
      (¬ holds → does (.nyBcc e cc ra t) (fun g => g.next 1))) ∧
    (∀ (n : Fin 256) (stop : Fin 4096),
      (n ≠ 0 → does (.nyLoop e n stop) (fun g => { g with pc := g.pc + 1, loops := ⟨g.pc + 1, stop, n⟩ :: g.loops, cycles := g.cycles + 1 })) ∧
      (n = 0 → does (.nyLoop e n stop) (fun g => { g with pc := stop + 1, cycles := g.cycles + 1 }))) ∧
    (∀ t, (d.engine e).calls.length < 4 → does (.nyCall e t) (fun g => { g with pc := t, calls := (g.pc + 1) :: g.calls, cycles := g.cycles + 2 })) ∧
    (∀ back rest, (d.engine e).calls = back :: rest → does (.nyRet e) (fun g => { g with pc := back, calls := rest, cycles := g.cycles + 2 })) ∧
    (∀ code : Fin 256, does (.nySig e code) (fun g => { g.next 1 with sigs := if code = 0 then g.sigs else g.sigs ++ [code.val] })) ∧
    (d.acc.tap ≠ .debug → does (.nyBrk e) (fun g => g.next 1)) ∧
    (d.acc.tap = .debug → does (.nyBrk e) (fun g => { g with st := .halted, cycles := g.cycles + 1 })) ∧
    (d.carriesOut e (.nyEnd e) → exec (.nyEnd e) s = .next (s.withDev ((d.engine e).sigs.foldl
      (fun m (code : Nat) => m.causeArg (Dev.engSrc e) (8 + e % 2) 0 (leBytes 1 code ++ [0, 0, 0]))
      (d.modEng e (fun g => { g with cycles := g.cycles + 1, ended := true })))))

/-- OUT and OUTD (R97, R100, R107), and every Nymren instruction while the engine does not execute it (R92, R106; log 41) or
meets a breakpoint (R464). -/
def Obligations.NymrenPortsAndIdleEngines : Prop :=
  (∀ (s : State) (e : Fin 16) (rd ra q : Fin 32), let d := s.dev.heard
    d.carriesOut e (.nyOut e rd ra q) →
    let word := (((d.engine e).reg ra + q.val) % 32).toNat
    exec (.nyOut e rd ra q) s = .next (s.withDev (d.modEng e (fun g => { g.next 1 with portTick := g.portTick.put word (g.reg rd) })))) ∧
  (∀ (s : State) (e : Fin 16) (rd ra : Fin 32) (w : BitVec 9), let d := s.dev.heard
    d.carriesOut e (.nyOutd e rd ra w) →
    let word := (((d.engine e).reg ra + w.toNat) % 512).toNat;
    (d.ownerOf word = some e → exec (.nyOutd e rd ra w) s = .next (s.withDev (d.modEng e (fun g =>
      { g.next 1 with driveTick := g.driveTick.put word (g.reg rd) })))) ∧
    (d.ownerOf word ≠ some e → exec (.nyOutd e rd ra w) s = .next (s.withDev (d.modEng e (fun g =>
      { g.next 1 with driveDenied := true }))))) ∧
  (∀ (s : State) (i : Instr) (e : Fin 16), nymrenOf i = some e →
    (s.dev.heard.fetches e i = false → exec i s = .next (s.withDev s.dev.heard)) ∧
    (s.dev.heard.fetches e i = true → s.dev.heard.breaksAt e = true →
      exec i s = .next (s.withDev (s.dev.heard.modEng e (fun g => { g with st := .halted })))))

/-- SYNCIN_EDGE, SYNC_LOST, XO_FAULT, XO_FAULT_CLEAR, LF_XTAL_FAIL, LF_CALIBRATION (R34–R36, R39, R40). The operands of
SYNCIN_EDGE are the model's choice (log 20), the details of XO_FAULT too (log 21). -/
def Obligations.ClockCommandsComplete : Prop :=
  (∀ (s : State) (width : Nat) (offset : Int), let d := s.dev.heard
    d.effNum K.SYNC_MODE = 2 → d.ticking = true → -2500 ≤ offset → offset ≤ 2500 →
    ∃ t, exec (.syncinEdge d.tickPs width offset) s = .next t ∧
      t = s.withDev { d with clk := t.dev.clk, objs := t.dev.objs, ev := t.dev.ev } ∧
      t.dev.clk.syncRun = min 16 (d.clk.syncRun + 1) ∧ t.dev.clk.syncBad = 0 ∧ t.dev.clk.freeRun = false ∧
      (d.clk.syncRun ≥ 15 → d.bit K.SYNC_STATUS 3 = false → t.dev.bit K.SYNC_STATUS 3 = true ∧ t.dev.posts 124 0x06)) ∧
  (∀ (s : State) (period width : Nat) (offset : Int), let d := s.dev.heard
    d.effNum K.SYNC_MODE = 2 → d.ticking = true → 100 * period > 101 * d.tickPs →
    ∃ t, exec (.syncinEdge period width offset) s = .next t ∧
      t = s.withDev { d with clk := t.dev.clk, objs := t.dev.objs, ev := t.dev.ev } ∧
      t.dev.clk.syncRun = 0 ∧ t.dev.clk.syncBad = d.clk.syncBad + 1) ∧
  (∀ s : State, let d := s.dev.heard
    d.effNum K.SYNC_MODE = 2 → d.ticking = true → d.clk.freeRun = false →
    let c : Clk := { d.clk with freeRun := true, syncRun := 0, syncPos := 0, syncWord := 0, syncLast := none, syncMatch := false, syncBad := 0 }
    exec .syncLost s = .next (s.withDev
      ((((({ d with clk := c }.putBit K.SYNC_STATUS 3 false).putBit K.SYNC_STATUS 2 false).putBit
        K.SYNC_STATUS (if d.clk.syncBad ≥ 8 then 0 else 1) true).bump K.SYNC_LOST_COUNT 16).cause 124 (if d.clk.syncBad ≥ 8 then 0x05 else 0x04)))) ∧
  (∀ (s : State) (code : Fin 4), let d := s.dev.heard
    d.bit K.CLOCK_STATUS (7 - code) = true → d.power ≠ .dome → d.power ≠ .ship → d.boot ≠ .held →
    ∃ t, exec (.xoFault code) s = .next t ∧ t.pending = s.pending ∧
      t.dev.bit K.CLOCK_STATUS 3 = true ∧ t.dev.bit K.CLOCK_STATUS (7 - code) = false ∧
      (∀ p, p < 32 → (t.dev.ph p).out = .mid) ∧ (∀ u, u < 14 → t.dev.unitOn u = false) ∧
      t.dev.num K.CLOCK_FAULT_COUNT = satU 16 (d.num K.CLOCK_FAULT_COUNT + 1) ∧
      t.dev.posts 124 (if code.val = 0 then 0x01 else 0x02) ∧ t.dev.seqr = { d.seqr with reqFault := d.seqr.reqFault ||| 15 } ∧
      t.dev.ops = d.ops ∧ t.dev.acc = d.acc ∧ t.dev.ldos = d.ldos) ∧
  (∀ s : State, let d := s.dev.heard
    d.xoFaulty = true →
    exec .xoFaultClear s = .next (s.withDev ((d.putBit K.CLOCK_STATUS 3 false).clockFollow.cause 124 0x03)) ∧
    ((d.putBit K.CLOCK_STATUS 3 false).clockFollow).xoFaulty = false) ∧
  (∀ s : State, let d := s.dev.heard
    d.effNum K.LF_SOURCE = 1 → d.boot.rank ≥ 1 → d.bit K.CLOCK_STATUS 1 = false →
    exec .lfXtalFail s = .next (s.withDev
      (((d.putBit K.CLOCK_STATUS 1 true).putBit K.CLOCK_STATUS 2 false).cause 124 0x07))) ∧
  (∀ (s : State) (e : BitVec 16), let d := s.dev.heard
    d.boot.rank ≥ 1 → d.power ≠ .dome → d.power ≠ .ship → d.bit K.CLOCK_STATUS 7 = true →
    exec (.lfCalibration e) s = .next (s.withDev ((d.setNum K.LF_CAL_ERROR e.toInt).putBit K.CLOCK_STATUS 0 true)))

/-- HK_CONVERSION, FROZEN_ADC, RAW_CAPTURE_SAMPLE, CAPTURE_DONE (R45, R46, R48, R49). The value a code stands for on a channel
is a production value (`Config.hkValue`), a discharge current a free value (log 6); log 56 has what the spec leaves open of a
level trigger. -/
def Obligations.MeasurementCommandsComplete : Prop :=
  (∀ (s : State) (ch : Fin 32) (code : BitVec 12), let d0 := s.dev.heard
    d0.boot ≠ .held → d0.power ≠ .dome → d0.power ≠ .ship →
    (d0.hkNext ≠ ch → exec (.hkConversion ch code) s = .next (s.withDev d0)) ∧
    (d0.hkNext = ch →
      let d1 := d0.setNum (K.HK_RAW ch) code.toNat
      let d := { d1 with hk := if ch.val = 0 then { d1.hk with vin := false } else { vin := true, pos := (ch + 1) % 31 } }
      let v := Dev.hkMeasured ch code.toNat
      exec (.hkConversion ch code) s = .next (s.withDev
        (if ch.val = 0 then d.vinConversion code.toNat
        else if ch.val = 2 then
          let carries := d.path.open_ = false ∧ (d.convOn = false ∨ (d.path.inIlim = true ∧ d.chg.iNow = 0));
          ((if carries then d.draw.2 else d).setNum K.BAT_VOLTAGE (clampI 0 65535 v)).setNum K.BAT_CURRENT
            (clampI (-32768) 32767 (if carries then -(d.draw.1 % 32768) else d.chg.iNow))
        else if ch.val = 3 then d.tsConversion v
        else if ch.val = 5 ∨ ch.val = 6 then
          let m := d.setNum (K.DIE_TEMP (ch.val - 5)) (clampI (-32768) 32767 v)
          if ch.val = 6 ∨ d0.hkEnabled 6 = false then m.dieJudge else m
        else if 7 ≤ ch.val ∧ ch.val < 15 then d.sgScan (ch.val - 7) (if d0.board.ioS then v else min v 199)
        else if 0x17 ≤ ch.val ∧ ch.val < 0x1B then d.ldoCount (ch.val - 0x17)
        else d)))) ∧
  (∀ (s : State) (n : Fin 8), let d := s.dev.heard
    d.num (K.DITHER_MISS n) ≥ 64 →
    exec (.frozenAdc n) s = .next (s.withDev (d.modRl n (fun r => { r with adcFrozen := true })))) ∧
  (∀ (s : State) (slots : List RawSlot), let d := s.dev.heard
    d.cap.mode = 1 → d.ticking = true →
    let m := (slots.drop (slots.length - d.cap.div)).foldl Dev.rawTake d
    let row := d.cap.srcs.map m.rawValue;
    (d.cap.st = .triggered → d.cap.left > 0 →
      let cap : Capture := { d.cap with left := d.cap.left - 1, samples := d.cap.samples ++ [row] }
      exec (.rawCaptureSample slots) s = .next (s.withDev { m with cap := cap })) ∧
    (d.cap.st = .armed →
      let kept := (d.cap.samples ++ [row]).drop (if d.cap.samples.length ≥ d.cap.len then 1 else 0)
      let held := { m with cap := { d.cap with samples := kept } }
      let met := 0x0200 ≤ d.cap.trig ∧ d.cap.trig < 0x0208 ∧ d.cap.fresh = false ∧ Dev.capCrosses d.cap row = true;
      (¬ met → exec (.rawCaptureSample slots) s = .next (s.withDev held)) ∧
      (met → exec (.rawCaptureSample slots) s = .next (s.withDev (held.capTrigger 0 true))))) ∧
  (∀ s : State, let d := s.dev.heard
    d.cap.st = .triggered → d.cap.left = 0 →
    exec .captureDone s = .next (s.withDev { d with cap := { d.cap with st := .done } }))

/-- OV_TRIP, UV_TRIP, OC_TRIP, GLOVE_TIMER_EXPIRY, GLOVE_EXIT, SENSE_TEST_DUE, BK_OC_TRIP, BK_OV_TRIP, BK_UV_TRIP,
BK_THERMAL_TRIP, LDO_OC_TRIP, LDO_UV_TRIP, LDO_THERMAL_TRIP. A rail's kind of sub-index i is bit i − 1 of `due`. -/
def Obligations.TripsComplete : Prop :=
  ∀ s : State, let d := s.dev.heard
    (∀ n : Fin 8, let r := d.rl n
      let tripped := (d.modRl n (fun r => { r with due := 0 })).tripKinds n r.due;
      ((d.countedKinds n).testBit 1 = true ↔ d.num (K.OV_COUNT n) ≤ r.ovN ∧ 0 < r.ovN) ∧
      ((d.countedKinds n).testBit 2 = true ↔ d.num (K.UV_COUNT n) ≤ r.uvN ∧ 0 < r.uvN) ∧
      ((d.countedKinds n).testBit 3 = true ↔ d.num (K.OC_COUNT n) ≤ r.ocN ∧ 0 < r.ocN) ∧
      ((d.countedKinds n).testBit (if r.gloveFb then 5 else 6) = true ↔ r.glove = true ∧ r.gloveLeft = 0) ∧
      (r.due.testBit 1 = true → exec (.ovTrip n) s = .next (s.withDev tripped)) ∧
      (r.due.testBit 2 = true → exec (.uvTrip n) s = .next (s.withDev tripped)) ∧
      (r.due.testBit 3 = true → exec (.ocTrip n) s = .next (s.withDev tripped)) ∧
      (r.glove = true → r.due.testBit (if r.gloveFb then 5 else 6) = true → exec (.gloveTimerExpiry n) s = .next (s.withDev tripped)) ∧
      (r.due.testBit 1 = false → exec (.ovTrip n) s = .next (s.withDev d)) ∧
      (r.due.testBit 2 = false → exec (.uvTrip n) s = .next (s.withDev d)) ∧
      (r.due.testBit 3 = false → exec (.ocTrip n) s = .next (s.withDev d)) ∧
      (r.glove = false ∨ r.due.testBit (if r.gloveFb then 5 else 6) = false → exec (.gloveTimerExpiry n) s = .next (s.withDev d)) ∧
      (r.glove = false ∨ r.gloveClear < d.num (K.GLOVE_RECOVER n) → exec (.gloveExit n) s = .next (s.withDev d)) ∧
      (d.unitOn n = false ∨ d.verdict n = 2 ∨ d.supRuns = false ∨ d.ticking = false → exec (.senseTestDue n) s = .next (s.withDev d)) ∧
      (d.unitOn n = true → d.verdict n ≠ 2 → d.supRuns = true → d.ticking = true →
        exec (.senseTestDue n) s = .next (s.withDev (d.modRl n (fun r => { r with testDue := true })))) ∧
      (r.glove = true → d.nat (K.GLOVE_RECOVER n) ≤ r.gloveClear → exec (.gloveExit n) s = .next (s.withDev
        ((d.modRl n (fun r => { r with glove := false, gloveLeft := 0, gloveFb := false, gloveClear := 0, due := r.due &&& 0x19F })).cause (32 + n) 0x12)))) ∧
    (∀ b : Fin 6, (d.bk b).on = true ∨ d.retrying (8 + b) = true →
      let k := d.bk b
      let counted := (if 0 < k.ocN ∧ d.num (K.BK_OC_COUNT b) ≤ k.ocN then 1 else 0) + (if 2 ≤ k.ovN then 2 else 0) + (if 8 ≤ k.uvN then 4 else 0);
      (0 < k.ocN → d.num (K.BK_OC_COUNT b) ≤ k.ocN → exec (.bkOcTrip b) s = .next (s.withDev (d.tripKinds (8 + b) counted))) ∧
      (2 ≤ k.ovN → exec (.bkOvTrip b) s = .next (s.withDev (d.tripKinds (8 + b) counted))) ∧
      (8 ≤ k.uvN → exec (.bkUvTrip b) s = .next (s.withDev (d.tripKinds (8 + b) counted))) ∧
      (3 ≤ d.die.run150 → exec (.bkThermalTrip b) s = .next (s.withDev (d.tripKinds (8 + b) (8 + counted)))) ∧
      (k.ocN = 0 ∨ k.ocN < d.num (K.BK_OC_COUNT b) → exec (.bkOcTrip b) s = .next (s.withDev d)) ∧
      (k.ovN < 2 → exec (.bkOvTrip b) s = .next (s.withDev d)) ∧
      (k.uvN < 8 → exec (.bkUvTrip b) s = .next (s.withDev d)) ∧
      (d.die.run150 < 3 → exec (.bkThermalTrip b) s = .next (s.withDev d))) ∧
    (∀ b : Fin 6, (d.bk b).on = false → d.retrying (8 + b) = false →
      ∀ c ∈ [Instr.bkOcTrip b, .bkOvTrip b, .bkUvTrip b, .bkThermalTrip b], exec c s = .next (s.withDev d)) ∧
    (∀ l : Fin 4,
      ((d.ld l).on = true → exec (.ldoOcTrip l) s = .next (s.withDev ((d.modLd l (fun x => { x with ilim := true })).trip (14 + l) 1))) ∧
      ((d.ld l).on = true ∨ d.retrying (14 + l) = true →
        (3 ≤ (d.ld l).uvN → (d.ld l).ramping = false → exec (.ldoUvTrip l) s = .next (s.withDev (d.trip (14 + l) 2))) ∧
        (3 ≤ d.die.run150 → exec (.ldoThermalTrip l) s = .next (s.withDev (d.trip (14 + l) 3))) ∧
        ((d.ld l).uvN < 3 ∨ (d.ld l).ramping = true → exec (.ldoUvTrip l) s = .next (s.withDev d)) ∧
        (d.die.run150 < 3 → exec (.ldoThermalTrip l) s = .next (s.withDev d))) ∧
      ((d.ld l).on = false → exec (.ldoOcTrip l) s = .next (s.withDev (d.modLd l (fun x => { x with ilim := false })))) ∧
      ((d.ld l).on = false → d.retrying (14 + l) = false →
        ∀ c ∈ [Instr.ldoUvTrip l, .ldoThermalTrip l], exec c s = .next (s.withDev d)))

/-- What a trip does (R220–R222, R241, R245), for each response and each unit. -/
def Obligations.FaultResponsesHold : Prop :=
  ∀ (d : Dev) (u k : Nat), u < 18 → 1 ≤ k → k ≤ 9 → d.power ≠ .dome → d.supRuns = true → (∀ e ∈ d.lateResp, e.1 ≠ u) →
    ((d.response u k = 0 ∧ (d.presentKinds u).testBit (k - 1) = true) → d.trip u k = d) ∧
    (d.bit (faultKey u) 15 = false → d.bit (faultKey u) 14 = false →
      let t := d.trip u k;
      ((d.response u k = 0 ∧ (d.presentKinds u).testBit (k - 1) = false) →
        t.bit (faultKey u) (k - 1) = true ∧ t.posts (32 + u) k ∧ t.posts (32 + u) 0x20 ∧ t.num (K.UNIT_ON u) = d.num (K.UNIT_ON u)) ∧
      (d.response u k = 1 →
        t.bit (faultKey u) (k - 1) = true ∧ t.bit (faultKey u) 15 = true ∧ t.bit (faultKey u) 14 = false ∧ t.unitOn u = false ∧
        t.posts (32 + u) k ∧ t.posts (32 + u) 0x21 ∧ t.seqr = d.seqr) ∧
      (d.response u k = 2 →
        t.bit (faultKey u) (k - 1) = true ∧ t.bit (faultKey u) 15 = false ∧ t.bit (faultKey u) 14 = true ∧ t.unitOn u = false ∧
        t.posts (32 + u) k ∧ t.posts (32 + u) 0x22 ∧ t.seqr = d.seqr) ∧
      (d.response u k = 3 →
        t.bit (faultKey u) (k - 1) = true ∧ t.bit (faultKey u) 15 = true ∧ t.unitOn u = false ∧
        t.posts (32 + u) k ∧ t.posts (32 + u) 0x23 ∧ t.seqr.reqFault = d.seqr.reqFault ||| (1 <<< (d.num (K.FAULT_GROUP u)).toNat)))

/-- QUALIFY_PHASE, STAGE_OT_TRIP, SG_OT_WARNING, AUTO_READMIT, RETRY_ENABLE, BK_RETRY_ENABLE, LDO_RETRY_ENABLE,
RETRY_COUNT_RESET, WEAR_BIT_SET, WEAR_SNAPSHOT. -/
def Obligations.ServiceComplete : Prop :=
  ∀ s : State, let d := s.dev.heard
    (∀ (p : Fin 32) (r : QualResult), let d0 := s.dev.heard
      let d := d0.lbDrop (.qualRead p)
      let code := d0.qualCode p r
      let known := (1 ≤ code ∧ code ≤ 4) ∨ d0.stageListed p = false ∨ (d0.ph p).qualStage.isSome = true
      d0.svcOf p = 2 → d0.supRuns = true → 3 ≤ d0.boot.rank →
      (known → code = 0 →
        let pulse := leBytes 4 (d.num (K.PULSE_TON p) * 50) ++ leBytes 4 r.ip ++ leBytes 4 (r.zero : Nat) ++ leBytes 4 r.vin
        let measured := ((((d.setNum (K.QUAL_RESULT p) 0).setNum (K.IMON_OFFSET_MEAS p) r.offMean).setObj (K.PULSE_RESULT p) (.bytes pulse)).setNum
          (K.L_QUAL p) (d.pulseL p r)).modNum (K.PHASE_WEAR p) (fun w => w - w % 4)
        exec (.qualifyPhase p r) s = .next (s.withDev (((measured.setNum (K.PHASE_DERATE p) 128).modPh p (fun c =>
          { c with reseed := some (d.pulseL p r), realign := true, deratJ := 0, out := .mid, inSet := false, w := 0, wc := 0 })).setSvc p 3))) ∧
      (known → code ≠ 0 →
        let coded := d.setNum (K.QUAL_RESULT p) code
        let offset := if 4 < code then coded.setNum (K.IMON_OFFSET_MEAS p) r.offMean else coded
        let pulse := leBytes 4 (d.num (K.PULSE_TON p) * 50) ++ leBytes 4 r.ip ++ leBytes 4 (r.zero : Nat) ++ leBytes 4 r.vin
        let pulsed := if 5 < code then offset.setObj (K.PULSE_RESULT p) (.bytes pulse) else offset
        exec (.qualifyPhase p r) s = .next (s.withDev (pulsed.failPhase p))) ∧
      (¬ known → d0.lbLive = true → exec (.qualifyPhase p r) s = .next (s.withDev (d0.lbAsk (.qualRead p)))) ∧
      (¬ known → d0.lbLive = false →
        let lost := (d0.modPh p (fun c => { c with qualStage := some none })).lbDrop (.qualRead p)
        exec (.qualifyPhase p r) s = .next (s.withDev (((lost.setNum (K.QUAL_RESULT p) 5).setNum (K.IMON_OFFSET_MEAS p) r.offMean).failPhase p)))) ∧
    (∀ g : Fin 8, d.supRuns = true → 3 ≤ (d.sg g).otRun →
      exec (.stageOtTrip g) s = .next (s.withDev ((d.assignedOf g).foldl (fun d p =>
        if d.svcOf p = 3 ∨ d.svcOf p = 4 then ((d.modPh p (fun c => { c with afterOt := true })).cause p 0x21).setSvc p 5 else d) d))) ∧
    (∀ g : Fin 8, d.supRuns = true → 3 ≤ (d.sg g).warnRun → (d.sg g).warn = false →
      exec (.sgOtWarning g) s = .next (s.withDev (forUnits 8 (fun n d =>
        if (groupPhases g).any (d.assigned n) then d.modRl n (fun r => { r with avsAlerts := r.avsAlerts ||| 4096 }) else d)
        ((d.modSg g (fun l => { l with warn := true })).cause (4 * g) 0x20)))) ∧
    (∀ p : Fin 32, d.supRuns = true → d.svcOf p = 6 → (d.ph p).afterOt = true → d.flag (K.AUTO_ADMIT (p / 4)) = true → d.groupPresent (p / 4) = true →
      d.num (K.SG_TEMP (p / 4)) < d.num (K.SG_OT_WARN (p / 4)) →
      let m := ((d.releaseLatch p).modPh p (fun c => { c with afterSg := false, afterOt := false, qualStage := none })).setSvc p 2;
      (m.stageListed p = false → exec (.autoReadmit p) s = .next (s.withDev m)) ∧
      (m.stageListed p = true → exec (.autoReadmit p) s = .next (s.withDev ((m.lbAskQual p).lbDrop (.sgRead p))))) ∧
    (∀ (u : Nat) (c : Instr), (∃ n : Fin 8, c = .retryEnable n ∧ u = n) ∨ (∃ b : Fin 6, c = .bkRetryEnable b ∧ u = 8 + b) ∨
        (∃ l : Fin 4, c = .ldoRetryEnable l ∧ u = 14 + l) →
      d.retrying u = true → d.supRuns = true →
      let n := fieldAt (d.num (faultKey u)) 10 4
      let m := d.putBit (faultKey u) 14 false;
      (u < 14 → d.xoFaulty = true → exec c s = .next (s.withDev m)) ∧
      ((u < 14 → d.xoFaulty = false) →
      (d.retryMax u ≤ n → exec c s = .next (s.withDev (m.putBit (faultKey u) 15 true))) ∧
      let counted := m.modNum (faultKey u) (fun w => putField w 10 4 (n + 1));
      (n < d.retryMax u → 14 ≤ u → m.keepRail (u - 14) = true →
        exec c s = .next (s.withDev (((counted.unitEnable u).markRetried u true).cause (unitSrc u) 0x24))) ∧
      (n < d.retryMax u → (14 ≤ u → m.keepRail (u - 14) = false) → m.enableRule .seq u ≠ .none →
        exec c s = .next (s.withDev (m.enter .seq (K.UNIT_ON u) .refused (m.enableRule .seq u)))) ∧
      (n < d.retryMax u → (14 ≤ u → m.keepRail (u - 14) = false) → m.enableRule .seq u = .none →
        exec c s = .next (s.withDev
          ((((counted.enter .seq (K.UNIT_ON u) .done .none).unitBack u).markRetried u true).cause (unitSrc u) 0x24))))) ∧
    (∀ u : Fin 18, (u.val < 8 → (d.rl u).retried = true ∧ (d.rl u).done = true) →
      (8 ≤ u.val → u.val < 14 → (d.bk (u - 8)).retried = true ∧ d.unitReady u = true) →
      (14 ≤ u.val → (d.ld (u - 14)).retried = true ∧ d.unitReady u = true) →
      exec (.retryCountReset u) s = .next (s.withDev ((d.modNum (faultKey u) (fun w => putField w 10 4 0)).markRetried u false))) ∧
    (∀ p : Fin 32, d.supRuns = true →
      (d.num K.WEAR_L_TOL * d.num (K.L_QUAL p) < 100 * (d.num (K.L_EST p) - d.num (K.L_QUAL p)).natAbs → d.bit (K.PHASE_WEAR p) 0 = false →
        exec (.wearBitSet p 0) s = .next (s.withDev ((d.putBit (K.PHASE_WEAR p) 0 true).cause p 0x22))) ∧
      (d.coefInt (obEngine p) 6 * (100 + d.num K.WEAR_R_TOL) < d.num (K.R_EST p) * 100 → d.bit (K.PHASE_WEAR p) 1 = false →
        exec (.wearBitSet p 1) s = .next (s.withDev ((d.putBit (K.PHASE_WEAR p) 1 true).cause p 0x22))) ∧
      (d.num K.WEAR_HOT_LIMIT < d.tempBin (p / 4) 4 → d.bit (K.PHASE_WEAR p) 2 = false →
        exec (.wearBitSet p 2) s = .next (s.withDev ((d.putBit (K.PHASE_WEAR p) 2 true).cause p 0x22)))) ∧
    (d.supRuns = true →
      exec .wearSnapshot s = .next (s.withDev (forUnits 16 (fun m d => d.causeArg 121 (0x60 + m) 0 (d.wearPhase (2 * m) ++ d.wearPhase (2 * m + 1)))
        (forUnits 8 (fun g d => d.causeArg 121 (0x50 + g) 0 ((List.range 5).flatMap (fun b => leBytes 2 (d.binHours g b)) ++
          slice (d.obj (K.TEMP_HIST g)).bs 20 2 ++ leBytes 1 g ++ leBytes 1 (d.sg g).st.code ++ [0, 0])) d))))

/-- BUCK_PERIOD_START, BUCK_TURN_OFF, BUCK_VIN_UV, BUCK_VIN_RESUME, LDO_RAMP_DONE, KEEP_RAIL_START, KEEP_RAIL_STOP. -/
def Obligations.RegulatorCommandsComplete : Prop :=
  ∀ s : State, let d := s.dev.heard
    (∀ (b : Fin 6) (code : BitVec 12), d.ticking = true →
      let m := d.applyS (buckS b)
      let started := m.modBk b (fun k =>
        { k with fb := buckVolts code.toNat, period := spreadPeriod (m.buckBase b) (vget m.clk.spread 1), limited := false })
      (started.buckSwitches b = true ∧ 2500 ≤ started.buckOnTime b →
        exec (.buckPeriodStart b code) s = .next (s.withDev (started.modBk b (fun k => { k with out := .high })))) ∧
      (started.buckSwitches b = false ∨ started.buckOnTime b < 2500 →
        exec (.buckPeriodStart b code) s = .next (s.withDev (started.modBk b (fun k => { k with out := .mid, ocN := 0 }))))) ∧
    (∀ (b : Fin 6) (mA : Nat), (d.bk b).out = .high →
      exec (.buckTurnOff b true mA) s = .next (s.withDev
        ((d.modBk b (fun k => { k with out := .low, limited := true, ocN := k.ocN + 1 })).setNum (K.BK_READ_IOUT b) (min 65535 mA))) ∧
      exec (.buckTurnOff b false mA) s = .next (s.withDev
        (((d.modBk b (fun k => { k with out := .low, limited := false, ocN := 0 })).setNum (K.BK_READ_IOUT b) (min 65535 mA)).markKind (8 + b) 1 false))) ∧
    exec .buckVinUv s = .next (s.withDev (forUnits 6 (fun b d => d.modBk b (fun k => { k with vinStop := true, out := .mid })) d)) ∧
    exec .buckVinResume s = .next (s.withDev
      (forUnits 6 (fun b d => d.modBk b (fun k => if k.vinStop then { k with vinStop := false, wasOn := false, softStart := k.on } else k)) d)) ∧
    (∀ l : Fin 4, exec (.ldoRampDone l) s = .next (s.withDev (d.modLd l (fun x => { x with ramping := false })))) ∧
    (∀ l : Fin 4, d.keepNow l = true →
      ((d.ld l).on = false → d.power ≠ .ship → d.bit (faultKey (14 + l)) 15 = false → d.bit (faultKey (14 + l)) 14 = false →
        exec (.keepRailStart l) s = .next (s.withDev (d.modLd l (fun x => { x with on := true, ramping := true, uvN := 0, discharge := false })))) ∧
      exec (.keepRailStop l) s = .next (s.withDev (d.modLd l (fun x => { x with on := false, ramping := false }))))

/-- TEMP_HIST_MINUTE (R230); temperatures are in LSB of 0.0625 °C. -/
def Obligations.TempHistogramCounts : Prop :=
  ∀ s : State, let d := s.dev.heard
    d.supRuns = true → ∃ t, exec .tempHistMinute s = .next t ∧ t = s.withDev { d with objs := t.dev.objs } ∧
      (∀ g, g < 8 → d.groupPresent g = true → ∀ b, b < 5 → d.tempBin g b < 4294967295 →
        t.dev.tempBin g b = d.tempBin g b + if b = tempBinOf (d.num (K.SG_TEMP g)) then 1 else 0) ∧
      (∀ k, (∀ g, g < 8 → d.groupPresent g = true → k ≠ K.TEMP_HIST g) → t.dev.obj k = d.obj k)

/-- SLOT_TURN_ON, DEFERRED_TURN_ON, PEAK_COMPARATOR_TRIP, BLANKING_END, TON_MAX_EXPIRY, TIMED_TURN_OFF, ZERO_CROSSING,
TIMED_ZERO_CROSSING, IMON_CONVERSION, PLACED_HOLD, SINGLE_PULSE_TURN_OFF, RAIL_PERIOD_START. Times are in fine steps, IMON in
1/256 of the DAC's LSB. The time of a predicted zero and the moment of a pulse's turn-off are free values (log 6); log 64 has how the slots follow each other. -/
def Obligations.PhaseSwitchingComplete : Prop :=
  (∀ (s : State) (p : Fin 32), let d := s.dev.heard
    let on := fun (m : Dev) (at_ : Int) =>
      if m.peakRef p ≤ 0 then m.modPh p (fun c => { c with out := .mid, deferred := false })
      else (m.loadDac p).modPh p (fun c =>
        { c with
          out := .high, timed := m.timedNext p, early := false, draining := false, fired := true, realign := false, deferred := false,
          onAt := at_, slew := m.num (K.EDGE_RATE p), tonCmd := m.timedOn p })
    let free := max ((d.ph p).offAt + d.num (K.TOFF_MIN p) * 50) (d.ph p).restAt
    d.mayFire p = true →
      (∀ n, d.railOf p = some n → (d.rl n).slot ≤ d.slotOf n p →
        let m := d.modRl n (fun r => { r with slot := d.slotOf n p + 1 })
        let start := d.slotAt n (d.slotOf n p);
        (d.drains p = true ∨ start < free → exec (.slotTurnOn p) s = .next (s.withDev (m.modPh p (fun c => { c with deferred := true, onAt := start })))) ∧
        (d.drains p = false → free ≤ start → exec (.slotTurnOn p) s = .next (s.withDev (on m start)))) ∧
      ((d.ph p).deferred = true → d.drains p = false →
        exec (.deferredTurnOn p) s = .next (s.withDev ((on d (max (d.ph p).onAt free)).bump (K.DEFER_COUNT p) 16)))) ∧
  (∀ (s : State) (p : Fin 32), let d := s.dev.heard
    (d.ph p).out = .high → (d.ph p).pulse = .none →
      ((d.ph p).timed = false →
        (∀ (steps : Nat) (imon : BitVec 20), let level := max 0 ((d.ph p).dacPeak * 256 - (d.ph p).dacSlope * (steps / 200 : Nat))
          let from_ := max (d.num (K.LEB_NS p)) (d.num (K.TON_MIN p)) * 50;
          (level ≤ imon.toNat → from_ ≤ steps → exec (.peakComparatorTrip p ⟨steps, imon⟩) s = .next (s.withDev (d.endOn p steps))) ∧
          (level ≤ imon.toNat → (steps : Int) < from_ →
            exec (.peakComparatorTrip p ⟨steps, imon⟩) s = .next (s.withDev (d.modPh p (fun c => { c with early := true })))) ∧
          ((imon.toNat : Int) < level → exec (.peakComparatorTrip p ⟨steps, imon⟩) s = .next (s.withDev d))) ∧
        ((d.ph p).early = true → exec (.blankingEnd p) s = .next (s.withDev (d.endOn p (max (d.num (K.LEB_NS p)) (d.num (K.TON_MIN p)) * 50)))) ∧
        exec (.tonMaxExpiry p) s = .next (s.withDev
          ((((d.endOn p (d.tonMaxAt p)).putBit (K.PHASE_STATUS p) 10 true).bump (K.TONMAX_COUNT p) 16).causeIf (!d.bit (K.PHASE_STATUS p) 10) p 0x04))) ∧
      ((d.ph p).timed = true → exec (.timedTurnOff p) s = .next (s.withDev (d.endOn p (d.ph p).tonCmd)))) ∧
  (∀ (s : State) (p : Fin 32) (steps : Nat), let d := s.dev.heard
    (d.ph p).out = .low → d.diode p = true →
    let off := fun (m : Dev) (after : Int) => m.modPh p (fun c =>
      { c with out := .mid, draining := false, pulse := .none, restAt := if (d.ph p).draining then c.offAt + after else c.restAt })
    ((d.ph p).timed = false → (d.ph p).pulse ≠ .drain → exec (.zeroCrossing p steps) s = .next (s.withDev (off d steps))) ∧
    (∀ i, (d.ph p).pulse = .drain → (d.ph p).pulseI = some i →
      exec (.zeroCrossing p steps) s = .next (s.withDev (off (d.pulseResult p i steps) steps))) ∧
    ((d.ph p).pulse = .drain → (d.ph p).pulseI = none →
      exec (.zeroCrossing p steps) s = .next (s.withDev (off (d.modPh p (fun c => { c with pulseZero := some (steps : Int) })) steps))) ∧
    ((d.ph p).timed = true → (d.ph p).pulse = .none → exec (.timedZeroCrossing p) s = .next (s.withDev (off d.draw.2 d.draw.1)))) ∧
  (∀ (s : State) (p : Fin 32) (code : BitVec 12), let d := s.dev.heard
    let i := sat32 (roundDiv ((code.toNat * 400 - 204800 - d.num (K.IMON_OFFSET_MEAS p)) * 256) (d.num (K.IMON_GAIN p)))
    let sensed := (d.setNum (K.ISENSE p) i).modPh p (fun c =>
      { c with placed := false, imonCode := code.toNat, rangeN := if code.toNat ≤ 1 ∨ 4094 ≤ code.toNat then c.rangeN + 1 else 0 })
    let held := sensed.setNum (K.ISENSE_PLACED p) i;
    (¬ (d.power = .active ∧ d.boot ≠ .held) → exec (.imonConversion p code) s = .next (s.withDev d)) ∧
    (d.power = .active → d.boot ≠ .held →
      ((d.ph p).placed = false → exec (.imonConversion p code) s = .next (s.withDev sensed)) ∧
      ((d.ph p).placed = true → exec (.imonConversion p code) s = .next (s.withDev (match (d.ph p).pulseZero with
        | some z => held.pulseResult p i z
        | none => if (d.ph p).pulse = .drain then held.modPh p (fun c => { c with pulseI := some i }) else held))))) ∧
  (∀ (d : Dev) (p : Fin 32) (i zero : Int),
    (d.pulseResult p i zero).obj (K.PULSE_RESULT p) =
      .bytes (leBytes 4 (d.num (K.TON_LAST p)) ++ leBytes 4 i ++ leBytes 4 zero ++ leBytes 4 (d.ph p).pulseVin)) ∧
  (∀ (s : State) (p : Fin 32) (late : Bool), let d := s.dev.heard
    exec (.placedHold p late) s = .next (s.withDev
      (if d.num (K.ISAMPLE_MODE p) = 0 ∨ ¬ (d.power = .active ∧ d.boot ≠ .held) then d
      else if late = true ∨ (d.ph p).placed = true then
        ((d.putBit (K.PHASE_STATUS p) 4 true).bump (K.ISAMPLE_LATE_COUNT p) 16).cause p 0x05
      else d.modPh p (fun c => { c with placed := true })))) ∧
  (∀ (s : State) (p : Fin 32), let d := s.dev.heard
    (d.ph p).pulse = .on →
    exec (.singlePulseTurnOff p) s = .next (s.withDev ((d.draw.2.setNum (K.TON_LAST p) ((d.ph p).pulseTon * 50)).modPh p (fun c =>
      { c with
        out := .low, pulse := .drain, draining := true, placed := true, dacPeak := d.zcCode p, dacSlope := 0
        slew := d.num (K.EDGE_RATE p), offAt := d.draw.1 })))) ∧
  (∀ (s : State) (n : Fin 8), let d := s.dev.heard
    d.power = .active → d.boot = .complete →
    let m := d.applyS (d.railS n)
    let t := if m.driveWord (0x90 + n) % 4294967296 = 0 then roundDiv 50000000 (m.num (K.RAIL_FSW n)) else m.driveWord (0x90 + n) % 4294967296
    let len := spreadPeriod t (vget m.clk.spread 0)
    let gone := m.num (K.RAIL_PERIOD n)
    let rot := nextRot (m.rl n).grid (m.activeSet n) (m.nat (K.ROT_INDEX n)) (m.flag (K.ROTATE_EN n))
    let taken := ((m.setNum (K.RAIL_PERIOD n) len).setNum (K.ROT_INDEX n) rot).modRl n (fun r =>
      { r with tBase := t, basePost := t, grid := m.activeSet n, mittenMod := bitAt (m.driveWord (0x68 + n) % 4294967296) 0, slot := 0 })
    exec (.railPeriodStart n) s = .next (s.withDev ((taken.railPhases n).foldl (fun d p =>
      d.modPh p (fun c =>
        { c with
          inGrid := (m.activeSet n).contains p, skip := d.mittenSkip n p, onAt := c.onAt - gone, offAt := c.offAt - gone
          restAt := c.restAt - gone })) taken)))

/-- WM_COMPARATOR_ASSERT, WM_COMPARATOR_RELEASE, DAC_SETTLE_END, WM_SAMPLE_WINDOW, ASYNC_TRIP, TRIP_RELEASE, WM_TEST_DONE,
PK_TEST_DONE, SG_FAULT_COMPARATOR. A SWAP test whose input lies outside the release levels is reported as failed (log 16). -/
def Obligations.MonitorCommandsComplete : Prop :=
  (∀ (s : State) (w : Fin 24) (upper : Bool) (uv : Int), let d := s.dev.heard
    let c := d.wmSide w upper
    c.on = true → c.settling = false → (d.wm w).test = 0 →
      (d.wmSampled w = false → c.asserted = false → d.crossesIn w upper uv = true →
        exec (.wmComparatorAssert w upper uv) s = .next (s.withDev (d.wmAssertNow w upper))) ∧
      (d.wmSampled w = false → c.asserted = true → d.crossesOut w upper uv = true →
        let m := d.modSide w upper (fun c => { c with asserted := false, settling := decide (c.thr ≠ c.rel) })
        exec (.wmComparatorRelease w upper uv) s = .next (s.withDev
          ((forUnits 32 (fun p d => d.releaseTerm p (cmpId w upper)) m).wmCapture w upper false))) ∧
      (c.asserted = true → ∀ p : Fin 32, (d.routePhases w upper).contains p = true →
        (routeKind (d.wmRoute w upper) = 1 → exec (.asyncTrip w upper p) s = .next (s.withDev (d.terminatePhase p (cmpId w upper)))) ∧
        (routeKind (d.wmRoute w upper) = 2 → exec (.asyncTrip w upper p) s = .next (s.withDev (d.disablePhase p 0x01))))) ∧
  (∀ (s : State) (w : Fin 24) (upper : Bool) (p : Fin 32), let d := s.dev.heard
    ((d.wmSide w upper).asserted = false ∨ d.wmAsync w upper = false ∨ (d.routePhases w upper).contains p = false) →
    exec (.tripRelease w upper p) s = .next (s.withDev
      (d.modPh p (fun c => { c with terms := c.terms.filter (fun i => decide (i ≠ cmpId w upper)) })))) ∧
  (∀ (s : State) (w : Fin 24) (upper : Bool) (uv : Int), let d := s.dev.heard
    (d.wmSide w upper).settling = true → (d.wm w).test = 0 → d.wmSampled w = false →
    exec (.dacSettleEnd w upper uv) s = .next (s.withDev ((d.modSide w upper (fun c => { c with settling := false })).wmDecide w upper uv))) ∧
  (∀ (s : State) (w : Fin 24) (uv : Int), let d := s.dev.heard
    d.wmSampled w = true → d.wmRuns w = true → (d.wm w).test = 0 →
    exec (.wmSampleWindow w uv) s = .next (s.withDev ((d.wmDecide w false uv).wmDecide w true uv))) ∧
  (∀ (s : State) (w : Fin 24) (uv : Int) (checks : BitVec 12), let d := s.dev.heard
    let k := (d.wm w).test
    let inside := d.aboveCode w (d.wm w).under.rel uv = true ∧ d.belowCode w (d.wm w).upper.rel uv = true
    let ended := d.modWm w (fun m => { m with test := 0 });
    (k = 1 → inside → exec (.wmTestDone w uv checks) s = .next (s.withDev
      ((ended.setNum (K.WM_TEST_RESULT w) (0x9000 + checks.toNat % 4)).cause (50 + w) (if checks.toNat % 4 = 3 then 0x07 else 0x08)).trimTerms)) ∧
    (k = 1 → ¬ inside → exec (.wmTestDone w uv checks) s = .next (s.withDev
      ((ended.setNum (K.WM_TEST_RESULT w) 0xD000).cause (50 + w) 0x08).trimTerms)) ∧
    (k = 2 → exec (.wmTestDone w uv checks) s = .next (s.withDev
      ((ended.setNum (K.WM_TEST_RESULT w) (0xA000 + checks.toNat)).cause (50 + w) (if checks.toNat = 4095 then 0x07 else 0x08)).trimTerms))) ∧
  (∀ (s : State) (p : Fin 32) (high low slope : Bool) (time : BitVec 16), let d := s.dev.heard
    (d.ph p).pkTest = true →
    exec (.pkTestDone p high low slope time) s = .next (s.withDev ((d.modPh p (fun c => { c with pkTest := false })).setNum (K.PK_TEST_RESULT p)
      (0x80000000 + (if high then 0x40000000 else 0) + (if low then 0x20000000 else 0) + (if slope then 0x10000000 else 0) + time.toNat)))) ∧
  (∀ (s : State) (g : Fin 8), let d := s.dev.heard
    let m := d.modSg g (fun l => { l with st := .fault, cand := .fault, run := 0 })
    let quiet := (d.sg g).st = .fault ∧ ∀ p ∈ groupPhases g, (d.ph p).inSet = false;
    (quiet → exec (.sgFaultComparator g) s = .next (s.withDev m)) ∧
    (¬ quiet → exec (.sgFaultComparator g) s = .next (s.withDev (m.sgFault g))))

/-- WM_COMPARATOR_ASSERT's action (R267, R274, R275); sides are under 05h and over 06h. -/
def Obligations.ComparatorRouteActs : Prop :=
  ∀ (d : Dev) (w : Nat) (upper : Bool), w < 24 → d.power ≠ .dome →
    let t := d.wmAssertNow w upper;
    (t.wmSide w upper).asserted = true ∧ (t.wmSide w upper).hit = true ∧
    (routeKind (d.wmRoute w upper) = 0 → t.phases = d.phases ∧ t.ev = d.ev ∧
      t.num (K.WM_ASSERT_COUNT w) = satU 16 (d.num (K.WM_ASSERT_COUNT w) + 1)) ∧
    (routeKind (d.wmRoute w upper) = 1 → t.posts (50 + w) (if upper then 0x06 else 0x05) ∧
      ∀ p ∈ d.routePhases w upper, p < 32 → cmpId w upper ∈ (t.ph p).terms ∧ (t.ph p).out ≠ .high) ∧
    (routeKind (d.wmRoute w upper) = 2 → t.posts (50 + w) (if upper then 0x06 else 0x05) ∧
      ∀ p ∈ d.routePhases w upper, p < 32 → (t.ph p).latch = true ∧ (t.ph p).out = .mid)

/-- LOG_RECORD_WRITE, LOG_CLEAR_DONE, and LOG_WINDOW_READ with an ECC error (R412, R415, R417, R418, R420). -/
def Obligations.LogCommandsComplete : Prop :=
  (∀ (s : State) (ok : Bool) (e : Event) (rest : List Event), let d := s.dev.heard
    d.log.wait = e :: rest → d.supRuns = true → d.erasing = false →
    let l : Log := { d.log with wait := rest }
    let m : Dev := { d with log := l };
    (d.composes e = true → exec (.logRecordWrite ok) s = .next (s.withDev (m.clearCompose e))) ∧
    (d.composes e = false → exec (.logRecordWrite ok) s = .next (s.withDev (m.logWrite e ok).clearCount)) ∧
    (d.composes e = false → d.log.stopped = false → d.log.full = false → d.log.inSpare = false → isLog e 2 = false → ok = true →
      ∃ t, exec (.logRecordWrite ok) s = .next t ∧ t.dev.log.recs = d.log.recs ++ [m.recordOf e false] ∧ t.dev.log.mainUsed = d.log.mainUsed + 1)) ∧
  (∀ (s : State) (r : LogRec), let d := s.dev.heard
    d.log.clearing = some r → d.log.clearLeft = none → d.supRuns = true →
    ∃ t, exec .logClearDone s = .next t ∧
      t.dev.log.recs = [{ r with block := d.goodMain.getD 0 0, spare := false }] ∧ t.dev.log.mainUsed = 1 ∧ t.dev.log.spareUsed = 0 ∧
      t.dev.log.full = false ∧ t.dev.log.stopped = false ∧ t.dev.log.inSpare = false ∧ t.dev.log.wait = d.log.wait ∧
      t.dev.num K.LOG_DROPPED = 0 ∧ (∀ i, i < 4 → t.dev.num (K.LOG_CURSOR i) = 0) ∧
      (d.log.wait = [] → t.dev.log.clearing = none ∧ t.dev.log.clearRun = false ∧ t.dev.busyOn K.LOG_CLEAR = false) ∧
      (d.log.wait ≠ [] → t.dev.log.clearing = some r ∧ t.dev.log.clearLeft = some d.log.wait.length ∧ t.dev.log.clearRun = d.log.clearRun) ∧
      ∀ b, (d.bxt b).st = 1 → (d.bxt b).kind = 2 → (t.dev.bxt b).st = 0 ∧ (t.dev.bxt b).reason = .state) ∧
  (∀ (s : State) (p : Src) (r : LogRec), let d := s.dev.heard
    let i := d.nat (K.LOG_CURSOR p.ownIx)
    p.iface.isSome = true → d.gateOf p = .open_ → d.log.recs[i]? = some r → r.readable = true → r.spare = false → d.log.badMain.contains r.block = false →
    ∃ t, exec (.logWindowRead p true) s = .next t ∧ t.dev.answer = .data (0xFE :: List.replicate 31 0) ∧
      t.dev.log.recs = d.log.recs.set i { r with readable := false } ∧ t.dev.log.badMain = d.log.badMain ++ [r.block] ∧
      t.dev.log.inSpare = (d.log.inSpare || !d.log.full || decide (d.log.mainUsed < d.logCapacity)) ∧ t.dev.log.flaws = [] ∧ t.dev.nat (K.LOG_CURSOR p.ownIx) = i + 1)

/-- BULK_READ, BULK_ACCESS, OBJ_DATA, SDO_INITIATE_UPLOAD, BXT_READ_START and LOG_WINDOW_READ with errors; the frames of the other SDO and
bulk commands, and the write form of OBJ_DATA, carry the field without using it. -/
def Obligations.ReadsMeetLogErrors : Prop :=
  (∀ (s : State) (e : Nat) (es : List Nat) (n : Nat) (w : Bool) (ptr : BitVec 16) (bs : List Byte) (x : TwFrame) (g : SdoFrame) (index : BitVec 16)
    (sub tag kind unit : BitVec 8) (idx block : BitVec 16) (off len : BitVec 32),
    let flaws := e :: es
    let l : Log := { s.dev.log with flaws := flaws }
    let marked : State := { s with dev := { s.dev with log := l } }
    ∀ c ∈ [(Instr.bulkRead ⟨n, flaws⟩, Instr.bulkRead ⟨n, []⟩), (.bulkAccess w ptr bs ⟨n, flaws⟩, .bulkAccess w ptr bs ⟨n, []⟩),
      (.objData { x with flaws := flaws } none, .objData { x with flaws := [] } none),
      (.sdoInitiateUpload { g with flaws := flaws } index sub, .sdoInitiateUpload { g with flaws := [] } index sub),
      (.bxtReadStart { g.toCanFrame with flaws := flaws } tag kind unit idx block off len,
        .bxtReadStart { g.toCanFrame with flaws := [] } tag kind unit idx block off len)],
    ∃ t, exec c.2 marked = .next t ∧
      exec c.1 s = .next (t.withDev { t.dev with log := { t.dev.log with flaws := [] } })) ∧
  (∀ (s : State) (p : Src),
    let l : Log := { s.dev.log with flaws := [0] }
    ∃ t, exec (.logWindowRead p false) { s with dev := { s.dev with log := l } } = .next t ∧
      exec (.logWindowRead p true) s = .next (t.withDev { t.dev with log := { t.dev.log with flaws := [] } })) ∧
  (∀ (s : State) (flaws : List Nat) (f : CanFrame) (g : SdoFrame) (x : TwFrame) (index : BitVec 16) (sub : BitVec 8) (b t last : Bool) (size : Option Nat)
    (bs : List Byte) (tag kind unit : BitVec 8) (idx block ctr : BitVec 16) (off len crc : BitVec 32),
    ∀ c ∈ [(Instr.objData { x with flaws := flaws } (some bs), Instr.objData { x with flaws := [] } (some bs)),
      (.sdoInitiateDownload { g with flaws := flaws } index sub b size bs, .sdoInitiateDownload { g with flaws := [] } index sub b size bs),
      (.sdoDownloadSegment { g with flaws := flaws } t last bs, .sdoDownloadSegment { g with flaws := [] } t last bs),
      (.sdoUploadSegment { g with flaws := flaws } t, .sdoUploadSegment { g with flaws := [] } t),
      (.bxtWriteStart { f with flaws := flaws } tag kind unit idx block off len, .bxtWriteStart { f with flaws := [] } tag kind unit idx block off len),
      (.bxtContinue { f with flaws := flaws } tag ctr, .bxtContinue { f with flaws := [] } tag ctr),
      (.bxtDataFrame { f with flaws := flaws } tag ctr bs, .bxtDataFrame { f with flaws := [] } tag ctr bs),
      (.bxtCommit { f with flaws := flaws } tag len crc, .bxtCommit { f with flaws := [] } tag len crc),
      (.bxtAbort { f with flaws := flaws } tag, .bxtAbort { f with flaws := [] } tag)], exec c.1 s = exec c.2 s)

/-- INPUT_CONVERTER_START, INPUT_CONVERTER_STOP, VIN_PRESENT_CHANGE, PP_RETURN, DISCH_OC, BATTERY_REMOVAL, BATTERY_PRESENT,
BTN_PRESS, BTN_RELEASE, BTN_LONG_WARNING, LONG_PRESS_RESET, SHIP_ENTRY, SHIP_EXIT, IO_GROUP_SUPPLY_CHANGE. -/
def Obligations.PowerPathComplete : Prop :=
  ∀ s : State, let d := s.dev.heard
    (let start : Dev := { d with path := { d.path with vinHigh := true } };
      exec .inputConverterStart s = .next (s.withDev start) ∧ (start.convOn = true ↔ d.power ≠ .ship ∧ d.bit K.CHG_FAULT 11 = false)) ∧
    (let stop : Dev := { d with path := { d.path with vinHigh := false } };
      exec .inputConverterStop s = .next (s.withDev stop) ∧ stop.convOn = false) ∧
    (let gone : Dev := { d with path := { d.path with present := false } };
      let come : Dev := { d with path := { d.path with present := true } }
      exec (.vinPresentChange false) s = .next (s.withDev gone) ∧ exec (.vinPresentChange true) s = .next (s.withDev come.shipCancel)) ∧
    (d.path.valid = true → d.num K.T_RETURN * 1000000 ≤ d.path.validNs → d.supRuns = true →
      (d.path.st = .onBattery ∨ (d.path.st = .handover ∧ d.seqr.prog = 0 ∧ d.seqr.reqPath = none)) →
      let m : Dev := { d with path := { d.path with st := .onInput } };
      (d.power ≠ .keep → exec .ppReturn s = .next (s.withDev (m.cause 90 0x01).chgEval)) ∧
      (d.power = .keep → exec .ppReturn s = .next (s.withDev (m.cause 90 0x01).leaveKeep.chgEval))) ∧
    (let m : Dev := { d with path := { d.path with open_ := true } };
      exec .dischOc s = .next (s.withDev (m.chgLatch 9))) ∧
    (∀ byBat : Bool, d.chg.absent = false → (byBat = true → d.chg.st = .cv) → d.power ≠ .dome → d.power ≠ .ship → d.boot ≠ .held →
      let c : Charger := { d.chg with absent := true, presTest := true, judged := false, preNs := 0, safeNs := 0 }
      let m : Dev := { d with path := { d.path with open_ := true }, chg := c }
      let told := (((m.setNum K.CHG_TIMER 0).cause 93 (if byBat then 0x02 else 0x01)).cause 93 0x03).bump K.BAT_REMOVE_COUNT 16
      exec (.batteryRemoval byBat) s = .next (s.withDev (if d.chg.st = .disabled then told else told.chgEnter .waitBattery))) ∧
    (let m : Dev := { d with chg := { d.chg with absent := false, presTest := false, judged := true } };
      d.power ≠ .dome → d.power ≠ .ship → d.boot ≠ .held → 200 ≤ d.num K.TS_RATIO → d.num K.TS_RATIO ≤ 9500 - d.num K.TS_HYST →
      2000 ≤ d.num K.BAT_VOLTAGE →
      exec .batteryPresent s = .next (s.withDev (if d.chg.absent then ((m.cause 93 0x04).switchClose).chgEval else m.chgEval))) ∧
    (d.power ≠ .ship →
      (d.btn.pressed = false →
        let m : Dev := { d with btn := { d.btn with pressed := true, warned := false, long := false } }
        exec .btnPress s = .next (s.withDev (m.cause 96 0x01).shipCancel)) ∧
      (d.btn.pressed = true →
        let up : Dev := { d with btn := { d.btn with pressed := false, warned := false, long := false } }
        let warned : Dev := { d with btn := { d.btn with warned := true } }
        exec .btnRelease s = .next (s.withDev (if d.btn.long then up else up.cause 96 0x02)) ∧
        (d.btn.warned = false → exec .btnLongWarning s = .next (s.withDev (warned.cause 96 0x03))) ∧
        exec .longPressReset s = .next (s.withDev (d.reset 8 0)))) ∧
    (d.btn.shipPending = true → d.power = .keep →
      ∃ t, exec .shipEntry s = .next t ∧ t.dev.power = .ship ∧ t.dev.path.open_ = true ∧ t.dev.convOn = false ∧
        t.dev.boost = {} ∧ t.dev.ldos = Vector.replicate 4 { discharge := false } ∧ (∀ b : Fin 6, (t.dev.bk b).discharge = false) ∧ t.dev.chg.st = .disabled ∧ t.dev.btn.shipPending = false) ∧
    (d.power = .ship → exec .shipExit s = .next (s.withDev (d.reset 9 0))) ∧
    (∀ up : Bool,
      let h : Dev := { d with board := { d.board with ioH := up } }
      let g : Dev := { d with board := { d.board with ioS := up } }
      exec (.ioGroupSupplyChange true up) s = .next (s.withDev h) ∧
      (up = true → exec (.ioGroupSupplyChange false up) s = .next (s.withDev g)) ∧
      (up = false → exec (.ioGroupSupplyChange false up) s = .next (s.withDev
        (if d.power = .active ∧ d.boot ≠ .held then forUnits 8 (fun i d => d.sgComparator i) g.allMid else g.allMid))))

/-- CHG_PRECHARGE_DONE, CHG_CV_ENTRY, CHG_TERMINATION, CHG_RECHARGE, CHG_PRE_TIMEOUT, CHG_SAFETY_TIMEOUT, BAT_OV, TS_SHORT,
VIN_OV, CHG_THERMAL, DISCH_HOT, BAT_UV, TS_ZONE_CHANGE, ACC_SHORT, ACC_RETRY. Log 59: what the charger does while the supervisor is
absent. Log 66: on which values the conditions are judged. -/
def Obligations.ChargerComplete : Prop :=
  ∀ s : State, let d := s.dev.heard
    let reg := d.num K.CHG_VREG - (if d.num K.TS_ZONE = 3 then d.num K.CHG_VWARM_DELTA else 0)
    let bat := d.num K.BAT_VOLTAGE;
    (d.supRuns = true → d.chg.st = .precharge → d.num K.CHG_VPRE + 100 ≤ bat → exec .chgPrechargeDone s = .next (s.withDev
      (Dev.cause { d with chg := { d.chg with st := .cc } } 91 (0x10 + ChgState.cc.code)))) ∧
    (d.supRuns = true → d.chg.st = .cc → reg ≤ bat → exec .chgCvEntry s = .next (s.withDev
      (Dev.cause { d with chg := { d.chg with st := .cv } } 91 (0x10 + ChgState.cv.code)))) ∧
    (d.supRuns = true → d.chg.st = .cv → d.num K.BAT_CURRENT < d.num K.CHG_ITERM → exec .chgTermination s = .next (s.withDev
      (Dev.cause { d with chg := { d.chg with st := .done } } 91 (0x10 + ChgState.done.code)))) ∧
    (d.supRuns = true → d.chg.st = .done → bat < reg - d.num K.CHG_RECHG_DELTA → exec .chgRecharge s = .next (s.withDev
      ((Dev.setNum { d with chg := { d.chg with safeNs := 0 } } K.CHG_TIMER 0).chgEnter (if bat < d.num K.CHG_VPRE then .precharge else .cc)))) ∧
    (d.supRuns = false → exec .chgPrechargeDone s = .next (s.withDev d) ∧ exec .chgCvEntry s = .next (s.withDev d) ∧
      exec .chgTermination s = .next (s.withDev d) ∧ exec .chgRecharge s = .next (s.withDev d) ∧ ∀ z, exec (.tsZoneChange z) s = .next (s.withDev d)) ∧
    (d.chg.st = .precharge → d.num K.CHG_PRE_TIME * 60000000000 ≤ d.chg.preNs → exec .chgPreTimeout s = .next (s.withDev (d.chgLatch 13))) ∧
    ((d.chg.st = .cc ∨ d.chg.st = .cv) → d.num K.CHG_SAFETY_TIME * 3600 ≤ d.num K.CHG_TIMER →
      exec .chgSafetyTimeout s = .next (s.withDev (d.chgLatch 14))) ∧
    ((d.chg.st = .precharge ∨ d.chg.st = .cc ∨ d.chg.st = .cv) → d.chg.absent = false → reg + 100 < bat → exec .batOv s = .next (s.withDev (d.chgLatch 15))) ∧
    (3 ≤ d.chg.shortRun → exec .tsShort s = .next (s.withDev (d.chgLatch 12))) ∧
    (17500 < d.num (K.HK_RAW 0) * 5 → ∃ t, exec .vinOv s = .next (s.withDev t) ∧ t = d.chgLatch 11 ∧ t.convOn = false) ∧
    (3 ≤ d.die.run150 → exec .chgThermal s = .next (s.withDev (d.chgLatch 10))) ∧
    (3 ≤ d.chg.hotRun → d.bit K.CHG_FAULT 8 = false → exec .dischHot s = .next (s.withDev (d.chgLatch 8).dischOpen)) ∧
    (d.bit K.CHG_FAULT 7 = false → bat < d.num K.BAT_CUTOFF → exec .batUv s = .next (s.withDev (d.chgLatch 7).dischOpen)) ∧
    (∀ (z : Fin 5) (a b c : Nat × Nat), d.supRuns = true → d.chg.tsRun = [a, b, c] →
      let old := d.nat K.TS_ZONE;
      ((old < z.val ∧ z.val ≤ a.1 ∧ z.val ≤ b.1 ∧ z.val ≤ c.1 ∧ (z.val = a.1 ∨ z.val = b.1 ∨ z.val = c.1)) ∨
       (z.val < old ∧ a.2 ≤ z.val ∧ b.2 ≤ z.val ∧ c.2 ≤ z.val ∧ (a.2 = z.val ∨ b.2 = z.val ∨ c.2 = z.val) ∧ (a.1 ≤ old ∨ b.1 ≤ old ∨ c.1 ≤ old))) →
      z.val ≤ 4 → a.1 ≤ 4 → b.1 ≤ 4 → c.1 ≤ 4 →
      exec (.tsZoneChange z) s = .next (s.withDev (((d.setNum K.TS_ZONE z.val).cause 94 (1 + z.val)).chgEval))) ∧
    (d.boost.on = true →
      let m := if d.boost.ilim then d else d.cause 95 0x03;
      (d.boost.retries < 3 → exec .accShort s = .next (s.withDev (Dev.cause { m with boost := { m.boost with on := false, ilim := false, retrying := true } } 95 0x02))) ∧
      (3 ≤ d.boost.retries → exec .accShort s = .next (s.withDev (Dev.cause { m with boost := { m.boost with on := false, ilim := false, latched := true } } 95 0x04)))) ∧
    (d.boost.retrying = true → exec .accRetry s = .next (s.withDev
      (Dev.accEval { d with boost := { d.boost with retrying := false, retries := d.boost.retries + 1 } })))

/-- What `Dev.chgLatch` does (R319, R323). -/
def Obligations.ChargerFaultBlocks : Prop :=
  ∀ (d : Dev) (b : Nat), 7 ≤ b → b ≤ 15 → d.power ≠ .dome →
    (d.bit K.CHG_FAULT b = true → d.chgLatch b = d) ∧
    (d.bit K.CHG_FAULT b = false →
      let t := d.chgLatch b
      t.bit K.CHG_FAULT b = true ∧ (∀ j, j ≠ b → t.bit K.CHG_FAULT j = d.bit K.CHG_FAULT j) ∧ t.posts 92 (0x20 + b) ∧
      (10 ≤ b → d.num K.CHG_EN ≠ 0 → d.chg.st ≠ .disabled → t.chg.st = .blocked))

/-- The resets of R431: POWER_ON_RESET, CORE_BROWN_OUT, RESET_PIN, SUPERVISOR_WATCHDOG, LONG_PRESS_RESET, SHIP_EXIT,
NMT_RESET_NODE. -/
def Obligations.ResetsComplete : Prop :=
  ∀ (s : State) (c : Instr) (kind detail : Nat), let d := s.dev.heard
    (d.power ≠ .ship ∧ c = .powerOnReset ∧ kind = 1 ∧ detail = 0) ∨
    (d.power ≠ .ship ∧ c = .coreBrownOut true ∧ kind = 2 ∧ detail = 1) ∨ (d.power ≠ .ship ∧ c = .coreBrownOut false ∧ kind = 2 ∧ detail = 2) ∨
    (d.power ≠ .ship ∧ c = .resetPin ∧ kind = 3 ∧ detail = 0) ∨
    (∃ x : Fin 3, c = .supervisorWatchdog x ∧ kind = 4 ∧ detail = x + 1 ∧ d.power ≠ .dome ∧ d.power ≠ .ship ∧ d.boot ≠ .held ∧
      (x = 0 → d.supAbsent = true ∨ d.supHalted = true)) ∨
    (∃ (f : CanFrame) (node : BitVec 8), c = .nmtResetNode f node ∧ f.wrong = false ∧ kind = 6 ∧ detail = 0 ∧ d.nmtAddressed f.bus node = true ∧
      (d.flag K.NMT_GUARD = false ∨ d.anyUnitOn = false)) ∨
    (c = .longPressReset ∧ d.btn.pressed = true ∧ d.power ≠ .ship ∧ kind = 8 ∧ detail = 0) ∨
    (c = .shipExit ∧ d.power = .ship ∧ kind = 9 ∧ detail = 0) →
    ∃ t, exec c s = .next t ∧ t.pending = s.pending ∧ t.dev.boot = .held ∧ t.dev.ops = [] ∧ t.dev.osnNext = 1 ∧
      t.dev.phases = Vector.replicate 32 {} ∧ t.dev.rails = Vector.replicate 8 {} ∧ t.dev.bucks = Vector.replicate 6 {} ∧
      t.dev.nvm.resetKind = kind ∧ t.dev.nvm.resetDetail = detail ∧
      t.dev.board = d.board ∧ t.dev.fw.slots = d.fw.slots ∧ t.dev.store.a = d.store.a ∧ t.dev.store.b = d.store.b ∧
      ((t.dev.obj K.RESET_INFO).bs.take 4 = [BitVec.ofNat 8 kind, BitVec.ofNat 8 detail, 0, 0]) ∧
      (∀ u, u < 18 → t.dev.num (faultKey u) = if kind ≠ 1 ∧ kind ≠ 8 ∧ kind ≠ 9 then putBit (d.num (faultKey u)) 14 false else 0) ∧
      (∀ k, k ≠ K.RESET_INFO → (∀ i, i < 16 → k ≠ K.TM_STATUS i) → (∀ u, u < 18 → k ≠ faultKey u) →
        t.dev.obj k = if keptKey k = true ∧ kind ≠ 1 ∧ kind ≠ 8 ∧ kind ≠ 9 then d.obj k else objDefault k)

/-- BOOT, DOME_WAKE, ECONOMY_EXIT, KEEP_DOME_TIMEOUT, SUPERVISOR_RESUME, FW_START. -/
def Obligations.StatesComplete : Prop :=
  (∀ (s : State) (x : BootInputs), let d := s.dev.heard
    let first := (d.bootSupervisor x).bootEvents
    let second := fun y : Dev => y.bootSettings x.ecc;
    (d.boot = .held → x.upTo = .complete →
      ∃ t, exec (.boot x) s = .next t ∧ t = s.withDev ((second first).bootLoad.bootRun) ∧ t.dev.boot = .complete ∧
        (t.dev.power = .active ∨ t.dev.power = .keep)) ∧
    (d.boot = .held → x.upTo = .supervisor → exec (.boot x) s = .next (s.withDev first)) ∧
    (d.boot = .held → x.upTo = .verified → exec (.boot x) s = .next (s.withDev (second first))) ∧
    (d.boot = .held → x.upTo = .loaded → exec (.boot x) s = .next (s.withDev (second first).bootLoad)) ∧
    (d.boot = .supervisor → x.upTo = .verified → exec (.boot x) s = .next (s.withDev (second d))) ∧
    (d.boot = .supervisor → x.upTo = .loaded → exec (.boot x) s = .next (s.withDev (second d).bootLoad)) ∧
    (d.boot = .supervisor → x.upTo = .complete → exec (.boot x) s = .next (s.withDev (second d).bootLoad.bootRun)) ∧
    (d.boot = .verified → x.upTo = .loaded → exec (.boot x) s = .next (s.withDev d.bootLoad)) ∧
    (d.boot = .verified → x.upTo = .complete → exec (.boot x) s = .next (s.withDev d.bootLoad.bootRun)) ∧
    (d.boot = .loaded → x.upTo = .complete → exec (.boot x) s = .next (s.withDev d.bootRun)) ∧
    (x.upTo.rank ≤ d.boot.rank → exec (.boot x) s = .next (s.withDev d))) ∧
  (∀ (s : State) (c : WakeCause), let d := s.dev.heard
    d.power = .dome → d.wakes c = true →
    ∃ t, exec (.domeWake c) s = .next t ∧ t = s.withDev t.dev ∧ (t.dev.power = .active ∨ t.dev.power = .keep) ∧ t.dev.ops = [] ∧
      t.dev.board = d.board) ∧
  (∀ s : State, let d := s.dev.heard
    let wait := d.pendT.filter d.staysPending
    d.power = .economy → (wait ≠ [] ∨ d.flag K.ECONOMY_EN = false) →
    let m : Dev := { d.economyLeave with power := .active, pendT := d.pendT.filter (fun e => !d.staysPending e) }
    exec .economyExit s = .next (s.withDev (wait.foldl (fun d e => d.applyWrite e.1 e.2) (m.cause 123 0x20).clockFollow))) ∧
  (∀ s : State, let d := s.dev.heard
    d.power = .keep → d.flag K.KEEP_DOME_EN = true → d.supRuns = true → d.domeRule 0x656D6F64 = .none →
    ∃ t, exec .keepDomeTimeout s = .next t ∧ t = s.withDev (d.domeEnter 0) ∧ t.dev.power = .dome ∧ t.dev.ops = [] ∧
      (∀ p, p < 32 → (t.dev.ph p).out = .mid)) ∧
  (∀ s : State, let d := s.dev.heard
    d.fw.gap = false → d.boot ≠ .held →
    exec .supervisorResume s = .next (s.withDev (Dev.lateResponses { d with supAbsent := false, supHalted := false }))) ∧
  (∀ (s : State) (us : Nat), let d := s.dev.heard
    d.fw.gap = true →
    let m : Dev := { d with supAbsent := false, fw := { d.fw with gap := false, runningB := !d.fw.runningB } }
    let run := (m.modSlot m.runSlot (fun g => { g with st := if g.st = 4 then 4 else 3 })).setNum K.FW_LAST_GAP (satU 32 us)
    let arg := leBytes 4 (slotVersion (d.slot d.runSlot)) ++ leBytes 4 (slotVersion (run.slot run.runSlot)) ++ leBytes 4 us
    exec (.fwStart true us) s = .next (s.withDev (run.causeArg 127 0x06 0 arg).lateResponses) ∧
    exec (.fwStart false us) s = .next (s.withDev d))

/-- STORE_DONE, RESTORE_DONE, FW_ERASE_DONE, FW_VERIFY_DONE, FW_AUTO_CONFIRM. -/
def Obligations.StorageCommandsComplete : Prop :=
  ∀ s : State, let d := s.dev.heard
    ((d.store.run = .store ∨ d.store.run = .factory) → d.supRuns = true →
      ((entriesBytes d.store.snap.entries).length > 65472 → ∀ v, exec (.storeDone v) s = .next (s.withDev (d.storeFail .capacity false))) ∧
      ((entriesBytes d.store.snap.entries).length ≤ 65472 →
        exec (.storeDone true) s = .next (s.withDev d.storeFlip) ∧ exec (.storeDone false) s = .next (s.withDev (d.storeFail .nvm true)))) ∧
    (d.store.run = .restore → d.supRuns = true →
      let osn := d.runningOsn K.RESTORE_DEFAULT_PARAMETERS
      let image := d.withoutN.takeEntries d.activeImage.entries
      let new := image.1.objs.filter (fun e => storedKey e.1)
      let back := (d.storeEntries.filter (fun e => new.all (fun x => x.1 != e.1))).map (fun e => (e.1, objDefault e.1))
      let changed := new.filter (fun e => !d.storeEntries.contains e) ++ back
      let idle : Dev := { d with store := { d.store with run := .none } }
      let upper := ((changed.foldl restoreOne idle).endOp K.RESTORE_DEFAULT_PARAMETERS .none).causeOsn 120 0x04 osn
      exec .restoreDone s = .next (s.withDev (if image.2 > 0 then upper.causeArg 120 0x08 osn (leBytes 4 image.2) else upper))) ∧
    (∀ slot, d.fw.run = .erase slot →
      let m := { d with free := d.free + 1 }
      let upper := (m.modSlot slot (fun _ => ⟨1, [], false⟩)).endOp K.FW_ERASE .none
      let bad := (m.modSlot slot (fun _ => ⟨5, [], false⟩)).endOp K.FW_ERASE .nvm
      exec .fwEraseDone s = .next (s.withDev (if (Config.freeValue d.free).toNat % 2 = 0
        then Dev.causeOsn { upper with fw := { upper.fw with run := .none } } 127 0x01 (d.runningOsn K.FW_ERASE)
        else (Dev.fwResult { bad with fw := { bad.fw with run := .none } } 8).causeArg 127 0x04 (d.runningOsn K.FW_ERASE) (leBytes 1 8)))) ∧
    (∀ slot, d.fw.run = .verify slot →
      let r := fwCheck (d.slot slot)
      let upper := ((d.modSlot slot (fun g => { g with st := if r = 0 then 2 else 5 })).endOp K.FW_VERIFY .none).fwResult r
      let idle : Dev := { upper with fw := { upper.fw with run := .none } };
      (r = 0 → exec .fwVerifyDone s = .next (s.withDev (idle.causeOsn 127 0x03 (d.runningOsn K.FW_VERIFY)))) ∧
      (r ≠ 0 → exec .fwVerifyDone s = .next (s.withDev (idle.causeArg 127 0x04 (d.runningOsn K.FW_VERIFY) (leBytes 1 r))))) ∧
    (d.flag K.FW_AUTO_CONFIRM = true → (d.slot d.runSlot).st = 3 → d.supRuns = true →
      exec .fwAutoConfirm s = .next (s.withDev
        (Dev.causeOsn { d with fw := { d.fw with slots := d.fw.slots.map (fun g : FwSlot => { g with st := if g.st = 3 then 4 else if g.st = 4 then 2 else g.st }) } } 127 0x07 0)))

/-- SEQ_NOP, SEQ_ENABLE, SEQ_DISABLE, SEQ_SET_VOUT, SEQ_OUT, SEQ_SIGNAL, SEQ_STEP_TIMEOUT, SEQ_PROGRAM_END, SQI_EDGE. -/
def Obligations.SequencerComplete : Prop :=
  ∀ s : State, let d := s.dev.heard
    let w := d.num (K.SEQ_STEP_ACTION d.seqr.step)
    let u := actUnit w
    let osn := d.osnNext
    let waits := fun m : Dev => ({ m with seqr := { m.seqr with phase := 1, waitN := 0 } } : Dev)
    let refuse := fun (key : Nat) (r : Reason) => ((d.enter .seq key .refused r).causeArg 116 d.seqr.step osn ([BitVec.ofNat 8 d.seqr.prog, BitVec.ofNat 8 d.seqr.step, 0, 0] ++ [BitVec.ofNat 8 r.code])).onTimeout;
    (d.stepDue 0 = true → exec .seqNop s = .next (s.withDev (waits d))) ∧
    (d.stepDue 1 = true →
      let m := d.enter .seq (K.UNIT_ON u) .done .none
      let on : Dev := { m with pendT := m.pendT ++ [(K.UNIT_ON u, Val.num 1)] };
      (d.unitRule .seq u 1 = .none → exec .seqEnable s = .next (s.withDev (waits on))) ∧
      (d.unitRule .seq u 1 ≠ .none → exec .seqEnable s = .next (s.withDev (refuse (K.UNIT_ON u) (d.unitRule .seq u 1))))) ∧
    (d.stepDue 2 = true →
      let m := d.enter .seq (K.UNIT_ON u) .done .none
      let off : Dev := { m with pendT := m.pendT ++ [(K.UNIT_ON u, Val.num 0)] };
      (d.unitRule .seq u 0 = .none → exec .seqDisable s = .next (s.withDev (waits off))) ∧
      (d.unitRule .seq u 0 ≠ .none → exec .seqDisable s = .next (s.withDev (refuse (K.UNIT_ON u) (d.unitRule .seq u 0))))) ∧
    (d.stepDue 3 = true →
      let v := w % 65536;
      (u < 8 → exec .seqSetVout s = .next (s.withDev (waits ((d.enter .seq (K.VOUT_COMMAND u) .done .none).acceptTarget .seq u v osn)))) ∧
      (8 ≤ u → 2458 ≤ v → v ≤ 20480 →
        exec .seqSetVout s = .next (s.withDev (waits ((d.enter .seq (K.BK_VOUT_COMMAND (u - 8)) .done .none).postBuck (u - 8) v 5 osn)))) ∧
      (8 ≤ u → (v < 2458 ∨ 20480 < v) → exec .seqSetVout s = .next (s.withDev (refuse (K.BK_VOUT_COMMAND (u - 8)) .range)))) ∧
    (d.stepDue 4 = true →
      let m := d.enter .seq (K.SEQ_STEP_ACTION d.seqr.step) .done .none
      let set : Dev := { m with seqr := { m.seqr with outNext := m.seqr.outNext ++ [(u - 0x20, decide (w % 2 = 1))] } }
      exec .seqOut s = .next (s.withDev (waits set))) ∧
    (d.stepDue 5 = true →
      exec .seqSignal s = .next (s.withDev (waits ((d.enter .seq (K.SEQ_STEP_ACTION d.seqr.step) .done .none).causeArg 117 d.seqr.step osn
        ([BitVec.ofNat 8 d.seqr.prog, BitVec.ofNat 8 d.seqr.step, 0, 0] ++ leBytes 4 (w % 65536)))))) ∧
    (d.supRuns = true → d.seqr.prog ≠ 0 → d.seqr.phase = 1 → d.stepTimeout + 1 ≤ d.seqr.waitN →
      let m := (d.causeArg 115 d.seqr.step 0 ([BitVec.ofNat 8 d.seqr.prog, BitVec.ofNat 8 d.seqr.step, 0, 0] ++ [])).bump K.SEQ_TIMEOUT_COUNT 16
      let marked : Dev := { m with seqr := { m.seqr with timeoutNow := true } }
      exec .seqStepTimeout s = .next (s.withDev marked.onTimeout)) ∧
    (d.progOver = true →
      (d.seqr.prog = 4 → exec .seqProgramEnd s = .next (s.withDev d.faultClose.progDone)) ∧
      (d.seqr.prog = 3 →
        let k := d.enterKeep
        let onBat : Dev := { k with path := { k.path with st := .onBattery } }
        exec .seqProgramEnd s = .next (s.withDev (onBat.cause 90 0x03).progDone)) ∧
      (d.seqr.prog ≠ 4 → d.seqr.prog ≠ 3 → exec .seqProgramEnd s = .next (s.withDev d.progDone))) ∧
    (∀ (i : Fin 4) (level : Bool), d.seqr.sqiSeen = true → d.seqr.sqi.testBit i ≠ level → d.ticking = true →
      let f := d.effNum (K.SQI_FUNC i)
      let q : Seqr := { d.seqr with sqiPin := (putBit d.seqr.sqiPin i level).toNat, sqi := (putBit d.seqr.sqi i level).toNat }
      let m := Dev.cause { d with seqr := q } 118 (2 * i + if level then 1 else 0)
      let up : Dev := { m with seqr := { m.seqr with reqUp := m.seqr.reqUp || decide (f = 1 ∨ f = 3) } }
      let down : Dev := { m with seqr := { m.seqr with reqDown := m.seqr.reqDown || decide (f = 2 ∨ f = 3) } };
      (level = true → exec (.sqiEdge i level) s = .next (s.withDev up)) ∧
      (level = false → exec (.sqiEdge i level) s = .next (s.withDev (if f = 4 then down.faultRequest 15 else down)))) ∧
    (∀ (i : Fin 4) (level : Bool), d.seqr.sqiSeen = false ∨ d.seqr.sqi.testBit i = level ∨ d.ticking = false →
      let q : Seqr := { d.seqr with sqiPin := (putBit d.seqr.sqiPin i level).toNat }
      exec (.sqiEdge i level) s = .next (s.withDev { d with seqr := q }))

/-- TIMER_CLOCK_EDGE, LF_TIMER_STEP, EVENT_DISPATCH, EVENT_LOSS. -/
def Obligations.TimersAndEventsComplete : Prop :=
  (∀ s : State, let d := s.dev.heard
    d.xoFaulty = false → d.clk.lfMode = false → d.power ≠ .ship → d.boot ≠ .held →
    ∀ k : Nat, (∀ t ∈ d.runningTimers, k ≤ d.nat (K.TM_PRESCALE t) - (d.tm t).pre) →
      (∃ t ∈ d.runningTimers, d.nat (K.TM_PRESCALE t) - (d.tm t).pre = k) →
      let due := d.runningTimers.filter (fun t => decide (d.nat (K.TM_PRESCALE t) - (d.tm t).pre ≤ k))
      let r := tmSteps tmClock (d.runningTimers.foldl (tmPass k) d) due;
      (∀ clocks, k ≤ clocks → exec (.timerClockEdge clocks) s = .next (s.withDev ((List.range 16).foldl (fun d t => d.tmApply r.2 t) r.1))) ∧
      ∀ clocks, clocks < k → exec (.timerClockEdge clocks) s = .next (s.withDev (d.runningTimers.foldl (tmPass clocks) d))) ∧
  (∀ s : State, let d := s.dev.heard
    d.runningTimers = [] → ∀ clocks, exec (.timerClockEdge clocks) s = .next (s.withDev d)) ∧
  (∀ s : State, let d := s.dev.heard
    let c : Clk := { d.clk with lfCount := d.clk.lfCount + 1 }
    let m : Dev := { (if d.power = .dome then d.backoffPass 1953125 else d) with clk := c }
    let r := tmSteps tmLf m (List.range 16)
    let stepped := (List.range 16).foldl (fun d t => d.tmApply r.2 t) r.1;
    (d.power = .dome ∨ d.supHalted = true →
      (d.clk.lfMode = true → exec .lfTimerStep s = .next (s.withDev stepped.timerWake)) ∧
      (d.clk.lfMode = false → exec .lfTimerStep s = .next (s.withDev (m.lfSet true).timerWake))) ∧
    (d.power ≠ .dome → d.supHalted = false →
      (d.clk.lfMode = true → exec .lfTimerStep s = .next (s.withDev (stepped.lfSet false).timerWake)) ∧
      (d.clk.lfMode = false → exec .lfTimerStep s = .next (s.withDev m.timerWake)))) ∧
  (∀ d : Dev,
    (d.power ≠ .dome → d.timerWake = d) ∧
    ((∀ t : Fin 16, d.wakes (.timer t) = false) → d.timerWake = d) ∧
    (∀ t : Fin 16, d.wakes (.timer t) = true → (∀ i : Fin 16, i < t → d.wakes (.timer i) = false) → d.timerWake = d.domeWake (.timer t))) ∧
  (∀ (s : State) (e : Event) (rest : List Event), let d := s.dev.heard
    d.ev.queue = e :: rest → d.supRuns = true → d.power ≠ .dome →
    let v : EventCtl := { d.ev with queue := rest }
    let m : Dev := { d with ev := v }
    let logged : Dev := { m with log := { m.log with wait := m.log.wait ++ [e] } }
    exec .eventDispatch s = .next (s.withDev (((if m.logTakes e then logged else m).statusTake e).emcyTake e))) ∧
  (∀ (s : State) (a b : Nat), let d := s.dev.heard
    d.ev.lost = some (a, b) → d.ev.queue.length < 1024 → d.ev.lossDue = false →
    let v : EventCtl := { d.ev with lost := none, lostN := 0, lossDue := true }
    let m : Dev := { d with ev := v }
    exec .eventLoss s = .next (s.withDev
      ((m.setNum K.EV_LOSS_COUNT (satU 32 (d.num K.EV_LOSS_COUNT + d.ev.lostN))).causeArg 126 0x01 0 (leBytes 4 a ++ leBytes 4 b))))

/-- QUICK_COMMAND, TARGET_TIMEOUT, UNEXPECTED_START, ALERT_RESPONSE, BULK_WRITE, BULK_READ, BULK_ACCESS. The details of the bulk
protocol that the spec leaves open are log 29. -/
def Obligations.TargetsAndBulkComplete : Prop :=
  (∀ (s : State) (t : TwPort), let d := s.dev.heard
    d.twLive t = true →
    exec (.quickCommand t) s = .next (s.withDev (d.answering .ack)) ∧
    exec (.targetTimeout t) s = .next (s.withDev ((d.modTw t (fun x => { x with cml := putBit x.cml 1 true })).twEvent t 3 0)) ∧
    exec (.unexpectedStart t) s = .next (s.withDev ((d.modTw t (fun x => { x with cml := putBit x.cml 1 true })).twEvent t 2 0))) ∧
  (∀ (s : State) (t : TwPort), let d := s.dev.heard
    d.twLive t = false →
    exec (.quickCommand t) s = .next (s.withDev (d.answering .nack)) ∧ exec (.targetTimeout t) s = .next (s.withDev d) ∧
    exec (.unexpectedStart t) s = .next (s.withDev d) ∧
    (t = .pmb → ∀ read, exec (.alertResponse read) s = .next (s.withDev d))) ∧
  (∀ s : State, let d := s.dev.heard
    d.twLive .pmb = true →
    (d.alert = true →
      let a : Byte := BitVec.ofNat 8 (2 * d.nat K.PMB_ADDR)
      let m := Dev.cause { d with alert := false } 98 0x11
      exec (.alertResponse ⟨true, false⟩) s = .next (s.withDev (m.answering (.data [a]))) ∧
      exec (.alertResponse ⟨true, true⟩) s = .next (s.withDev (m.answering (.data [a, BitVec.ofNat 8 (pecOf [0x19, a])]))) ∧
      ∀ pec, exec (.alertResponse ⟨false, pec⟩) s = .next (s.withDev d)) ∧
    (d.alert = false → ∀ read, exec (.alertResponse read) s = .next (s.withDev (d.answering .nack)))) ∧
  (∀ (s : State) (t : TwPort) (ptr : BitVec 16) (bs : List Byte) (n : BulkGet) (c : Instr), let d := s.dev.heard
    n.flaws = [] → (t = .svc → protects (d.nat K.PMB_WRITE_PROTECT) 0xE0 = false) →
    (t = .pmb ∧ c ∈ [Instr.bulkWrite ptr bs, .bulkRead n]) ∨ (t = .svc ∧ c ∈ [Instr.bulkAccess true ptr bs n, .bulkAccess false ptr bs n]) →
    (d.bulkLive t = false → exec c s = .next (s.withDev (d.answering .nack))) ∧
    (d.bulkLive t = true → d.opsOpen = false → exec c s = .next (s.withDev ((d.twEvent t 4 0).answering .nack))) ∧
    (d.bulkLive t = true → d.opsOpen = true → d.hasEntry t.src = false →
      exec c s = .next (s.withDev (((d.bump K.OP_OVERLOAD_COUNT 32).twEvent t 4 0).answering .nack))) ∧
    (d.bulkLive t = true → d.opsOpen = true → d.hasEntry t.src = true → d.bulkBlocked t = true →
      exec c s = .next (s.withDev ((d.twEvent t 6 0).answering .nack)))) ∧
  (∀ (s : State) (t : TwPort) (ptr : BitVec 16) (bs : List Byte) (n : BulkGet) (c : Instr), let d := s.dev.heard
    n.flaws = [] → (t = .svc → protects (d.nat K.PMB_WRITE_PROTECT) 0xE0 = false) →
    (t = .pmb ∧ c = .bulkWrite ptr bs) ∨ (t = .svc ∧ c = .bulkAccess true ptr bs n) →
    d.bulkLive t = true → d.opsOpen = true → d.hasEntry t.src = true → d.bulkBlocked t = false →
    let m := d.modTw t (fun x => { x with ptr := ptr.toNat });
    (bs = [] → exec c s = .next (s.withDev (m.answering .ack))) ∧
    (bs ≠ [] → d.bulkForbids t = true → exec c s = .next (s.withDev ((m.twEvent t 6 0).answering .nack))) ∧
    (bs ≠ [] → d.bulkForbids t = false →
      exec c s = .next (s.withDev
        ((if d.nat (K.BULK_WINDOW (bulkIx t)) = 0xFF00 then m.bulkStage t ptr.toNat bs
          else m.bulkCoef t (d.nat (K.BULK_WINDOW (bulkIx t)) - 0x200) ptr.toNat bs).answering .ack)))) ∧
  (∀ (s : State) (ptr : BitVec 16) (bs : List Byte) (n : Nat), let d := s.dev.heard
    d.twLive .svc = true → d.opsOpen = true → d.hasEntry .svc = true → protects (d.nat K.PMB_WRITE_PROTECT) 0xE0 = true →
    exec (.bulkAccess true ptr bs ⟨n, []⟩) s = .next (s.withDev
      (((d.modTw .svc (fun x => { x with cml := putBit x.cml 6 true })).twEvent .svc 6 0).answering .nack))) ∧
  (∀ (s : State) (t : TwPort) (at_ : Nat) (n : Nat) (c : Instr), let d := s.dev.heard
    let get : BulkGet := ⟨n, []⟩;
    (t = .pmb ∧ c = .bulkRead get ∧ at_ = (d.tw t).ptr) ∨ (∃ (w : BitVec 16) (bs : List Byte), t = .svc ∧ c = .bulkAccess false w bs get ∧ at_ = w.toNat) →
    d.bulkLive t = true → d.opsOpen = true → d.hasEntry t.src = true → d.bulkBlocked t = false →
    (d.bulkWindow t = 0xFF00 → d.readRule t.src (d.bulkNamed t) = .none) →
    let m := if t = .svc then d.modTw t (fun x => { x with ptr := at_ % 65536 }) else d
    let w := m.windowBytes t ((List.range n).map (fun i => ((m.tw t).ptr + i) % 65536));
    (m.bulkBlocked t = false → (m.bulkWindow t = 0xFF00 → m.readRule t.src (m.bulkNamed t) = .none) →
      exec c s = .next (s.withDev (((w.2.2.enter t.src w.1 .done .none).modTw t (fun x => { x with ptr := ((m.tw t).ptr + n) % 65536 })).answering
        (.data ((List.range n).map (fun i => w.2.1.getD (((m.tw t).ptr + i) % 65536) 0))))))) ∧
  (∀ (s : State) (t : TwPort) (code : Byte), let d := s.dev.heard
    (d.gateOf t.src = .open_ → cmdOk code.toNat (d.pageOf t) = false → ¬ (t = .svc ∧ code = 0xE0) →
      exec (.unsupportedCommand t code) s = .next (s.withDev
        (((d.modTw t (fun x => { x with cml := putBit x.cml 7 true })).twEvent t 5 0).answering .nack))) ∧
    (cmdOk code.toNat (d.pageOf t) = true ∨ (t = .svc ∧ code = 0xE0) → exec (.unsupportedCommand t code) s = .next (s.withDev d)))

/-- XFER_COMPLETE, BUS_ERROR, CONTROLLER_TIMEOUT, ARBITRATION_LOST, BUS_RECOVERY, STAGE_STATUS_READ, LB_ALERT_SERVICE. The order of
the LB transfers is R364's; notes, log 30. -/
def Obligations.ControllersComplete : Prop :=
  (∀ (s : State) (lb : Bool) (status : BitVec 8) (bs : List Byte), let d := s.dev.heard
    (d.ctrl lb).started = true → (d.ctrl lb).busy = true →
    let failed := fun code : Nat => d.modCtrl lb (fun c =>
      { c with busy := false, started := false, deferred := false, result := [3, BitVec.ofNat 8 code, 0, 0] });
    let got := bs.take ((d.ctrl lb).desc.getD 3 0).toNat;
    (status = 0 → exec (.xferComplete lb status bs) s = .next (s.withDev (d.modCtrl lb (fun c =>
      { c with busy := false, started := false, deferred := false, result := [2, 0, BitVec.ofNat 8 got.length, 0] ++ got })))) ∧
    let told := if status = 6 then d.ctrlEvent lb 1 else d;
    (status ≠ 0 → (lb = false ∨ d.num K.LB_RETRY_COUNT ≤ (d.ctrl lb).retries) →
      exec (.xferComplete lb status bs) s = .next (s.withDev (told.modCtrl lb (fun c =>
        { c with busy := false, started := false, deferred := false, result := [3, BitVec.ofNat 8 status.toNat, 0, 0] })))) ∧
    (status ≠ 0 → lb = true → (d.ctrl lb).retries < d.num K.LB_RETRY_COUNT →
      exec (.xferComplete lb status bs) s = .next (s.withDev (told.modCtrl lb (fun c => { c with retries := c.retries + 1 })))) ∧
    exec (.busError lb) s = .next (s.withDev ((failed 4).ctrlEvent lb 8)) ∧
    exec (.controllerTimeout lb) s = .next (s.withDev ((failed 5).ctrlEvent lb 0x0C)) ∧
    (lb = true → ∀ own, exec (.arbitrationLost lb own) s = .next (s.withDev ((failed 4).ctrlEvent lb 8))) ∧
    (lb = false → exec (.arbitrationLost lb true) s = .next (s.withDev (d.modCtrl false (fun c => { c with deferred := true })))) ∧
    (lb = false → (d.ctrl lb).retries < d.num K.PMB_RETRY_COUNT → exec (.arbitrationLost lb false) s = .next (s.withDev
      ((d.ctrlEvent false 7).modCtrl false (fun c => { c with retries := c.retries + 1, deferred := false })))) ∧
    (lb = false → d.num K.PMB_RETRY_COUNT ≤ (d.ctrl lb).retries →
      exec (.arbitrationLost lb false) s = .next (s.withDev ((d.ctrlEvent false 7).xferFail false 3)))) ∧
  (∀ (s : State) (lb own : Bool) (status : BitVec 8) (bs : List Byte), (s.dev.heard.ctrl lb).started = false →
    (lb = false ∨ s.dev.heard.lbLive = false ∨ s.dev.heard.supRuns = false) →
    ∀ c ∈ [Instr.xferComplete lb status bs, .busError lb, .controllerTimeout lb, .arbitrationLost lb own],
      exec c s = .next (s.withDev s.dev.heard)) ∧
  (∀ (s : State) (own : Bool) (status : BitVec 8) (bs : List Byte) (j : LbJob), let d := s.dev.heard
    let again := fun m : Dev => m.modCtrl true (fun c => { c with tries := c.tries + 1 });
    (d.ctrl true).started = false → d.lbLive = true → d.supRuns = true →
    exec (.xferComplete true status bs) s = .next (s.withDev d) ∧
    (d.lbNext = some j → d.lbCtrl.tries < d.num K.LB_RETRY_COUNT →
      (∀ c ∈ [Instr.busError true, .arbitrationLost true own], exec c s = .next (s.withDev (again (d.ctrlEvent true 8))))) ∧
    (d.lbNext = some j → d.num K.LB_RETRY_COUNT ≤ d.lbCtrl.tries →
      (∀ c ∈ [Instr.busError true, .arbitrationLost true own], exec c s = .next (s.withDev ((d.ctrlEvent true 8).lbFail j)))) ∧
    (d.lbNext = some j → exec (.controllerTimeout true) s = .next (s.withDev ((d.ctrlEvent true 0x0C).lbFail j))) ∧
    (d.lbNext = none →
      (∀ c ∈ [Instr.busError true, .arbitrationLost true own], exec c s = .next (s.withDev (d.ctrlEvent true 8))) ∧
      exec (.controllerTimeout true) s = .next (s.withDev (d.ctrlEvent true 0x0C)))) ∧
  (∀ (s : State) (lb : Bool), let d := s.dev.heard
    (d.ctrlOn lb = true →
      exec (.busRecovery lb true false) s = .next (s.withDev
        ((d.modCtrl lb (fun c => { c with busStuck := false, sclStuck := false })).ctrlEvent lb 0x0B)) ∧
      exec (.busRecovery lb false false) s = .next (s.withDev
        ((((d.modCtrl lb (fun c => { c with busStuck := true, sclStuck := false })).lbStuck lb).xferFail lb 7).ctrlEvent lb 9)) ∧
      (∀ freed, exec (.busRecovery lb freed true) s = .next (s.withDev
        ((((d.modCtrl lb (fun c => { c with sclStuck := true })).lbStuck lb).xferFail lb 7).ctrlEvent lb 0x0A)))) ∧
    (d.ctrlOn lb = false → ∀ freed low, exec (.busRecovery lb freed low) s = .next (s.withDev d))) ∧
  (∀ (s : State) (p : Fin 32) (a : StageAnswer), let d := s.dev.heard
    let addr : Nat := 2 * d.nat (K.LB_STAGE_ADDR p)
    let ask := leBytes 1 addr ++ leBytes 1 (d.num K.LB_STAGE_STATUS_CMD) ++ leBytes 1 (addr + 1 : Nat)
    let wrong := ∃ x, a.word = some x ∧ bitAt (d.effNum K.LB_CONFIG) 1 = true ∧ a.pec.toNat ≠ pecOf (ask ++ leBytes 2 x.toNat)
    let sent := d.modCtrl true (fun c => { c with sent := ask })
    let e := sent.lbDrop (.sgRead p);
    (d.lbLive = true → d.supRuns = true → d.lbTurn (.sgRead p) = true →
      (wrong → exec (.stageStatusRead p a) s = .next (s.withDev ((sent.ctrlEvent true 1).lbDrop (.sgRead p)))) ∧
      (a.word = none → exec (.stageStatusRead p a) s = .next (s.withDev e)) ∧
      (∀ x, a.word = some x → ¬ wrong → (e.svcOf p = 3 ∨ e.svcOf p = 4) → (e.ph p).afterSg = true → e.stageFaulty x = true →
        exec (.stageStatusRead p a) s = .next (s.withDev ((e.modPh p (fun c => { c with afterSg := false })).failPhase p))) ∧
      (∀ x, a.word = some x → ¬ wrong → ¬ ((e.svcOf p = 3 ∨ e.svcOf p = 4) ∧ (e.ph p).afterSg = true ∧ e.stageFaulty x = true) →
        exec (.stageStatusRead p a) s = .next (s.withDev e))) ∧
    (d.lbLive = true → d.supRuns = true → d.lbTurn (.sgRead p) = false → d.lbTurn (.qualRead p) = true →
      (wrong → exec (.stageStatusRead p a) s = .next (s.withDev (((sent.ctrlEvent true 1).lbDrop (.qualRead p)).qualRead p none))) ∧
      (¬ wrong → exec (.stageStatusRead p a) s = .next (s.withDev ((sent.lbDrop (.qualRead p)).qualRead p a.word)))) ∧
    (d.lbLive = false ∨ d.supRuns = false ∨ (d.lbTurn (.sgRead p) = false ∧ d.lbTurn (.qualRead p) = false) →
      exec (.stageStatusRead p a) s = .next (s.withDev d))) ∧
  (∀ (s : State) (xs : List (BitVec 7 × BitVec 16)) (released : Bool), let d := s.dev.heard
    let q := d.lbAsk .alert
    let m := (xs.take (d.nat K.LB_ALERT_MAX)).foldl lbAlertOne (q.lbDrop .alert);
    (d.lbLive = true → d.supRuns = true → q.lbTurn .alert = true →
      (released = true → xs.length ≤ d.nat K.LB_ALERT_MAX →
        exec (.lbAlertService xs released) s = .next (s.withDev (m.modCtrl true (fun c => { c with alertStuck := false, alertReads := 0 })))) ∧
      (released = false ∨ d.nat K.LB_ALERT_MAX < xs.length →
        exec (.lbAlertService xs released) s = .next (s.withDev
          ((m.modCtrl true (fun c => { c with alertStuck := true, alertReads := (xs.take (d.nat K.LB_ALERT_MAX)).length })).ctrlEvent true 0x21)))) ∧
    (d.lbLive = true → d.supRuns = true → q.lbTurn .alert = false → exec (.lbAlertService xs released) s = .next (s.withDev q)) ∧
    (d.lbLive = false ∨ d.supRuns = false → exec (.lbAlertService xs released) s = .next (s.withDev d)))

/-- SESSION_TIMEOUT, NONCE_EXPIRY, BACKOFF_EXPIRY, JTAG_BYPASS, JTAG_IDCODE, JTAG_SAMPLE_PRELOAD, JTAG_EXTEST, JTAG_CLAMP,
JTAG_HIGHZ, DEBUG_HALT, DEBUG_RESUME, DEBUG_BREAKPOINT, DEBUG_MEMORY_ACCESS. -/
def Obligations.AccessCommandsComplete : Prop :=
  ∀ s : State, let d := s.dev.heard
    let tap := fun t : Tap => ({ d with acc := { d.acc with tap := t } } : Dev)
    let m := tap .debug;
    (∀ i : Fin 4,
      let ended := (d.modIface (i + 1) (fun x => { x with level := 0, endCause := 2 })).cause 122 (0x21 + i);
      (2 ≤ (vget d.acc.ifs i).level → (vget d.acc.ifs i).debugOwner = false → exec (.sessionTimeout i) s = .next (s.withDev ended)) ∧
      (2 ≤ (vget d.acc.ifs i).level → (vget d.acc.ifs i).debugOwner = true → exec (.sessionTimeout i) s = .next (s.withDev (ended.debugShut 0))) ∧
      ((vget d.acc.ifs i).level < 2 → exec (.sessionTimeout i) s = .next (s.withDev d))) ∧
    (∀ i : Fin 4, exec (.nonceExpiry i) s = .next (s.withDev (d.modIface (i + 1) (fun x => { x with nonce := none })))) ∧
    (d.power ≠ .ship → exec .backoffExpiry s = .next (s.withDev (d.backoffSet 0)) ∧ (d.backoffSet 0).num K.AUTH_BACKOFF = 0) ∧
    (d.power = .ship → exec .backoffExpiry s = .next (s.withDev d)) ∧
    (∀ u : Nat, (d.backoffPass u).acc.wait = d.acc.wait - u ∧
      (d.acc.wait ≠ 0 → (d.backoffPass u).num K.AUTH_BACKOFF = ((d.acc.wait - u + 63999999999) / 64000000000 : Nat))) ∧
    (∀ (i : Nat) (resp : Bool) (osn : Nat),
      let k := (satU 8 (d.num K.AUTH_FAIL_COUNT + 1)).toNat;
      (d.attemptFail i resp osn).nat K.AUTH_FAIL_COUNT = k ∧ (d.attemptFail i resp osn).nat K.AUTH_BACKOFF = min 256 (2 ^ (k - 1))) ∧
    exec .jtagBypass s = .next (s.withDev (tap .bypass)) ∧ exec .jtagIdcode s = .next (s.withDev (tap .idcode)) ∧
    exec .jtagSamplePreload s = .next (s.withDev (tap .samplePreload)) ∧
    (∀ x ∈ [(Instr.jtagExtest, Tap.extest), (.jtagClamp, .clamp), (.jtagHighz, .highz)],
      exec x.1 s = .next (s.withDev (tap x.2)) ∧
      (d.debugAvail = true → d.anyUnitOn = false → (tap x.2).tapActs = x.2 ∧ (tap x.2).pinsTaken = true) ∧
      (d.debugAvail = false ∨ d.anyUnitOn = true → (tap x.2).tapActs = .bypass ∧ (tap x.2).pinsTaken = false)) ∧
    (d.debugAvail = true →
      (∀ e : Fin 16,
        exec (.debugHalt (some e)) s = .next (s.withDev (m.modEng e (fun g => { g with st := if g.st = .running then .halted else g.st }))) ∧
        exec (.debugResume (some e)) s = .next (s.withDev (m.modEng e (fun g =>
          if g.st = .halted ∧ g.ended = true then { g with st := .running }
          else if g.st = .halted then { g with st := .running, overran := true, overrunCause := 2 } else g))) ∧
        (∀ a, exec (.debugBreakpoint (some e) a false) s = .next (s.withDev (m.modEng e (fun g =>
          { g with breakpoints := g.breakpoints.filter (fun b => decide (b ≠ a)) })))) ∧
        (∀ a, exec (.debugBreakpoint (some e) a true) s = .next (s.withDev (m.modEng e (fun g =>
          { g with breakpoints := if g.breakpoints.contains a then g.breakpoints else g.breakpoints ++ [a] })))) ∧
        (∀ a : BitVec 16,
          let w := if a.toNat < 0x200 then Assoc.get zeroAt (d.engine e).committed a.toNat else if a.toNat < 0x600 then Assoc.get zeroAt (d.engine e).scratch a.toNat else 0
          exec (.debugMemoryAccess e a none) s = .next (s.withDev (m.answering (.data (leBytes 4 w))))) ∧
        (∀ (a : BitVec 16) (v : BitVec 32), exec (.debugMemoryAccess e a (some v)) s = .next (s.withDev (m.modEng e (fun g =>
          if a.toNat < 0x200 then { g with committed := Assoc.set zeroAt g.committed a.toNat v.toInt }
          else if a.toNat < 0x600 then { g with scratch := Assoc.set zeroAt g.scratch a.toNat v.toInt } else g))))) ∧
      (∀ a, exec (.debugBreakpoint none a false) s = .next (s.withDev { m with acc := { m.acc with
        supBreaks := m.acc.supBreaks.filter (fun b => decide (b ≠ a)) } })) ∧
      (∀ a, exec (.debugBreakpoint none a true) s = .next (s.withDev { m with acc := { m.acc with
        supBreaks := if m.acc.supBreaks.contains a then m.acc.supBreaks else m.acc.supBreaks ++ [a] } })) ∧
      exec (.debugHalt none) s = .next (s.withDev { m with supHalted := true }) ∧
      exec (.debugResume none) s = .next (s.withDev { m with supHalted := false })) ∧
    (d.debugAvail = false → ∀ (t : Option (Fin 16)) (e : Fin 16) (n : Nat) (b : Bool) (a : BitVec 16) (v : Option (BitVec 32)),
      ∀ c ∈ [Instr.debugHalt t, .debugResume t, .debugBreakpoint t n b, .debugMemoryAccess e a v], exec c s = .next (s.withDev (tap .bypass)))

/-- NMT_START, NMT_STOP, NMT_ENTER_PRE_OPERATIONAL, NMT_RESET_COMMUNICATION, HEARTBEAT_PRODUCE, HEARTBEAT_RECEIVED,
HEARTBEAT_TIMEOUT, CAN_ERROR_PASSIVE, CAN_ERROR_ACTIVE, CAN_BUS_OFF, CAN_BUSOFF_RECOVERY, CAN_RX_OVERRUN, CAN_TX_TIMEOUT,
NODE_ID_CONFLICT, ID_CONFLICT_RESUME, ACTIVE_BUS_SWITCH, EMCY_TRANSMIT. Notes, logs 23 and 24. -/
def Obligations.NodeCommandsComplete : Prop :=
  (∀ (s : State) (f : CanFrame) (node : BitVec 8), let d := s.dev.heard
    f.wrong = false → d.nmtAddressed f.bus node = true →
    let enter := fun (x : Nmt) (m : Dev) => (if d.node.nmt = x then d else m.causeArg 103 0x12 0 (leBytes 1 x.code))
    let op : Dev := { d with node := { d.node with nmt := .operational } }
    let pre : Dev := { d with node := { d.node with nmt := .preOperational, tpdoHeld := Vector.replicate 4 false, rpdoHeld := Vector.replicate 4 none } }
    let stop : Dev := { d with node := { d.node with nmt := .stopped, tpdoHeld := Vector.replicate 4 false, rpdoHeld := Vector.replicate 4 none } }
    exec (.nmtStart f node) s = .next (s.withDev (enter .operational op)) ∧
    exec (.nmtEnterPreOperational f node) s = .next (s.withDev (enter .preOperational pre)) ∧
    exec (.nmtStop f node) s = .next (s.withDev (enter .stopped (buses.foldl (fun d b => d.transfersEnd b .nmtState) stop))) ∧
    ∃ t, exec (.nmtResetCommunication f node) s = .next t ∧ t = s.withDev t.dev ∧ t.dev.node.id = (t.dev.chooseId) ∧
      (t.dev.node.nmt = .operational ∨ t.dev.node.nmt = .preOperational) ∧ t.dev.rails = d.rails ∧
      t.dev.ops.filter (fun e => decide (e.st ≠ .reserved)) = d.ops.filter (fun e => decide (e.st ≠ .reserved)) ∧
      (∀ i, i = 3 ∨ i = 4 → 2 ≤ (d.iface i).level → (t.dev.iface i).level = 0 ∧ (t.dev.iface i).endCause = 7) ∧
      ∀ k, commKey k = false → k ≠ K.DEBUG_OPEN → t.dev.obj k = d.obj k) ∧
  (∀ (s : State) (f : CanFrame) (node : BitVec 8), f.wrong = false → s.dev.heard.nmtAddressed f.bus node = false →
    ∀ c ∈ [Instr.nmtStart f node, .nmtStop f node, .nmtEnterPreOperational f node, .nmtResetCommunication f node],
      exec c s = .next (s.withDev s.dev.heard)) ∧
  (∀ s : State, let d := s.dev.heard
    (d.num K.PRODUCER_HEARTBEAT_TIME ≠ 0 → d.node.nmt ≠ .initialising → buses.filter d.portBeats ≠ [] →
      exec .heartbeatProduce s = .next (s.withDev (d.answering
        (.frames ((buses.filter d.portBeats).map (fun b => (onBus b (0x700 + d.node.id), [BitVec.ofNat 8 d.node.nmt.code]))))))) ∧
    (d.num K.PRODUCER_HEARTBEAT_TIME = 0 ∨ d.node.nmt = .initialising ∨ buses.filter d.portBeats = [] →
      exec .heartbeatProduce s = .next (s.withDev d))) ∧
  (∀ (s : State) (f : CanFrame) (node : BitVec 8) (i : Nat), let d := s.dev.heard
    f.wrong = false → d.canHears f.bus = true → d.hbEntry node.toNat = some i →
    let m := d.modHb i (fun h => { h with heard := true, timedOut := false })
    exec (.heartbeatReceived f node) s = .next (s.withDev
      (if (vget d.node.hb i).timedOut then m.causeArg 103 0x11 0 [BitVec.ofNat 8 (i + 1)] else m))) ∧
  (∀ (s : State) (f : CanFrame) (node : BitVec 8), f.wrong = false → s.dev.heard.canHears f.bus = false ∨ s.dev.heard.hbEntry node.toNat = none →
    exec (.heartbeatReceived f node) s = .next (s.withDev s.dev.heard)) ∧
  (∀ (s : State) (i : Fin 4), let d := s.dev.heard
    ((vget d.node.hb i).heard = true → fieldAt (d.num (K.CONSUMER_HEARTBEAT_TIME i)) 0 16 ≠ 0 → d.canLive = true →
      exec (.heartbeatTimeout i) s = .next (s.withDev
        (((d.modHb i (fun h => { h with heard := false, timedOut := true })).causeArg 103 0x10 0 [BitVec.ofNat 8 (i + 1)]).commError))) ∧
    ((vget d.node.hb i).heard = false ∨ fieldAt (d.num (K.CONSUMER_HEARTBEAT_TIME i)) 0 16 = 0 ∨ d.canLive = false →
      exec (.heartbeatTimeout i) s = .next (s.withDev d))) ∧
  (∀ (s : State) (b : Bus), let d := s.dev.heard
    let ev := fun c : Nat => if b = .a then c else c + 1
    exec (.idConflictResume b) s = .next (s.withDev (d.modPort b (fun p => { p with idConflict := false }))) ∧
    (d.canOn = true → (d.port b).errPassive = true → (d.port b).busOff = false →
      exec (.canErrorActive b) s = .next (s.withDev (d.modPort b (fun p => { p with errPassive := false })))) ∧
    (d.canOn = false ∨ (d.port b).errPassive = false ∨ (d.port b).busOff = true → exec (.canErrorActive b) s = .next (s.withDev d)) ∧
    (d.canOn = true → (d.port b).busOff = true → exec (.canBusoffRecovery b) s = .next (s.withDev
      ((d.modPort b (fun p => { p with busOff := false, offRepeated := false })).cause 103 (ev 5)))) ∧
    (d.canOn = false ∨ (d.port b).busOff = false → exec (.canBusoffRecovery b) s = .next (s.withDev d)) ∧
    (d.canOn = false ∨ (d.port b).enabled = false → ∀ c ∈ [Instr.canRxOverrun b, .canTxTimeout b, .nodeIdConflict b, .canErrorPassive b, .canBusOff b],
      exec c s = .next (s.withDev d)) ∧
    ((d.port b).idConflict = true → exec (.nodeIdConflict b) s = .next (s.withDev d)) ∧
    ((d.port b).errPassive = true ∨ (d.port b).busOff = true → exec (.canErrorPassive b) s = .next (s.withDev d)) ∧
    ((d.port b).busOff = true → exec (.canBusOff b) s = .next (s.withDev d)) ∧
    (d.canOn = true → (d.port b).enabled = true →
      exec (.canRxOverrun b) s = .next (s.withDev ((d.canCount b 2).cause 103 (ev 7))) ∧
      ((d.port b).emcy = [] → exec (.canTxTimeout b) s = .next (s.withDev (d.canCount b 5))) ∧
      (∀ x rest, (d.port b).emcy = x :: rest → exec (.canTxTimeout b) s = .next (s.withDev
        (((d.canCount b 5).modPort b (fun p => { p with emcy := rest })).cause 103 0x19))) ∧
      ((d.port b).idConflict = false → exec (.nodeIdConflict b) s = .next (s.withDev
        ((d.modPort b (fun p => { p with idConflict := true })).cause 103 (ev 9)))) ∧
      ((d.port b).busOff = false →
        ((d.port b).errPassive = false → exec (.canErrorPassive b) s = .next (s.withDev
          (((d.modPort b (fun p => { p with errPassive := true })).canCount b 1).cause 103 (ev 1)))) ∧
        ((d.port b).busOffRun < 7 → exec (.canBusOff b) s = .next (s.withDev
          (((((d.modPort b (fun p => { p with busOff := true, errPassive := false, busOffRun := p.busOffRun + 1, offRepeated := false })).canCount b 0).cause
            103 (ev 3)).transfersEnd b .timeout).commError))) ∧
        (7 ≤ (d.port b).busOffRun →
          let many := decide (d.draw.1 % 2 = 1)
          exec (.canBusOff b) s = .next (s.withDev
            (((((d.draw.2.modPort b (fun p => { p with
              busOff := true, errPassive := false, busOffRun := if many then 0 else 8, offRepeated := many })).canCount b 0).cause
              103 (ev 3)).transfersEnd b .timeout).commError)))))) ∧
  (∀ s : State, let d := s.dev.heard
    let good := fun p : CanPort => p.enabled = true ∧ p.errPassive = false ∧ p.busOff = false
    let toB : Dev := { d with node := { d.node with activeB := true } }
    let toA : Dev := { d with node := { d.node with activeB := false } }
    d.num K.CAN_REDUNDANCY = 1 →
    (d.node.activeB = false → (d.canA.errPassive = true ∨ d.canA.busOff = true) → good d.canB →
      exec .activeBusSwitch s = .next (s.withDev (toB.cause 103 0x14))) ∧
    (d.node.activeB = true → good d.canA → exec .activeBusSwitch s = .next (s.withDev (toA.cause 103 0x14))) ∧
    ((d.node.activeB = false ∧ (¬ (d.canA.errPassive = true ∨ d.canA.busOff = true) ∨ ¬ good d.canB)) ∨ (d.node.activeB = true ∧ ¬ good d.canA) →
      exec .activeBusSwitch s = .next (s.withDev d))) ∧
  (∀ s : State, s.dev.heard.num K.CAN_REDUNDANCY ≠ 1 → exec .activeBusSwitch s = .next (s.withDev s.dev.heard)) ∧
  (∀ s : State, let d := s.dev.heard
    let r := [Bus.a, Bus.b].foldl emcySend ([], d)
    d.node.nmt = .preOperational ∨ d.node.nmt = .operational →
    (r.1 = [] → exec .emcyTransmit s = .next (s.withDev r.2)) ∧
    (r.1 ≠ [] → exec .emcyTransmit s = .next (s.withDev (r.2.answering (.frames r.1)))))

/-- SDO_INITIATE_DOWNLOAD, SDO_DOWNLOAD_SEGMENT, SDO_INITIATE_UPLOAD, SDO_UPLOAD_SEGMENT, SDO_ABORT_TRANSFER, SDO_TIMEOUT, RPDO,
TPDO_EVENT_TIMER, TPDO_INHIBIT_END. Notes, log 31. -/
def Obligations.SdoPdoComplete : Prop :=
  (∀ (s : State) (g : SdoFrame), let d := s.dev.heard
    let b := g.bus
    g.wrong = false → g.unknown = false → g.flaws = [] → d.canServes b = true →
    let idle := d.setSdo b .idle;
    (∀ index sub size bs, let key := index.toNat * 256 + sub.toNat
      exec (.sdoInitiateDownload g index sub true size bs) s = .next (s.withDev (idle.hostWrite b.src key bs)) ∧
      exec (.sdoInitiateDownload g index sub false size bs) s = .next (s.withDev (idle.atPort b.src (fun d => (d.setSdo b (.down key size [] false)).reply b.src .ack)))) ∧
    (∀ key size got t bs, (d.port b).sdo = .down key size got t →
      exec (.sdoDownloadSegment g (!t) false bs) s = .next (s.withDev (idle.sdoAbort b.src 0x05030000)) ∧
      exec (.sdoDownloadSegment g t false bs) s = .next (s.withDev ((d.setSdo b (.down key size (got ++ bs) (!t))).reply b.src .ack)) ∧
      (size = none ∨ size = some (got ++ bs).length → exec (.sdoDownloadSegment g t true bs) s = .next (s.withDev (idle.hostWrite b.src key (got ++ bs)))) ∧
      (∀ n, size = some n → n ≠ (got ++ bs).length → exec (.sdoDownloadSegment g t true bs) s = .next (s.withDev (idle.sdoAbort b.src 0x06070010)))) ∧
    (∀ index sub, let key := index.toNat * 256 + sub.toNat
      idle.gateOf b.src = .open_ → idle.readRule b.src key = .none →
      let x := idle.readObj key
      let m := x.2.enter b.src key .done .none;
      (1 ≤ x.1.length → x.1.length ≤ 4 → exec (.sdoInitiateUpload g index sub) s = .next (s.withDev (m.reply b.src (.data x.1)))) ∧
      (x.1.length = 0 ∨ 5 ≤ x.1.length → exec (.sdoInitiateUpload g index sub) s = .next (s.withDev
        ((m.setSdo b (.up key x.1 false)).reply b.src (.data (leBytes 4 x.1.length)))))) ∧
    (∀ index sub, let key := index.toNat * 256 + sub.toNat
      idle.gateOf b.src = .open_ → idle.readRule b.src key ≠ .none →
      exec (.sdoInitiateUpload g index sub) s = .next (s.withDev (idle.readRefused b.src key (idle.readRule b.src key)))) ∧
    (∀ key rest t, (d.port b).sdo = .up key rest t →
      exec (.sdoUploadSegment g (!t)) s = .next (s.withDev (idle.sdoAbort b.src 0x05030000)) ∧
      exec (.sdoUploadSegment g t) s = .next (s.withDev
        ((d.setSdo b (if rest.length ≤ 7 then .idle else .up key (rest.drop 7) (!t))).reply b.src (.data (rest.take 7))))) ∧
    ((∀ key size got t, (d.port b).sdo ≠ .down key size got t) → ∀ t l bs,
      exec (.sdoDownloadSegment g t l bs) s = .next (s.withDev (idle.sdoAbort b.src 0x05040001))) ∧
    ((∀ key rest t, (d.port b).sdo ≠ .up key rest t) → ∀ t,
      exec (.sdoUploadSegment g t) s = .next (s.withDev (idle.sdoAbort b.src 0x05040001))) ∧
    exec (.sdoAbortTransfer g.toCanFrame) s = .next (s.withDev idle) ∧
    ((d.port b).sdo ≠ .idle → exec (.sdoTimeout b) s = .next (s.withDev (idle.sdoAbort b.src 0x05040000))) ∧
    ((d.port b).sdo = .idle → exec (.sdoTimeout b) s = .next (s.withDev d))) ∧
  (∀ (s : State) (g : SdoFrame) (index : BitVec 16) (sub : BitVec 8) (x : Bool) (size : Option Nat) (bs : List Byte) (t l : Bool),
    g.wrong = false → g.flaws = [] → s.dev.heard.canServes g.bus = false →
    ∀ c ∈ [Instr.sdoInitiateDownload g index sub x size bs, .sdoDownloadSegment g t l bs, .sdoInitiateUpload g index sub,
      .sdoUploadSegment g t, .sdoAbortTransfer g.toCanFrame, .sdoTimeout g.bus], exec c s = .next (s.withDev s.dev.heard)) ∧
  (∀ (s : State) (f : CanFrame) (r : Fin 4) (bs : List Byte), let d := s.dev.heard
    f.wrong = false → d.canHears f.bus = false ∨ d.node.nmt ≠ .operational ∨ (d.cobId (K.RPDO_COB_ID r)).testBit 31 = true →
    exec (.rpdo f r bs) s = .next (s.withDev d)) ∧
  (∀ (s : State) (f : CanFrame) (r : Fin 4) (bs : List Byte), let d := s.dev.heard
    let b := f.bus
    f.wrong = false → d.canHears b = true → d.node.nmt = .operational → (d.cobId (K.RPDO_COB_ID r)).testBit 31 = false →
    let n := ((d.pdoMap (0x1600 + r)).map (fun x => x.2)).sum;
    (bs.length < n → exec (.rpdo f r bs) s = .next (s.withDev ((d.canCount b 4).cause 103 0x15))) ∧
    (n < bs.length → exec (.rpdo f r bs) s = .next (s.withDev ((d.canCount b 4).cause 103 0x16))) ∧
    (bs.length = n → d.pdoMap (0x1600 + r) = [] → exec (.rpdo f r bs) s = .next (s.withDev d)) ∧
    (bs.length = n → d.pdoMap (0x1600 + r) ≠ [] →
      let old := match vget d.node.rpdoHeld r with | some (c, _) => d.canCount c 3 | none => d
      let held : Dev := { old with node := { old.node with rpdoHeld := vset old.node.rpdoHeld r (some (b, bs)) } }
      let taken : Dev := { held with node := { held.node with
        rpdoHeld := vset held.node.rpdoHeld r none, rpdoLeft := vset held.node.rpdoLeft r (held.nat K.RPDO_MIN_INTERVAL * 1000) } }
      let free := vget d.node.rpdoLeft r = 0 ∧ held.hasEntry b.src = true;
      (free → exec (.rpdo f r bs) s = .next (s.withDev (taken.rpdoOperate b.src (pdoWrites (d.pdoMap (0x1600 + r)) bs)))) ∧
      (¬free → exec (.rpdo f r bs) s = .next (s.withDev held)))) ∧
  (∀ (d : Dev) (b : Bus) (r : Fin 4) (bs : List Byte) (ns : Nat), vget d.node.rpdoHeld r = some (b, bs) →
    let later : Dev := { d with node := { d.node with rpdoLeft := vmod d.node.rpdoLeft r (fun x => x - ns) } }
    let taken : Dev := { later with node := { later.node with
      rpdoHeld := vset later.node.rpdoHeld r none, rpdoLeft := vset later.node.rpdoLeft r (d.nat K.RPDO_MIN_INTERVAL * 1000) } }
    (vget d.node.rpdoLeft r ≤ ns → d.opsOpen = true → d.hasEntry b.src = true → d.pdoMap (0x1600 + r) ≠ [] →
      ((d.pdoMap (0x1600 + r)).map (fun x => x.2)).sum = bs.length →
      d.rpdoEdge ns r = taken.rpdoOperate b.src (pdoWrites (d.pdoMap (0x1600 + r)) bs)) ∧
    (ns < vget d.node.rpdoLeft r → d.rpdoEdge ns r = later)) ∧
  (∀ (s : State) (r : Fin 4), let d := s.dev.heard
    (d.num (K.TPDO_EVENT_TIMER r) ≠ 0 → exec (.tpdoEventTimer r) s = .next (s.withDev (d.tpdoSend r))) ∧
    (d.num (K.TPDO_EVENT_TIMER r) = 0 → exec (.tpdoEventTimer r) s = .next (s.withDev d)) ∧
    (let m : Dev := { d with node := { d.node with tpdoInhibit := vset d.node.tpdoInhibit r false, tpdoHeld := vset d.node.tpdoHeld r false } };
      exec (.tpdoInhibitEnd r) s = .next (s.withDev (if vget d.node.tpdoHeld r then m.tpdoSend r else m))))

/-- BXT_READ_START, BXT_WRITE_START, BXT_CONTINUE, BXT_DATA_FRAME, BXT_COMMIT, BXT_ABORT, BXT_TIMEOUT. Notes, log 32. -/
def Obligations.BulkTransfersComplete : Prop :=
  (∀ (s : State) (f : CanFrame) (tag : BitVec 8), let d := s.dev.heard
    let b := f.bus
    f.wrong = false → f.flaws = [] → d.canServes b = true →
    (∀ (kind unit : BitVec 8) (idx block : BitVec 16) (off len : BitVec 32), (d.bxt b).st = 0 →
      (d.hasEntry b.src = true → d.bxtReadRule b kind.toNat unit.toNat idx.toNat block.toNat len.toNat = .none →
        let n := min len.toNat (d.bxtHolds b kind.toNat unit.toNat idx.toNat - off.toNat)
        let x := d.bxtBytes b kind.toNat unit.toNat idx.toNat off.toNat n
        let run : Bxt := { st := 1, tag := tag.toNat, kind := kind.toNat, unit := unit.toNat, idx := idx.toNat, off := off.toNat, len := n, block := block.toNat, data := x.1 }
        let m := (x.2.enter b.src (bxtKey b kind.toNat unit.toNat idx.toNat) .done .none).modBxt b (fun _ => run)
        exec (.bxtReadStart f tag kind unit idx block off len) s = .next (s.withDev
          ((m.bxtOut b (bxtControl 0x21 tag.toNat kind.toNat unit.toNat idx.toNat block.toNat off.toNat n)).bxtSend b 0))) ∧
      (d.hasEntry b.src = true → (kind = 3 ∨ kind = 5) → 1 ≤ len.toNat → len.toNat ≤ 19200 → 1 ≤ block.toNat → block.toNat ≤ 64 →
        let run : Bxt := { st := 2, tag := tag.toNat, kind := kind.toNat, unit := unit.toNat, idx := idx.toNat, off := off.toNat, len := len.toNat, block := block.toNat }
        exec (.bxtWriteStart f tag kind unit idx block off len) s = .next (s.withDev (((d.reserve b.src (bxtKey b kind.toNat unit.toNat idx.toNat)).modBxt b (fun _ => run)).bxtOut b
          (bxtControl 0x21 tag.toNat kind.toNat unit.toNat idx.toNat block.toNat off.toNat len.toNat)))) ∧
      (d.hasEntry b.src = true →
        (kind ≠ 3 ∧ kind ≠ 5) ∨ len = 0 ∨ 19200 < len.toNat ∨ block = 0 ∨ 64 < block.toNat →
        exec (.bxtWriteStart f tag kind unit idx block off len) s = .next (s.withDev (d.bxtRefuse b tag.toNat kind.toNat idx.toNat off.toNat len.toNat .range))) ∧
      (d.hasEntry b.src = false →
        ∀ c ∈ [Instr.bxtReadStart f tag kind unit idx block off len, .bxtWriteStart f tag kind unit idx block off len],
          exec c s = .next (s.withDev ((d.bump K.OP_OVERLOAD_COUNT 32).bxtRefuse b tag.toNat kind.toNat idx.toNat off.toNat len.toNat .overload))) ∧
      (d.hasEntry b.src = true → d.bxtReadRule b kind.toNat unit.toNat idx.toNat block.toNat len.toNat ≠ .none →
        let r := d.bxtReadRule b kind.toNat unit.toNat idx.toNat block.toNat len.toNat
        let key := bxtKey b kind.toNat unit.toNat idx.toNat
        exec (.bxtReadStart f tag kind unit idx block off len) s = .next (s.withDev
          (((d.enter b.src key .refused r).recordOp b.src 0x41 d.osnNext key r []).bxtRefuse b tag.toNat kind.toNat idx.toNat off.toNat len.toNat r)))) ∧
    (∀ (kind unit : BitVec 8) (idx block : BitVec 16) (off len : BitVec 32), (d.bxt b).st ≠ 0 →
      ∀ c ∈ [Instr.bxtReadStart f tag kind unit idx block off len, .bxtWriteStart f tag kind unit idx block off len],
        exec c s = .next (s.withDev (d.bxtRefuse b tag.toNat kind.toNat idx.toNat off.toNat len.toNat .busy))) ∧
    (∀ c : BitVec 16, (d.bxt b).st = 1 → (d.bxt b).tag = tag.toNat → c.toNat ≤ (d.bxt b).sentTo →
      (c.toNat < frameCount (d.bxt b).len → exec (.bxtContinue f tag c) s = .next (s.withDev (d.bxtSend b c.toNat))) ∧
      (frameCount (d.bxt b).len ≤ c.toNat → exec (.bxtContinue f tag c) s = .next (s.withDev
        ((d.bxtOut b (bxtControl 0x23 tag.toNat 0 0 0 0 (crc32 (d.bxt b).data) 0)).modBxt b (fun x => { x with st := 0, data := [], reason := .none }))))) ∧
    (∀ c : BitVec 16, (d.bxt b).st = 1 → (d.bxt b).tag = tag.toNat → (d.bxt b).sentTo < c.toNat →
      exec (.bxtContinue f tag c) s = .next (s.withDev (d.bxtAbortNow b .range))) ∧
    (∀ c : BitVec 16, (d.bxt b).st ≠ 1 ∨ (d.bxt b).tag ≠ tag.toNat → exec (.bxtContinue f tag c) s = .next (s.withDev d)) ∧
    (∀ (c : BitVec 16) (bs : List Byte), (d.bxt b).st = 2 → (d.bxt b).tag = tag.toNat →
      let ack := fun m : Dev => m.bxtOut b
        (bxtControl 0x22 tag.toNat (m.bxt b).kind (m.bxt b).unit (m.bxt b).idx (m.bxt b).nextCtr (m.bxt b).off (m.bxt b).len)
      let taken := d.modBxt b (fun x =>
        { x with data := x.data ++ slice bs 0 60, nextCtr := x.nextCtr + 1, moved := min x.len (60 * (x.nextCtr + 1)) })
      let last := (c.toNat + 1) % (d.bxt b).block = 0 ∨ c.toNat + 1 = frameCount (d.bxt b).len
      let due := c.toNat = (d.bxt b).nextCtr ∧ c.toNat < frameCount (d.bxt b).len;
      (due → ¬ last → exec (.bxtDataFrame f tag c bs) s = .next (s.withDev taken)) ∧
      (due → last → exec (.bxtDataFrame f tag c bs) s = .next (s.withDev (ack taken))) ∧
      (c.toNat < (d.bxt b).nextCtr → exec (.bxtDataFrame f tag c bs) s = .next (s.withDev
        (ack (d.modBxt b (fun x => { x with repeated := x.repeated + 1 }))))) ∧
      (¬ due → (d.bxt b).nextCtr ≤ c.toNat → exec (.bxtDataFrame f tag c bs) s = .next (s.withDev (ack d)))) ∧
    (∀ (c : BitVec 16) (bs : List Byte) (len crc : BitVec 32), (d.bxt b).st ≠ 2 ∨ (d.bxt b).tag ≠ tag.toNat →
      ∀ i ∈ [Instr.bxtDataFrame f tag c bs, .bxtCommit f tag len crc], exec i s = .next (s.withDev d)) ∧
    (∀ len crc : BitVec 32, (d.bxt b).st = 2 → (d.bxt b).tag = tag.toNat →
      let t := d.bxt b
      let bs := slice t.data 0 t.len;
      (t.nextCtr < frameCount t.len ∨ len.toNat ≠ t.len → exec (.bxtCommit f tag len crc) s = .next (s.withDev (d.bxtResult b 0 crc.toNat .length))) ∧
      (frameCount t.len ≤ t.nextCtr → len.toNat = t.len → crc32 bs ≠ crc.toNat →
        exec (.bxtCommit f tag len crc) s = .next (s.withDev (d.bxtResult b 0 (crc32 bs) .crc))) ∧
      let free := (d.unreserve b.src (bxtKey b t.kind t.unit t.idx)).modBxt b (fun x => { x with st := 3 });
      (frameCount t.len ≤ t.nextCtr → len.toNat = t.len → crc32 bs = crc.toNat → free.hasEntry b.src = false →
        exec (.bxtCommit f tag len crc) s = .next (s.withDev ((free.bump K.OP_OVERLOAD_COUNT 32).bxtAbortNow b .overload))) ∧
      (frameCount t.len ≤ t.nextCtr → len.toNat = t.len → crc32 bs = crc.toNat → free.hasEntry b.src = true →
        (t.kind = 3 → let x := free.bxtCoef b.src t.unit t.off bs
          exec (.bxtCommit f tag len crc) s = .next (s.withDev (x.2.bxtResult b d.osnNext crc.toNat x.1))) ∧
        (t.kind ≠ 3 → let key := t.idx * 256 + t.unit
          let r := if t.off ≠ 0 ∨ (objRow key).isSome = true ∧ isDomain key = false then Reason.range else free.writeRule b.src key bs
          exec (.bxtCommit f tag len crc) s = .next (s.withDev ((free.writeAs b.src key bs r).bxtResult b d.osnNext crc.toNat r))))) ∧
    ((d.bxt b).tag = tag.toNat → exec (.bxtAbort f tag) s = .next (s.withDev (d.bxtEnd b .none))) ∧
    ((d.bxt b).tag ≠ tag.toNat → exec (.bxtAbort f tag) s = .next (s.withDev d)) ∧
    ((d.bxt b).st = 0 → exec (.bxtTimeout b) s = .next (s.withDev d)) ∧
    ((d.bxt b).st ≠ 0 → exec (.bxtTimeout b) s = .next (s.withDev
      ((d.bxtOut b (bxtControl 0x2F (d.bxt b).tag (d.bxt b).kind Reason.timeout.code (d.bxt b).idx 0 (d.bxt b).off (d.bxt b).len)).bxtEnd b .timeout)))) ∧
  (∀ (s : State) (f : CanFrame) (tag kind unit : BitVec 8) (idx block ctr : BitVec 16) (off len crc : BitVec 32) (bs : List Byte),
    f.wrong = false → f.flaws = [] → s.dev.heard.canServes f.bus = false →
    ∀ c ∈ [Instr.bxtReadStart f tag kind unit idx block off len, .bxtWriteStart f tag kind unit idx block off len, .bxtContinue f tag ctr,
      .bxtDataFrame f tag ctr bs, .bxtCommit f tag len crc, .bxtAbort f tag, .bxtTimeout f.bus], exec c s = .next (s.withDev s.dev.heard))

/-- R400, and the abort of an unknown specifier of R387, for every command that a CAN frame carries. -/
def Obligations.WrongFramesTurnedAway : Prop :=
  (∀ (s : State) (g : SdoFrame) (node : BitVec 8) (r : Fin 4) (bs : List Byte) (index : BitVec 16) (sub : BitVec 8) (x : Bool) (size : Option Nat)
    (t l : Bool) (tag kind unit : BitVec 8) (idx block ctr : BitVec 16) (off len crc : BitVec 32),
    let d := s.dev.heard
    let f := g.toCanFrame
    g.wrong = true → g.flaws = [] →
    ∀ c ∈ [Instr.nmtStart f node, .nmtStop f node, .nmtEnterPreOperational f node, .nmtResetNode f node, .nmtResetCommunication f node,
      .heartbeatReceived f node, .sdoInitiateDownload g index sub x size bs, .sdoDownloadSegment g t l bs, .sdoInitiateUpload g index sub,
      .sdoUploadSegment g t, .sdoAbortTransfer f, .rpdo f r bs, .bxtReadStart f tag kind unit idx block off len,
      .bxtWriteStart f tag kind unit idx block off len, .bxtContinue f tag ctr, .bxtDataFrame f tag ctr bs, .bxtCommit f tag len crc, .bxtAbort f tag],
      exec c s = .next (s.withDev (if d.canHears g.bus then d.canCount g.bus 4 else d))) ∧
  (∀ (s : State) (g : SdoFrame) (bs : List Byte) (index : BitVec 16) (sub : BitVec 8) (x : Bool) (size : Option Nat) (t l : Bool),
    let d := s.dev.heard
    g.wrong = false → g.unknown = true → g.flaws = [] →
    ∀ c ∈ [Instr.sdoInitiateDownload g index sub x size bs, .sdoDownloadSegment g t l bs, .sdoInitiateUpload g index sub, .sdoUploadSegment g t],
      (d.canServes g.bus = true → d.muted g.bus.src = false → exec c s = .next (s.withDev
        (((d.setSdo g.bus .idle).answering (.sdoAbort 0x05040001)).causeArg 103 0x17 0 [0x01, 0x00, 0x04, 0x05]))) ∧
      (d.canServes g.bus = true → d.muted g.bus.src = true → exec c s = .next (s.withDev (d.setSdo g.bus .idle))) ∧
      (d.canServes g.bus = false → exec c s = .next (s.withDev d)))

/-- LIL_UP, LIL_TRAIN_TIMEOUT, LIL_WORD_ERROR, LIL_LINK_DROP, LIL_FRAME, INTENT_RETRACT, THROTTLE_GRACE_EXPIRY, THROTTLE_RELEASE,
PFW_RELEASE, RDY_ASSERT, POLICY_ENTRY_POST. -/
def Obligations.LoadInterfaceComplete : Prop :=
  ∀ s : State, let d := s.dev.heard
    (d.lil.st = .training →
      exec .lilUp s = .next (s.withDev (Dev.cause { d with lil := { d.lil with st := .up, trainFail := false } } 102 0x01)) ∧
      exec .lilTrainTimeout s = .next (s.withDev { d with lil := { d.lil with trainFail := true } })) ∧
    (d.lil.st = .up →
      exec .lilWordError s = .next (s.withDev (d.bump (K.LIL_ERR_COUNT 1) 32)) ∧
      exec .lilLinkDrop s = .next (s.withDev ((Dev.bump { d with lil := { d.lil with st := .training } } (K.LIL_ERR_COUNT 2) 32).cause 102 0x02)) ∧
      ∀ w, exec (.lilFrame w) s = .next (s.withDev { d with lil := { d.lil with frames := d.lil.frames ++ [w] } })) ∧
    (∀ (n slot : Fin 8) (x : Intent), vget (d.rl n).intents slot = some x → x.deadline ≤ x.age →
      let run := (d.rl n).retractRun + 1
      let m := ((d.bump (K.INTENT_RETRACT_COUNT n) 32).dropIntents n (2 ^ slot.val)).modRl n (fun r => { r with retractRun := run })
      exec (.intentRetract n slot) s = .next (s.withDev
        (if d.num (K.INTENT_DISTRUST n) ≤ run ∧ d.num (K.INTENT_STATE n) = 0 then (m.setNum (K.INTENT_STATE n) 1).cause (32 + n) 0x13 else m))) ∧
    (d.lil.st ≠ .training → ∀ c ∈ [Instr.lilUp, .lilTrainTimeout], exec c s = .next (s.withDev d)) ∧
    (d.lil.st ≠ .up → ∀ w, ∀ c ∈ [Instr.lilWordError, .lilLinkDrop, .lilFrame w], exec c s = .next (s.withDev d)) ∧
    (∀ n slot : Fin 8, (∀ x, vget (d.rl n).intents slot = some x → x.age < x.deadline) → exec (.intentRetract n slot) s = .next (s.withDev d)) ∧
    (∀ n : Fin 8, let r := d.rl n
      (r.due.testBit 4 = true → exec (.throttleGraceExpiry n) s = .next (s.withDev
        ((d.modRl n (fun r => { r with due := 0 })).tripKinds n r.due))) ∧
      (r.due.testBit 4 = false → exec (.throttleGraceExpiry n) s = .next (s.withDev d))) ∧
    (let held := d.load.throttle = true ∧ d.throttleCause = false ∧ d.num K.THROTTLE_HOLD * 1000 ≤ (d.load.throttleN - 1) * d.tickNs;
      (held → exec .throttleRelease s = .next (s.withDev { d with load := { d.load with throttle := false } })) ∧
      (¬ held → exec .throttleRelease s = .next (s.withDev d))) ∧
    (let high := d.num K.PFW_VIN_TH + d.num K.PFW_HYST ≤ d.num (K.HK_RAW 0) * 5;
      let other := d.path.st ≠ .onInput ∨ d.load.pfwProg = true ∨ d.flag K.PFW_FORCE = true;
      (high → other → exec .pfwRelease s = .next (s.withDev { d with load := { d.load with pfw := true, pfwVin := false, pfwOk := true } })) ∧
      (high → ¬ other → d.ticking = true →
        exec .pfwRelease s = .next (s.withDev { d with load := { d.load with pfw := false, pfwVin := false, pfwOk := true } })) ∧
      (high → ¬ other → d.ticking = false →
        exec .pfwRelease s = .next (s.withDev { d with load := { d.load with pfwVin := false, pfwOk := true } })) ∧
      (¬ high → exec .pfwRelease s = .next (s.withDev d))) ∧
    (∀ n : Fin 8, let r := d.rl n
      let due := r.glove = false ∧ 1 ≤ r.rdyN ∧ d.num (K.RDY_DELAY n) * 1000 ≤ (r.rdyN - 1) * d.tickNs ∧ d.readyCond n = true;
      (due → exec (.rdyAssert n) s = .next (s.withDev (d.modRl n (fun r => { r with rdy := true })))) ∧
      (¬ due → exec (.rdyAssert n) s = .next (s.withDev d))) ∧
    (d.supRuns = true →
      let m : Dev := { d with polPost := d.polPost ++ d.polWait.take (11 - d.polPost.length), polWait := d.polWait.drop (11 - d.polPost.length) }
      exec .policyEntryPost s = .next (s.withDev m)) ∧
    (d.supRuns = false → exec .policyEntryPost s = .next (s.withDev d))

/-- The AVSBus rows. What the spec leaves open of a frame is log 27; a rail's temperature without a present group is free (log 6). That a read is one operation, and answered also where none can be entered, is log 60; CmdGroup 1 is log 27. -/
def Obligations.AvsFramesComplete : Prop :=
  (∀ s : State, let d := s.dev.heard
    d.avsLive = true →
    let n := d.modNum K.AVS_FRAME_COUNT (fun x => (x + 1) % 4294967296)
    let no := fun m : Dev => m.answering (.avs 2 m.avsAlert 0)
    let keep := fun (w : AvsWrite) (m : Dev) => ({ m with load := { m.load with waiting := m.load.waiting.filter (fun x => decide (x.sel ≠ w.sel)) ++ [w] } } : Dev)
    let taken := fun (ok : Bool) (cmd sel type : Nat) (f : Dev → Dev) =>
      if n.opsOpen = true ∧ n.hasEntry .avs = true then
        n.operate .avs (n.avsReadKey sel type) [] 0 false (if ok then .none else .range) (fun _ m => f m) (fun _ m => f m)
      else keep ⟨sel, type, 0, cmd⟩ (f n)
    let write := fun (hold : Bool) (sel type : Nat) (v : Nat) =>
      let w : AvsWrite := ⟨sel, type, v, 0⟩
      let held : Dev := { n with load := { n.load with held := n.load.held ++ [w] } };
      (if hold then held else if n.opsOpen = true ∧ n.hasEntry .avs = true then n.avsEnter w else keep w n).answering (.avs 0 n.avsAlert 0);
    (∀ (sel type : Fin 16) (v : BitVec 16),
      exec (.avsWriteAndCommit sel type v) s = .next (s.withDev (write false sel type v.toNat)) ∧
      exec (.avsWriteAndHold sel type v) s = .next (s.withDev (write true sel type v.toNat))) ∧
    (∀ (sel : Fin 16) (hold : Bool) (v : BitVec 16),
      exec (.avsTargetVoltage sel hold v) s = .next (s.withDev (write hold sel 0 v.toNat)) ∧
      exec (.avsTransitionRate sel hold v) s = .next (s.withDev (write hold sel 1 v.toNat)) ∧
      exec (.avsResetVoltage sel hold v) s = .next (s.withDev (write hold sel 4 v.toNat)) ∧
      exec (.avsStatusWrite sel hold v) s = .next (s.withDev (write hold sel 14 v.toNat))) ∧
    (∀ sel : Fin 16,
      (sel = 15 ∨ n.avsRails sel = [] →
        exec (.avsReadVoltage sel) s = .next (s.withDev (taken false 3 sel 0 no)) ∧ exec (.avsReadRate sel) s = .next (s.withDev (taken false 3 sel 1 no)) ∧
        exec (.avsReadCurrent sel) s = .next (s.withDev (taken false 3 sel 2 no)) ∧
        exec (.avsReadTemperature sel) s = .next (s.withDev (taken false 3 sel 3 no)) ∧
        exec (.avsReadStatus sel) s = .next (s.withDev (taken false 3 sel 14 no))) ∧
      (∀ r rest, sel ≠ 15 → n.avsRails sel = r :: rest →
        let answers := fun (v : Dev → Int) (m : Dev) => m.answering (.avs 0 m.avsAlert (v m))
        exec (.avsReadVoltage sel) s = .next (s.withDev
          (taken true 3 sel 0 (answers (fun m => roundDiv (m.num (K.VOUT_TARGET r) * 1000) 4096)))) ∧
        exec (.avsReadRate sel) s = .next (s.withDev
          (taken true 3 sel 1 (answers (fun m => m.num (K.AVS_RATE_RISE r) / 100 * 256 + m.num (K.AVS_RATE_FALL r) / 100)))) ∧
        exec (.avsReadCurrent sel) s = .next (s.withDev
          (taken true 3 sel 2 (answers (fun m => min 65535 (roundDiv ((m.roNum (K.READ_IOUT r)).getD 0 * 25) 4))))) ∧
        exec (.avsReadTemperature sel) s = .next (s.withDev (taken true 3 sel 3 (fun m =>
          (m.railTemp r).2.answering (.avs 0 (m.railTemp r).2.avsAlert (roundDiv ((m.railTemp r).1 * 5) 8 % 65536))))) ∧
        exec (.avsReadStatus sel) s = .next (s.withDev (taken true 3 sel 14 (answers (fun m => m.avsStatus r)))))) ∧
    (∀ sel type : Fin 16, exec (.avsUnsupported 2 sel type) s = .next (s.withDev (taken false 2 sel type no)) ∧
      (type ∉ ([0, 1, 2, 3, 14] : List (Fin 16)) → exec (.avsUnsupported 3 sel type) s = .next (s.withDev (taken false 3 sel type no))) ∧
      exec (.avsUnsupported 0 sel type) s = .next (s.withDev (write false sel type 0)) ∧
      exec (.avsUnsupported 1 sel type) s = .next (s.withDev (write true sel type 0)) ∧
      exec (.avsUnsupported 4 sel type) s = .next (s.withDev (write false sel 16 0)) ∧
      exec (.avsUnsupported 5 sel type) s = .next (s.withDev (write true sel 16 0)) ∧
      exec (.avsUnsupported 6 sel type) s = .next (s.withDev (taken false 2 sel 16 no)) ∧
      exec (.avsUnsupported 7 sel type) s = .next (s.withDev (taken false 3 sel 16 no))) ∧
    (let m := n.bump K.AVS_CRC_ERR_COUNT 16;
      exec .avsBadCrc s = .next (s.withDev (m.answering (.avs 3 m.avsAlert 0))))) ∧
  (∀ (s : State) (sel : Fin 16), let d := s.dev.heard
    (∀ w : AvsWrite, d.load.waiting.find? (fun x => x.sel == sel.val) = some w → d.opsOpen = true → d.hasEntry .avs = true →
      let m : Dev := { d with load := { d.load with waiting := d.load.waiting.filter (fun x => decide (x.sel ≠ sel.val)) } };
      (w.cmd < 2 → exec (.avsHeldEntry sel) s = .next (s.withDev (m.avsEnter w))) ∧
      (2 ≤ w.cmd → exec (.avsHeldEntry sel) s = .next (s.withDev (m.operate .avs (m.avsReadKey w.sel w.type) [] 0 false
        (m.avsReadRule w.cmd w.sel w.type) (fun _ x => x) (fun _ x => x))))) ∧
    (d.load.waiting.find? (fun x => x.sel == sel.val) = none ∨ d.opsOpen = false ∨ d.hasEntry .avs = false →
      exec (.avsHeldEntry sel) s = .next (s.withDev d))) ∧
  (∀ (s : State) (cmd : Fin 8) (sel type : Fin 16) (hold : Bool) (v : BitVec 16), s.dev.heard.avsLive = false →
    ∀ c ∈ [Instr.avsWriteAndCommit sel type v, .avsWriteAndHold sel type v, .avsTargetVoltage sel hold v, .avsTransitionRate sel hold v,
      .avsResetVoltage sel hold v, .avsStatusWrite sel hold v, .avsReadVoltage sel, .avsReadRate sel, .avsReadCurrent sel,
      .avsReadTemperature sel, .avsReadStatus sel, .avsUnsupported cmd sel type, .avsBadCrc], exec c s = .next (s.withDev s.dev.heard))

/-- Every row that writes or reads an object at a port: where it does not come to the operation table. -/
def Obligations.PortTurnsAway : Prop :=
  (∀ (d : Dev) (b : Bus), (d.port b).idConflict = true → ∀ a n, d.reply b.src a = d ∧ d.sdoAbort b.src n = d) ∧
  ∀ (s : State) (c : Instr) (p : Src), let d := s.dev.heard
    let m := d.bump K.OP_OVERLOAD_COUNT 32;
    ((∃ w, hostWriteOf c = some w ∧ w.port = p) ∨ (∃ k, hostReadOf c = some (p, k))) →
    (d.gateOf p = .silent → (p = .pmbus ∨ p = .svc) → exec c s = .next (s.withDev (d.answering .nack))) ∧
    (d.gateOf p = .silent → p ≠ .pmbus → p ≠ .svc → exec c s = .next (s.withDev d)) ∧
    (∀ t, p = TwPort.src t → d.gateOf p = .absent → exec c s = .next (s.withDev ((d.twEvent t 4 0).answering .nack))) ∧
    (∀ t, p = TwPort.src t → d.gateOf p = .full → exec c s = .next (s.withDev ((m.twEvent t 4 0).answering .nack))) ∧
    (p = .canA ∨ p = .canB → d.gateOf p = .absent → exec c s = .next (s.withDev d)) ∧
    (p = .canA ∨ p = .canB → d.gateOf p = .full →
      (d.muted p = false → exec c s = .next (s.withDev ((m.answering (.sdoAbort 0x05040005)).causeArg 103 0x17 0 [0x05, 0x00, 0x04, 0x05]))) ∧
      (d.muted p = true → exec c s = .next (s.withDev m)))

/-- R373 and R376, as the decision of an access; where BUSY stands among the steps, and sub-index 00, are the model's choice (log 11,
log 1). -/
def Obligations.WriteDecisionOrder : Prop :=
  (∀ (d : Dev) (p : Src) (key : Nat) (bs : List Byte), objRow key = none →
    (idxExists (key / 256) = false → d.writeRule p key bs = .noObject) ∧
    (idxExists (key / 256) = true → key % 256 ≠ 0 → d.writeRule p key bs = .noSub) ∧
    (idxExists (key / 256) = true → key % 256 = 0 → d.writeRule p key bs = .readOnly)) ∧
  (∀ (d : Dev) (p : Src) (key : Nat) (bs : List Byte) (r : ObjRow), objRow key = some r →
    let v := r.ty.decode bs;
    (r.acc = .ro → d.writeRule p key bs = .readOnly) ∧
    (r.acc ≠ .ro → d.level p < d.writeLevel r key → d.writeRule p key bs = .access) ∧
    (r.acc ≠ .ro → d.writeLevel r key ≤ d.level p →
      (lengthOk r bs = false → d.writeRule p key bs = .length) ∧
      (lengthOk r bs = true → rangeOk d r key v = false → d.writeRule p key bs = .range) ∧
      (lengthOk r bs = true → rangeOk d r key v = true → (∃ e ∈ d.ops, e.key = key ∧ e.st = .running) → d.writeRule p key bs = .busy) ∧
      (lengthOk r bs = true → rangeOk d r key v = true → (∀ e ∈ d.ops, e.key = key → e.st ≠ .running) →
        d.writeRule p key bs = d.chapterRule p key v)))

/-- UNIT_ENABLE, UNIT_DISABLE, BK_VOUT_COMMAND_WRITE, VOUT_COMMAND_WRITE, MARGIN_STATE_WRITE, LOOP_MODE_WRITE, POLICY_HOLD_WRITE,
POLICY_ENTRY_WRITE, LIL_EN_WRITE, INTENT_RESUME, PHASE_RAIL_WRITE, the rows of PHASE_CMD, PHASE_SVC_CMD and GROUP_SVC_CMD,
CLEAR_FAULTS_WRITE. -/
def Obligations.RegulatorWritesComplete : Prop :=
  ∀ (s : State) (c : Instr) (w : HostWrite) (e : Dev), let d := s.dev.heard
    hostWriteOf c = some w → d.gateOf w.port = .open_ → d.writeRule w.port w.key w.bytes = .none →
    regulatorEffect (d.admitted w) d.osnNext c = some e →
    exec c s = .next (s.withDev (e.reply w.port .ack))

/-- PERF_PROFILE_WRITE, TICK_RATE_WRITE, PROFILE_SCHED_WRITE, PROFILE_AT_TICK_WRITE, CAP_ARM, CAP_FORCE_TRIGGER, CAP_ABORT, PROG_SHADOW_SEL,
PROG_IMAGE, PROG_SWAP_REQ, BANK_SWAP_REQ, BANK_COPY, COEF_WRITE, LIB_STORE, MAILBOX_POST. -/
def Obligations.EngineWritesComplete : Prop :=
  ∀ (s : State) (c : Instr) (w : HostWrite) (e : Dev), let d := s.dev.heard
    hostWriteOf c = some w → d.gateOf w.port = .open_ → d.writeRule w.port w.key w.bytes = .none →
    engineEffect (d.admitted w) d.osnNext c = some e →
    exec c s = .next (s.withDev (e.reply w.port .ack))

/-- POWER_UP, POWER_DOWN, ABORT, WM_SWAP, WM_TIE, PK_TEST_CMD, the TM rows, INT_ACK, EV_TEST, CHG_EN_WRITE, CHG_CHEM_WRITE, ACC_RESTART,
SHIP_CMD, LOG_SEEK_ESN, LOG_TIME_MARK, LOG_CLEAR, ERROR_HISTORY_CLEAR, OP_QUERY_OSN. -/
def Obligations.BoardWritesComplete : Prop :=
  ∀ (s : State) (c : Instr) (w : HostWrite) (e : Dev), let d := s.dev.heard
    hostWriteOf c = some w → d.gateOf w.port = .open_ → d.writeRule w.port w.key w.bytes = .none →
    boardEffect (d.admitted w) d.osnNext c = some e →
    exec c s = .next (s.withDev (e.reply w.port .ack))

/-- DOME_CMD, SOFT_RESET, STORE_PARAMETERS, RESTORE_DEFAULT_PARAMETERS, FACTORY_SETTINGS, the FW rows, PMB_XFER, LB_XFER,
BULK_WINDOW_WRITE, BULK_OBJECT_WRITE, BULK_LOAD, the AUTH rows, LOCK_STATE_WRITE, DEBUG_OPEN, OBJECT_WRITE. -/
def Obligations.SystemWritesComplete : Prop :=
  (∀ (s : State) (c : Instr) (w : HostWrite) (e : Dev), let d := s.dev.heard
    hostWriteOf c = some w → d.gateOf w.port = .open_ → d.writeRule w.port w.key w.bytes = .none →
    systemEffect (d.admitted w) d.osnNext c = some e →
    let late := (w.port = .canA ∨ w.port = .canB) ∧ e.busyOn w.key = true ∧ (w.key = K.STORE_PARAMETERS ∨ w.key = K.RESTORE_DEFAULT_PARAMETERS)
    exec c s = .next (s.withDev (if late then e else e.reply w.port .ack))) ∧
  (∀ (s : State) (p : Src) (sub : Fin 256) (bs : List Byte), let d := s.dev.heard
    let key := 0x2E6300 + sub.val
    let t := if sub.val = 1 then TwPort.pmb else TwPort.svc
    let w : HostWrite := ⟨p, d.nat (K.BULK_OBJECT (sub.val - 1)), slice (d.tw t).staging 0 (ofLe bs)⟩
    d.gateOf p = .open_ → d.writeRule p key bs = .none → d.writeRule p w.key w.bytes = .none →
    exec (.bulkLoad p sub bs) s = .next (s.withDev
      (((d.admitted w).carryOut p w.key (valueOf w.key w.bytes) d.osnNext |>.modTw t (fun x => { x with staging := [] })).answerWrite p w.key .none d.osnNext)))

/-- Every row that writes an object, refused (R10). -/
def Obligations.RefusedWritesAccount : Prop :=
  ∀ (s : State) (c : Instr) (w : HostWrite) (r : Reason), let d := s.dev.heard
    hostWriteOf c = some w → d.gateOf w.port = .open_ → d.writeRule w.port w.key w.bytes = r → r ≠ .none →
    let first := recordFirst w.key w.bytes
    let entered := ({ d with osnNext := nextNo d.osnNext, ops := dropOldest w.port d.ops ++ [⟨d.osnNext, .refused, w.port, w.key, r, first⟩] } : Dev)
    let m := (entered.noteLast w.port d.osnNext r).recordOp w.port 0x41 d.osnNext w.key r first
    let answered := fun e : Dev => match w.port.tw with
      | some t => ((e.modTw t (fun x => { x with cml := Machine.putBit x.cml 6 true })).twEvent t 6 d.osnNext).answering .ack
      | none => e.sdoAbort w.port (mapAbort w.key r)
    exec c s = .next (s.withDev (answered (m.refusedAct w.port w.key (valueOf w.key w.bytes) r d.osnNext))) ∧
    (actOf w.key ∉ [Act.voutCommand, .marginState, .profile, .underlying, .schedAt, .tmCtrl, .tmPeriod, .fwWrite, .seqCmd, .response, .password] →
      exec c s = .next (s.withDev (answered m))) ∧
    (∀ t : Fin 16, w.key = K.TM_PERIOD t ∨ w.key = K.TM_CTRL t → r = .periodZero →
      exec c s = .next (s.withDev (answered (m.putBit (K.TM_STATUS t) 10 true)))) ∧
    (∀ n : Fin 8, w.key = K.VOUT_COMMAND n ∨ w.key = K.MARGIN_STATE n →
      exec c s = .next (s.withDev (answered (if r = .notOwner ∨ r = .seqActive then m.targetRefused w.port n else m))))

/-- READ_IOUT_PEAK_READ, ENG_STATUS_READ, ENG_CYCLES_MAX_READ, PHASE_STATUS_READ, TM_CAPTURE_READ, TM_STATUS_READ, CHG_FAULT_READ,
SHIP_STATUS_READ, AUTH_NONCE_READ, LOG_WINDOW_READ. -/
def Obligations.HostReadsComplete : Prop :=
  (∀ (s : State) (c : Instr) (p : Src) (key : Nat), let d := s.dev.heard
    hostReadOf c = some (p, key) → d.gateOf p = .open_ →
    (d.readRule p key = .none →
      exec c s = .next (s.withDev (((d.readObj key).2.enter p key .done .none).reply p (.data (d.readObj key).1)))) ∧
    (d.readRule p key ≠ .none →
      let r := d.readRule p key
      let m := (d.enter p key .refused r).recordOp p 0x41 d.osnNext key r [];
      (∀ t, p = TwPort.src t → exec c s = .next (s.withDev
        (((m.modTw t (fun x => { x with cml := Machine.putBit x.cml 6 true })).twEvent t 6 d.osnNext).answering (.refused r)))) ∧
      (p = .canA ∨ p = .canB → exec c s = .next (s.withDev (m.sdoAbort p r.abort))))) ∧
  (∀ d : Dev,
    (∀ (n : Fin 8) (v : Int), d.obj (K.READ_IOUT_PEAK n) = .num v → d.readObj (K.READ_IOUT_PEAK n) = (leBytes 2 v, d.setNum (K.READ_IOUT_PEAK n) 0)) ∧
    (∀ (e : Fin 16) (v : Int), d.obj (K.ENG_CYCLES_MAX e) = .num v → d.readObj (K.ENG_CYCLES_MAX e) = (leBytes 2 v, d.setNum (K.ENG_CYCLES_MAX e) 0)) ∧
    (∀ e : Fin 16, d.readObj (K.ENG_STATUS e) = (leBytes 2 (d.engStatus e), d.modEng e (fun g => { g with
      overrunFlag := false, eccCorrected := false, eccFatal := false, sat := false, accSat := false, div0 := false, addrErr := false,
      driveDenied := false }))) ∧
    (∀ p : Fin 32, d.readObj (K.PHASE_STATUS p) =
      (leBytes 2 (d.phaseStatus p), (d.putBit (K.PHASE_STATUS p) 10 false).putBit (K.PHASE_STATUS p) 4 false)) ∧
    (∀ (t : Fin 16) (v : Int), d.obj (K.TM_CAPTURE t) = .num v → d.readObj (K.TM_CAPTURE t) = (leBytes 4 v, d.putBit (K.TM_STATUS t) 13 false)) ∧
    (∀ (t : Fin 16) (v : Int), d.obj (K.TM_STATUS t) = .num v →
      d.readObj (K.TM_STATUS t) = (leBytes 2 v, d.setNum (K.TM_STATUS t) (v - fieldAt v 7 6 * 128))) ∧
    (∀ v : Int, d.obj K.CHG_FAULT = .num v → d.readObj K.CHG_FAULT = (leBytes 2 v, d.chgFaultClear)) ∧
    d.readObj K.SHIP_STATUS = (leBytes 1 d.shipStatus, { d with btn := { d.btn with shipCancelled := false } }) ∧
    (∀ i : Fin 4, d.readObj (K.AUTH_NONCE i) = (leBytes 16 (Config.nonceDraw d.free).toNat,
      Dev.modIface { d with free := d.free + 1 } (i + 1) (fun x => { x with nonce := some (Config.nonceDraw d.free) }))) ∧
    (∀ i : Fin 4, d.log.flaws = [] → d.nat (K.LOG_CURSOR i) < d.logCount →
      d.readObj (K.LOG_WINDOW i) = (d.logAt (d.nat (K.LOG_CURSOR i)), d.setNum (K.LOG_CURSOR i) (d.nat (K.LOG_CURSOR i) + 1 : Nat))) ∧
    (∀ i : Fin 4, d.log.flaws = [] → d.logCount ≤ d.nat (K.LOG_CURSOR i) → d.readObj (K.LOG_WINDOW i) = (d.logAt (d.nat (K.LOG_CURSOR i)), d)))

/-- The read form of every PMBus command, and OBJ_SELECT, OBJ_DATA, OBJ_RESULT. -/
def Obligations.PmbusReadsComplete : Prop :=
  (∀ (s : State) (c : Instr) (r : PmbRead), let d := s.dev.heard
    let a := d.addrByte r.x.port
    let sent := fun bs : List Byte => if r.x.pec = .none then bs else bs ++ leBytes 1 (pecOf (leBytes 1 a ++ leBytes 1 r.code ++ leBytes 1 (a + 1 : Nat) ++ bs))
    pmbReadOf d c = some r → r.x.form = .whole → d.takes r.x.port r.code →
    (r.paged = false ∨ d.pageOf r.x.port < 64 →
      exec c s = .next (s.withDev ((r.after.enter r.x.port.src r.key .done .none).answering (.data (sent r.bytes))))) ∧
    (r.paged = true → 64 ≤ d.pageOf r.x.port →
      exec c s = .next (s.withDev
        ((((d.enter r.x.port.src (pageKey r.x.port) .done .none).modTw r.x.port (fun t => { t with cml := Machine.putBit t.cml 6 true })).twEvent
          r.x.port 6 d.osnNext).answering (.data (sent (List.replicate r.bytes.length 0xFF))))))) ∧
  (∀ (s : State) (x : TwFrame), let d := s.dev.heard
    let key := (d.tw x.port).sel
    let v := (d.readObj key).1
    x.form = .whole → x.flaws = [] → d.takes x.port 0xD1 →
    (d.readRule x.port.src key = .none → v.length ≤ 255 →
      exec (.objData x none) s = .next (s.withDev (((d.readObj key).2.enter x.port.src key .done .none).pmbData x 0xD1 (leBytes 1 v.length ++ v)))) ∧
    (d.readRule x.port.src key = .none → 255 < v.length →
      exec (.objData x none) s = .next (s.withDev (d.readRefused x.port.src key .length))) ∧
    (d.readRule x.port.src key ≠ .none →
      exec (.objData x none) s = .next (s.withDev (d.readRefused x.port.src key (d.readRule x.port.src key)))))

/-- The write form of PAGE, OPERATION (both rows) on buck and LDO pages, WRITE_PROTECT, STORE_USER_ALL, RESTORE_USER_ALL, the
voltage, rate and limit commands, and OBJ_DATA. -/
def Obligations.PmbusWritesComplete : Prop :=
  (∀ (s : State) (c : Instr) (x : TwFrame) (code : Nat) (w : HostWrite), let d := s.dev.heard
    let r := d.writeRule w.port w.key w.bytes
    let first := recordFirst w.key w.bytes
    let entered := ({ d with osnNext := nextNo d.osnNext, ops := dropOldest w.port d.ops ++ [⟨d.osnNext, .refused, w.port, w.key, r, first⟩] } : Dev)
    let m := (entered.noteLast w.port d.osnNext r).recordOp w.port 0x41 d.osnNext w.key r first
    pmbObjectOf d c = some (x, code, w) → (∃ bs, pmbWriteFrame c = some (x, code, bs) ∧ d.takesWrite x code bs) →
    (r = .none → exec c s = .next (s.withDev
      (((d.admitted w).carryOut w.port w.key (valueOf w.key w.bytes) d.osnNext).answering .ack))) ∧
    (r ≠ .none → exec c s = .next (s.withDev
      ((((m.refusedAct w.port w.key (valueOf w.key w.bytes) r d.osnNext).modTw x.port
        (fun t => { t with cml := Machine.putBit t.cml 6 true })).twEvent x.port 6 d.osnNext).answering .ack)))) ∧
  (∀ (s : State) (c : Instr) (x : TwFrame) (code : Nat) (key : Nat → Nat) (v : Int), let d := s.dev.heard
    let k := key (d.pageOf x.port)
    let r := if d.writeRule x.port.src k (leBytes 2 0) = .access then Reason.access else .range
    let m := (({ d with osnNext := nextNo d.osnNext, ops := dropOldest x.port.src d.ops ++ [⟨d.osnNext, .refused, x.port.src, k, r, recordFirst k (leBytes 2 v)⟩] } :
      Dev).noteLast x.port.src d.osnNext r).recordOp x.port.src 0x41 d.osnNext k r (recordFirst k (leBytes 2 v))
    pmbNumberOf c = some (x, code, key, v) → (∃ bs, pmbWriteFrame c = some (x, code, bs) ∧ d.takesWrite x code bs) → d.pageOf x.port < 64 →
    (v < 0 ∨ 65535 < v) →
    exec c s = .next (s.withDev
      ((((m.refusedAct x.port.src k (valueOf k (leBytes 2 v)) r d.osnNext).modTw x.port
        (fun t => { t with cml := Machine.putBit t.cml 6 true })).twEvent x.port 6 d.osnNext).answering .ack)))

/-- VOUT and rate commands on page FFh, OPERATION on a rail and on page FFh, CLEAR_FAULTS, the writes of STATUS registers, OBJ_SELECT. -/
def Obligations.PmbusGroupWritesComplete : Prop :=
  ∀ (s : State) (x : TwFrame), let d := s.dev.heard
    let p := x.port.src
    let pg := d.pageOf x.port
    let noted := fun (key : Nat) (first : List Byte) =>
      let m := ({ d with osnNext := nextNo d.osnNext, ops := dropOldest p d.ops ++ [⟨d.osnNext, .done, p, key, .none, first⟩] } : Dev).noteLast p d.osnNext .none
      if d.flag K.OP_RECORD = true then m.recordOp p 0x40 d.osnNext key .none first else m;
    (∀ (c : Instr) (code : Nat) (key : Nat → Nat) (v : Int), pmbNumberOf c = some (x, code, key, v) →
      (∃ bs, pmbWriteFrame c = some (x, code, bs) ∧ d.takesWrite x code bs) → 64 ≤ pg →
      exec c s = .next (s.withDev (d.pmbParts x.port (key 0) (leBytes 2 v)
        ((List.range 8).map (fun n => d.writePart p (key n) (leBytes 2 v) (d.numRule p (key n) v)))))) ∧
    (∀ (c : Instr) (b : Byte), c = .pmbOperation x (some b) ∨ c = .pmbOperationMargin x b → d.takesWrite x 0x01 [b] → pg < 8 →
      let on := [BitVec.ofNat 8 (b.toNat / 128)]
      let mg := leBytes 1 (b.toNat / 16 % 4 : Nat)
      exec c s = .next (s.withDev (d.pmbParts x.port (K.UNIT_ON pg) [b]
        [d.writePart p (K.UNIT_ON pg) on (d.writeRule p (K.UNIT_ON pg) on),
         d.writePart p (K.MARGIN_STATE pg) mg (d.writeRule p (K.MARGIN_STATE pg) mg)]))) ∧
    (∀ (c : Instr) (b : Byte), c = .pmbOperation x (some b) ∨ c = .pmbOperationMargin x b → d.takesWrite x 0x01 [b] → 64 ≤ pg →
      let seq := [BitVec.ofNat 8 (2 - b.toNat / 128)]
      let mg := leBytes 1 (b.toNat / 16 % 4 : Nat)
      exec c s = .next (s.withDev (d.pmbParts x.port K.SEQ_CMD [b]
        (d.writePart p K.SEQ_CMD seq (d.writeRule p K.SEQ_CMD seq) ::
          (List.range 8).map (fun n => d.writePart p (K.MARGIN_STATE n) mg (d.writeRule p (K.MARGIN_STATE n) mg)))))) ∧
    (d.takesWrite x 0x03 [] → pg < 18 →
      let m := (({ noted (clearKey pg) [] with pages := vmod d.pages (pageIx pg) (fun _ => {}) } : Dev).modTw x.port (fun t => { t with cml := 0 })).atEdge
        (clearKey pg) (.num 1)
      exec (.pmbClearFaults x) s = .next (s.withDev (m.alertRelease.answering .ack))) ∧
    (d.takesWrite x 0x03 [] → 18 ≤ pg → pg < 64 →
      let m := ({ noted (pageKey x.port) [] with pages := vmod d.pages (pageIx pg) (fun _ => {}) } : Dev).modTw x.port (fun t => { t with cml := 0 })
      exec (.pmbClearFaults x) s = .next (s.withDev (m.alertRelease.answering .ack))) ∧
    (d.takesWrite x 0x03 [] → 64 ≤ pg →
      exec (.pmbClearFaults x) s = .next (s.withDev
        ((allPages.foldl (fun e g => e.clearPage x.port g) (noted (pageKey x.port) [])).alertRelease.answering .ack))) ∧
    (∀ (c : Instr) (code : Nat) (r : StReg) (b : Byte),
      ((c, code, r) ∈ [(Instr.pmbStatusVout x (some b), 0x7A, StReg.vout), (.pmbStatusIout x (some b), 0x7B, .iout),
        (.pmbStatusInput x (some b), 0x7C, .inp), (.pmbStatusTemperature x (some b), 0x7D, .temp), (.pmbStatusMfrSpecific x (some b), 0x80, .mfr)]) →
      d.takesWrite x code [b] →
      exec c s = .next (s.withDev (((noted (pageKey x.port) [b]).statusClear pg r b).answering .ack))) ∧
    (∀ b : Byte, d.takesWrite x 0x7E [b] →
      exec (.pmbStatusCml x (some b)) s = .next (s.withDev
        (((noted (pageKey x.port) [b]).modTw x.port (fun t => { t with cml := Int.ofNat (t.cml.toNat - (t.cml.toNat &&& b.toNat)) })).answering .ack))) ∧
    (∀ i j k : Byte, d.takesWrite x 0xD0 [3, i, j, k] →
      exec (.objSelect x [i, j, k]) s = .next (s.withDev
        (((d.enter p (pageKey x.port) .done .none).modTw x.port (fun t => { t with sel := (i.toNat + 256 * j.toNat) * 256 + k.toNat })).answering .ack))) ∧
    (∀ bs : List Byte, bs ≠ [] → bs.length ≠ 3 → d.takesWrite x 0xD0 (leBytes 1 bs.length ++ bs) →
      exec (.objSelect x bs) s = .next (s.withDev (((d.modTw x.port (fun t => { t with cml := Machine.putBit t.cml 6 true })).twEvent x.port 6 0).answering
        (if bs.length < 3 then .ack else .nack))))

/-- Every PMBus command at a port or on a page that does not take it. The two answers that R345 leaves open are log 28. -/
def Obligations.PmbusTurnsAway : Prop :=
  (∀ (s : State) (c : Instr) (t : TwPort) (code : Nat), let d := s.dev.heard
    let m := if d.gateOf t.src = .full then d.bump K.OP_OVERLOAD_COUNT 32 else d;
    (∃ r, pmbReadOf d c = some r ∧ r.x.port = t ∧ r.code = code) ∨ (∃ x bs, pmbWriteFrame c = some (x, code, bs) ∧ x.port = t) ∨
      (∃ x, c = .objData x none ∧ x.flaws = [] ∧ x.port = t ∧ code = 0xD1) →
    (d.gateOf t.src = .silent → exec c s = .next (s.withDev (d.answering .nack))) ∧
    (d.gateOf t.src = .absent ∨ d.gateOf t.src = .full → exec c s = .next (s.withDev ((m.twEvent t 4 0).answering .nack))) ∧
    (d.gateOf t.src = .open_ → cmdOk code (d.pageOf t) = false →
      exec c s = .next (s.withDev (((d.modTw t (fun y => { y with cml := Machine.putBit y.cml 7 true })).twEvent t 5 0).answering .nack)))) ∧
  (∀ (s : State) (c : Instr) (x : TwFrame) (code : Nat) (bs : List Byte), let d := s.dev.heard
    let bad := fun (bit event : Nat) (a : Answer) =>
      Host.Outcome.next (s.withDev (((d.modTw x.port (fun y => { y with cml := Machine.putBit y.cml bit true })).twEvent x.port event 0).answering a))
    let prot := protects (d.nat K.PMB_WRITE_PROTECT) code
    pmbWriteFrame c = some (x, code, bs) → d.takes x.port code →
    (prot = true → exec c s = bad 6 6 .nack) ∧
    (prot = false → x.form = .long → exec c s = bad 6 6 .nack) ∧
    (prot = false → x.form = .short → exec c s = bad 6 6 .ack) ∧
    (prot = false → x.form = .whole →
      (∀ b, x.pec = some b → b.toNat ≠ pecOf (leBytes 1 (d.addrByte x.port) ++ leBytes 1 code ++ bs) → exec c s = bad 5 1 .nack) ∧
      (x.pec = none → bitAt (d.effNum K.PMB_CONFIG) 2 = true → exec c s = bad 6 6 .ack))) ∧
  (∀ (s : State) (c : Instr) (x : TwFrame) (code : Nat), let d := s.dev.heard
    (∃ r, pmbReadOf d c = some r ∧ r.x = x ∧ r.code = code) ∨ (c = .objData x none ∧ x.flaws = [] ∧ code = 0xD1) → d.takes x.port code →
    (x.form = .long → exec c s = .next (s.withDev
      (((d.modTw x.port (fun y => { y with cml := Machine.putBit y.cml 6 true })).twEvent x.port 6 0).answering .nack))) ∧
    (x.form = .short → exec c s = .next (s.withDev (d.answering .ack))))

/-- The table of R375 and R376 in every state, whatever command is at the front of the queue. -/
def Obligations.OperationTableStaysSound : Prop :=
  ∀ s t : State, tableSound s.dev.opTable → step s = .next t → tableSound t.dev.opTable

/-- The invariant of the operation table at reset. -/
def Obligations.OperationTableAtReset : Prop := tableSound State.reset.dev.opTable ∧ State.reset.dev.opTable = ([], 1)
end

