-- ==== Sys2Proof/Laws/Assoc.lean ====
section
/-! SUPPORT. The laws of the sparse stores and of the vectors of units: a read after a write of the same place gives the
value written, a write leaves every other place alone, and every operation keeps the canonical form. -/

namespace Sys2Proof.Machine

variable {α : Type}

theorem Assoc.get_erase_self (d : Nat → α) (s : Assoc α) (k : Nat) : Assoc.get d (Assoc.erase k s) k = d k := by
  induction s with
  | nil => rfl
  | cons e t ih =>
    obtain ⟨k', v⟩ := e
    by_cases h : k' = k <;> simp [Assoc.erase, Assoc.get, h, ih]

theorem Assoc.get_erase_other (d : Nat → α) (s : Assoc α) {k j : Nat} (h : j ≠ k) :
    Assoc.get d (Assoc.erase k s) j = Assoc.get d s j := by
  induction s with
  | nil => rfl
  | cons e t ih =>
    obtain ⟨k', v⟩ := e
    by_cases hk : k' = k
    · subst hk; simp [Assoc.erase, Assoc.get, ih, Ne.symm h]
    · by_cases hj : k' = j <;> simp [Assoc.erase, Assoc.get, hk, hj, ih, h]

theorem Assoc.get_insert_other (d : Nat → α) (s : Assoc α) {k j : Nat} (v : α) (h : j ≠ k) :
    Assoc.get d (Assoc.insert k v s) j = Assoc.get d s j := by
  induction s with
  | nil => simp [Assoc.insert, Assoc.get, Ne.symm h]
  | cons e t ih =>
    obtain ⟨k', v'⟩ := e
    simp only [Assoc.insert]
    split
    · simp [Assoc.get, Ne.symm h]
    · by_cases hj : k' = j <;> simp [Assoc.get, hj, ih]

theorem Assoc.get_insert_erase (d : Nat → α) (s : Assoc α) (k : Nat) (v : α) :
    Assoc.get d (Assoc.insert k v (Assoc.erase k s)) k = v := by
  induction s with
  | nil => simp [Assoc.erase, Assoc.insert, Assoc.get]
  | cons e t ih =>
    obtain ⟨k', v'⟩ := e
    by_cases hk : k' = k
    · simpa [Assoc.erase, hk] using ih
    · simp only [Assoc.erase, hk, if_false, Assoc.insert]
      split
      · simp [Assoc.get]
      · simp [Assoc.get, hk, ih]

/-- A read after a write of the same key gives the value written. -/
@[simp] theorem Assoc.get_set_self [DecidableEq α] (d : Nat → α) (s : Assoc α) (k : Nat) (v : α) :
    Assoc.get d (Assoc.set d s k v) k = v := by
  unfold Assoc.set
  split
  · next h => rw [Assoc.get_erase_self, h]
  · exact Assoc.get_insert_erase d s k v

/-- A write leaves every other key alone. -/
theorem Assoc.get_set_other [DecidableEq α] (d : Nat → α) (s : Assoc α) {k j : Nat} (v : α) (h : j ≠ k) :
    Assoc.get d (Assoc.set d s k v) j = Assoc.get d s j := by
  unfold Assoc.set
  split
  · exact Assoc.get_erase_other d s h
  · rw [Assoc.get_insert_other d _ v h, Assoc.get_erase_other d s h]

/-- A read after a write, by cases. -/
theorem Assoc.get_set [DecidableEq α] (d : Nat → α) (s : Assoc α) (k j : Nat) (v : α) :
    Assoc.get d (Assoc.set d s k v) j = if j = k then v else Assoc.get d s j := by
  by_cases h : j = k
  · subst h; simp
  · simp [h, Assoc.get_set_other d s v h]

theorem Assoc.sortedFrom_weaken {b c : Nat} (h : c ≤ b) : ∀ {s : Assoc α}, Assoc.sortedFrom b s = true → Assoc.sortedFrom c s = true
  | [], _ => rfl
  | (k, v) :: t, hs => by
    simp only [Assoc.sortedFrom, Bool.and_eq_true, decide_eq_true_eq] at hs ⊢
    exact ⟨by omega, hs.2⟩

theorem Assoc.sortedFrom_erase (k : Nat) : ∀ {b : Nat} {s : Assoc α}, Assoc.sortedFrom b s = true →
    Assoc.sortedFrom b (Assoc.erase k s) = true
  | _, [], _ => rfl
  | b, (k', v) :: t, hs => by
    simp only [Assoc.sortedFrom, Bool.and_eq_true, decide_eq_true_eq] at hs
    have ih := Assoc.sortedFrom_erase k hs.2
    by_cases h : k' = k
    · simp only [Assoc.erase, h, if_true]; exact Assoc.sortedFrom_weaken (by omega) (h ▸ ih)
    · simp only [Assoc.erase, h, if_false, Assoc.sortedFrom, Bool.and_eq_true, decide_eq_true_eq]; exact ⟨hs.1, ih⟩

/-- Does the key stand in no entry? -/
def Assoc.fresh (k : Nat) (s : Assoc α) : Prop := ∀ e ∈ s, e.1 ≠ k

theorem Assoc.fresh_erase (k : Nat) (s : Assoc α) : Assoc.fresh k (Assoc.erase k s) := by
  induction s with
  | nil => intro e he; cases he
  | cons e t ih =>
    obtain ⟨k', v⟩ := e
    by_cases h : k' = k
    · simpa [Assoc.erase, h] using ih
    · simp only [Assoc.erase, h, if_false]
      intro e he
      rcases List.mem_cons.mp he with rfl | he
      · exact h
      · exact ih e he

theorem Assoc.sortedFrom_insert (k : Nat) (v : α) : ∀ {b : Nat} {s : Assoc α}, b ≤ k → Assoc.fresh k s → Assoc.sortedFrom b s = true →
    Assoc.sortedFrom b (Assoc.insert k v s) = true
  | b, [], hb, _, _ => by simp [Assoc.insert, Assoc.sortedFrom, hb]
  | b, (k', v') :: t, hb, hf, hs => by
    simp only [Assoc.sortedFrom, Bool.and_eq_true, decide_eq_true_eq] at hs
    have hne : k' ≠ k := hf (k', v') (by simp)
    simp only [Assoc.insert]
    split
    · next h => simp only [Assoc.sortedFrom, Bool.and_eq_true, decide_eq_true_eq]; exact ⟨hb, by omega, hs.2⟩
    · next h =>
      simp only [Assoc.sortedFrom, Bool.and_eq_true, decide_eq_true_eq]
      exact ⟨hs.1, Assoc.sortedFrom_insert k v (by omega) (fun e he => hf e (by simp [he])) hs.2⟩

theorem Assoc.mem_erase {k : Nat} {s : Assoc α} {e : Nat × α} (h : e ∈ Assoc.erase k s) : e ∈ s := by
  induction s with
  | nil => cases h
  | cons x t ih =>
    obtain ⟨k', v⟩ := x
    by_cases hk : k' = k
    · simp only [Assoc.erase, hk, if_true] at h; exact List.mem_cons_of_mem _ (ih h)
    · simp only [Assoc.erase, hk, if_false] at h
      rcases List.mem_cons.mp h with rfl | h
      · simp
      · exact List.mem_cons_of_mem _ (ih h)

theorem Assoc.mem_insert {k : Nat} {v : α} {s : Assoc α} {e : Nat × α} (h : e ∈ Assoc.insert k v s) : e = (k, v) ∨ e ∈ s := by
  induction s with
  | nil => simpa [Assoc.insert] using h
  | cons x t ih =>
    obtain ⟨k', v'⟩ := x
    simp only [Assoc.insert] at h
    split at h
    · simpa using h
    · rcases List.mem_cons.mp h with rfl | h
      · simp
      · rcases ih h with rfl | h <;> simp [*]

/-- A write keeps the canonical form. -/
theorem Assoc.wf_set [DecidableEq α] (d : Nat → α) (s : Assoc α) (k : Nat) (v : α) (h : Assoc.wf d s = true) :
    Assoc.wf d (Assoc.set d s k v) = true := by
  simp only [Assoc.wf, Bool.and_eq_true, List.all_eq_true, decide_eq_true_eq] at h ⊢
  unfold Assoc.set
  split
  · exact ⟨Assoc.sortedFrom_erase k h.1, fun e he => h.2 e (Assoc.mem_erase he)⟩
  · next hv =>
    refine ⟨Assoc.sortedFrom_insert k v (Nat.zero_le k) (Assoc.fresh_erase k s) (Assoc.sortedFrom_erase k h.1), fun e he => ?_⟩
    rcases Assoc.mem_insert he with rfl | he
    · exact hv
    · exact h.2 e (Assoc.mem_erase he)

variable {n : Nat}

/-- A changed unit reads as changed. -/
@[simp] theorem vget_vmod_self [Inhabited α] (v : Vector α n) (i : Nat) (f : α → α) (h : i < n) :
    vget (vmod v i f) i = f (vget v i) := by
  simp [vget, vmod, h]

/-- A change of one unit leaves the others alone. -/
theorem vget_vmod_other [Inhabited α] (v : Vector α n) {i j : Nat} (f : α → α) (h : j ≠ i) :
    vget (vmod v i f) j = vget v j := by
  unfold vget vmod
  split
  · split
    · rw [Vector.getElem_set_ne]; exact Ne.symm h
    · rfl
  · rfl

/-- A property that every unit's step keeps holds after all of them. -/
theorem forUnits_keeps {σ : Type} {P : σ → Prop} (m : Nat) (f : Nat → σ → σ) (h : ∀ i s, P s → P (f i s)) (s : σ) (hs : P s) :
    P (forUnits m f s) := by
  unfold forUnits
  generalize List.range m = l
  induction l generalizing s with
  | nil => exact hs
  | cons a t ih => exact ih _ (h a s hs)

/-- A property that every step of a fold keeps holds after the fold. -/
theorem foldl_keeps {σ β : Type} {P : σ → Prop} (f : σ → β → σ) (h : ∀ s b, P s → P (f s b)) (l : List β) (s : σ) (hs : P s) :
    P (l.foldl f s) := by
  induction l generalizing s with
  | nil => exact hs
  | cons a t ih => exact ih _ (h s a hs)

end Sys2Proof.Machine
end

