-- ==== Sys2Proof/Laws/Exec.lean ====
section
/-! SUPPORT. One law for each command: it answers a next state, which differs from the state before in the device alone,
and the device is the named operation on the device as the command finds it. -/

namespace Sys2Proof.Machine

open Dev

/-- Next states of one state are equal where their devices are. -/
theorem next_dev {s : State} {a b : Dev} (h : a = b) : (Host.Outcome.next (s.withDev a) : Host.Outcome State Fault Refusal) = .next (s.withDev b) := by rw [h]

theorem exec_tickEdge (s : State) (x : EdgeSamples) : exec (.tickEdge x) s = .next (s.withDev (s.dev.heard.wholeTickEdge x)) := rfl
theorem exec_keepEdge (s : State) : exec (.keepEdge) s = .next (s.withDev (s.dev.heard.wholeKeepEdge)) := rfl
theorem exec_overrun (s : State) (e : Fin 16) : exec (.overrun e) s = .next (s.withDev (s.dev.heard.overrunAt e)) := rfl
theorem exec_nyNop (s : State) (e : Fin 16) : exec (.nyNop e) s = .next (s.withDev (s.dev.heard.nyExec e (.nyNop e) Engine.nyNop)) := rfl
theorem exec_nyEnd (s : State) (e : Fin 16) : exec (.nyEnd e) s = .next (s.withDev (s.dev.heard.nyEndAt e)) := rfl
theorem exec_nyCommit (s : State) (e : Fin 16) : exec (.nyCommit e) s = .next (s.withDev (s.dev.heard.nyExec e (.nyCommit e) Engine.nyCommit)) := rfl
theorem exec_nyBr (s : State) (e : Fin 16) (t : Fin 4096) : exec (.nyBr e t) s = .next (s.withDev (s.dev.heard.nyExec e (.nyBr e t) (Engine.nyBr t))) := rfl
theorem exec_nyBcc (s : State) (e : Fin 16) (cc : Fin 6) (ra : Fin 32) (t : Fin 4096) : exec (.nyBcc e cc ra t) s = .next (s.withDev (s.dev.heard.nyExec e (.nyBcc e cc ra t) (Engine.nyBcc cc ra t))) := rfl
theorem exec_nyLoop (s : State) (e : Fin 16) (n : Fin 256) (t : Fin 4096) : exec (.nyLoop e n t) s = .next (s.withDev (s.dev.heard.nyExec e (.nyLoop e n t) (Engine.nyLoop n t))) := rfl
theorem exec_nyCall (s : State) (e : Fin 16) (t : Fin 4096) : exec (.nyCall e t) s = .next (s.withDev (s.dev.heard.nyExec e (.nyCall e t) (Engine.nyCall t))) := rfl
theorem exec_nyRet (s : State) (e : Fin 16) : exec (.nyRet e) s = .next (s.withDev (s.dev.heard.nyExec e (.nyRet e) Engine.nyRet)) := rfl
theorem exec_nySig (s : State) (e : Fin 16) (code : Fin 256) : exec (.nySig e code) s = .next (s.withDev (s.dev.heard.nyExec e (.nySig e code) (Engine.nySig code))) := rfl
theorem exec_nyBrk (s : State) (e : Fin 16) : exec (.nyBrk e) s = .next (s.withDev (s.dev.heard.nyExec e (.nyBrk e) (Engine.nyBrk s.dev.heard.debugging))) := rfl
theorem exec_nyAdd (s : State) (e : Fin 16) (rd ra rb : Fin 32) : exec (.nyAdd e rd ra rb) s = .next (s.withDev (s.dev.heard.nyExec e (.nyAdd e rd ra rb) (Engine.nyAdd rd ra rb))) := rfl
theorem exec_nySub (s : State) (e : Fin 16) (rd ra rb : Fin 32) : exec (.nySub e rd ra rb) s = .next (s.withDev (s.dev.heard.nyExec e (.nySub e rd ra rb) (Engine.nySub rd ra rb))) := rfl
theorem exec_nyAddw (s : State) (e : Fin 16) (rd ra rb : Fin 32) : exec (.nyAddw e rd ra rb) s = .next (s.withDev (s.dev.heard.nyExec e (.nyAddw e rd ra rb) (Engine.nyAddw rd ra rb))) := rfl
theorem exec_nyAddi (s : State) (e : Fin 16) (rd ra : Fin 32) (imm : BitVec 16) : exec (.nyAddi e rd ra imm) s = .next (s.withDev (s.dev.heard.nyExec e (.nyAddi e rd ra imm) (Engine.nyAddi rd ra imm))) := rfl
theorem exec_nyAnd (s : State) (e : Fin 16) (rd ra rb : Fin 32) : exec (.nyAnd e rd ra rb) s = .next (s.withDev (s.dev.heard.nyExec e (.nyAnd e rd ra rb) (Engine.nyAnd rd ra rb))) := rfl
theorem exec_nyOr (s : State) (e : Fin 16) (rd ra rb : Fin 32) : exec (.nyOr e rd ra rb) s = .next (s.withDev (s.dev.heard.nyExec e (.nyOr e rd ra rb) (Engine.nyOr rd ra rb))) := rfl
theorem exec_nyXor (s : State) (e : Fin 16) (rd ra rb : Fin 32) : exec (.nyXor e rd ra rb) s = .next (s.withDev (s.dev.heard.nyExec e (.nyXor e rd ra rb) (Engine.nyXor rd ra rb))) := rfl
theorem exec_nyAndi (s : State) (e : Fin 16) (rd ra : Fin 32) (imm : BitVec 16) : exec (.nyAndi e rd ra imm) s = .next (s.withDev (s.dev.heard.nyExec e (.nyAndi e rd ra imm) (Engine.nyAndi rd ra imm))) := rfl
theorem exec_nyShl (s : State) (e : Fin 16) (rd ra sh : Fin 32) : exec (.nyShl e rd ra sh) s = .next (s.withDev (s.dev.heard.nyExec e (.nyShl e rd ra sh) (Engine.nyShl rd ra sh))) := rfl
theorem exec_nyShr (s : State) (e : Fin 16) (rd ra sh : Fin 32) : exec (.nyShr e rd ra sh) s = .next (s.withDev (s.dev.heard.nyExec e (.nyShr e rd ra sh) (Engine.nyShr rd ra sh))) := rfl
theorem exec_nyShlv (s : State) (e : Fin 16) (rd ra rb : Fin 32) : exec (.nyShlv e rd ra rb) s = .next (s.withDev (s.dev.heard.nyExec e (.nyShlv e rd ra rb) (Engine.nyShlv rd ra rb))) := rfl
theorem exec_nyMin (s : State) (e : Fin 16) (rd ra rb : Fin 32) : exec (.nyMin e rd ra rb) s = .next (s.withDev (s.dev.heard.nyExec e (.nyMin e rd ra rb) (Engine.nyMin rd ra rb))) := rfl
theorem exec_nyMax (s : State) (e : Fin 16) (rd ra rb : Fin 32) : exec (.nyMax e rd ra rb) s = .next (s.withDev (s.dev.heard.nyExec e (.nyMax e rd ra rb) (Engine.nyMax rd ra rb))) := rfl
theorem exec_nyClamp (s : State) (e : Fin 16) (rd ra rb : Fin 32) : exec (.nyClamp e rd ra rb) s = .next (s.withDev (s.dev.heard.nyExec e (.nyClamp e rd ra rb) (Engine.nyClamp rd ra rb))) := rfl
theorem exec_nyAbs (s : State) (e : Fin 16) (rd ra : Fin 32) : exec (.nyAbs e rd ra) s = .next (s.withDev (s.dev.heard.nyExec e (.nyAbs e rd ra) (Engine.nyAbs rd ra))) := rfl
theorem exec_nyNeg (s : State) (e : Fin 16) (rd ra : Fin 32) : exec (.nyNeg e rd ra) s = .next (s.withDev (s.dev.heard.nyExec e (.nyNeg e rd ra) (Engine.nyNeg rd ra))) := rfl
theorem exec_nySlt (s : State) (e : Fin 16) (rd ra rb : Fin 32) : exec (.nySlt e rd ra rb) s = .next (s.withDev (s.dev.heard.nyExec e (.nySlt e rd ra rb) (Engine.nySlt rd ra rb))) := rfl
theorem exec_nySel (s : State) (e : Fin 16) (rd ra rb : Fin 32) : exec (.nySel e rd ra rb) s = .next (s.withDev (s.dev.heard.nyExec e (.nySel e rd ra rb) (Engine.nySel rd ra rb))) := rfl
theorem exec_nyMov (s : State) (e : Fin 16) (rd ra : Fin 32) : exec (.nyMov e rd ra) s = .next (s.withDev (s.dev.heard.nyExec e (.nyMov e rd ra) (Engine.nyMov rd ra))) := rfl
theorem exec_nyMovi (s : State) (e : Fin 16) (rd : Fin 32) (imm : BitVec 16) : exec (.nyMovi e rd imm) s = .next (s.withDev (s.dev.heard.nyExec e (.nyMovi e rd imm) (Engine.nyMovi rd imm))) := rfl
theorem exec_nyMovhi (s : State) (e : Fin 16) (rd : Fin 32) (imm : BitVec 16) : exec (.nyMovhi e rd imm) s = .next (s.withDev (s.dev.heard.nyExec e (.nyMovhi e rd imm) (Engine.nyMovhi rd imm))) := rfl
theorem exec_nyMul (s : State) (e : Fin 16) (rd ra rb sh : Fin 32) : exec (.nyMul e rd ra rb sh) s = .next (s.withDev (s.dev.heard.nyExec e (.nyMul e rd ra rb sh) (Engine.nyMul rd ra rb sh))) := rfl
theorem exec_nyDivq (s : State) (e : Fin 16) (rd ra rb sh : Fin 32) : exec (.nyDivq e rd ra rb sh) s = .next (s.withDev (s.dev.heard.nyExec e (.nyDivq e rd ra rb sh) (Engine.nyDivq rd ra rb sh))) := rfl
theorem exec_nyLd (s : State) (e : Fin 16) (rd ra : Fin 32) (imm : BitVec 16) : exec (.nyLd e rd ra imm) s = .next (s.withDev (s.dev.heard.nyExec e (.nyLd e rd ra imm) (Engine.nyLd rd ra imm))) := rfl
theorem exec_nySt (s : State) (e : Fin 16) (rd ra : Fin 32) (imm : BitVec 16) : exec (.nySt e rd ra imm) s = .next (s.withDev (s.dev.heard.nyExec e (.nySt e rd ra imm) (Engine.nySt rd ra imm))) := rfl
theorem exec_nyLdc (s : State) (e : Fin 16) (rd ra : Fin 32) (c : BitVec 8) : exec (.nyLdc e rd ra c) s = .next (s.withDev (s.dev.heard.nyExec e (.nyLdc e rd ra c) (Engine.nyLdc (s.dev.heard.coef e) rd ra c))) := rfl
theorem exec_nyLdcm (s : State) (e : Fin 16) (rd ra : Fin 32) (c : BitVec 8) : exec (.nyLdcm e rd ra c) s = .next (s.withDev (s.dev.heard.nyExec e (.nyLdcm e rd ra c) (Engine.nyLdcm (s.dev.heard.coef e) rd ra c))) := rfl
theorem exec_nyClra (s : State) (e : Fin 16) (a : Fin 4) : exec (.nyClra e a) s = .next (s.withDev (s.dev.heard.nyExec e (.nyClra e a) (Engine.nyClra a))) := rfl
theorem exec_nyLda (s : State) (e : Fin 16) (a : Fin 4) (ra : Fin 32) : exec (.nyLda e a ra) s = .next (s.withDev (s.dev.heard.nyExec e (.nyLda e a ra) (Engine.nyLda a ra))) := rfl
theorem exec_nyMac (s : State) (e : Fin 16) (a : Fin 4) (ra rb : Fin 32) (c : BitVec 8) : exec (.nyMac e a ra rb c) s = .next (s.withDev (s.dev.heard.nyExec e (.nyMac e a ra rb c) (Engine.nyMac (s.dev.heard.coef e) a ra rb c))) := rfl
theorem exec_nyMsc (s : State) (e : Fin 16) (a : Fin 4) (ra rb : Fin 32) (c : BitVec 8) : exec (.nyMsc e a ra rb c) s = .next (s.withDev (s.dev.heard.nyExec e (.nyMsc e a ra rb c) (Engine.nyMsc (s.dev.heard.coef e) a ra rb c))) := rfl
theorem exec_nyMacw (s : State) (e : Fin 16) (a : Fin 4) (ra rb sh : Fin 32) : exec (.nyMacw e a ra rb sh) s = .next (s.withDev (s.dev.heard.nyExec e (.nyMacw e a ra rb sh) (Engine.nyMacw a ra rb sh))) := rfl
theorem exec_nyAcx (s : State) (e : Fin 16) (rd : Fin 32) (a : Fin 4) (sh : BitVec 6) : exec (.nyAcx e rd a sh) s = .next (s.withDev (s.dev.heard.nyExec e (.nyAcx e rd a sh) (Engine.nyAcx rd a sh))) := rfl
theorem exec_nyAdda (s : State) (e : Fin 16) (a b : Fin 4) : exec (.nyAdda e a b) s = .next (s.withDev (s.dev.heard.nyExec e (.nyAdda e a b) (Engine.nyAdda a b))) := rfl
theorem exec_nyIn (s : State) (e : Fin 16) (rd ra : Fin 32) (p : BitVec 9) : exec (.nyIn e rd ra p) s = .next (s.withDev (s.dev.heard.nyExec e (.nyIn e rd ra p) (Engine.nyIn (s.dev.heard.sampleOf e) rd ra p))) := rfl
theorem exec_nyOut (s : State) (e : Fin 16) (rd ra q : Fin 32) : exec (.nyOut e rd ra q) s = .next (s.withDev (s.dev.heard.nyExec e (.nyOut e rd ra q) (Engine.nyOut rd ra q))) := rfl
theorem exec_nyOutd (s : State) (e : Fin 16) (rd ra : Fin 32) (w : BitVec 9) : exec (.nyOutd e rd ra w) s = .next (s.withDev (s.dev.heard.nyExec e (.nyOutd e rd ra w) (Engine.nyOutd (s.dev.heard.owns e) rd ra w))) := rfl
theorem exec_perfProfileWrite (s : State) (port : Src) (data : List Byte) : exec (.perfProfileWrite port data) s = .next (s.withDev (s.dev.heard.hostWrite port K.PERF_PROFILE data)) := rfl
theorem exec_tickRateWrite (s : State) (port : Src) (data : List Byte) : exec (.tickRateWrite port data) s = .next (s.withDev (s.dev.heard.hostWrite port K.TICK_RATE data)) := rfl
theorem exec_profileAtTickWrite (s : State) (port : Src) (data : List Byte) : exec (.profileAtTickWrite port data) s = .next (s.withDev (s.dev.heard.hostWrite port K.PROFILE_AT_TICK data)) := rfl
theorem exec_profileSchedWrite (s : State) (port : Src) (data : List Byte) : exec (.profileSchedWrite port data) s = .next (s.withDev (s.dev.heard.hostWrite port K.PROFILE_SCHED data)) := rfl
theorem exec_syncinEdge (s : State) (at_ : Nat) (width : Nat) (offset : Int) : exec (.syncinEdge at_ width offset) s = .next (s.withDev (s.dev.heard.syncinEdge at_ width offset)) := rfl
theorem exec_syncLost (s : State) : exec (.syncLost) s = .next (s.withDev (s.dev.heard.syncLost)) := rfl
theorem exec_xoFault (s : State) (code : Fin 4) : exec (.xoFault code) s = .next (s.withDev (s.dev.heard.xoFault code)) := rfl
theorem exec_xoFaultClear (s : State) : exec (.xoFaultClear) s = .next (s.withDev (s.dev.heard.xoFaultClear)) := rfl
theorem exec_lfXtalFail (s : State) : exec (.lfXtalFail) s = .next (s.withDev (s.dev.heard.lfXtalFail)) := rfl
theorem exec_lfCalibration (s : State) (error : BitVec 16) : exec (.lfCalibration error) s = .next (s.withDev (s.dev.heard.lfCalibration error.toInt)) := rfl
theorem exec_frozenAdc (s : State) (n : Fin 8) : exec (.frozenAdc n) s = .next (s.withDev (s.dev.heard.frozenAdc n)) := rfl
theorem exec_hkConversion (s : State) (ch : Fin 32) (code : BitVec 12) : exec (.hkConversion ch code) s = .next (s.withDev (s.dev.heard.hkConversion ch code.toNat)) := rfl
theorem exec_readIoutPeakRead (s : State) (port : Src) (n : Fin 8) : exec (.readIoutPeakRead port n) s = .next (s.withDev (s.dev.heard.hostRead port (K.READ_IOUT_PEAK n))) := rfl
theorem exec_capArm (s : State) (port : Src) : exec (.capArm port) s = .next (s.withDev (s.dev.heard.hostWrite port K.CAP_CTRL [1])) := rfl
theorem exec_capForceTrigger (s : State) (port : Src) : exec (.capForceTrigger port) s = .next (s.withDev (s.dev.heard.hostWrite port K.CAP_CTRL [2])) := rfl
theorem exec_capAbort (s : State) (port : Src) : exec (.capAbort port) s = .next (s.withDev (s.dev.heard.hostWrite port K.CAP_CTRL [3])) := rfl
theorem exec_captureDone (s : State) : exec (.captureDone) s = .next (s.withDev (s.dev.heard.captureDone)) := rfl
theorem exec_railPeriodStart (s : State) (n : Fin 8) : exec (.railPeriodStart n) s = .next (s.withDev (s.dev.heard.railPeriodStart n)) := rfl
theorem exec_slotTurnOn (s : State) (p : Fin 32) : exec (.slotTurnOn p) s = .next (s.withDev (s.dev.heard.slotTurnOn p)) := rfl
theorem exec_deferredTurnOn (s : State) (p : Fin 32) : exec (.deferredTurnOn p) s = .next (s.withDev (s.dev.heard.deferredTurnOn p)) := rfl
theorem exec_peakComparatorTrip (s : State) (p : Fin 32) (sample : TripSample) : exec (.peakComparatorTrip p sample) s = .next (s.withDev (s.dev.heard.peakTrip p sample.steps sample.imon.toNat)) := rfl
theorem exec_blankingEnd (s : State) (p : Fin 32) : exec (.blankingEnd p) s = .next (s.withDev (s.dev.heard.blankingEnd p)) := rfl
theorem exec_tonMaxExpiry (s : State) (p : Fin 32) : exec (.tonMaxExpiry p) s = .next (s.withDev (s.dev.heard.tonMaxExpiry p)) := rfl
theorem exec_timedTurnOff (s : State) (p : Fin 32) : exec (.timedTurnOff p) s = .next (s.withDev (s.dev.heard.timedTurnOff p)) := rfl
theorem exec_zeroCrossing (s : State) (p : Fin 32) (steps : Nat) : exec (.zeroCrossing p steps) s = .next (s.withDev (s.dev.heard.zeroCrossing p steps)) := rfl
theorem exec_timedZeroCrossing (s : State) (p : Fin 32) : exec (.timedZeroCrossing p) s = .next (s.withDev (s.dev.heard.timedZeroCrossing p)) := rfl
theorem exec_imonConversion (s : State) (p : Fin 32) (code : BitVec 12) : exec (.imonConversion p code) s = .next (s.withDev (s.dev.heard.imonConversion p code.toNat)) := rfl
theorem exec_placedHold (s : State) (p : Fin 32) (late : Bool) : exec (.placedHold p late) s = .next (s.withDev (s.dev.heard.placedHold p late)) := rfl
theorem exec_asyncTrip (s : State) (w : Fin 24) (upper : Bool) (p : Fin 32) : exec (.asyncTrip w upper p) s = .next (s.withDev (s.dev.heard.asyncTrip w upper p)) := rfl
theorem exec_tripRelease (s : State) (w : Fin 24) (upper : Bool) (p : Fin 32) : exec (.tripRelease w upper p) s = .next (s.withDev (s.dev.heard.tripRelease w upper p)) := rfl
theorem exec_sgFaultComparator (s : State) (g : Fin 8) : exec (.sgFaultComparator g) s = .next (s.withDev (s.dev.heard.sgComparator g)) := rfl
theorem exec_realign (s : State) (port : Src) (p : Fin 32) : exec (.realign port p) s = .next (s.withDev (s.dev.heard.hostWrite port (K.PHASE_CMD p) [1])) := rfl
theorem exec_forceMid (s : State) (port : Src) (p : Fin 32) : exec (.forceMid port p) s = .next (s.withDev (s.dev.heard.hostWrite port (K.PHASE_CMD p) [2])) := rfl
theorem exec_release (s : State) (port : Src) (p : Fin 32) : exec (.release port p) s = .next (s.withDev (s.dev.heard.hostWrite port (K.PHASE_CMD p) [3])) := rfl
theorem exec_singlePulse (s : State) (port : Src) (p : Fin 32) : exec (.singlePulse port p) s = .next (s.withDev (s.dev.heard.hostWrite port (K.PHASE_CMD p) [4])) := rfl
theorem exec_singlePulseTurnOff (s : State) (p : Fin 32) : exec (.singlePulseTurnOff p) s = .next (s.withDev (s.dev.heard.singlePulseTurnOff p)) := rfl
theorem exec_phaseRailWrite (s : State) (port : Src) (p : Fin 32) (data : List Byte) : exec (.phaseRailWrite port p data) s = .next (s.withDev (s.dev.heard.hostWrite port (K.PHASE_RAIL p) data)) := rfl
theorem exec_phaseStatusRead (s : State) (port : Src) (p : Fin 32) : exec (.phaseStatusRead port p) s = .next (s.withDev (s.dev.heard.hostRead port (K.PHASE_STATUS p))) := rfl
theorem exec_progShadowSel (s : State) (port : Src) (e : Fin 16) (data : List Byte) : exec (.progShadowSel port e data) s = .next (s.withDev (s.dev.heard.hostWrite port (K.PROG_SHADOW_SEL e) data)) := rfl
theorem exec_progImage (s : State) (port : Src) (e : Fin 16) (data : List Byte) : exec (.progImage port e data) s = .next (s.withDev (s.dev.heard.hostWrite port (K.PROG_IMAGE e) data)) := rfl
theorem exec_programCheckDone (s : State) (e : Fin 16) : exec (.programCheckDone e) s = .next (s.withDev (s.dev.heard.checkDone e)) := rfl
theorem exec_progSwapReq (s : State) (port : Src) (e : Fin 16) (data : List Byte) : exec (.progSwapReq port e data) s = .next (s.withDev (s.dev.heard.hostWrite port (K.PROG_SWAP_REQ e) data)) := rfl
theorem exec_bankSwapReq (s : State) (port : Src) (e : Fin 16) : exec (.bankSwapReq port e) s = .next (s.withDev (s.dev.heard.hostWrite port (K.BANK_SWAP_REQ e) [1])) := rfl
theorem exec_bankCopy (s : State) (port : Src) (e : Fin 16) : exec (.bankCopy port e) s = .next (s.withDev (s.dev.heard.hostWrite port (K.BANK_COPY e) [1])) := rfl
theorem exec_coefWrite (s : State) (port : Src) (e : Fin 16) (bankB : Bool) (entry : Fin 257) (data : List Byte) : exec (.coefWrite port e bankB entry data) s = .next (s.withDev (s.dev.heard.hostWrite port (Dev.coefKey e bankB entry) data)) := rfl
theorem exec_libStore (s : State) (port : Src) (data : List Byte) : exec (.libStore port data) s = .next (s.withDev (s.dev.heard.hostWrite port K.LIB_STORE data)) := rfl
theorem exec_libStoreDone (s : State) (ok : Bool) : exec (.libStoreDone ok) s = .next (s.withDev (s.dev.heard.libStoreDone ok)) := rfl
theorem exec_mailboxPost (s : State) (port : Src) (e : Fin 16) : exec (.mailboxPost port e) s = .next (s.withDev (s.dev.heard.hostWrite port (K.MAILBOX_POST e) [1])) := rfl
theorem exec_eccScrub (s : State) (e : Fin 16) (found : EccRead) : exec (.eccScrub e found) s = .next (s.withDev (s.dev.heard.eccScrub e found.corrected found.stall)) := rfl
theorem exec_eccUncorrectable (s : State) (e : Fin 16) (loc : EccLoc) : exec (.eccUncorrectable e loc) s = .next (s.withDev (s.dev.heard.eccUncorrectable e loc)) := rfl
theorem exec_engineReloadDone (s : State) (e : Fin 16) : exec (.engineReloadDone e) s = .next (s.withDev (s.dev.heard.reloadDone e (fun k => Assoc.get objDefault s.dev.heard.activeImage.entries k))) := rfl
theorem exec_engStatusRead (s : State) (port : Src) (e : Fin 16) : exec (.engStatusRead port e) s = .next (s.withDev (s.dev.heard.hostRead port (K.ENG_STATUS e))) := rfl
theorem exec_engCyclesMaxRead (s : State) (port : Src) (e : Fin 16) : exec (.engCyclesMaxRead port e) s = .next (s.withDev (s.dev.heard.hostRead port (K.ENG_CYCLES_MAX e))) := rfl
theorem exec_loopModeWrite (s : State) (port : Src) (n : Fin 8) (data : List Byte) : exec (.loopModeWrite port n data) s = .next (s.withDev (s.dev.heard.hostWrite port (K.LOOP_MODE n) data)) := rfl
theorem exec_policyEntryWrite (s : State) (port : Src) (n : Fin 8) (index : BitVec 16) (sub : BitVec 8) (data : List Byte) : exec (.policyEntryWrite port n index sub data) s = .next (s.withDev (s.dev.heard.hostWrite port (objKey index sub) data)) := rfl
theorem exec_policyHoldWrite (s : State) (port : Src) (n : Fin 8) (data : List Byte) : exec (.policyHoldWrite port n data) s = .next (s.withDev (s.dev.heard.hostWrite port (K.POLICY_HOLD n) data)) := rfl
theorem exec_policyEntryPost (s : State) : exec (.policyEntryPost) s = .next (s.withDev (if s.dev.heard.supRuns then s.dev.heard.policyEntryPost else s.dev.heard)) := rfl
theorem exec_voutCommandWrite (s : State) (port : Src) (n : Fin 8) (data : List Byte) : exec (.voutCommandWrite port n data) s = .next (s.withDev (s.dev.heard.hostWrite port (K.VOUT_COMMAND n) data)) := rfl
theorem exec_marginStateWrite (s : State) (port : Src) (n : Fin 8) (data : List Byte) : exec (.marginStateWrite port n data) s = .next (s.withDev (s.dev.heard.hostWrite port (K.MARGIN_STATE n) data)) := rfl
theorem exec_avsWriteAndCommit (s : State) (sel type : Fin 16) (data : BitVec 16) : exec (.avsWriteAndCommit sel type data) s = .next (s.withDev (s.dev.heard.avsFrame 0 sel type data.toNat)) := rfl
theorem exec_avsWriteAndHold (s : State) (sel type : Fin 16) (data : BitVec 16) : exec (.avsWriteAndHold sel type data) s = .next (s.withDev (s.dev.heard.avsFrame 1 sel type data.toNat)) := rfl
theorem exec_avsTargetVoltage (s : State) (sel : Fin 16) (hold : Bool) (data : BitVec 16) : exec (.avsTargetVoltage sel hold data) s = .next (s.withDev (s.dev.heard.avsFrame (b2n hold) sel 0 data.toNat)) := rfl
theorem exec_avsTransitionRate (s : State) (sel : Fin 16) (hold : Bool) (data : BitVec 16) : exec (.avsTransitionRate sel hold data) s = .next (s.withDev (s.dev.heard.avsFrame (b2n hold) sel 1 data.toNat)) := rfl
theorem exec_avsResetVoltage (s : State) (sel : Fin 16) (hold : Bool) (data : BitVec 16) : exec (.avsResetVoltage sel hold data) s = .next (s.withDev (s.dev.heard.avsFrame (b2n hold) sel 4 data.toNat)) := rfl
theorem exec_avsStatusWrite (s : State) (sel : Fin 16) (hold : Bool) (data : BitVec 16) : exec (.avsStatusWrite sel hold data) s = .next (s.withDev (s.dev.heard.avsFrame (b2n hold) sel 14 data.toNat)) := rfl
theorem exec_avsReadVoltage (s : State) (sel : Fin 16) : exec (.avsReadVoltage sel) s = .next (s.withDev (s.dev.heard.avsFrame 3 sel 0 0)) := rfl
theorem exec_avsReadRate (s : State) (sel : Fin 16) : exec (.avsReadRate sel) s = .next (s.withDev (s.dev.heard.avsFrame 3 sel 1 0)) := rfl
theorem exec_avsReadCurrent (s : State) (sel : Fin 16) : exec (.avsReadCurrent sel) s = .next (s.withDev (s.dev.heard.avsFrame 3 sel 2 0)) := rfl
theorem exec_avsReadTemperature (s : State) (sel : Fin 16) : exec (.avsReadTemperature sel) s = .next (s.withDev (s.dev.heard.avsFrame 3 sel 3 0)) := rfl
theorem exec_avsReadStatus (s : State) (sel : Fin 16) : exec (.avsReadStatus sel) s = .next (s.withDev (s.dev.heard.avsFrame 3 sel 14 0)) := rfl
theorem exec_avsUnsupported (s : State) (cmd : Fin 8) (sel type : Fin 16) : exec (.avsUnsupported cmd sel type) s = .next (s.withDev (s.dev.heard.avsFrame (cmd % 4) sel (if cmd.val ≥ 4 then 16 else type) 0)) := rfl
theorem exec_avsBadCrc (s : State) : exec (.avsBadCrc) s = .next (s.withDev (s.dev.heard.avsBadCrc)) := rfl
theorem exec_avsHeldEntry (s : State) (sel : Fin 16) : exec (.avsHeldEntry sel) s = .next (s.withDev (s.dev.heard.avsHeldEntry sel)) := rfl
theorem exec_lilEnWrite (s : State) (port : Src) (data : List Byte) : exec (.lilEnWrite port data) s = .next (s.withDev (s.dev.heard.hostWrite port K.LIL_EN data)) := rfl
theorem exec_lilUp (s : State) : exec (.lilUp) s = .next (s.withDev (s.dev.heard.lilUp)) := rfl
theorem exec_lilTrainTimeout (s : State) : exec (.lilTrainTimeout) s = .next (s.withDev (s.dev.heard.lilTrainTimeout)) := rfl
theorem exec_lilWordError (s : State) : exec (.lilWordError) s = .next (s.withDev (s.dev.heard.lilWordError)) := rfl
theorem exec_lilLinkDrop (s : State) : exec (.lilLinkDrop) s = .next (s.withDev (s.dev.heard.lilLinkDrop)) := rfl
theorem exec_lilFrame (s : State) (w : BitVec 40) : exec (.lilFrame w) s = .next (s.withDev (s.dev.heard.lilFrame w)) := rfl
theorem exec_intentRetract (s : State) (n : Fin 8) (slot : Fin 8) : exec (.intentRetract n slot) s = .next (s.withDev (s.dev.heard.intentRetract n slot)) := rfl
theorem exec_intentResume (s : State) (port : Src) (n : Fin 8) : exec (.intentResume port n) s = .next (s.withDev (s.dev.heard.hostWrite port (K.INTENT_RESUME n) [1])) := rfl
theorem exec_throttleGraceExpiry (s : State) (n : Fin 8) : exec (.throttleGraceExpiry n) s = .next (s.withDev (s.dev.heard.throttleGrace n)) := rfl
theorem exec_throttleRelease (s : State) : exec (.throttleRelease) s = .next (s.withDev (s.dev.heard.throttleRelease)) := rfl
theorem exec_pfwRelease (s : State) : exec (.pfwRelease) s = .next (s.withDev (s.dev.heard.pfwRelease)) := rfl
theorem exec_rdyAssert (s : State) (n : Fin 8) : exec (.rdyAssert n) s = .next (s.withDev (s.dev.heard.rdyAssert n)) := rfl
theorem exec_qualifyPhase (s : State) (p : Fin 32) (r : QualResult) : exec (.qualifyPhase p r) s = .next (s.withDev (s.dev.heard.qualifyPhase p r)) := rfl
theorem exec_senseTestDue (s : State) (n : Fin 8) : exec (.senseTestDue n) s = .next (s.withDev (s.dev.heard.senseTestDue n)) := rfl
theorem exec_gloveExit (s : State) (n : Fin 8) : exec (.gloveExit n) s = .next (s.withDev (s.dev.heard.gloveExit n)) := rfl
theorem exec_gloveTimerExpiry (s : State) (n : Fin 8) : exec (.gloveTimerExpiry n) s = .next (s.withDev (s.dev.heard.gloveExpiry n)) := rfl
theorem exec_ovTrip (s : State) (n : Fin 8) : exec (.ovTrip n) s = .next (s.withDev (s.dev.heard.ovTrip n)) := rfl
theorem exec_uvTrip (s : State) (n : Fin 8) : exec (.uvTrip n) s = .next (s.withDev (s.dev.heard.uvTrip n)) := rfl
theorem exec_ocTrip (s : State) (n : Fin 8) : exec (.ocTrip n) s = .next (s.withDev (s.dev.heard.ocTrip n)) := rfl
theorem exec_stageOtTrip (s : State) (g : Fin 8) : exec (.stageOtTrip g) s = .next (s.withDev (s.dev.heard.stageOtTrip g)) := rfl
theorem exec_sgOtWarning (s : State) (g : Fin 8) : exec (.sgOtWarning g) s = .next (s.withDev (s.dev.heard.sgOtWarning g)) := rfl
theorem exec_retryEnable (s : State) (n : Fin 8) : exec (.retryEnable n) s = .next (s.withDev (s.dev.heard.retryEnable n)) := rfl
theorem exec_retryCountReset (s : State) (u : Fin 18) : exec (.retryCountReset u) s = .next (s.withDev (s.dev.heard.retryCountReset u)) := rfl
theorem exec_clearFaultsWrite (s : State) (port : Src) (u : Fin 18) : exec (.clearFaultsWrite port u) s = .next (s.withDev (s.dev.heard.hostWrite port (Dev.clearKey u) [1])) := rfl
theorem exec_drain (s : State) (port : Src) (p : Fin 32) : exec (.drain port p) s = .next (s.withDev (s.dev.heard.hostWrite port (K.PHASE_SVC_CMD p) [1])) := rfl
theorem exec_drainForce (s : State) (port : Src) (p : Fin 32) : exec (.drainForce port p) s = .next (s.withDev (s.dev.heard.hostWrite port (K.PHASE_SVC_CMD p) [2])) := rfl
theorem exec_admitPhase (s : State) (port : Src) (p : Fin 32) : exec (.admitPhase port p) s = .next (s.withDev (s.dev.heard.hostWrite port (K.PHASE_SVC_CMD p) [3])) := rfl
theorem exec_groupDrain (s : State) (port : Src) (g : Fin 8) : exec (.groupDrain port g) s = .next (s.withDev (s.dev.heard.hostWrite port (K.GROUP_SVC_CMD g) [1])) := rfl
theorem exec_groupDrainForce (s : State) (port : Src) (g : Fin 8) : exec (.groupDrainForce port g) s = .next (s.withDev (s.dev.heard.hostWrite port (K.GROUP_SVC_CMD g) [2])) := rfl
theorem exec_groupAdmit (s : State) (port : Src) (g : Fin 8) : exec (.groupAdmit port g) s = .next (s.withDev (s.dev.heard.hostWrite port (K.GROUP_SVC_CMD g) [3])) := rfl
theorem exec_autoReadmit (s : State) (p : Fin 32) : exec (.autoReadmit p) s = .next (s.withDev (s.dev.heard.autoReadmit p)) := rfl
theorem exec_wearBitSet (s : State) (p : Fin 32) (bit : Fin 3) : exec (.wearBitSet p bit) s = .next (s.withDev (s.dev.heard.wearBitSet p bit)) := rfl
theorem exec_tempHistMinute (s : State) : exec (.tempHistMinute) s = .next (s.withDev (s.dev.heard.tempHistMinute)) := rfl
theorem exec_wearSnapshot (s : State) : exec (.wearSnapshot) s = .next (s.withDev (s.dev.heard.wearSnapshot)) := rfl
theorem exec_unitEnable (s : State) (port : Src) (u : Fin 18) : exec (.unitEnable port u) s = .next (s.withDev (s.dev.heard.hostWrite port (K.UNIT_ON u) [1])) := rfl
theorem exec_unitDisable (s : State) (port : Src) (u : Fin 18) : exec (.unitDisable port u) s = .next (s.withDev (s.dev.heard.hostWrite port (K.UNIT_ON u) [0])) := rfl
theorem exec_bkVoutCommandWrite (s : State) (port : Src) (b : Fin 6) (data : List Byte) : exec (.bkVoutCommandWrite port b data) s = .next (s.withDev (s.dev.heard.hostWrite port (K.BK_VOUT_COMMAND b) data)) := rfl
theorem exec_buckPeriodStart (s : State) (b : Fin 6) (code : BitVec 12) : exec (.buckPeriodStart b code) s = .next (s.withDev (s.dev.heard.buckPeriodStart b code.toNat)) := rfl
theorem exec_buckTurnOff (s : State) (b : Fin 6) (limit : Bool) (mA : Nat) : exec (.buckTurnOff b limit mA) s = .next (s.withDev (s.dev.heard.buckTurnOff b limit mA)) := rfl
theorem exec_buckVinUv (s : State) : exec (.buckVinUv) s = .next (s.withDev (s.dev.heard.buckVinUv)) := rfl
theorem exec_buckVinResume (s : State) : exec (.buckVinResume) s = .next (s.withDev (s.dev.heard.buckVinResume)) := rfl
theorem exec_bkOcTrip (s : State) (b : Fin 6) : exec (.bkOcTrip b) s = .next (s.withDev (s.dev.heard.bkOcTrip b)) := rfl
theorem exec_bkOvTrip (s : State) (b : Fin 6) : exec (.bkOvTrip b) s = .next (s.withDev (s.dev.heard.bkOvTrip b)) := rfl
theorem exec_bkUvTrip (s : State) (b : Fin 6) : exec (.bkUvTrip b) s = .next (s.withDev (s.dev.heard.bkUvTrip b)) := rfl
theorem exec_bkThermalTrip (s : State) (b : Fin 6) : exec (.bkThermalTrip b) s = .next (s.withDev (s.dev.heard.bkThermalTrip b)) := rfl
theorem exec_bkRetryEnable (s : State) (b : Fin 6) : exec (.bkRetryEnable b) s = .next (s.withDev (s.dev.heard.retryEnable (8 + b))) := rfl
theorem exec_ldoRampDone (s : State) (l : Fin 4) : exec (.ldoRampDone l) s = .next (s.withDev (s.dev.heard.ldoRampDone l)) := rfl
theorem exec_ldoOcTrip (s : State) (l : Fin 4) : exec (.ldoOcTrip l) s = .next (s.withDev (s.dev.heard.ldoOcTrip l)) := rfl
theorem exec_ldoUvTrip (s : State) (l : Fin 4) : exec (.ldoUvTrip l) s = .next (s.withDev (s.dev.heard.ldoUvTrip l)) := rfl
theorem exec_ldoThermalTrip (s : State) (l : Fin 4) : exec (.ldoThermalTrip l) s = .next (s.withDev (s.dev.heard.ldoThermalTrip l)) := rfl
theorem exec_ldoRetryEnable (s : State) (l : Fin 4) : exec (.ldoRetryEnable l) s = .next (s.withDev (s.dev.heard.retryEnable (14 + l))) := rfl
theorem exec_keepRailStart (s : State) (l : Fin 4) : exec (.keepRailStart l) s = .next (s.withDev (s.dev.heard.keepRailStart l)) := rfl
theorem exec_keepRailStop (s : State) (l : Fin 4) : exec (.keepRailStop l) s = .next (s.withDev (s.dev.heard.keepRailStop l)) := rfl
theorem exec_seqNop (s : State) : exec (.seqNop) s = .next (s.withDev (s.dev.heard.seqNop)) := rfl
theorem exec_seqEnable (s : State) : exec (.seqEnable) s = .next (s.withDev (s.dev.heard.seqEnable)) := rfl
theorem exec_seqDisable (s : State) : exec (.seqDisable) s = .next (s.withDev (s.dev.heard.seqDisable)) := rfl
theorem exec_seqSetVout (s : State) : exec (.seqSetVout) s = .next (s.withDev (s.dev.heard.seqSetVout)) := rfl
theorem exec_seqOut (s : State) : exec (.seqOut) s = .next (s.withDev (s.dev.heard.seqOut)) := rfl
theorem exec_seqSignal (s : State) : exec (.seqSignal) s = .next (s.withDev (s.dev.heard.seqSignal)) := rfl
theorem exec_seqStepTimeout (s : State) : exec (.seqStepTimeout) s = .next (s.withDev (s.dev.heard.seqStepTimeout)) := rfl
theorem exec_seqProgramEnd (s : State) : exec (.seqProgramEnd) s = .next (s.withDev (s.dev.heard.seqProgramEnd)) := rfl
theorem exec_powerUp (s : State) (port : Src) : exec (.powerUp port) s = .next (s.withDev (s.dev.heard.hostWrite port K.SEQ_CMD [1])) := rfl
theorem exec_powerDown (s : State) (port : Src) : exec (.powerDown port) s = .next (s.withDev (s.dev.heard.hostWrite port K.SEQ_CMD [2])) := rfl
theorem exec_abort (s : State) (port : Src) : exec (.abort port) s = .next (s.withDev (s.dev.heard.hostWrite port K.SEQ_CMD [3])) := rfl
theorem exec_sqiEdge (s : State) (i : Fin 4) (level : Bool) : exec (.sqiEdge i level) s = .next (s.withDev (s.dev.heard.sqiEdge i level)) := rfl
theorem exec_wmComparatorAssert (s : State) (w : Fin 24) (upper : Bool) (uv : Int) : exec (.wmComparatorAssert w upper uv) s = .next (s.withDev (s.dev.heard.wmAssert w upper uv)) := rfl
theorem exec_wmComparatorRelease (s : State) (w : Fin 24) (upper : Bool) (uv : Int) : exec (.wmComparatorRelease w upper uv) s = .next (s.withDev (s.dev.heard.wmRelease w upper uv)) := rfl
theorem exec_dacSettleEnd (s : State) (w : Fin 24) (upper : Bool) (uv : Int) : exec (.dacSettleEnd w upper uv) s = .next (s.withDev (s.dev.heard.wmSettled w upper uv)) := rfl
theorem exec_wmSampleWindow (s : State) (w : Fin 24) (uv : Int) : exec (.wmSampleWindow w uv) s = .next (s.withDev (s.dev.heard.wmWindow w uv)) := rfl
theorem exec_wmSwap (s : State) (port : Src) (w : Fin 24) : exec (.wmSwap port w) s = .next (s.withDev (s.dev.heard.hostWrite port (K.WM_TEST_CMD w) [1])) := rfl
theorem exec_wmTie (s : State) (port : Src) (w : Fin 24) : exec (.wmTie port w) s = .next (s.withDev (s.dev.heard.hostWrite port (K.WM_TEST_CMD w) [2])) := rfl
theorem exec_wmTestDone (s : State) (w : Fin 24) (uv : Int) (checks : BitVec 12) : exec (.wmTestDone w uv checks) s = .next (s.withDev (s.dev.heard.wmTestDone w uv checks.toNat)) := rfl
theorem exec_pkTestCmd (s : State) (port : Src) (p : Fin 32) (data : List Byte) : exec (.pkTestCmd port p data) s = .next (s.withDev (s.dev.heard.hostWrite port (K.PK_TEST_CMD p) data)) := rfl
theorem exec_pkTestDone (s : State) (p : Fin 32) (high low slope : Bool) (time : BitVec 16) : exec (.pkTestDone p high low slope time) s = .next (s.withDev (s.dev.heard.pkTestDone p high low slope time.toNat)) := rfl
theorem exec_timerClockEdge (s : State) (clocks : Nat) : exec (.timerClockEdge clocks) s = .next (s.withDev (s.dev.heard.timerClockEdge clocks)) := rfl
theorem exec_lfTimerStep (s : State) : exec (.lfTimerStep) s = .next (s.withDev (s.dev.heard.lfTimerStep.timerWake)) := rfl
theorem exec_tmStart (s : State) (port : Src) (t : Fin 16) : exec (.tmStart port t) s = .next (s.withDev (s.dev.heard.hostWrite port (K.TM_CTRL t) [1])) := rfl
theorem exec_tmStop (s : State) (port : Src) (t : Fin 16) : exec (.tmStop port t) s = .next (s.withDev (s.dev.heard.hostWrite port (K.TM_CTRL t) [2])) := rfl
theorem exec_tmReset (s : State) (port : Src) (t : Fin 16) : exec (.tmReset port t) s = .next (s.withDev (s.dev.heard.hostWrite port (K.TM_CTRL t) [3])) := rfl
theorem exec_tmGlobalStart (s : State) (port : Src) (data : List Byte) : exec (.tmGlobalStart port data) s = .next (s.withDev (s.dev.heard.hostWrite port K.TM_GLOBAL_START data)) := rfl
theorem exec_tmGlobalStop (s : State) (port : Src) (data : List Byte) : exec (.tmGlobalStop port data) s = .next (s.withDev (s.dev.heard.hostWrite port K.TM_GLOBAL_STOP data)) := rfl
theorem exec_tmPeriodWrite (s : State) (port : Src) (t : Fin 16) (data : List Byte) : exec (.tmPeriodWrite port t data) s = .next (s.withDev (s.dev.heard.hostWrite port (K.TM_PERIOD t) data)) := rfl
theorem exec_tmCompareWrite (s : State) (port : Src) (t : Fin 16) (data : List Byte) : exec (.tmCompareWrite port t data) s = .next (s.withDev (s.dev.heard.hostWrite port (K.TM_COMPARE t) data)) := rfl
theorem exec_tmCaptureRead (s : State) (port : Src) (t : Fin 16) : exec (.tmCaptureRead port t) s = .next (s.withDev (s.dev.heard.hostRead port (K.TM_CAPTURE t))) := rfl
theorem exec_tmStatusRead (s : State) (port : Src) (t : Fin 16) : exec (.tmStatusRead port t) s = .next (s.withDev (s.dev.heard.hostRead port (K.TM_STATUS t))) := rfl
theorem exec_eventDispatch (s : State) : exec (.eventDispatch) s = .next (s.withDev (s.dev.heard.eventDispatch)) := rfl
theorem exec_eventLoss (s : State) : exec (.eventLoss) s = .next (s.withDev (s.dev.heard.eventLoss)) := rfl
theorem exec_intAck (s : State) (port : Src) (line : Fin 4) (data : List Byte) : exec (.intAck port line data) s = .next (s.withDev (s.dev.heard.hostWrite port (K.INT_ACK line) data)) := rfl
theorem exec_evTest (s : State) (port : Src) (data : List Byte) : exec (.evTest port data) s = .next (s.withDev (s.dev.heard.hostWrite port K.EV_TEST data)) := rfl
theorem exec_inputConverterStart (s : State) : exec (.inputConverterStart) s = .next (s.withDev (s.dev.heard.convStart)) := rfl
theorem exec_inputConverterStop (s : State) : exec (.inputConverterStop) s = .next (s.withDev (s.dev.heard.convStop)) := rfl
theorem exec_vinPresentChange (s : State) (present : Bool) : exec (.vinPresentChange present) s = .next (s.withDev (s.dev.heard.vinPresent present)) := rfl
theorem exec_ppReturn (s : State) : exec (.ppReturn) s = .next (s.withDev (s.dev.heard.ppReturn)) := rfl
theorem exec_dischOc (s : State) : exec (.dischOc) s = .next (s.withDev (s.dev.heard.dischOc)) := rfl
theorem exec_chgEnWrite (s : State) (port : Src) (data : List Byte) : exec (.chgEnWrite port data) s = .next (s.withDev (s.dev.heard.hostWrite port K.CHG_EN data)) := rfl
theorem exec_chgChemWrite (s : State) (port : Src) (data : List Byte) : exec (.chgChemWrite port data) s = .next (s.withDev (s.dev.heard.hostWrite port K.CHG_CHEM data)) := rfl
theorem exec_chgPrechargeDone (s : State) : exec (.chgPrechargeDone) s = .next (s.withDev (s.dev.heard.chgPrechargeDone)) := rfl
theorem exec_chgCvEntry (s : State) : exec (.chgCvEntry) s = .next (s.withDev (s.dev.heard.chgCvEntry)) := rfl
theorem exec_chgTermination (s : State) : exec (.chgTermination) s = .next (s.withDev (s.dev.heard.chgTermination)) := rfl
theorem exec_chgPreTimeout (s : State) : exec (.chgPreTimeout) s = .next (s.withDev (s.dev.heard.chgPreTimeout)) := rfl
theorem exec_chgSafetyTimeout (s : State) : exec (.chgSafetyTimeout) s = .next (s.withDev (s.dev.heard.chgSafetyTimeout)) := rfl
theorem exec_chgRecharge (s : State) : exec (.chgRecharge) s = .next (s.withDev (s.dev.heard.chgRecharge)) := rfl
theorem exec_tsZoneChange (s : State) (zone : Fin 5) : exec (.tsZoneChange zone) s = .next (s.withDev (s.dev.heard.tsZone zone)) := rfl
theorem exec_batOv (s : State) : exec (.batOv) s = .next (s.withDev (s.dev.heard.batOv)) := rfl
theorem exec_tsShort (s : State) : exec (.tsShort) s = .next (s.withDev (s.dev.heard.tsShort)) := rfl
theorem exec_vinOv (s : State) : exec (.vinOv) s = .next (s.withDev (s.dev.heard.vinOv)) := rfl
theorem exec_chgThermal (s : State) : exec (.chgThermal) s = .next (s.withDev (s.dev.heard.chgThermal)) := rfl
theorem exec_dischHot (s : State) : exec (.dischHot) s = .next (s.withDev (s.dev.heard.dischHot)) := rfl
theorem exec_batUv (s : State) : exec (.batUv) s = .next (s.withDev (s.dev.heard.batUv)) := rfl
theorem exec_chgFaultRead (s : State) (port : Src) : exec (.chgFaultRead port) s = .next (s.withDev (s.dev.heard.hostRead port K.CHG_FAULT)) := rfl
theorem exec_batteryRemoval (s : State) (byBat : Bool) : exec (.batteryRemoval byBat) s = .next (s.withDev (s.dev.heard.batteryRemoval byBat)) := rfl
theorem exec_batteryPresent (s : State) : exec (.batteryPresent) s = .next (s.withDev (s.dev.heard.batteryPresent)) := rfl
theorem exec_accShort (s : State) : exec (.accShort) s = .next (s.withDev (s.dev.heard.accShort)) := rfl
theorem exec_accRetry (s : State) : exec (.accRetry) s = .next (s.withDev (s.dev.heard.accRetry)) := rfl
theorem exec_accRestart (s : State) (port : Src) : exec (.accRestart port) s = .next (s.withDev (s.dev.heard.hostWrite port K.ACC_RESTART [1])) := rfl
theorem exec_btnPress (s : State) : exec (.btnPress) s = .next (s.withDev (s.dev.heard.btnPress)) := rfl
theorem exec_btnRelease (s : State) : exec (.btnRelease) s = .next (s.withDev (s.dev.heard.btnRelease)) := rfl
theorem exec_btnLongWarning (s : State) : exec (.btnLongWarning) s = .next (s.withDev (s.dev.heard.btnWarn)) := rfl
theorem exec_longPressReset (s : State) : exec (.longPressReset) s = .next (s.withDev (s.dev.heard.longPressReset)) := rfl
theorem exec_shipCmd (s : State) (port : Src) (data : List Byte) : exec (.shipCmd port data) s = .next (s.withDev (s.dev.heard.hostWrite port K.SHIP_CMD data)) := rfl
theorem exec_shipEntry (s : State) : exec (.shipEntry) s = .next (s.withDev (s.dev.heard.shipEntry)) := rfl
theorem exec_shipExit (s : State) : exec (.shipExit) s = .next (s.withDev (s.dev.heard.shipExit)) := rfl
theorem exec_shipStatusRead (s : State) (port : Src) : exec (.shipStatusRead port) s = .next (s.withDev (s.dev.heard.hostRead port K.SHIP_STATUS)) := rfl
theorem exec_pmbPage (s : State) (x : TwFrame) (data : Option Byte) : exec (.pmbPage x data) s = .next (s.withDev (s.dev.heard.pmbByte x 0x00 (Dev.pageKey x.port) data)) := rfl
theorem exec_pmbOperation (s : State) (x : TwFrame) (data : Option Byte) : exec (.pmbOperation x data) s = .next (s.withDev (s.dev.heard.pmbOperation x data)) := rfl
theorem exec_pmbOperationMargin (s : State) (x : TwFrame) (data : Byte) : exec (.pmbOperationMargin x data) s = .next (s.withDev (s.dev.heard.pmbOperate x data)) := rfl
theorem exec_pmbOnOffConfig (s : State) (x : TwFrame) : exec (.pmbOnOffConfig x) s = .next (s.withDev (s.dev.heard.pmbPaged x 0x02 1 K.UNIT_ON (fun _ d => ([0x18], d)))) := rfl
theorem exec_pmbClearFaults (s : State) (x : TwFrame) : exec (.pmbClearFaults x) s = .next (s.withDev (s.dev.heard.pmbClearFaults x)) := rfl
theorem exec_pmbWriteProtect (s : State) (x : TwFrame) (data : Option Byte) : exec (.pmbWriteProtect x data) s = .next (s.withDev (s.dev.heard.pmbByte x 0x10 K.PMB_WRITE_PROTECT data)) := rfl
theorem exec_pmbStoreUserAll (s : State) (x : TwFrame) : exec (.pmbStoreUserAll x) s = .next (s.withDev (s.dev.heard.pmbWrite x 0x15 [] (fun d => d.pmbSet x.port.src K.STORE_PARAMETERS (leBytes 4 (0x65766173 : Nat))))) := rfl
theorem exec_pmbRestoreUserAll (s : State) (x : TwFrame) : exec (.pmbRestoreUserAll x) s = .next (s.withDev (s.dev.heard.pmbWrite x 0x16 [] (fun d => d.pmbSet x.port.src K.RESTORE_DEFAULT_PARAMETERS (leBytes 4 (0x64616F6C : Nat))))) := rfl
theorem exec_pmbCapability (s : State) (x : TwFrame) : exec (.pmbCapability x) s = .next (s.withDev (s.dev.heard.pmbConst x 0x19 [0xD4])) := rfl
theorem exec_pmbVoutMode (s : State) (x : TwFrame) : exec (.pmbVoutMode x) s = .next (s.withDev (s.dev.heard.pmbPaged x 0x20 1 K.UNIT_ON (fun _ d => ([0x14], d)))) := rfl
theorem exec_pmbVoutCommand (s : State) (x : TwFrame) (data : Option (BitVec 16)) : exec (.pmbVoutCommand x data) s = .next (s.withDev (s.dev.heard.pmbWord x 0x21 (Dev.measKey K.VOUT_COMMAND K.BK_VOUT_COMMAND K.LDO_VOUT K.VOUT_COMMAND) data)) := rfl
theorem exec_pmbVoutMax (s : State) (x : TwFrame) (data : Option (BitVec 16)) : exec (.pmbVoutMax x data) s = .next (s.withDev (s.dev.heard.pmbWord x 0x24 K.VOUT_MAX data)) := rfl
theorem exec_pmbVoutMarginHigh (s : State) (x : TwFrame) (data : Option (BitVec 16)) : exec (.pmbVoutMarginHigh x data) s = .next (s.withDev (s.dev.heard.pmbWord x 0x25 K.VOUT_MARGIN_HIGH data)) := rfl
theorem exec_pmbVoutMarginLow (s : State) (x : TwFrame) (data : Option (BitVec 16)) : exec (.pmbVoutMarginLow x data) s = .next (s.withDev (s.dev.heard.pmbWord x 0x26 K.VOUT_MARGIN_LOW data)) := rfl
theorem exec_pmbVoutTransitionRate (s : State) (x : TwFrame) (data : Option (BitVec 16)) : exec (.pmbVoutTransitionRate x data) s = .next (s.withDev (s.dev.heard.pmbLinear x 0x27 100 (Dev.measKey K.VOUT_TRANSITION_RATE K.BK_SLEW K.BK_SLEW K.BK_SLEW) data)) := rfl
theorem exec_pmbVoutMin (s : State) (x : TwFrame) (data : Option (BitVec 16)) : exec (.pmbVoutMin x data) s = .next (s.withDev (s.dev.heard.pmbWord x 0x2B K.VOUT_MIN data)) := rfl
theorem exec_pmbVoutOvFaultLimit (s : State) (x : TwFrame) (data : Option (BitVec 16)) : exec (.pmbVoutOvFaultLimit x data) s = .next (s.withDev (s.dev.heard.pmbWord x 0x40 K.VOUT_OV_FAULT_LIMIT data)) := rfl
theorem exec_pmbVoutUvFaultLimit (s : State) (x : TwFrame) (data : Option (BitVec 16)) : exec (.pmbVoutUvFaultLimit x data) s = .next (s.withDev (s.dev.heard.pmbWord x 0x44 K.VOUT_UV_FAULT_LIMIT data)) := rfl
theorem exec_pmbIoutOcFaultLimit (s : State) (x : TwFrame) (data : Option (BitVec 16)) : exec (.pmbIoutOcFaultLimit x data) s = .next (s.withDev (s.dev.heard.pmbLinear x 0x46 16 K.IOUT_OC_FAULT_LIMIT data)) := rfl
theorem exec_pmbStatusByte (s : State) (x : TwFrame) : exec (.pmbStatusByte x) s = .next (s.withDev (s.dev.heard.pmbStatusWord x 0x78 1)) := rfl
theorem exec_pmbStatusWord (s : State) (x : TwFrame) : exec (.pmbStatusWord x) s = .next (s.withDev (s.dev.heard.pmbStatusWord x 0x79 2)) := rfl
theorem exec_pmbStatusVout (s : State) (x : TwFrame) (data : Option Byte) : exec (.pmbStatusVout x data) s = .next (s.withDev (s.dev.heard.pmbStatus x 0x7A .vout data)) := rfl
theorem exec_pmbStatusIout (s : State) (x : TwFrame) (data : Option Byte) : exec (.pmbStatusIout x data) s = .next (s.withDev (s.dev.heard.pmbStatus x 0x7B .iout data)) := rfl
theorem exec_pmbStatusInput (s : State) (x : TwFrame) (data : Option Byte) : exec (.pmbStatusInput x data) s = .next (s.withDev (s.dev.heard.pmbStatus x 0x7C .inp data)) := rfl
theorem exec_pmbStatusTemperature (s : State) (x : TwFrame) (data : Option Byte) : exec (.pmbStatusTemperature x data) s = .next (s.withDev (s.dev.heard.pmbStatus x 0x7D .temp data)) := rfl
theorem exec_pmbStatusCml (s : State) (x : TwFrame) (data : Option Byte) : exec (.pmbStatusCml x data) s = .next (s.withDev (s.dev.heard.pmbStatusCml x data)) := rfl
theorem exec_pmbStatusMfrSpecific (s : State) (x : TwFrame) (data : Option Byte) : exec (.pmbStatusMfrSpecific x data) s = .next (s.withDev (s.dev.heard.pmbStatus x 0x80 .mfr data)) := rfl
theorem exec_pmbReadVin (s : State) (x : TwFrame) : exec (.pmbReadVin x) s = .next (s.withDev (s.dev.heard.pmbReadVin x)) := rfl
theorem exec_pmbReadVout (s : State) (x : TwFrame) : exec (.pmbReadVout x) s = .next (s.withDev (s.dev.heard.pmbReadVout x)) := rfl
theorem exec_pmbReadIout (s : State) (x : TwFrame) : exec (.pmbReadIout x) s = .next (s.withDev (s.dev.heard.pmbReadIout x)) := rfl
theorem exec_pmbReadTemperature1 (s : State) (x : TwFrame) : exec (.pmbReadTemperature1 x) s = .next (s.withDev (s.dev.heard.pmbReadTemperature x)) := rfl
theorem exec_pmbRevision (s : State) (x : TwFrame) : exec (.pmbRevision x) s = .next (s.withDev (s.dev.heard.pmbConst x 0x98 [0x33])) := rfl
theorem exec_pmbMfrId (s : State) (x : TwFrame) : exec (.pmbMfrId x) s = .next (s.withDev (s.dev.heard.pmbConst x 0x99 (Dev.block [0x53, 0x4F, 0x52, 0x41, 0x45, 0x4C]))) := rfl
theorem exec_pmbMfrModel (s : State) (x : TwFrame) : exec (.pmbMfrModel x) s = .next (s.withDev (s.dev.heard.pmbConst x 0x9A (Dev.block [0x43, 0x50, 0x4C, 0x34, 0x38, 0x33, 0x32]))) := rfl
theorem exec_pmbMfrRevision (s : State) (x : TwFrame) : exec (.pmbMfrRevision x) s = .next (s.withDev (s.dev.heard.pmbConst x 0x9B (Dev.block [0x42, 0x31]))) := rfl
theorem exec_objSelect (s : State) (x : TwFrame) (data : List Byte) : exec (.objSelect x data) s = .next (s.withDev (s.dev.heard.objSelect x data)) := rfl
theorem exec_objData (s : State) (x : TwFrame) (data : Option (List Byte)) : exec (.objData x data) s = .next (s.withDev (s.dev.heard.meeting (if data.isSome then [] else x.flaws) (fun d => d.objData x data))) := rfl
theorem exec_objResult (s : State) (x : TwFrame) : exec (.objResult x) s = .next (s.withDev (s.dev.heard.objResult x)) := rfl
theorem exec_bulkAccess (s : State) (write : Bool) (ptr : BitVec 16) (data : List Byte) (n : BulkGet) : exec (.bulkAccess write ptr data n) s = .next (s.withDev (s.dev.heard.meeting n.flaws (fun d => d.bulkAccess write ptr.toNat data n.bytes))) := rfl
theorem exec_quickCommand (s : State) (t : TwPort) : exec (.quickCommand t) s = .next (s.withDev (s.dev.heard.quickCommand t)) := rfl
theorem exec_alertResponse (s : State) (read : AlertRead) : exec (.alertResponse read) s = .next (s.withDev (s.dev.heard.alertResponse read.won read.pec)) := rfl
theorem exec_targetTimeout (s : State) (t : TwPort) : exec (.targetTimeout t) s = .next (s.withDev (s.dev.heard.targetTimeout t)) := rfl
theorem exec_unexpectedStart (s : State) (t : TwPort) : exec (.unexpectedStart t) s = .next (s.withDev (s.dev.heard.unexpectedStart t)) := rfl
theorem exec_pmbXfer (s : State) (port : Src) (data : List Byte) : exec (.pmbXfer port data) s = .next (s.withDev (s.dev.heard.hostWrite port K.PMB_XFER data)) := rfl
theorem exec_lbXfer (s : State) (port : Src) (data : List Byte) : exec (.lbXfer port data) s = .next (s.withDev (s.dev.heard.hostWrite port K.LB_XFER data)) := rfl
theorem exec_xferComplete (s : State) (lb : Bool) (status : BitVec 8) (data : List Byte) : exec (.xferComplete lb status data) s = .next (s.withDev (s.dev.heard.xferComplete lb status.toNat data)) := rfl
theorem exec_arbitrationLost (s : State) (lb : Bool) (own : Bool) : exec (.arbitrationLost lb own) s = .next (s.withDev (s.dev.heard.arbitrationLost lb own)) := rfl
theorem exec_busError (s : State) (lb : Bool) : exec (.busError lb) s = .next (s.withDev (s.dev.heard.busError lb)) := rfl
theorem exec_controllerTimeout (s : State) (lb : Bool) : exec (.controllerTimeout lb) s = .next (s.withDev (s.dev.heard.controllerTimeout lb)) := rfl
theorem exec_busRecovery (s : State) (lb : Bool) (freed : Bool) (sclLow : Bool) : exec (.busRecovery lb freed sclLow) s = .next (s.withDev (s.dev.heard.busRecovery lb freed sclLow)) := rfl
theorem exec_stageStatusRead (s : State) (p : Fin 32) (answer : StageAnswer) : exec (.stageStatusRead p answer) s = .next (s.withDev (s.dev.heard.stageStatusRead p answer)) := rfl
theorem exec_lbAlertService (s : State) (served : List (BitVec 7 × BitVec 16)) (released : Bool) : exec (.lbAlertService served released) s = .next (s.withDev (s.dev.heard.lbAlertService served released)) := rfl
theorem exec_bulkWrite (s : State) (ptr : BitVec 16) (data : List Byte) : exec (.bulkWrite ptr data) s = .next (s.withDev (s.dev.heard.bulkWrite ptr.toNat data)) := rfl
theorem exec_bulkRead (s : State) (n : BulkGet) : exec (.bulkRead n) s = .next (s.withDev (s.dev.heard.meeting n.flaws (fun d => d.bulkRead n.bytes))) := rfl
theorem exec_bulkWindowWrite (s : State) (port : Src) (sub : Fin 256) (data : List Byte) : exec (.bulkWindowWrite port sub data) s = .next (s.withDev (s.dev.heard.hostWrite port (0x2E60*256+sub) data)) := rfl
theorem exec_bulkObjectWrite (s : State) (port : Src) (sub : Fin 256) (data : List Byte) : exec (.bulkObjectWrite port sub data) s = .next (s.withDev (s.dev.heard.hostWrite port (0x2E61*256+sub) data)) := rfl
theorem exec_bulkLoad (s : State) (port : Src) (sub : Fin 256) (data : List Byte) : exec (.bulkLoad port sub data) s = .next (s.withDev (s.dev.heard.hostWrite port (0x2E63*256+sub) data)) := rfl
theorem exec_nmtStart (s : State) (f : CanFrame) (node : BitVec 8) : exec (.nmtStart f node) s = .next (s.withDev (s.dev.heard.onCan f (fun d => d.nmtStart f.bus node))) := rfl
theorem exec_nmtStop (s : State) (f : CanFrame) (node : BitVec 8) : exec (.nmtStop f node) s = .next (s.withDev (s.dev.heard.onCan f (fun d => d.nmtStop f.bus node))) := rfl
theorem exec_nmtEnterPreOperational (s : State) (f : CanFrame) (node : BitVec 8) : exec (.nmtEnterPreOperational f node) s = .next (s.withDev (s.dev.heard.onCan f (fun d => d.nmtPreOp f.bus node))) := rfl
theorem exec_nmtResetNode (s : State) (f : CanFrame) (node : BitVec 8) : exec (.nmtResetNode f node) s = .next (s.withDev (s.dev.heard.onCan f (fun d => d.nmtResetNode f.bus node))) := rfl
theorem exec_nmtResetCommunication (s : State) (f : CanFrame) (node : BitVec 8) : exec (.nmtResetCommunication f node) s = .next (s.withDev (s.dev.heard.onCan f (fun d => d.nmtResetComm f.bus node))) := rfl
theorem exec_heartbeatProduce (s : State) : exec (.heartbeatProduce) s = .next (s.withDev (s.dev.heard.heartbeatProduce)) := rfl
theorem exec_heartbeatReceived (s : State) (f : CanFrame) (node : BitVec 8) : exec (.heartbeatReceived f node) s = .next (s.withDev (s.dev.heard.onCan f (fun d => d.heartbeatReceived f.bus node))) := rfl
theorem exec_heartbeatTimeout (s : State) (i : Fin 4) : exec (.heartbeatTimeout i) s = .next (s.withDev (s.dev.heard.heartbeatTimeout i)) := rfl
theorem exec_sdoInitiateDownload (s : State) (f : SdoFrame) (index : BitVec 16) (sub : BitVec 8) (expedited : Bool) (size : Option Nat) (data : List Byte) : exec (.sdoInitiateDownload f index sub expedited size data) s = .next (s.withDev (s.dev.heard.onSdo f (fun d => d.sdoInitDown f.bus (objKey index sub) expedited size data))) := rfl
theorem exec_sdoDownloadSegment (s : State) (f : SdoFrame) (toggle last : Bool) (data : List Byte) : exec (.sdoDownloadSegment f toggle last data) s = .next (s.withDev (s.dev.heard.onSdo f (fun d => d.sdoDownSegment f.bus toggle last data))) := rfl
theorem exec_sdoInitiateUpload (s : State) (f : SdoFrame) (index : BitVec 16) (sub : BitVec 8) : exec (.sdoInitiateUpload f index sub) s = .next (s.withDev (s.dev.heard.meeting f.flaws (fun d => d.onSdo f (fun d => d.sdoInitUp f.bus (objKey index sub))))) := rfl
theorem exec_sdoUploadSegment (s : State) (f : SdoFrame) (toggle : Bool) : exec (.sdoUploadSegment f toggle) s = .next (s.withDev (s.dev.heard.onSdo f (fun d => d.sdoUpSegment f.bus toggle))) := rfl
theorem exec_sdoAbortTransfer (s : State) (f : CanFrame) : exec (.sdoAbortTransfer f) s = .next (s.withDev (s.dev.heard.onCan f (fun d => d.sdoClientAbort f.bus))) := rfl
theorem exec_sdoTimeout (s : State) (b : Bus) : exec (.sdoTimeout b) s = .next (s.withDev (s.dev.heard.sdoTimeout b)) := rfl
theorem exec_rpdo (s : State) (f : CanFrame) (r : Fin 4) (data : List Byte) : exec (.rpdo f r data) s = .next (s.withDev (s.dev.heard.onCan f (fun d => d.rpdo f.bus r data))) := rfl
theorem exec_tpdoEventTimer (s : State) (r : Fin 4) : exec (.tpdoEventTimer r) s = .next (s.withDev (s.dev.heard.tpdoTimer r)) := rfl
theorem exec_tpdoInhibitEnd (s : State) (r : Fin 4) : exec (.tpdoInhibitEnd r) s = .next (s.withDev (s.dev.heard.tpdoInhibitEnd r)) := rfl
theorem exec_emcyTransmit (s : State) : exec (.emcyTransmit) s = .next (s.withDev (s.dev.heard.emcyTransmit)) := rfl
theorem exec_storeParameters (s : State) (port : Src) (data : List Byte) : exec (.storeParameters port data) s = .next (s.withDev (s.dev.heard.hostWrite port K.STORE_PARAMETERS data)) := rfl
theorem exec_restoreDefaultParameters (s : State) (port : Src) (data : List Byte) : exec (.restoreDefaultParameters port data) s = .next (s.withDev (s.dev.heard.hostWrite port K.RESTORE_DEFAULT_PARAMETERS data)) := rfl
theorem exec_errorHistoryClear (s : State) (port : Src) : exec (.errorHistoryClear port) s = .next (s.withDev (s.dev.heard.hostWrite port K.ERROR_HISTORY_COUNT [0])) := rfl
theorem exec_canErrorPassive (s : State) (b : Bus) : exec (.canErrorPassive b) s = .next (s.withDev (s.dev.heard.canErrorPassive b)) := rfl
theorem exec_canBusOff (s : State) (b : Bus) : exec (.canBusOff b) s = .next (s.withDev (s.dev.heard.canBusOff b)) := rfl
theorem exec_canBusoffRecovery (s : State) (b : Bus) : exec (.canBusoffRecovery b) s = .next (s.withDev (s.dev.heard.canRecovery b)) := rfl
theorem exec_canRxOverrun (s : State) (b : Bus) : exec (.canRxOverrun b) s = .next (s.withDev (s.dev.heard.canRxOverrun b)) := rfl
theorem exec_canTxTimeout (s : State) (b : Bus) : exec (.canTxTimeout b) s = .next (s.withDev (s.dev.heard.canTxTimeout b)) := rfl
theorem exec_nodeIdConflict (s : State) (b : Bus) : exec (.nodeIdConflict b) s = .next (s.withDev (s.dev.heard.nodeIdConflict b)) := rfl
theorem exec_idConflictResume (s : State) (b : Bus) : exec (.idConflictResume b) s = .next (s.withDev (s.dev.heard.idConflictResume b)) := rfl
theorem exec_activeBusSwitch (s : State) : exec (.activeBusSwitch) s = .next (s.withDev (s.dev.heard.activeBusSwitch)) := rfl
theorem exec_bxtReadStart (s : State) (f : CanFrame) (tag kind unit : BitVec 8) (index block : BitVec 16) (off len : BitVec 32) : exec (.bxtReadStart f tag kind unit index block off len) s = .next (s.withDev (s.dev.heard.meeting f.flaws (fun d => d.onCan f (fun d => d.bxtReadStart f.bus tag.toNat kind.toNat unit.toNat index.toNat block.toNat off.toNat len.toNat)))) := rfl
theorem exec_bxtWriteStart (s : State) (f : CanFrame) (tag kind unit : BitVec 8) (index block : BitVec 16) (off len : BitVec 32) : exec (.bxtWriteStart f tag kind unit index block off len) s = .next (s.withDev (s.dev.heard.onCan f (fun d => d.bxtWriteStart f.bus tag.toNat kind.toNat unit.toNat index.toNat block.toNat off.toNat len.toNat))) := rfl
theorem exec_bxtContinue (s : State) (f : CanFrame) (tag : BitVec 8) (ctr : BitVec 16) : exec (.bxtContinue f tag ctr) s = .next (s.withDev (s.dev.heard.onCan f (fun d => d.bxtContinue f.bus tag.toNat ctr.toNat))) := rfl
theorem exec_bxtDataFrame (s : State) (f : CanFrame) (tag : BitVec 8) (ctr : BitVec 16) (data : List Byte) : exec (.bxtDataFrame f tag ctr data) s = .next (s.withDev (s.dev.heard.onCan f (fun d => d.bxtDataFrame f.bus tag.toNat ctr.toNat data))) := rfl
theorem exec_bxtCommit (s : State) (f : CanFrame) (tag : BitVec 8) (len crc : BitVec 32) : exec (.bxtCommit f tag len crc) s = .next (s.withDev (s.dev.heard.onCan f (fun d => d.bxtCommit f.bus tag.toNat len.toNat crc.toNat))) := rfl
theorem exec_bxtAbort (s : State) (f : CanFrame) (tag : BitVec 8) : exec (.bxtAbort f tag) s = .next (s.withDev (s.dev.heard.onCan f (fun d => d.bxtHostAbort f.bus tag.toNat))) := rfl
theorem exec_bxtTimeout (s : State) (b : Bus) : exec (.bxtTimeout b) s = .next (s.withDev (s.dev.heard.bxtTimeout b)) := rfl
theorem exec_opQueryOsn (s : State) (port : Src) (data : List Byte) : exec (.opQueryOsn port data) s = .next (s.withDev (s.dev.heard.hostWrite port K.OP_QUERY_OSN data)) := rfl
theorem exec_objectWrite (s : State) (port : Src) (index : BitVec 16) (sub : BitVec 8) (data : List Byte) : exec (.objectWrite port index sub data) s = .next (s.withDev (s.dev.heard.hostWrite port (objKey index sub) data)) := rfl
theorem exec_logRecordWrite (s : State) (ok : Bool) : exec (.logRecordWrite ok) s = .next (s.withDev (s.dev.heard.logRecordWrite ok)) := rfl
theorem exec_logWindowRead (s : State) (port : Src) (ecc : Bool) : exec (.logWindowRead port ecc) s = .next (s.withDev (s.dev.heard.meeting (if ecc then [0] else []) (fun d => d.hostRead port (K.LOG_WINDOW port.ownIx)))) := rfl
theorem exec_logSeekEsn (s : State) (port : Src) (data : List Byte) : exec (.logSeekEsn port data) s = .next (s.withDev (s.dev.heard.hostWrite port (K.LOG_SEEK_ESN (port.ownIx)) data)) := rfl
theorem exec_logTimeMark (s : State) (port : Src) (data : List Byte) : exec (.logTimeMark port data) s = .next (s.withDev (s.dev.heard.hostWrite port K.LOG_TIME_MARK data)) := rfl
theorem exec_logClear (s : State) (port : Src) (data : List Byte) : exec (.logClear port data) s = .next (s.withDev (s.dev.heard.hostWrite port K.LOG_CLEAR data)) := rfl
theorem exec_logClearDone (s : State) : exec (.logClearDone) s = .next (s.withDev (s.dev.heard.logCleared)) := rfl
theorem exec_economyExit (s : State) : exec (.economyExit) s = .next (s.withDev (s.dev.heard.economyExit)) := rfl
theorem exec_domeCmd (s : State) (port : Src) (data : List Byte) : exec (.domeCmd port data) s = .next (s.withDev (s.dev.heard.hostWrite port K.DOME_CMD data)) := rfl
theorem exec_keepDomeTimeout (s : State) : exec (.keepDomeTimeout) s = .next (s.withDev (s.dev.heard.keepDomeTimeout)) := rfl
theorem exec_domeWake (s : State) (cause : WakeCause) : exec (.domeWake cause) s = .next (s.withDev (s.dev.heard.domeWake cause)) := rfl
theorem exec_powerOnReset (s : State) : exec (.powerOnReset) s = .next (s.withDev (s.dev.heard.powerOnReset)) := rfl
theorem exec_coreBrownOut (s : State) (sys : Bool) : exec (.coreBrownOut sys) s = .next (s.withDev (s.dev.heard.coreBrownOut sys)) := rfl
theorem exec_resetPin (s : State) : exec (.resetPin) s = .next (s.withDev (s.dev.heard.resetPin)) := rfl
theorem exec_supervisorWatchdog (s : State) (detail : Fin 3) : exec (.supervisorWatchdog detail) s = .next (s.withDev (s.dev.heard.supervisorWatchdog detail)) := rfl
theorem exec_softReset (s : State) (port : Src) (data : List Byte) : exec (.softReset port data) s = .next (s.withDev (s.dev.heard.hostWrite port K.SOFT_RESET data)) := rfl
theorem exec_boot (s : State) (x : BootInputs) : exec (.boot x) s = .next (s.withDev (s.dev.heard.bootDevice x)) := rfl
theorem exec_supervisorResume (s : State) : exec (.supervisorResume) s = .next (s.withDev (s.dev.heard.supervisorResume)) := rfl
theorem exec_storeDone (s : State) (verified : Bool) : exec (.storeDone verified) s = .next (s.withDev (s.dev.heard.storeDone verified)) := rfl
theorem exec_restoreDone (s : State) : exec (.restoreDone) s = .next (s.withDev (s.dev.heard.restoreDone)) := rfl
theorem exec_factorySettings (s : State) (port : Src) (data : List Byte) : exec (.factorySettings port data) s = .next (s.withDev (s.dev.heard.hostWrite port K.FACTORY_SETTINGS data)) := rfl
theorem exec_fwErase (s : State) (port : Src) (data : List Byte) : exec (.fwErase port data) s = .next (s.withDev (s.dev.heard.hostWrite port K.FW_ERASE data)) := rfl
theorem exec_fwEraseDone (s : State) : exec (.fwEraseDone) s = .next (s.withDev (s.dev.heard.fwEraseDone)) := rfl
theorem exec_fwWrite (s : State) (port : Src) (data : List Byte) : exec (.fwWrite port data) s = .next (s.withDev (s.dev.heard.hostWrite port K.FW_WRITE data)) := rfl
theorem exec_fwVerify (s : State) (port : Src) (data : List Byte) : exec (.fwVerify port data) s = .next (s.withDev (s.dev.heard.hostWrite port K.FW_VERIFY data)) := rfl
theorem exec_fwVerifyDone (s : State) : exec (.fwVerifyDone) s = .next (s.withDev (s.dev.heard.fwVerifyDone)) := rfl
theorem exec_fwSwitch (s : State) (port : Src) (data : List Byte) : exec (.fwSwitch port data) s = .next (s.withDev (s.dev.heard.hostWrite port K.FW_SWITCH data)) := rfl
theorem exec_fwStart (s : State) (ok : Bool) (gapUs : Nat) : exec (.fwStart ok gapUs) s = .next (s.withDev (s.dev.heard.fwStart ok gapUs)) := rfl
theorem exec_fwConfirm (s : State) (port : Src) (data : List Byte) : exec (.fwConfirm port data) s = .next (s.withDev (s.dev.heard.hostWrite port K.FW_CONFIRM data)) := rfl
theorem exec_fwAutoConfirm (s : State) : exec (.fwAutoConfirm) s = .next (s.withDev (s.dev.heard.fwAutoConfirm)) := rfl
theorem exec_authNonceRead (s : State) (port : Src) : exec (.authNonceRead port) s = .next (s.withDev (s.dev.heard.hostRead port (K.AUTH_NONCE port.ownIx))) := rfl
theorem exec_authResponse (s : State) (port : Src) (data : List Byte) : exec (.authResponse port data) s = .next (s.withDev (s.dev.heard.hostWrite port (K.AUTH_RESPONSE port.ownIx) data)) := rfl
theorem exec_authPasswordEntry (s : State) (port : Src) (data : List Byte) : exec (.authPasswordEntry port data) s = .next (s.withDev (s.dev.heard.hostWrite port (K.AUTH_PASSWORD_ENTRY port.ownIx) data)) := rfl
theorem exec_authClose (s : State) (port : Src) : exec (.authClose port) s = .next (s.withDev (s.dev.heard.hostWrite port (K.AUTH_CLOSE port.ownIx) [1])) := rfl
theorem exec_sessionTimeout (s : State) (i : Fin 4) : exec (.sessionTimeout i) s = .next (s.withDev (s.dev.heard.sessionTimeout (i.val + 1))) := rfl
theorem exec_nonceExpiry (s : State) (i : Fin 4) : exec (.nonceExpiry i) s = .next (s.withDev (s.dev.heard.nonceExpiry (i.val + 1))) := rfl
theorem exec_backoffExpiry (s : State) : exec (.backoffExpiry) s = .next (s.withDev (s.dev.heard.backoffExpiry)) := rfl
theorem exec_authPasswordWrite (s : State) (port : Src) (sub : BitVec 8) (data : List Byte) : exec (.authPasswordWrite port sub data) s = .next (s.withDev (s.dev.heard.hostWrite port (0x3202*256+sub.toNat) data)) := rfl
theorem exec_authKeyWrite (s : State) (port : Src) (data : List Byte) : exec (.authKeyWrite port data) s = .next (s.withDev (s.dev.heard.hostWrite port K.AUTH_KEY data)) := rfl
theorem exec_lockStateWrite (s : State) (port : Src) (data : List Byte) : exec (.lockStateWrite port data) s = .next (s.withDev (s.dev.heard.hostWrite port K.LOCK_STATE data)) := rfl
theorem exec_debugOpen (s : State) (port : Src) (data : List Byte) : exec (.debugOpen port data) s = .next (s.withDev (s.dev.heard.hostWrite port K.DEBUG_OPEN data)) := rfl
theorem exec_jtagBypass (s : State) : exec (.jtagBypass) s = .next (s.withDev (s.dev.heard.tapLoad .bypass)) := rfl
theorem exec_jtagIdcode (s : State) : exec (.jtagIdcode) s = .next (s.withDev (s.dev.heard.tapLoad .idcode)) := rfl
theorem exec_jtagSamplePreload (s : State) : exec (.jtagSamplePreload) s = .next (s.withDev (s.dev.heard.tapLoad .samplePreload)) := rfl
theorem exec_jtagExtest (s : State) : exec (.jtagExtest) s = .next (s.withDev (s.dev.heard.tapLoad .extest)) := rfl
theorem exec_jtagClamp (s : State) : exec (.jtagClamp) s = .next (s.withDev (s.dev.heard.tapLoad .clamp)) := rfl
theorem exec_jtagHighz (s : State) : exec (.jtagHighz) s = .next (s.withDev (s.dev.heard.tapLoad .highz)) := rfl
theorem exec_debugHalt (s : State) (target : Option (Fin 16)) : exec (.debugHalt target) s = .next (s.withDev (s.dev.heard.debugHalt (target.map (fun e => e.val)))) := rfl
theorem exec_debugBreakpoint (s : State) (target : Option (Fin 16)) (address : Nat) (set : Bool) : exec (.debugBreakpoint target address set) s = .next (s.withDev (s.dev.heard.debugBreak (target.map (fun e => e.val)) address set)) := rfl
theorem exec_debugMemoryAccess (s : State) (e : Fin 16) (address : BitVec 16) (write : Option (BitVec 32)) : exec (.debugMemoryAccess e address write) s = .next (s.withDev (s.dev.heard.debugMemory e address.toNat (write.map (fun v => v.toInt)))) := rfl
theorem exec_ioGroupSupplyChange (s : State) (h up : Bool) : exec (.ioGroupSupplyChange h up) s = .next (s.withDev (s.dev.heard.ioSupply h up)) := rfl
theorem exec_canErrorActive (s : State) (b : Bus) : exec (.canErrorActive b) s = .next (s.withDev (s.dev.heard.canErrorActive b)) := rfl
theorem exec_unsupportedCommand (s : State) (t : TwPort) (code : Byte) : exec (.unsupportedCommand t code) s = .next (s.withDev (s.dev.heard.unsupportedCommand t code.toNat)) := rfl
theorem exec_debugResume (s : State) (target : Option (Fin 16)) : exec (.debugResume target) s = .next (s.withDev (s.dev.heard.debugResume (target.map (fun e => e.val)))) := rfl
theorem exec_rawCaptureSample (s : State) (slots : List RawSlot) : exec (.rawCaptureSample slots) s = .next (s.withDev (s.dev.heard.rawSample slots)) := rfl

end Sys2Proof.Machine
end

