-- ==== Sys2Proof/Laws/Host.lean ====
section
/-! SUPPORT. The commands that write or read an object at a port, as one operation each: where it is not entered, accepted
or refused. -/

namespace Sys2Proof.Machine

open Dev

/-- Every row that writes an object is the write of that object at its port. -/
theorem exec_hostWrite {c : Instr} {w : HostWrite} (s : State) (h : hostWriteOf c = some w) :
    exec c s = .next (s.withDev (s.dev.heard.hostWrite w.port w.key w.bytes)) := by
  cases c <;> simp only [hostWriteOf, Option.some.injEq, reduceCtorEq] at h <;> subst h <;> rfl

/-- Every row that reads an object is the read of that object at its port. -/
theorem exec_hostRead {c : Instr} {p : Src} {key : Nat} (s : State) (h : hostReadOf c = some (p, key)) :
    exec c s = .next (s.withDev (s.dev.heard.hostRead p key)) := by
  cases c
  case logWindowRead q ecc =>
    cases ecc <;> simp only [hostReadOf, Option.some.injEq, Prod.mk.injEq, reduceCtorEq] at h
    obtain ⟨rfl, rfl⟩ := h
    rfl
  all_goals (simp only [hostReadOf, Option.some.injEq, Prod.mk.injEq, reduceCtorEq] at h) <;> (obtain ⟨rfl, rfl⟩ := h; rfl)

/-- A port that enters no operation. -/
theorem hostWrite_away {d : Dev} {p : Src} (key : Nat) (bs : List Byte) (h : d.gateOf p ≠ .open_) :
    d.hostWrite p key bs = d.turnedAway p (d.gateOf p) := by rw [hostWrite, atPort, if_neg h]

/-- A port that enters no operation. -/
theorem hostRead_away {d : Dev} {p : Src} (key : Nat) (h : d.gateOf p ≠ .open_) :
    d.hostRead p key = d.turnedAway p (d.gateOf p) := by rw [hostRead, atPort, if_neg h]

/-- An access that is not an accepted `BULK_LOAD` writes its own object. -/
theorem resolve_own {d : Dev} {p : Src} {key : Nat} {bs : List Byte} (h : actOf key ≠ .bulkLoad ∨ d.writeRule p key bs ≠ .none) :
    d.resolve p key bs = (key, bs) := by
  rw [resolve, if_neg]
  rintro ⟨ha, hr⟩
  cases h with
  | inl h => exact h ha
  | inr h => exact h hr

/-- A write of an open port, decided: the operation, then the answer. -/
theorem hostWrite_open {d : Dev} {p : Src} {key : Nat} {bs : List Byte} (ho : d.gateOf p = .open_)
    (h : actOf key ≠ .bulkLoad ∨ d.writeRule p key bs ≠ .none) :
    d.hostWrite p key bs = (d.writeAs p key bs (d.writeRule p key bs)).answerWrite p key (d.writeRule p key bs) d.osnNext := by
  rw [hostWrite, atPort, if_pos ho]
  simp only [decideWrite, writeOp, resolve_own h, clearStaged]
  rw [if_neg]
  rintro ⟨ha, hr⟩
  cases h with
  | inl h => exact h ha
  | inr h => exact h hr

/-- An accepted write: admitted, carried out, answered. -/
theorem hostWrite_accepted {d : Dev} {w : HostWrite} (ho : d.gateOf w.port = .open_) (ha : actOf w.key ≠ .bulkLoad)
    (hr : d.writeRule w.port w.key w.bytes = .none) :
    d.hostWrite w.port w.key w.bytes =
      ((d.admitted w).carryOut w.port w.key (valueOf w.key w.bytes) d.osnNext).answerWrite w.port w.key .none d.osnNext := by
  rw [hostWrite_open ho (.inl ha), hr]
  simp [writeAs, operate, admitted, enterWith, recordsWrite, recordOp]
  all_goals rfl

/-- A refused write: its entry, its record, what its chapter names, and the answer. -/
theorem hostWrite_refused {d : Dev} {p : Src} {key : Nat} {bs : List Byte} (ho : d.gateOf p = .open_) (hr : d.writeRule p key bs ≠ .none) :
    d.hostWrite p key bs =
      ((((d.enterWith p key .refused (d.writeRule p key bs) (recordFirst key bs)).noteLast p d.osnNext (d.writeRule p key bs)).recordOp
        p 0x41 d.osnNext key (d.writeRule p key bs) (recordFirst key bs)).refusedAct p key (valueOf key bs) (d.writeRule p key bs) d.osnNext
        ).answerWrite p key (d.writeRule p key bs) d.osnNext := by
  rw [hostWrite_open ho (.inr hr)]
  simp only [writeAs, operate, if_pos hr, if_neg hr, ne_eq]

/-- A read that its rule takes. -/
theorem hostRead_done {d : Dev} {p : Src} {key : Nat} (ho : d.gateOf p = .open_) (hr : d.readRule p key = .none) :
    d.hostRead p key = ((d.readObj key).2.enter p key .done .none).reply p (.data (d.readObj key).1) := by
  rw [hostRead, atPort, if_pos ho, if_neg (not_not_intro hr)]; rfl

/-- A read that its rule refuses. -/
theorem hostRead_refused {d : Dev} {p : Src} {key : Nat} (ho : d.gateOf p = .open_) (hr : d.readRule p key ≠ .none) :
    d.hostRead p key = d.readRefused p key (d.readRule p key) := by
  rw [hostRead, atPort, if_pos ho, if_pos hr]

end Sys2Proof.Machine
end

