-- ==== Sys2Proof/Laws/Effects.lean ====
section
/-! SUPPORT. What an accepted write of each row does: its key's action, unit, type and apply point, and with them the
entry of the effect tables of Safety. -/

namespace Sys2Proof.Machine

open Dev

set_option Elab.async false

/-- The value of a write by the type of its object. -/
theorem valueOf_of {key : Nat} {t : Ty} {a : Apply} {bs : List Byte} (h : (objRow key).map (fun r => (r.ty, r.app)) = some (t, a)) :
    valueOf key bs = t.decode bs := by
  unfold valueOf
  cases hr : objRow key with
  | none => rw [hr] at h; cases h
  | some r => rw [hr] at h; cases h; rfl

/-- An accepted write, by the action of its object. -/
theorem carryOut_of {m : Dev} {p : Src} {key : Nat} {v : Val} {osn : Nat} {a : Act} (h : actOf key = a) :
    m.carryOut p key v osn =
      match chapterOf a with
      | 0 => m.holdWrite key v
      | 1 => m.railAct a p (keyUnit key) key v osn
      | 2 => m.engAct a p (keyUnit key) key v osn
      | 3 => m.boardAct a (keyUnit key) key v osn
      | _ => m.systemAct a p (keyUnit key) key v osn := by rw [carryOut, h]; all_goals rfl

/-- An object of apply point T waits for the edge. -/
theorem hold_t {m : Dev} {key : Nat} {v : Val} {t : Ty} (h : (objRow key).map (fun r => (r.ty, r.app)) = some (t, .t)) :
    m.holdWrite key v = m.atEdge key v := by
  unfold holdWrite
  cases hr : objRow key with
  | none => rw [hr] at h; cases h
  | some r => rw [hr] at h; obtain ⟨rfl, ha⟩ := Prod.mk.inj (Option.some.inj h); simp only [ha]; rfl

/-- An object of apply point I takes its value at once. -/
theorem hold_i {m : Dev} {key : Nat} {v : Val} {t : Ty} (h : (objRow key).map (fun r => (r.ty, r.app)) = some (t, .i)) :
    m.holdWrite key v = m.setObj key v := by
  unfold holdWrite
  cases hr : objRow key with
  | none => rw [hr] at h; cases h
  | some r => rw [hr] at h; obtain ⟨rfl, ha⟩ := Prod.mk.inj (Option.some.inj h); simp only [ha]

/-- An object of apply point B takes its value at once: a bank swap brings it into force. -/
theorem hold_b {m : Dev} {key : Nat} {v : Val} {t : Ty} (h : (objRow key).map (fun r => (r.ty, r.app)) = some (t, .b)) :
    m.holdWrite key v = m.setObj key (match v with | .coef k sh => m.heldCoef key (k, sh) | v => v) := by
  unfold holdWrite
  cases hr : objRow key with
  | none => rw [hr] at h; cases h
  | some r =>
    rw [hr] at h
    obtain ⟨rfl, ha⟩ := Prod.mk.inj (Option.some.inj h)
    simp only [ha]
    congr 1
    cases v <;> rfl

theorem key_authResponse (port : Src) :
    actOf (K.AUTH_RESPONSE port.ownIx) = .response ∧ keyUnit (K.AUTH_RESPONSE port.ownIx) = port.ownIx ∧ (objRow (K.AUTH_RESPONSE port.ownIx)).map (fun r => (r.ty, r.app)) = some (.domain, .i) := by cases port <;> decide +kernel

theorem effect_authResponse (m : Dev) (osn : Nat) (port : Src) (data : List Byte) :
    systemEffect m osn (.authResponse port data) = some (m.carryOut port (K.AUTH_RESPONSE port.ownIx) (valueOf (K.AUTH_RESPONSE port.ownIx) data) osn) := by
  obtain ⟨ha, hu, hv⟩ := key_authResponse port
  rw [carryOut_of ha, valueOf_of hv]
  try rw [hu]
  simp only [systemEffect, Ty.decode, hold_i hv, chapterOf, railAct, engAct, boardAct, systemAct, Val.int, Val.bs]
  first | done | rfl | (simp [ofLe]; done)

theorem key_authPasswordEntry (port : Src) :
    actOf (K.AUTH_PASSWORD_ENTRY port.ownIx) = .password ∧ keyUnit (K.AUTH_PASSWORD_ENTRY port.ownIx) = port.ownIx ∧ (objRow (K.AUTH_PASSWORD_ENTRY port.ownIx)).map (fun r => (r.ty, r.app)) = some (.domain, .i) := by cases port <;> decide +kernel

theorem effect_authPasswordEntry (m : Dev) (osn : Nat) (port : Src) (data : List Byte) :
    systemEffect m osn (.authPasswordEntry port data) = some (m.carryOut port (K.AUTH_PASSWORD_ENTRY port.ownIx) (valueOf (K.AUTH_PASSWORD_ENTRY port.ownIx) data) osn) := by
  obtain ⟨ha, hu, hv⟩ := key_authPasswordEntry port
  rw [carryOut_of ha, valueOf_of hv]
  try rw [hu]
  simp only [systemEffect, Ty.decode, hold_i hv, chapterOf, railAct, engAct, boardAct, systemAct, Val.int, Val.bs]
  first | done | rfl | (simp [ofLe]; done)

theorem key_authClose (port : Src) :
    actOf (K.AUTH_CLOSE port.ownIx) = .authClose ∧ keyUnit (K.AUTH_CLOSE port.ownIx) = port.ownIx ∧ (objRow (K.AUTH_CLOSE port.ownIx)).map (fun r => (r.ty, r.app)) = some (.bool, .i) := by cases port <;> decide +kernel

theorem effect_authClose (m : Dev) (osn : Nat) (port : Src) :
    systemEffect m osn (.authClose port) = some (m.carryOut port (K.AUTH_CLOSE port.ownIx) (valueOf (K.AUTH_CLOSE port.ownIx) [1]) osn) := by
  obtain ⟨ha, hu, hv⟩ := key_authClose port
  rw [carryOut_of ha, valueOf_of hv]
  try rw [hu]
  simp only [systemEffect, Ty.decode, hold_i hv, chapterOf, railAct, engAct, boardAct, systemAct, Val.int, Val.bs]
  first | done | rfl | (simp [ofLe]; done)

theorem key_authPasswordWrite {sub : BitVec 8} (hs : sub = 1 ∨ sub = 2) :
    actOf (0x3202*256+sub.toNat) = .cred ∧ (objRow (0x3202*256+sub.toNat)).map (fun r => (r.ty, r.app)) = some (.domain, .i) := by obtain rfl | rfl := hs <;> decide +kernel

theorem effect_authPasswordWrite (m : Dev) (osn : Nat) (port : Src) (sub : BitVec 8) (data : List Byte) (hs : sub = 1 ∨ sub = 2) :
    systemEffect m osn (.authPasswordWrite port sub data) = some (m.carryOut port (0x3202*256+sub.toNat) (valueOf (0x3202*256+sub.toNat) data) osn) := by
  obtain ⟨ha, hv⟩ := key_authPasswordWrite hs
  rw [carryOut_of ha, valueOf_of hv]
  obtain rfl | rfl := hs <;> rfl

theorem key_authKeyWrite :
    actOf K.AUTH_KEY = .cred ∧ (objRow K.AUTH_KEY).map (fun r => (r.ty, r.app)) = some (.domain, .i) := by decide +kernel

theorem effect_authKeyWrite (m : Dev) (osn : Nat) (port : Src) (data : List Byte) :
    systemEffect m osn (.authKeyWrite port data) = some (m.carryOut port K.AUTH_KEY (valueOf K.AUTH_KEY data) osn) := by
  obtain ⟨ha, hv⟩ := key_authKeyWrite
  rw [carryOut_of ha, valueOf_of hv]
  simp only [systemEffect, Ty.decode, hold_i hv, chapterOf, railAct, engAct, boardAct, systemAct, Val.int, Val.bs]
  first | done | rfl | (simp [ofLe]; done)

theorem key_lockStateWrite :
    actOf K.LOCK_STATE = .lock ∧ (objRow K.LOCK_STATE).map (fun r => (r.ty, r.app)) = some (.u8, .i) := by decide +kernel

theorem effect_lockStateWrite (m : Dev) (osn : Nat) (port : Src) (data : List Byte) :
    systemEffect m osn (.lockStateWrite port data) = some (m.carryOut port K.LOCK_STATE (valueOf K.LOCK_STATE data) osn) := by
  obtain ⟨ha, hv⟩ := key_lockStateWrite
  rw [carryOut_of ha, valueOf_of hv]
  simp only [systemEffect, Ty.decode, hold_i hv, chapterOf, railAct, engAct, boardAct, systemAct, Val.int, Val.bs]
  first | done | rfl | (simp [ofLe]; done)

theorem key_debugOpen :
    actOf K.DEBUG_OPEN = .debugOpen ∧ (objRow K.DEBUG_OPEN).map (fun r => (r.ty, r.app)) = some (.bool, .i) := by decide +kernel

theorem effect_debugOpen (m : Dev) (osn : Nat) (port : Src) (data : List Byte) :
    systemEffect m osn (.debugOpen port data) = some (m.carryOut port K.DEBUG_OPEN (valueOf K.DEBUG_OPEN data) osn) := by
  obtain ⟨ha, hv⟩ := key_debugOpen
  rw [carryOut_of ha, valueOf_of hv]
  simp only [systemEffect, Ty.decode, hold_i hv, chapterOf, railAct, engAct, boardAct, systemAct, Val.int, Val.bs]
  first | done | rfl | (simp [ofLe]; done)

theorem key_storeParameters :
    actOf K.STORE_PARAMETERS = .store ∧ (objRow K.STORE_PARAMETERS).map (fun r => (r.ty, r.app)) = some (.u32, .i) := by decide +kernel

theorem effect_storeParameters (m : Dev) (osn : Nat) (port : Src) (data : List Byte) :
    systemEffect m osn (.storeParameters port data) = some (m.carryOut port K.STORE_PARAMETERS (valueOf K.STORE_PARAMETERS data) osn) := by
  obtain ⟨ha, hv⟩ := key_storeParameters
  rw [carryOut_of ha, valueOf_of hv]
  simp only [systemEffect, Ty.decode, hold_i hv, chapterOf, railAct, engAct, boardAct, systemAct, Val.int, Val.bs]
  first | done | rfl | (simp [ofLe]; done)

theorem key_restoreDefaultParameters :
    actOf K.RESTORE_DEFAULT_PARAMETERS = .restore ∧ (objRow K.RESTORE_DEFAULT_PARAMETERS).map (fun r => (r.ty, r.app)) = some (.u32, .i) := by decide +kernel

theorem effect_restoreDefaultParameters (m : Dev) (osn : Nat) (port : Src) (data : List Byte) :
    systemEffect m osn (.restoreDefaultParameters port data) = some (m.carryOut port K.RESTORE_DEFAULT_PARAMETERS (valueOf K.RESTORE_DEFAULT_PARAMETERS data) osn) := by
  obtain ⟨ha, hv⟩ := key_restoreDefaultParameters
  rw [carryOut_of ha, valueOf_of hv]
  simp only [systemEffect, Ty.decode, hold_i hv, chapterOf, railAct, engAct, boardAct, systemAct, Val.int, Val.bs]
  first | done | rfl | (simp [ofLe]; done)

theorem key_errorHistoryClear :
    actOf K.ERROR_HISTORY_COUNT = .historyClear ∧ (objRow K.ERROR_HISTORY_COUNT).map (fun r => (r.ty, r.app)) = some (.u8, .i) := by decide +kernel

theorem effect_errorHistoryClear (m : Dev) (osn : Nat) (port : Src) :
    boardEffect m osn (.errorHistoryClear port) = some (m.carryOut port K.ERROR_HISTORY_COUNT (valueOf K.ERROR_HISTORY_COUNT [0]) osn) := by
  obtain ⟨ha, hv⟩ := key_errorHistoryClear
  rw [carryOut_of ha, valueOf_of hv]
  simp only [boardEffect, Ty.decode, hold_i hv, chapterOf, railAct, engAct, boardAct, systemAct, Val.int, Val.bs]
  first | done | rfl | (simp [ofLe]; done)

theorem key_opQueryOsn :
    actOf K.OP_QUERY_OSN = .plain ∧ (objRow K.OP_QUERY_OSN).map (fun r => (r.ty, r.app)) = some (.u32, .i) := by decide +kernel

theorem effect_opQueryOsn (m : Dev) (osn : Nat) (port : Src) (data : List Byte) :
    boardEffect m osn (.opQueryOsn port data) = some (m.carryOut port K.OP_QUERY_OSN (valueOf K.OP_QUERY_OSN data) osn) := by
  obtain ⟨ha, hv⟩ := key_opQueryOsn
  rw [carryOut_of ha, valueOf_of hv]
  simp only [boardEffect, Ty.decode, hold_i hv, chapterOf, railAct, engAct, boardAct, systemAct, Val.int, Val.bs]
  first | done | rfl | (simp [ofLe]; done)

theorem key_perfProfileWrite :
    actOf K.PERF_PROFILE = .profile ∧ (objRow K.PERF_PROFILE).map (fun r => (r.ty, r.app)) = some (.u8, .t) := by decide +kernel

theorem effect_perfProfileWrite (m : Dev) (osn : Nat) (port : Src) (data : List Byte) :
    engineEffect m osn (.perfProfileWrite port data) = some (m.carryOut port K.PERF_PROFILE (valueOf K.PERF_PROFILE data) osn) := by
  obtain ⟨ha, hv⟩ := key_perfProfileWrite
  rw [carryOut_of ha, valueOf_of hv]
  simp only [engineEffect, Ty.decode, hold_t hv, chapterOf, railAct, engAct, boardAct, systemAct, Val.int, Val.bs]
  first | done | rfl | (simp [ofLe]; done)

theorem key_tickRateWrite :
    actOf K.TICK_RATE = .profile ∧ (objRow K.TICK_RATE).map (fun r => (r.ty, r.app)) = some (.u8, .t) := by decide +kernel

theorem effect_tickRateWrite (m : Dev) (osn : Nat) (port : Src) (data : List Byte) :
    engineEffect m osn (.tickRateWrite port data) = some (m.carryOut port K.TICK_RATE (valueOf K.TICK_RATE data) osn) := by
  obtain ⟨ha, hv⟩ := key_tickRateWrite
  rw [carryOut_of ha, valueOf_of hv]
  simp only [engineEffect, Ty.decode, hold_t hv, chapterOf, railAct, engAct, boardAct, systemAct, Val.int, Val.bs]
  first | done | rfl | (simp [ofLe]; done)

theorem key_profileAtTickWrite :
    actOf K.PROFILE_AT_TICK = .schedAt ∧ (objRow K.PROFILE_AT_TICK).map (fun r => (r.ty, r.app)) = some (.u32, .i) := by decide +kernel

theorem effect_profileAtTickWrite (m : Dev) (osn : Nat) (port : Src) (data : List Byte) :
    engineEffect m osn (.profileAtTickWrite port data) = some (m.carryOut port K.PROFILE_AT_TICK (valueOf K.PROFILE_AT_TICK data) osn) := by
  obtain ⟨ha, hv⟩ := key_profileAtTickWrite
  rw [carryOut_of ha, valueOf_of hv]
  simp only [engineEffect, Ty.decode, hold_i hv, chapterOf, railAct, engAct, boardAct, systemAct, Val.int, Val.bs]
  first | done | rfl | (simp [ofLe]; done)

theorem key_profileSchedWrite :
    actOf K.PROFILE_SCHED = .schedFlag ∧ (objRow K.PROFILE_SCHED).map (fun r => (r.ty, r.app)) = some (.bool, .i) := by decide +kernel

theorem effect_profileSchedWrite (m : Dev) (osn : Nat) (port : Src) (data : List Byte) :
    engineEffect m osn (.profileSchedWrite port data) = some (m.carryOut port K.PROFILE_SCHED (valueOf K.PROFILE_SCHED data) osn) := by
  obtain ⟨ha, hv⟩ := key_profileSchedWrite
  rw [carryOut_of ha, valueOf_of hv]
  simp only [engineEffect, Ty.decode, hold_i hv, chapterOf, railAct, engAct, boardAct, systemAct, Val.int, Val.bs]
  first | done | rfl | (simp [ofLe]; done)

theorem key_capArm :
    actOf K.CAP_CTRL = .capCtrl ∧ (objRow K.CAP_CTRL).map (fun r => (r.ty, r.app)) = some (.u8, .i) := by decide +kernel

theorem effect_capArm (m : Dev) (osn : Nat) (port : Src) :
    engineEffect m osn (.capArm port) = some (m.carryOut port K.CAP_CTRL (valueOf K.CAP_CTRL [1]) osn) := by
  obtain ⟨ha, hv⟩ := key_capArm
  rw [carryOut_of ha, valueOf_of hv]
  simp only [engineEffect, Ty.decode, hold_i hv, chapterOf, railAct, engAct, boardAct, systemAct, Val.int, Val.bs]
  first | done | rfl | (simp [ofLe]; done)

theorem effect_capForceTrigger (m : Dev) (osn : Nat) (port : Src) :
    engineEffect m osn (.capForceTrigger port) = some (m.carryOut port K.CAP_CTRL (valueOf K.CAP_CTRL [2]) osn) := by
  obtain ⟨ha, hv⟩ := key_capArm
  rw [carryOut_of ha, valueOf_of hv]
  simp only [engineEffect, Ty.decode, hold_i hv, chapterOf, railAct, engAct, boardAct, systemAct, Val.int, Val.bs]
  first | done | rfl | (simp [ofLe]; done)

theorem effect_capAbort (m : Dev) (osn : Nat) (port : Src) :
    engineEffect m osn (.capAbort port) = some (m.carryOut port K.CAP_CTRL (valueOf K.CAP_CTRL [3]) osn) := by
  obtain ⟨ha, hv⟩ := key_capArm
  rw [carryOut_of ha, valueOf_of hv]
  simp only [engineEffect, Ty.decode, hold_i hv, chapterOf, railAct, engAct, boardAct, systemAct, Val.int, Val.bs]
  first | done | rfl | (simp [ofLe]; done)

theorem key_progShadowSel (e : Fin 16) :
    actOf (K.PROG_SHADOW_SEL e) = .shadowSel ∧ keyUnit (K.PROG_SHADOW_SEL e) = e ∧ (objRow (K.PROG_SHADOW_SEL e)).map (fun r => (r.ty, r.app)) = some (.u16, .i) := by revert e; decide +kernel

theorem effect_progShadowSel (m : Dev) (osn : Nat) (port : Src) (e : Fin 16) (data : List Byte) :
    engineEffect m osn (.progShadowSel port e data) = some (m.carryOut port (K.PROG_SHADOW_SEL e) (valueOf (K.PROG_SHADOW_SEL e) data) osn) := by
  obtain ⟨ha, hu, hv⟩ := key_progShadowSel e
  rw [carryOut_of ha, valueOf_of hv]
  try rw [hu]
  simp only [engineEffect, Ty.decode, hold_i hv, chapterOf, railAct, engAct, boardAct, systemAct, Val.int, Val.bs]
  first | done | rfl | (simp [ofLe]; done)

theorem key_progImage (e : Fin 16) :
    actOf (K.PROG_IMAGE e) = .progImage ∧ keyUnit (K.PROG_IMAGE e) = e ∧ (objRow (K.PROG_IMAGE e)).map (fun r => (r.ty, r.app)) = some (.domain, .i) := by revert e; decide +kernel

theorem effect_progImage (m : Dev) (osn : Nat) (port : Src) (e : Fin 16) (data : List Byte) :
    engineEffect m osn (.progImage port e data) = some (m.carryOut port (K.PROG_IMAGE e) (valueOf (K.PROG_IMAGE e) data) osn) := by
  obtain ⟨ha, hu, hv⟩ := key_progImage e
  rw [carryOut_of ha, valueOf_of hv]
  try rw [hu]
  simp only [engineEffect, Ty.decode, hold_i hv, chapterOf, railAct, engAct, boardAct, systemAct, Val.int, Val.bs]
  first | done | rfl | (simp [ofLe]; done)

theorem key_progSwapReq (e : Fin 16) :
    actOf (K.PROG_SWAP_REQ e) = .progSwap ∧ keyUnit (K.PROG_SWAP_REQ e) = e ∧ (objRow (K.PROG_SWAP_REQ e)).map (fun r => (r.ty, r.app)) = some (.u8, .t) := by revert e; decide +kernel

theorem effect_progSwapReq (m : Dev) (osn : Nat) (port : Src) (e : Fin 16) (data : List Byte) :
    engineEffect m osn (.progSwapReq port e data) = some (m.carryOut port (K.PROG_SWAP_REQ e) (valueOf (K.PROG_SWAP_REQ e) data) osn) := by
  obtain ⟨ha, hu, hv⟩ := key_progSwapReq e
  rw [carryOut_of ha, valueOf_of hv]
  try rw [hu]
  simp only [engineEffect, Ty.decode, hold_t hv, chapterOf, railAct, engAct, boardAct, systemAct, Val.int, Val.bs]
  first | done | rfl | (simp [ofLe]; done)

theorem key_bankSwapReq (e : Fin 16) :
    actOf (K.BANK_SWAP_REQ e) = .bankSwap ∧ keyUnit (K.BANK_SWAP_REQ e) = e ∧ (objRow (K.BANK_SWAP_REQ e)).map (fun r => (r.ty, r.app)) = some (.bool, .t) := by revert e; decide +kernel

theorem effect_bankSwapReq (m : Dev) (osn : Nat) (port : Src) (e : Fin 16) :
    engineEffect m osn (.bankSwapReq port e) = some (m.carryOut port (K.BANK_SWAP_REQ e) (valueOf (K.BANK_SWAP_REQ e) [1]) osn) := by
  obtain ⟨ha, hu, hv⟩ := key_bankSwapReq e
  rw [carryOut_of ha, valueOf_of hv]
  try rw [hu]
  simp only [engineEffect, Ty.decode, hold_t hv, chapterOf, railAct, engAct, boardAct, systemAct, Val.int, Val.bs]
  first | done | rfl | (simp [ofLe]; done)

theorem key_bankCopy (e : Fin 16) :
    actOf (K.BANK_COPY e) = .bankCopy ∧ keyUnit (K.BANK_COPY e) = e ∧ (objRow (K.BANK_COPY e)).map (fun r => (r.ty, r.app)) = some (.bool, .i) := by revert e; decide +kernel

theorem effect_bankCopy (m : Dev) (osn : Nat) (port : Src) (e : Fin 16) :
    engineEffect m osn (.bankCopy port e) = some (m.carryOut port (K.BANK_COPY e) (valueOf (K.BANK_COPY e) [1]) osn) := by
  obtain ⟨ha, hu, hv⟩ := key_bankCopy e
  rw [carryOut_of ha, valueOf_of hv]
  try rw [hu]
  simp only [engineEffect, Ty.decode, hold_i hv, chapterOf, railAct, engAct, boardAct, systemAct, Val.int, Val.bs]
  first | done | rfl | (simp [ofLe]; done)

theorem key_libStore :
    actOf K.LIB_STORE = .libStore ∧ (objRow K.LIB_STORE).map (fun r => (r.ty, r.app)) = some (.u16, .i) := by decide +kernel

theorem effect_libStore (m : Dev) (osn : Nat) (port : Src) (data : List Byte) :
    engineEffect m osn (.libStore port data) = some (m.carryOut port K.LIB_STORE (valueOf K.LIB_STORE data) osn) := by
  obtain ⟨ha, hv⟩ := key_libStore
  rw [carryOut_of ha, valueOf_of hv]; rfl

theorem key_mailboxPost (e : Fin 16) :
    actOf (K.MAILBOX_POST e) = .mailPost ∧ keyUnit (K.MAILBOX_POST e) = e ∧ (objRow (K.MAILBOX_POST e)).map (fun r => (r.ty, r.app)) = some (.bool, .t) := by revert e; decide +kernel

theorem effect_mailboxPost (m : Dev) (osn : Nat) (port : Src) (e : Fin 16) :
    engineEffect m osn (.mailboxPost port e) = some (m.carryOut port (K.MAILBOX_POST e) (valueOf (K.MAILBOX_POST e) [1]) osn) := by
  obtain ⟨ha, hu, hv⟩ := key_mailboxPost e
  rw [carryOut_of ha, valueOf_of hv]
  try rw [hu]
  simp only [engineEffect, Ty.decode, hold_t hv, chapterOf, railAct, engAct, boardAct, systemAct, Val.int, Val.bs]
  first | done | rfl | (simp [ofLe]; done)

theorem key_clearFaultsWrite (u : Fin 18) :
    actOf (Dev.clearKey u) = .plain ∧ (objRow (Dev.clearKey u)).map (fun r => (r.ty, r.app)) = some (.bool, .t) := by revert u; decide +kernel

theorem effect_clearFaultsWrite (m : Dev) (osn : Nat) (port : Src) (u : Fin 18) :
    regulatorEffect m osn (.clearFaultsWrite port u) = some (m.carryOut port (Dev.clearKey u) (valueOf (Dev.clearKey u) [1]) osn) := by
  obtain ⟨ha, hv⟩ := key_clearFaultsWrite u
  rw [carryOut_of ha, valueOf_of hv]
  simp only [regulatorEffect, Ty.decode, hold_t hv, chapterOf, railAct, engAct, boardAct, systemAct, Val.int, Val.bs]
  first | done | rfl | (simp [ofLe]; done)

theorem key_drain (p : Fin 32) :
    actOf (K.PHASE_SVC_CMD p) = .svcPhase ∧ keyUnit (K.PHASE_SVC_CMD p) = p ∧ (objRow (K.PHASE_SVC_CMD p)).map (fun r => (r.ty, r.app)) = some (.u8, .i) := by revert p; decide +kernel

theorem effect_drain (m : Dev) (osn : Nat) (port : Src) (p : Fin 32) :
    regulatorEffect m osn (.drain port p) = some (m.carryOut port (K.PHASE_SVC_CMD p) (valueOf (K.PHASE_SVC_CMD p) [1]) osn) := by
  obtain ⟨ha, hu, hv⟩ := key_drain p
  rw [carryOut_of ha, valueOf_of hv]
  try rw [hu]
  simp only [regulatorEffect, Ty.decode, hold_i hv, chapterOf, railAct, engAct, boardAct, systemAct, Val.int, Val.bs]
  first | done | rfl | (simp [ofLe]; done)

theorem effect_drainForce (m : Dev) (osn : Nat) (port : Src) (p : Fin 32) :
    regulatorEffect m osn (.drainForce port p) = some (m.carryOut port (K.PHASE_SVC_CMD p) (valueOf (K.PHASE_SVC_CMD p) [2]) osn) := by
  obtain ⟨ha, hu, hv⟩ := key_drain p
  rw [carryOut_of ha, valueOf_of hv]
  try rw [hu]
  simp only [regulatorEffect, Ty.decode, hold_i hv, chapterOf, railAct, engAct, boardAct, systemAct, Val.int, Val.bs]
  first | done | rfl | (simp [ofLe]; done)

theorem effect_admitPhase (m : Dev) (osn : Nat) (port : Src) (p : Fin 32) :
    regulatorEffect m osn (.admitPhase port p) = some (m.carryOut port (K.PHASE_SVC_CMD p) (valueOf (K.PHASE_SVC_CMD p) [3]) osn) := by
  obtain ⟨ha, hu, hv⟩ := key_drain p
  rw [carryOut_of ha, valueOf_of hv]
  try rw [hu]
  simp only [regulatorEffect, Ty.decode, hold_i hv, chapterOf, railAct, engAct, boardAct, systemAct, Val.int, Val.bs]
  first | done | rfl | (simp [ofLe]; done)

theorem key_groupDrain (g : Fin 8) :
    actOf (K.GROUP_SVC_CMD g) = .svcGroup ∧ keyUnit (K.GROUP_SVC_CMD g) = g ∧ (objRow (K.GROUP_SVC_CMD g)).map (fun r => (r.ty, r.app)) = some (.u8, .i) := by revert g; decide +kernel

theorem effect_groupDrain (m : Dev) (osn : Nat) (port : Src) (g : Fin 8) :
    regulatorEffect m osn (.groupDrain port g) = some (m.carryOut port (K.GROUP_SVC_CMD g) (valueOf (K.GROUP_SVC_CMD g) [1]) osn) := by
  obtain ⟨ha, hu, hv⟩ := key_groupDrain g
  rw [carryOut_of ha, valueOf_of hv]
  try rw [hu]
  simp only [regulatorEffect, Ty.decode, hold_i hv, chapterOf, railAct, engAct, boardAct, systemAct, Val.int, Val.bs]
  first | done | rfl | (simp [ofLe]; done)

theorem effect_groupDrainForce (m : Dev) (osn : Nat) (port : Src) (g : Fin 8) :
    regulatorEffect m osn (.groupDrainForce port g) = some (m.carryOut port (K.GROUP_SVC_CMD g) (valueOf (K.GROUP_SVC_CMD g) [2]) osn) := by
  obtain ⟨ha, hu, hv⟩ := key_groupDrain g
  rw [carryOut_of ha, valueOf_of hv]
  try rw [hu]
  simp only [regulatorEffect, Ty.decode, hold_i hv, chapterOf, railAct, engAct, boardAct, systemAct, Val.int, Val.bs]
  first | done | rfl | (simp [ofLe]; done)

theorem effect_groupAdmit (m : Dev) (osn : Nat) (port : Src) (g : Fin 8) :
    regulatorEffect m osn (.groupAdmit port g) = some (m.carryOut port (K.GROUP_SVC_CMD g) (valueOf (K.GROUP_SVC_CMD g) [3]) osn) := by
  obtain ⟨ha, hu, hv⟩ := key_groupDrain g
  rw [carryOut_of ha, valueOf_of hv]
  try rw [hu]
  simp only [regulatorEffect, Ty.decode, hold_i hv, chapterOf, railAct, engAct, boardAct, systemAct, Val.int, Val.bs]
  first | done | rfl | (simp [ofLe]; done)

theorem key_logSeekEsn (port : Src) :
    actOf (K.LOG_SEEK_ESN (port.ownIx)) = .logSeek ∧ keyUnit (K.LOG_SEEK_ESN (port.ownIx)) = port.ownIx ∧ (objRow (K.LOG_SEEK_ESN (port.ownIx))).map (fun r => (r.ty, r.app)) = some (.u32, .i) := by cases port <;> decide +kernel

theorem effect_logSeekEsn (m : Dev) (osn : Nat) (port : Src) (data : List Byte) :
    boardEffect m osn (.logSeekEsn port data) = some (m.carryOut port (K.LOG_SEEK_ESN (port.ownIx)) (valueOf (K.LOG_SEEK_ESN (port.ownIx)) data) osn) := by
  obtain ⟨ha, hu, hv⟩ := key_logSeekEsn port
  rw [carryOut_of ha, valueOf_of hv]
  try rw [hu]
  simp only [boardEffect, Ty.decode, hold_i hv, chapterOf, railAct, engAct, boardAct, systemAct, Val.int, Val.bs]
  first | done | rfl | (simp [ofLe]; done)

theorem key_logTimeMark :
    actOf K.LOG_TIME_MARK = .logMark ∧ (objRow K.LOG_TIME_MARK).map (fun r => (r.ty, r.app)) = some (.domain, .t) := by decide +kernel

theorem effect_logTimeMark (m : Dev) (osn : Nat) (port : Src) (data : List Byte) :
    boardEffect m osn (.logTimeMark port data) = some (m.carryOut port K.LOG_TIME_MARK (valueOf K.LOG_TIME_MARK data) osn) := by
  obtain ⟨ha, hv⟩ := key_logTimeMark
  rw [carryOut_of ha, valueOf_of hv]
  simp only [boardEffect, Ty.decode, hold_t hv, chapterOf, railAct, engAct, boardAct, systemAct, Val.int, Val.bs]
  first | done | rfl | (simp [ofLe]; done)

theorem key_logClear :
    actOf K.LOG_CLEAR = .logClear ∧ (objRow K.LOG_CLEAR).map (fun r => (r.ty, r.app)) = some (.u32, .i) := by decide +kernel

theorem effect_logClear (m : Dev) (osn : Nat) (port : Src) (data : List Byte) :
    boardEffect m osn (.logClear port data) = some (m.carryOut port K.LOG_CLEAR (valueOf K.LOG_CLEAR data) osn) := by
  obtain ⟨ha, hv⟩ := key_logClear
  rw [carryOut_of ha, valueOf_of hv]
  simp only [boardEffect, Ty.decode, hold_i hv, chapterOf, railAct, engAct, boardAct, systemAct, Val.int, Val.bs]
  first | done | rfl | (simp [ofLe]; done)

theorem key_wmSwap (w : Fin 24) :
    actOf (K.WM_TEST_CMD w) = .wmTest ∧ keyUnit (K.WM_TEST_CMD w) = w ∧ (objRow (K.WM_TEST_CMD w)).map (fun r => (r.ty, r.app)) = some (.u8, .i) := by revert w; decide +kernel

theorem effect_wmSwap (m : Dev) (osn : Nat) (port : Src) (w : Fin 24) :
    boardEffect m osn (.wmSwap port w) = some (m.carryOut port (K.WM_TEST_CMD w) (valueOf (K.WM_TEST_CMD w) [1]) osn) := by
  obtain ⟨ha, hu, hv⟩ := key_wmSwap w
  rw [carryOut_of ha, valueOf_of hv]
  try rw [hu]
  simp only [boardEffect, Ty.decode, hold_i hv, chapterOf, railAct, engAct, boardAct, systemAct, Val.int, Val.bs]
  first | done | rfl | (simp [ofLe]; done)

theorem effect_wmTie (m : Dev) (osn : Nat) (port : Src) (w : Fin 24) :
    boardEffect m osn (.wmTie port w) = some (m.carryOut port (K.WM_TEST_CMD w) (valueOf (K.WM_TEST_CMD w) [2]) osn) := by
  obtain ⟨ha, hu, hv⟩ := key_wmSwap w
  rw [carryOut_of ha, valueOf_of hv]
  try rw [hu]
  simp only [boardEffect, Ty.decode, hold_i hv, chapterOf, railAct, engAct, boardAct, systemAct, Val.int, Val.bs]
  first | done | rfl | (simp [ofLe]; done)

theorem key_pkTestCmd (p : Fin 32) :
    actOf (K.PK_TEST_CMD p) = .pkTest ∧ keyUnit (K.PK_TEST_CMD p) = p ∧ (objRow (K.PK_TEST_CMD p)).map (fun r => (r.ty, r.app)) = some (.u8, .i) := by revert p; decide +kernel

theorem effect_pkTestCmd (m : Dev) (osn : Nat) (port : Src) (p : Fin 32) (data : List Byte) :
    boardEffect m osn (.pkTestCmd port p data) = some (m.carryOut port (K.PK_TEST_CMD p) (valueOf (K.PK_TEST_CMD p) data) osn) := by
  obtain ⟨ha, hu, hv⟩ := key_pkTestCmd p
  rw [carryOut_of ha, valueOf_of hv]
  try rw [hu]
  simp only [boardEffect, Ty.decode, hold_i hv, chapterOf, railAct, engAct, boardAct, systemAct, Val.int, Val.bs]
  first | done | rfl | (simp [ofLe]; done)

theorem key_realign (p : Fin 32) :
    actOf (K.PHASE_CMD p) = .phaseCmd ∧ keyUnit (K.PHASE_CMD p) = p ∧ (objRow (K.PHASE_CMD p)).map (fun r => (r.ty, r.app)) = some (.u8, .i) := by revert p; decide +kernel

theorem effect_realign (m : Dev) (osn : Nat) (port : Src) (p : Fin 32) :
    regulatorEffect m osn (.realign port p) = some (m.carryOut port (K.PHASE_CMD p) (valueOf (K.PHASE_CMD p) [1]) osn) := by
  obtain ⟨ha, hu, hv⟩ := key_realign p
  rw [carryOut_of ha, valueOf_of hv]
  try rw [hu]
  simp only [regulatorEffect, Ty.decode, hold_i hv, chapterOf, railAct, engAct, boardAct, systemAct, Val.int, Val.bs]
  first | done | rfl | (simp [ofLe]; done)

theorem effect_forceMid (m : Dev) (osn : Nat) (port : Src) (p : Fin 32) :
    regulatorEffect m osn (.forceMid port p) = some (m.carryOut port (K.PHASE_CMD p) (valueOf (K.PHASE_CMD p) [2]) osn) := by
  obtain ⟨ha, hu, hv⟩ := key_realign p
  rw [carryOut_of ha, valueOf_of hv]
  try rw [hu]
  simp only [regulatorEffect, Ty.decode, hold_i hv, chapterOf, railAct, engAct, boardAct, systemAct, Val.int, Val.bs]
  first | done | rfl | (simp [ofLe]; done)

theorem effect_release (m : Dev) (osn : Nat) (port : Src) (p : Fin 32) :
    regulatorEffect m osn (.release port p) = some (m.carryOut port (K.PHASE_CMD p) (valueOf (K.PHASE_CMD p) [3]) osn) := by
  obtain ⟨ha, hu, hv⟩ := key_realign p
  rw [carryOut_of ha, valueOf_of hv]
  try rw [hu]
  simp only [regulatorEffect, Ty.decode, hold_i hv, chapterOf, railAct, engAct, boardAct, systemAct, Val.int, Val.bs]
  first | done | rfl | (simp [ofLe]; done)

theorem effect_singlePulse (m : Dev) (osn : Nat) (port : Src) (p : Fin 32) :
    regulatorEffect m osn (.singlePulse port p) = some (m.carryOut port (K.PHASE_CMD p) (valueOf (K.PHASE_CMD p) [4]) osn) := by
  obtain ⟨ha, hu, hv⟩ := key_realign p
  rw [carryOut_of ha, valueOf_of hv]
  try rw [hu]
  simp only [regulatorEffect, Ty.decode, hold_i hv, chapterOf, railAct, engAct, boardAct, systemAct, Val.int, Val.bs]
  first | done | rfl | (simp [ofLe]; done)

theorem key_phaseRailWrite (p : Fin 32) :
    actOf (K.PHASE_RAIL p) = .phaseRail ∧ keyUnit (K.PHASE_RAIL p) = p ∧ (objRow (K.PHASE_RAIL p)).map (fun r => (r.ty, r.app)) = some (.u8, .t) := by revert p; decide +kernel

theorem effect_phaseRailWrite (m : Dev) (osn : Nat) (port : Src) (p : Fin 32) (data : List Byte) :
    regulatorEffect m osn (.phaseRailWrite port p data) = some (m.carryOut port (K.PHASE_RAIL p) (valueOf (K.PHASE_RAIL p) data) osn) := by
  obtain ⟨ha, hu, hv⟩ := key_phaseRailWrite p
  rw [carryOut_of ha, valueOf_of hv]
  try rw [hu]
  simp only [regulatorEffect, Ty.decode, hold_t hv, chapterOf, railAct, engAct, boardAct, systemAct, Val.int, Val.bs]
  first | done | rfl | (simp [ofLe]; done)

theorem key_chgEnWrite :
    actOf K.CHG_EN = .plain ∧ (objRow K.CHG_EN).map (fun r => (r.ty, r.app)) = some (.bool, .t) := by decide +kernel

theorem effect_chgEnWrite (m : Dev) (osn : Nat) (port : Src) (data : List Byte) :
    boardEffect m osn (.chgEnWrite port data) = some (m.carryOut port K.CHG_EN (valueOf K.CHG_EN data) osn) := by
  obtain ⟨ha, hv⟩ := key_chgEnWrite
  rw [carryOut_of ha, valueOf_of hv]
  simp only [boardEffect, Ty.decode, hold_t hv, chapterOf, railAct, engAct, boardAct, systemAct, Val.int, Val.bs]
  first | done | rfl | (simp [ofLe]; done)

theorem key_chgChemWrite :
    actOf K.CHG_CHEM = .chgChem ∧ (objRow K.CHG_CHEM).map (fun r => (r.ty, r.app)) = some (.u8, .t) := by decide +kernel

theorem effect_chgChemWrite (m : Dev) (osn : Nat) (port : Src) (data : List Byte) :
    boardEffect m osn (.chgChemWrite port data) = some (m.carryOut port K.CHG_CHEM (valueOf K.CHG_CHEM data) osn) := by
  obtain ⟨ha, hv⟩ := key_chgChemWrite
  rw [carryOut_of ha, valueOf_of hv]
  by_cases h : ofLe data = 0
  · simp [boardEffect, chapterOf, boardAct, Ty.decode, Val.int, h, atEdge]
  · simp [boardEffect, chapterOf, boardAct, Ty.decode, Val.int, h, atEdge]

theorem key_accRestart :
    actOf K.ACC_RESTART = .plain ∧ (objRow K.ACC_RESTART).map (fun r => (r.ty, r.app)) = some (.bool, .t) := by decide +kernel

theorem effect_accRestart (m : Dev) (osn : Nat) (port : Src) :
    boardEffect m osn (.accRestart port) = some (m.carryOut port K.ACC_RESTART (valueOf K.ACC_RESTART [1]) osn) := by
  obtain ⟨ha, hv⟩ := key_accRestart
  rw [carryOut_of ha, valueOf_of hv]
  simp only [boardEffect, Ty.decode, hold_t hv, chapterOf, railAct, engAct, boardAct, systemAct, Val.int, Val.bs]
  first | done | rfl | (simp [ofLe]; done)

theorem key_shipCmd :
    actOf K.SHIP_CMD = .shipCmd ∧ (objRow K.SHIP_CMD).map (fun r => (r.ty, r.app)) = some (.u32, .i) := by decide +kernel

theorem effect_shipCmd (m : Dev) (osn : Nat) (port : Src) (data : List Byte) :
    boardEffect m osn (.shipCmd port data) = some (m.carryOut port K.SHIP_CMD (valueOf K.SHIP_CMD data) osn) := by
  obtain ⟨ha, hv⟩ := key_shipCmd
  rw [carryOut_of ha, valueOf_of hv]
  simp only [boardEffect, Ty.decode, hold_i hv, chapterOf, railAct, engAct, boardAct, systemAct, Val.int, Val.bs]
  first | done | rfl | (simp [ofLe]; done)

theorem key_powerUp :
    actOf K.SEQ_CMD = .seqCmd ∧ (objRow K.SEQ_CMD).map (fun r => (r.ty, r.app)) = some (.u8, .t) := by decide +kernel

theorem effect_powerUp (m : Dev) (osn : Nat) (port : Src) :
    boardEffect m osn (.powerUp port) = some (m.carryOut port K.SEQ_CMD (valueOf K.SEQ_CMD [1]) osn) := by
  obtain ⟨ha, hv⟩ := key_powerUp
  rw [carryOut_of ha, valueOf_of hv]
  simp only [boardEffect, Ty.decode, hold_t hv, chapterOf, railAct, engAct, boardAct, systemAct, Val.int, Val.bs]
  first | done | rfl | (simp [ofLe]; done)

theorem effect_powerDown (m : Dev) (osn : Nat) (port : Src) :
    boardEffect m osn (.powerDown port) = some (m.carryOut port K.SEQ_CMD (valueOf K.SEQ_CMD [2]) osn) := by
  obtain ⟨ha, hv⟩ := key_powerUp
  rw [carryOut_of ha, valueOf_of hv]
  simp only [boardEffect, Ty.decode, hold_t hv, chapterOf, railAct, engAct, boardAct, systemAct, Val.int, Val.bs]
  first | done | rfl | (simp [ofLe]; done)

theorem effect_abort (m : Dev) (osn : Nat) (port : Src) :
    boardEffect m osn (.abort port) = some (m.carryOut port K.SEQ_CMD (valueOf K.SEQ_CMD [3]) osn) := by
  obtain ⟨ha, hv⟩ := key_powerUp
  rw [carryOut_of ha, valueOf_of hv]
  simp only [boardEffect, Ty.decode, hold_t hv, chapterOf, railAct, engAct, boardAct, systemAct, Val.int, Val.bs]
  first | done | rfl | (simp [ofLe]; done)

theorem key_domeCmd :
    actOf K.DOME_CMD = .dome ∧ (objRow K.DOME_CMD).map (fun r => (r.ty, r.app)) = some (.u32, .i) := by decide +kernel

theorem effect_domeCmd (m : Dev) (osn : Nat) (port : Src) (data : List Byte) :
    systemEffect m osn (.domeCmd port data) = some (m.carryOut port K.DOME_CMD (valueOf K.DOME_CMD data) osn) := by
  obtain ⟨ha, hv⟩ := key_domeCmd
  rw [carryOut_of ha, valueOf_of hv]
  simp only [systemEffect, Ty.decode, hold_i hv, chapterOf, railAct, engAct, boardAct, systemAct, Val.int, Val.bs]
  first | done | rfl | (simp [ofLe]; done)

theorem key_softReset :
    actOf K.SOFT_RESET = .softReset ∧ (objRow K.SOFT_RESET).map (fun r => (r.ty, r.app)) = some (.u32, .i) := by decide +kernel

theorem effect_softReset (m : Dev) (osn : Nat) (port : Src) (data : List Byte) :
    systemEffect m osn (.softReset port data) = some (m.carryOut port K.SOFT_RESET (valueOf K.SOFT_RESET data) osn) := by
  obtain ⟨ha, hv⟩ := key_softReset
  rw [carryOut_of ha, valueOf_of hv]
  simp only [systemEffect, Ty.decode, hold_i hv, chapterOf, railAct, engAct, boardAct, systemAct, Val.int, Val.bs]
  first | done | rfl | (simp [ofLe]; done)

theorem key_factorySettings :
    actOf K.FACTORY_SETTINGS = .factory ∧ (objRow K.FACTORY_SETTINGS).map (fun r => (r.ty, r.app)) = some (.u32, .i) := by decide +kernel

theorem effect_factorySettings (m : Dev) (osn : Nat) (port : Src) (data : List Byte) :
    systemEffect m osn (.factorySettings port data) = some (m.carryOut port K.FACTORY_SETTINGS (valueOf K.FACTORY_SETTINGS data) osn) := by
  obtain ⟨ha, hv⟩ := key_factorySettings
  rw [carryOut_of ha, valueOf_of hv]
  simp only [systemEffect, Ty.decode, hold_i hv, chapterOf, railAct, engAct, boardAct, systemAct, Val.int, Val.bs]
  first | done | rfl | (simp [ofLe]; done)

theorem key_fwErase :
    actOf K.FW_ERASE = .fwErase ∧ (objRow K.FW_ERASE).map (fun r => (r.ty, r.app)) = some (.u8, .i) := by decide +kernel

theorem effect_fwErase (m : Dev) (osn : Nat) (port : Src) (data : List Byte) :
    systemEffect m osn (.fwErase port data) = some (m.carryOut port K.FW_ERASE (valueOf K.FW_ERASE data) osn) := by
  obtain ⟨ha, hv⟩ := key_fwErase
  rw [carryOut_of ha, valueOf_of hv]
  simp only [systemEffect, Ty.decode, hold_i hv, chapterOf, railAct, engAct, boardAct, systemAct, Val.int, Val.bs]
  first | done | rfl | (simp [ofLe]; done)

theorem key_fwWrite :
    actOf K.FW_WRITE = .fwWrite ∧ (objRow K.FW_WRITE).map (fun r => (r.ty, r.app)) = some (.domain, .i) := by decide +kernel

theorem effect_fwWrite (m : Dev) (osn : Nat) (port : Src) (data : List Byte) :
    systemEffect m osn (.fwWrite port data) = some (m.carryOut port K.FW_WRITE (valueOf K.FW_WRITE data) osn) := by
  obtain ⟨ha, hv⟩ := key_fwWrite
  rw [carryOut_of ha, valueOf_of hv]
  simp only [systemEffect, Ty.decode, hold_i hv, chapterOf, railAct, engAct, boardAct, systemAct, Val.int, Val.bs]
  first | done | rfl | (simp [ofLe]; done)

theorem key_fwVerify :
    actOf K.FW_VERIFY = .fwVerify ∧ (objRow K.FW_VERIFY).map (fun r => (r.ty, r.app)) = some (.bool, .i) := by decide +kernel

theorem effect_fwVerify (m : Dev) (osn : Nat) (port : Src) (data : List Byte) :
    systemEffect m osn (.fwVerify port data) = some (m.carryOut port K.FW_VERIFY (valueOf K.FW_VERIFY data) osn) := by
  obtain ⟨ha, hv⟩ := key_fwVerify
  rw [carryOut_of ha, valueOf_of hv]
  simp only [systemEffect, Ty.decode, hold_i hv, chapterOf, railAct, engAct, boardAct, systemAct, Val.int, Val.bs]
  first | done | rfl | (simp [ofLe]; done)

theorem key_fwSwitch :
    actOf K.FW_SWITCH = .fwSwitch ∧ (objRow K.FW_SWITCH).map (fun r => (r.ty, r.app)) = some (.u32, .t) := by decide +kernel

theorem effect_fwSwitch (m : Dev) (osn : Nat) (port : Src) (data : List Byte) :
    systemEffect m osn (.fwSwitch port data) = some (m.carryOut port K.FW_SWITCH (valueOf K.FW_SWITCH data) osn) := by
  obtain ⟨ha, hv⟩ := key_fwSwitch
  rw [carryOut_of ha, valueOf_of hv]
  simp only [systemEffect, Ty.decode, hold_t hv, chapterOf, railAct, engAct, boardAct, systemAct, Val.int, Val.bs]
  first | done | rfl | (simp [ofLe]; done)

theorem key_fwConfirm :
    actOf K.FW_CONFIRM = .fwConfirm ∧ (objRow K.FW_CONFIRM).map (fun r => (r.ty, r.app)) = some (.bool, .i) := by decide +kernel

theorem effect_fwConfirm (m : Dev) (osn : Nat) (port : Src) (data : List Byte) :
    systemEffect m osn (.fwConfirm port data) = some (m.carryOut port K.FW_CONFIRM (valueOf K.FW_CONFIRM data) osn) := by
  obtain ⟨ha, hv⟩ := key_fwConfirm
  rw [carryOut_of ha, valueOf_of hv]
  simp only [systemEffect, Ty.decode, hold_i hv, chapterOf, railAct, engAct, boardAct, systemAct, Val.int, Val.bs]
  first | done | rfl | (simp [ofLe]; done)

theorem key_tmStart (t : Fin 16) :
    actOf (K.TM_CTRL t) = .tmCtrl ∧ keyUnit (K.TM_CTRL t) = t ∧ (objRow (K.TM_CTRL t)).map (fun r => (r.ty, r.app)) = some (.u8, .i) := by revert t; decide +kernel

theorem effect_tmStart (m : Dev) (osn : Nat) (port : Src) (t : Fin 16) :
    boardEffect m osn (.tmStart port t) = some (m.carryOut port (K.TM_CTRL t) (valueOf (K.TM_CTRL t) [1]) osn) := by
  obtain ⟨ha, hu, hv⟩ := key_tmStart t
  rw [carryOut_of ha, valueOf_of hv]
  try rw [hu]
  simp only [boardEffect, Ty.decode, hold_i hv, chapterOf, railAct, engAct, boardAct, systemAct, Val.int, Val.bs]
  first | done | rfl | (simp [ofLe]; done)

theorem effect_tmStop (m : Dev) (osn : Nat) (port : Src) (t : Fin 16) :
    boardEffect m osn (.tmStop port t) = some (m.carryOut port (K.TM_CTRL t) (valueOf (K.TM_CTRL t) [2]) osn) := by
  obtain ⟨ha, hu, hv⟩ := key_tmStart t
  rw [carryOut_of ha, valueOf_of hv]
  try rw [hu]
  simp only [boardEffect, Ty.decode, hold_i hv, chapterOf, railAct, engAct, boardAct, systemAct, Val.int, Val.bs]
  first | done | rfl | (simp [ofLe]; done)

theorem effect_tmReset (m : Dev) (osn : Nat) (port : Src) (t : Fin 16) :
    boardEffect m osn (.tmReset port t) = some (m.carryOut port (K.TM_CTRL t) (valueOf (K.TM_CTRL t) [3]) osn) := by
  obtain ⟨ha, hu, hv⟩ := key_tmStart t
  rw [carryOut_of ha, valueOf_of hv]
  try rw [hu]
  simp only [boardEffect, Ty.decode, hold_i hv, chapterOf, railAct, engAct, boardAct, systemAct, Val.int, Val.bs]
  first | done | rfl | (simp [ofLe]; done)

theorem key_tmGlobalStart :
    actOf K.TM_GLOBAL_START = .tmStart ∧ (objRow K.TM_GLOBAL_START).map (fun r => (r.ty, r.app)) = some (.u16, .i) := by decide +kernel

theorem effect_tmGlobalStart (m : Dev) (osn : Nat) (port : Src) (data : List Byte) :
    boardEffect m osn (.tmGlobalStart port data) = some (m.carryOut port K.TM_GLOBAL_START (valueOf K.TM_GLOBAL_START data) osn) := by
  obtain ⟨ha, hv⟩ := key_tmGlobalStart
  rw [carryOut_of ha, valueOf_of hv]
  simp only [boardEffect, Ty.decode, hold_i hv, chapterOf, railAct, engAct, boardAct, systemAct, Val.int, Val.bs]
  first | done | rfl | (simp [ofLe]; done)

theorem key_tmGlobalStop :
    actOf K.TM_GLOBAL_STOP = .tmStop ∧ (objRow K.TM_GLOBAL_STOP).map (fun r => (r.ty, r.app)) = some (.u16, .i) := by decide +kernel

theorem effect_tmGlobalStop (m : Dev) (osn : Nat) (port : Src) (data : List Byte) :
    boardEffect m osn (.tmGlobalStop port data) = some (m.carryOut port K.TM_GLOBAL_STOP (valueOf K.TM_GLOBAL_STOP data) osn) := by
  obtain ⟨ha, hv⟩ := key_tmGlobalStop
  rw [carryOut_of ha, valueOf_of hv]
  simp only [boardEffect, Ty.decode, hold_i hv, chapterOf, railAct, engAct, boardAct, systemAct, Val.int, Val.bs]
  first | done | rfl | (simp [ofLe]; done)

theorem key_tmPeriodWrite (t : Fin 16) :
    actOf (K.TM_PERIOD t) = .tmPeriod ∧ keyUnit (K.TM_PERIOD t) = t ∧ (objRow (K.TM_PERIOD t)).map (fun r => (r.ty, r.app)) = some (.u32, .i) := by revert t; decide +kernel

theorem effect_tmPeriodWrite (m : Dev) (osn : Nat) (port : Src) (t : Fin 16) (data : List Byte) :
    boardEffect m osn (.tmPeriodWrite port t data) = some (m.carryOut port (K.TM_PERIOD t) (valueOf (K.TM_PERIOD t) data) osn) := by
  obtain ⟨ha, hu, hv⟩ := key_tmPeriodWrite t
  rw [carryOut_of ha, valueOf_of hv]
  try rw [hu]
  simp only [boardEffect, Ty.decode, hold_i hv, chapterOf, railAct, engAct, boardAct, systemAct, Val.int, Val.bs]
  first | done | rfl | (simp [ofLe]; done)

theorem key_tmCompareWrite (t : Fin 16) :
    actOf (K.TM_COMPARE t) = .tmCompare ∧ keyUnit (K.TM_COMPARE t) = t ∧ (objRow (K.TM_COMPARE t)).map (fun r => (r.ty, r.app)) = some (.u32, .i) := by revert t; decide +kernel

theorem effect_tmCompareWrite (m : Dev) (osn : Nat) (port : Src) (t : Fin 16) (data : List Byte) :
    boardEffect m osn (.tmCompareWrite port t data) = some (m.carryOut port (K.TM_COMPARE t) (valueOf (K.TM_COMPARE t) data) osn) := by
  obtain ⟨ha, hu, hv⟩ := key_tmCompareWrite t
  rw [carryOut_of ha, valueOf_of hv]
  try rw [hu]
  simp only [boardEffect, Ty.decode, hold_i hv, chapterOf, railAct, engAct, boardAct, systemAct, Val.int, Val.bs]
  first | done | rfl | (simp [ofLe]; done)

theorem key_intAck (line : Fin 4) :
    actOf (K.INT_ACK line) = .intAck ∧ keyUnit (K.INT_ACK line) = line ∧ (objRow (K.INT_ACK line)).map (fun r => (r.ty, r.app)) = some (.u32, .i) := by revert line; decide +kernel

theorem effect_intAck (m : Dev) (osn : Nat) (port : Src) (line : Fin 4) (data : List Byte) :
    boardEffect m osn (.intAck port line data) = some (m.carryOut port (K.INT_ACK line) (valueOf (K.INT_ACK line) data) osn) := by
  obtain ⟨ha, hu, hv⟩ := key_intAck line
  rw [carryOut_of ha, valueOf_of hv]
  try rw [hu]
  simp only [boardEffect, Ty.decode, hold_i hv, chapterOf, railAct, engAct, boardAct, systemAct, Val.int, Val.bs]
  first | done | rfl | (simp [ofLe]; done)

theorem key_evTest :
    actOf K.EV_TEST = .evTest ∧ (objRow K.EV_TEST).map (fun r => (r.ty, r.app)) = some (.u16, .t) := by decide +kernel

theorem effect_evTest (m : Dev) (osn : Nat) (port : Src) (data : List Byte) :
    boardEffect m osn (.evTest port data) = some (m.carryOut port K.EV_TEST (valueOf K.EV_TEST data) osn) := by
  obtain ⟨ha, hv⟩ := key_evTest
  rw [carryOut_of ha, valueOf_of hv]
  simp only [boardEffect, Ty.decode, hold_t hv, chapterOf, railAct, engAct, boardAct, systemAct, Val.int, Val.bs]
  first | done | rfl | (simp [ofLe]; done)

theorem key_pmbXfer :
    actOf K.PMB_XFER = .xfer ∧ (objRow K.PMB_XFER).map (fun r => (r.ty, r.app)) = some (.domain, .i) := by decide +kernel

theorem effect_pmbXfer (m : Dev) (osn : Nat) (port : Src) (data : List Byte) :
    systemEffect m osn (.pmbXfer port data) = some (m.carryOut port K.PMB_XFER (valueOf K.PMB_XFER data) osn) := by
  obtain ⟨ha, hv⟩ := key_pmbXfer
  rw [carryOut_of ha, valueOf_of hv]
  simp only [systemEffect, Ty.decode, hold_i hv, chapterOf, railAct, engAct, boardAct, systemAct, Val.int, Val.bs]
  first | done | rfl | (simp [ofLe]; done)

theorem key_lbXfer :
    actOf K.LB_XFER = .xfer ∧ (objRow K.LB_XFER).map (fun r => (r.ty, r.app)) = some (.domain, .i) := by decide +kernel

theorem effect_lbXfer (m : Dev) (osn : Nat) (port : Src) (data : List Byte) :
    systemEffect m osn (.lbXfer port data) = some (m.carryOut port K.LB_XFER (valueOf K.LB_XFER data) osn) := by
  obtain ⟨ha, hv⟩ := key_lbXfer
  rw [carryOut_of ha, valueOf_of hv]
  simp only [systemEffect, Ty.decode, hold_i hv, chapterOf, railAct, engAct, boardAct, systemAct, Val.int, Val.bs]
  first | done | rfl | (simp [ofLe]; done)

theorem key_bulkWindowWrite {sub : Fin 256} (hs : sub = 1 ∨ sub = 2) :
    actOf (0x2E60*256+sub) = .bulkWindow ∧ keyUnit (0x2E60*256+sub) = sub - 1 ∧ (objRow (0x2E60*256+sub)).map (fun r => (r.ty, r.app)) = some (.u16, .i) := by obtain rfl | rfl := hs <;> decide +kernel

theorem effect_bulkWindowWrite (m : Dev) (osn : Nat) (port : Src) (sub : Fin 256) (data : List Byte) (hs : sub = 1 ∨ sub = 2) :
    systemEffect m osn (.bulkWindowWrite port sub data) = some (m.carryOut port (0x2E60*256+sub) (valueOf (0x2E60*256+sub) data) osn) := by
  obtain ⟨ha, hu, hv⟩ := key_bulkWindowWrite hs
  rw [carryOut_of ha, valueOf_of hv]
  simp only [systemEffect, chapterOf, systemAct, Ty.decode, hu]
  obtain rfl | rfl := hs <;> rfl

theorem key_bulkObjectWrite {sub : Fin 256} (hs : sub = 1 ∨ sub = 2) :
    actOf (0x2E61*256+sub) = .bulkObject ∧ keyUnit (0x2E61*256+sub) = sub - 1 ∧ (objRow (0x2E61*256+sub)).map (fun r => (r.ty, r.app)) = some (.u32, .i) := by obtain rfl | rfl := hs <;> decide +kernel

theorem effect_bulkObjectWrite (m : Dev) (osn : Nat) (port : Src) (sub : Fin 256) (data : List Byte) (hs : sub = 1 ∨ sub = 2) :
    systemEffect m osn (.bulkObjectWrite port sub data) = some (m.carryOut port (0x2E61*256+sub) (valueOf (0x2E61*256+sub) data) osn) := by
  obtain ⟨ha, hu, hv⟩ := key_bulkObjectWrite hs
  rw [carryOut_of ha, valueOf_of hv]
  simp only [systemEffect, chapterOf, systemAct, Ty.decode, hu]
  obtain rfl | rfl := hs <;> rfl

theorem key_unitEnable (u : Fin 18) :
    actOf (K.UNIT_ON u) = .unitOn ∧ keyUnit (K.UNIT_ON u) = u ∧ (objRow (K.UNIT_ON u)).map (fun r => (r.ty, r.app)) = some (.bool, .t) := by revert u; decide +kernel

theorem effect_unitEnable (m : Dev) (osn : Nat) (port : Src) (u : Fin 18) :
    regulatorEffect m osn (.unitEnable port u) = some (m.carryOut port (K.UNIT_ON u) (valueOf (K.UNIT_ON u) [1]) osn) := by
  obtain ⟨ha, hu, hv⟩ := key_unitEnable u
  rw [carryOut_of ha, valueOf_of hv]
  try rw [hu]
  simp only [regulatorEffect, Ty.decode, hold_t hv, chapterOf, railAct, engAct, boardAct, systemAct, Val.int, Val.bs]
  first | done | rfl | (simp [ofLe]; done)

theorem effect_unitDisable (m : Dev) (osn : Nat) (port : Src) (u : Fin 18) :
    regulatorEffect m osn (.unitDisable port u) = some (m.carryOut port (K.UNIT_ON u) (valueOf (K.UNIT_ON u) [0]) osn) := by
  obtain ⟨ha, hu, hv⟩ := key_unitEnable u
  rw [carryOut_of ha, valueOf_of hv]
  try rw [hu]
  simp only [regulatorEffect, Ty.decode, hold_t hv, chapterOf, railAct, engAct, boardAct, systemAct, Val.int, Val.bs]
  first | done | rfl | (simp [ofLe]; done)

theorem key_bkVoutCommandWrite (b : Fin 6) :
    actOf (K.BK_VOUT_COMMAND b) = .buckCommand ∧ keyUnit (K.BK_VOUT_COMMAND b) = b ∧ (objRow (K.BK_VOUT_COMMAND b)).map (fun r => (r.ty, r.app)) = some (.u16, .t) := by revert b; decide +kernel

theorem effect_bkVoutCommandWrite (m : Dev) (osn : Nat) (port : Src) (b : Fin 6) (data : List Byte) :
    regulatorEffect m osn (.bkVoutCommandWrite port b data) = some (m.carryOut port (K.BK_VOUT_COMMAND b) (valueOf (K.BK_VOUT_COMMAND b) data) osn) := by
  obtain ⟨ha, hu, hv⟩ := key_bkVoutCommandWrite b
  rw [carryOut_of ha, valueOf_of hv]
  try rw [hu]
  simp only [regulatorEffect, Ty.decode, hold_t hv, chapterOf, railAct, engAct, boardAct, systemAct, Val.int, Val.bs]
  first | done | rfl | (simp [ofLe]; done)

theorem key_loopModeWrite (n : Fin 8) :
    actOf (K.LOOP_MODE n) = .plain ∧ keyUnit (K.LOOP_MODE n) = n ∧ (objRow (K.LOOP_MODE n)).map (fun r => (r.ty, r.app)) = some (.u8, .t) := by revert n; decide +kernel

theorem effect_loopModeWrite (m : Dev) (osn : Nat) (port : Src) (n : Fin 8) (data : List Byte) :
    regulatorEffect m osn (.loopModeWrite port n data) = some (m.carryOut port (K.LOOP_MODE n) (valueOf (K.LOOP_MODE n) data) osn) := by
  obtain ⟨ha, hu, hv⟩ := key_loopModeWrite n
  rw [carryOut_of ha, valueOf_of hv]
  try rw [hu]
  simp only [regulatorEffect, Ty.decode, hold_t hv, chapterOf, railAct, engAct, boardAct, systemAct, Val.int, Val.bs]
  first | done | rfl | (simp [ofLe]; done)

theorem key_policyHoldWrite (n : Fin 8) :
    actOf (K.POLICY_HOLD n) = .policyHold ∧ keyUnit (K.POLICY_HOLD n) = n ∧ (objRow (K.POLICY_HOLD n)).map (fun r => (r.ty, r.app)) = some (.bool, .t) := by revert n; decide +kernel

theorem effect_policyHoldWrite (m : Dev) (osn : Nat) (port : Src) (n : Fin 8) (data : List Byte) :
    regulatorEffect m osn (.policyHoldWrite port n data) = some (m.carryOut port (K.POLICY_HOLD n) (valueOf (K.POLICY_HOLD n) data) osn) := by
  obtain ⟨ha, hu, hv⟩ := key_policyHoldWrite n
  rw [carryOut_of ha, valueOf_of hv]
  try rw [hu]
  simp only [regulatorEffect, Ty.decode, hold_t hv, chapterOf, railAct, engAct, boardAct, systemAct, Val.int, Val.bs]
  first | done | rfl | (simp [ofLe]; done)

theorem key_voutCommandWrite (n : Fin 8) :
    actOf (K.VOUT_COMMAND n) = .voutCommand ∧ keyUnit (K.VOUT_COMMAND n) = n ∧ (objRow (K.VOUT_COMMAND n)).map (fun r => (r.ty, r.app)) = some (.u16, .t) := by revert n; decide +kernel

theorem effect_voutCommandWrite (m : Dev) (osn : Nat) (port : Src) (n : Fin 8) (data : List Byte) :
    regulatorEffect m osn (.voutCommandWrite port n data) = some (m.carryOut port (K.VOUT_COMMAND n) (valueOf (K.VOUT_COMMAND n) data) osn) := by
  obtain ⟨ha, hu, hv⟩ := key_voutCommandWrite n
  rw [carryOut_of ha, valueOf_of hv]
  try rw [hu]
  simp only [regulatorEffect, Ty.decode, hold_t hv, chapterOf, railAct, engAct, boardAct, systemAct, Val.int, Val.bs]
  first | done | rfl | (simp [ofLe]; done)

theorem key_marginStateWrite (n : Fin 8) :
    actOf (K.MARGIN_STATE n) = .marginState ∧ keyUnit (K.MARGIN_STATE n) = n ∧ (objRow (K.MARGIN_STATE n)).map (fun r => (r.ty, r.app)) = some (.u8, .t) := by revert n; decide +kernel

theorem effect_marginStateWrite (m : Dev) (osn : Nat) (port : Src) (n : Fin 8) (data : List Byte) :
    regulatorEffect m osn (.marginStateWrite port n data) = some (m.carryOut port (K.MARGIN_STATE n) (valueOf (K.MARGIN_STATE n) data) osn) := by
  obtain ⟨ha, hu, hv⟩ := key_marginStateWrite n
  rw [carryOut_of ha, valueOf_of hv]
  try rw [hu]
  simp only [regulatorEffect, Ty.decode, hold_t hv, chapterOf, railAct, engAct, boardAct, systemAct, Val.int, Val.bs]
  first | done | rfl | (simp [ofLe]; done)

theorem key_lilEnWrite :
    actOf K.LIL_EN = .plain ∧ (objRow K.LIL_EN).map (fun r => (r.ty, r.app)) = some (.bool, .t) := by decide +kernel

theorem effect_lilEnWrite (m : Dev) (osn : Nat) (port : Src) (data : List Byte) :
    regulatorEffect m osn (.lilEnWrite port data) = some (m.carryOut port K.LIL_EN (valueOf K.LIL_EN data) osn) := by
  obtain ⟨ha, hv⟩ := key_lilEnWrite
  rw [carryOut_of ha, valueOf_of hv]
  simp only [regulatorEffect, Ty.decode, hold_t hv, chapterOf, railAct, engAct, boardAct, systemAct, Val.int, Val.bs]
  first | done | rfl | (simp [ofLe]; done)

theorem key_intentResume (n : Fin 8) :
    actOf (K.INTENT_RESUME n) = .plain ∧ keyUnit (K.INTENT_RESUME n) = n ∧ (objRow (K.INTENT_RESUME n)).map (fun r => (r.ty, r.app)) = some (.bool, .t) := by revert n; decide +kernel

theorem effect_intentResume (m : Dev) (osn : Nat) (port : Src) (n : Fin 8) :
    regulatorEffect m osn (.intentResume port n) = some (m.carryOut port (K.INTENT_RESUME n) (valueOf (K.INTENT_RESUME n) [1]) osn) := by
  obtain ⟨ha, hu, hv⟩ := key_intentResume n
  rw [carryOut_of ha, valueOf_of hv]
  try rw [hu]
  simp only [regulatorEffect, Ty.decode, hold_t hv, chapterOf, railAct, engAct, boardAct, systemAct, Val.int, Val.bs]
  first | done | rfl | (simp [ofLe]; done)

end Sys2Proof.Machine
end

