-- ==== Sys2Proof/Laws/State.lean ====
section
/-! SUPPORT. Beside State: what each named update of the device leaves unchanged, one lemma for each field, and the laws of
the object dictionary (a read after a write) and of causes. -/

namespace Sys2Proof.Machine.Dev

variable (d : Dev)

@[simp] theorem setObj_eff (k : Nat) (v : Val) : (d.setObj k v).eff = d.eff := rfl
@[simp] theorem setObj_pendT (k : Nat) (v : Val) : (d.setObj k v).pendT = d.pendT := rfl
@[simp] theorem setObj_pendS (k : Nat) (v : Val) : (d.setObj k v).pendS = d.pendS := rfl
@[simp] theorem setObj_free (k : Nat) (v : Val) : (d.setObj k v).free = d.free := rfl
@[simp] theorem setObj_answer (k : Nat) (v : Val) : (d.setObj k v).answer = d.answer := rfl
@[simp] theorem setObj_osnNext (k : Nat) (v : Val) : (d.setObj k v).osnNext = d.osnNext := rfl
@[simp] theorem setObj_ops (k : Nat) (v : Val) : (d.setObj k v).ops = d.ops := rfl
@[simp] theorem setObj_boot (k : Nat) (v : Val) : (d.setObj k v).boot = d.boot := rfl
@[simp] theorem setObj_power (k : Nat) (v : Val) : (d.setObj k v).power = d.power := rfl
@[simp] theorem setObj_supAbsent (k : Nat) (v : Val) : (d.setObj k v).supAbsent = d.supAbsent := rfl
@[simp] theorem setObj_supHalted (k : Nat) (v : Val) : (d.setObj k v).supHalted = d.supHalted := rfl
@[simp] theorem setObj_softDue (k : Nat) (v : Val) : (d.setObj k v).softDue = d.softDue := rfl
@[simp] theorem setObj_clk (k : Nat) (v : Val) : (d.setObj k v).clk = d.clk := rfl
@[simp] theorem setObj_hk (k : Nat) (v : Val) : (d.setObj k v).hk = d.hk := rfl
@[simp] theorem setObj_cap (k : Nat) (v : Val) : (d.setObj k v).cap = d.cap := rfl
@[simp] theorem setObj_ev (k : Nat) (v : Val) : (d.setObj k v).ev = d.ev := rfl
@[simp] theorem setObj_eng (k : Nat) (v : Val) : (d.setObj k v).eng = d.eng := rfl
@[simp] theorem setObj_sample (k : Nat) (v : Val) : (d.setObj k v).sample = d.sample := rfl
@[simp] theorem setObj_drive (k : Nat) (v : Val) : (d.setObj k v).drive = d.drive := rfl
@[simp] theorem setObj_tms (k : Nat) (v : Val) : (d.setObj k v).tms = d.tms := rfl
@[simp] theorem setObj_pmb (k : Nat) (v : Val) : (d.setObj k v).pmb = d.pmb := rfl
@[simp] theorem setObj_svc (k : Nat) (v : Val) : (d.setObj k v).svc = d.svc := rfl
@[simp] theorem setObj_pages (k : Nat) (v : Val) : (d.setObj k v).pages = d.pages := rfl
@[simp] theorem setObj_alert (k : Nat) (v : Val) : (d.setObj k v).alert = d.alert := rfl
@[simp] theorem setObj_pmbCtrl (k : Nat) (v : Val) : (d.setObj k v).pmbCtrl = d.pmbCtrl := rfl
@[simp] theorem setObj_lbCtrl (k : Nat) (v : Val) : (d.setObj k v).lbCtrl = d.lbCtrl := rfl
@[simp] theorem setObj_lbWait (k : Nat) (v : Val) : (d.setObj k v).lbWait = d.lbWait := rfl
@[simp] theorem setObj_canA (k : Nat) (v : Val) : (d.setObj k v).canA = d.canA := rfl
@[simp] theorem setObj_canB (k : Nat) (v : Val) : (d.setObj k v).canB = d.canB := rfl
@[simp] theorem setObj_node (k : Nat) (v : Val) : (d.setObj k v).node = d.node := rfl
@[simp] theorem setObj_log (k : Nat) (v : Val) : (d.setObj k v).log = d.log := rfl
@[simp] theorem setObj_acc (k : Nat) (v : Val) : (d.setObj k v).acc = d.acc := rfl
@[simp] theorem setObj_phases (k : Nat) (v : Val) : (d.setObj k v).phases = d.phases := rfl
@[simp] theorem setObj_rails (k : Nat) (v : Val) : (d.setObj k v).rails = d.rails := rfl
@[simp] theorem setObj_sgs (k : Nat) (v : Val) : (d.setObj k v).sgs = d.sgs := rfl
@[simp] theorem setObj_lil (k : Nat) (v : Val) : (d.setObj k v).lil = d.lil := rfl
@[simp] theorem setObj_load (k : Nat) (v : Val) : (d.setObj k v).load = d.load := rfl
@[simp] theorem setObj_bucks (k : Nat) (v : Val) : (d.setObj k v).bucks = d.bucks := rfl
@[simp] theorem setObj_ldos (k : Nat) (v : Val) : (d.setObj k v).ldos = d.ldos := rfl
@[simp] theorem setObj_wms (k : Nat) (v : Val) : (d.setObj k v).wms = d.wms := rfl
@[simp] theorem setObj_pol (k : Nat) (v : Val) : (d.setObj k v).pol = d.pol := rfl
@[simp] theorem setObj_polWait (k : Nat) (v : Val) : (d.setObj k v).polWait = d.polWait := rfl
@[simp] theorem setObj_polPost (k : Nat) (v : Val) : (d.setObj k v).polPost = d.polPost := rfl
@[simp] theorem setObj_seqr (k : Nat) (v : Val) : (d.setObj k v).seqr = d.seqr := rfl
@[simp] theorem setObj_path (k : Nat) (v : Val) : (d.setObj k v).path = d.path := rfl
@[simp] theorem setObj_chg (k : Nat) (v : Val) : (d.setObj k v).chg = d.chg := rfl
@[simp] theorem setObj_boost (k : Nat) (v : Val) : (d.setObj k v).boost = d.boost := rfl
@[simp] theorem setObj_die (k : Nat) (v : Val) : (d.setObj k v).die = d.die := rfl
@[simp] theorem setObj_btn (k : Nat) (v : Val) : (d.setObj k v).btn = d.btn := rfl
@[simp] theorem setObj_store (k : Nat) (v : Val) : (d.setObj k v).store = d.store := rfl
@[simp] theorem setObj_fw (k : Nat) (v : Val) : (d.setObj k v).fw = d.fw := rfl
@[simp] theorem setObj_nvm (k : Nat) (v : Val) : (d.setObj k v).nvm = d.nvm := rfl
@[simp] theorem setObj_board (k : Nat) (v : Val) : (d.setObj k v).board = d.board := rfl
@[simp] theorem setObj_lateResp (k : Nat) (v : Val) : (d.setObj k v).lateResp = d.lateResp := rfl

@[simp] theorem answering_objs (a : Answer) : (d.answering a).objs = d.objs := rfl
@[simp] theorem answering_eff (a : Answer) : (d.answering a).eff = d.eff := rfl
@[simp] theorem answering_pendT (a : Answer) : (d.answering a).pendT = d.pendT := rfl
@[simp] theorem answering_pendS (a : Answer) : (d.answering a).pendS = d.pendS := rfl
@[simp] theorem answering_free (a : Answer) : (d.answering a).free = d.free := rfl
@[simp] theorem answering_osnNext (a : Answer) : (d.answering a).osnNext = d.osnNext := rfl
@[simp] theorem answering_ops (a : Answer) : (d.answering a).ops = d.ops := rfl
@[simp] theorem answering_boot (a : Answer) : (d.answering a).boot = d.boot := rfl
@[simp] theorem answering_power (a : Answer) : (d.answering a).power = d.power := rfl
@[simp] theorem answering_supAbsent (a : Answer) : (d.answering a).supAbsent = d.supAbsent := rfl
@[simp] theorem answering_supHalted (a : Answer) : (d.answering a).supHalted = d.supHalted := rfl
@[simp] theorem answering_softDue (a : Answer) : (d.answering a).softDue = d.softDue := rfl
@[simp] theorem answering_clk (a : Answer) : (d.answering a).clk = d.clk := rfl
@[simp] theorem answering_hk (a : Answer) : (d.answering a).hk = d.hk := rfl
@[simp] theorem answering_cap (a : Answer) : (d.answering a).cap = d.cap := rfl
@[simp] theorem answering_ev (a : Answer) : (d.answering a).ev = d.ev := rfl
@[simp] theorem answering_eng (a : Answer) : (d.answering a).eng = d.eng := rfl
@[simp] theorem answering_sample (a : Answer) : (d.answering a).sample = d.sample := rfl
@[simp] theorem answering_drive (a : Answer) : (d.answering a).drive = d.drive := rfl
@[simp] theorem answering_tms (a : Answer) : (d.answering a).tms = d.tms := rfl
@[simp] theorem answering_pmb (a : Answer) : (d.answering a).pmb = d.pmb := rfl
@[simp] theorem answering_svc (a : Answer) : (d.answering a).svc = d.svc := rfl
@[simp] theorem answering_pages (a : Answer) : (d.answering a).pages = d.pages := rfl
@[simp] theorem answering_alert (a : Answer) : (d.answering a).alert = d.alert := rfl
@[simp] theorem answering_pmbCtrl (a : Answer) : (d.answering a).pmbCtrl = d.pmbCtrl := rfl
@[simp] theorem answering_lbCtrl (a : Answer) : (d.answering a).lbCtrl = d.lbCtrl := rfl
@[simp] theorem answering_lbWait (a : Answer) : (d.answering a).lbWait = d.lbWait := rfl
@[simp] theorem answering_canA (a : Answer) : (d.answering a).canA = d.canA := rfl
@[simp] theorem answering_canB (a : Answer) : (d.answering a).canB = d.canB := rfl
@[simp] theorem answering_node (a : Answer) : (d.answering a).node = d.node := rfl
@[simp] theorem answering_log (a : Answer) : (d.answering a).log = d.log := rfl
@[simp] theorem answering_acc (a : Answer) : (d.answering a).acc = d.acc := rfl
@[simp] theorem answering_phases (a : Answer) : (d.answering a).phases = d.phases := rfl
@[simp] theorem answering_rails (a : Answer) : (d.answering a).rails = d.rails := rfl
@[simp] theorem answering_sgs (a : Answer) : (d.answering a).sgs = d.sgs := rfl
@[simp] theorem answering_lil (a : Answer) : (d.answering a).lil = d.lil := rfl
@[simp] theorem answering_load (a : Answer) : (d.answering a).load = d.load := rfl
@[simp] theorem answering_bucks (a : Answer) : (d.answering a).bucks = d.bucks := rfl
@[simp] theorem answering_ldos (a : Answer) : (d.answering a).ldos = d.ldos := rfl
@[simp] theorem answering_wms (a : Answer) : (d.answering a).wms = d.wms := rfl
@[simp] theorem answering_pol (a : Answer) : (d.answering a).pol = d.pol := rfl
@[simp] theorem answering_polWait (a : Answer) : (d.answering a).polWait = d.polWait := rfl
@[simp] theorem answering_polPost (a : Answer) : (d.answering a).polPost = d.polPost := rfl
@[simp] theorem answering_seqr (a : Answer) : (d.answering a).seqr = d.seqr := rfl
@[simp] theorem answering_path (a : Answer) : (d.answering a).path = d.path := rfl
@[simp] theorem answering_chg (a : Answer) : (d.answering a).chg = d.chg := rfl
@[simp] theorem answering_boost (a : Answer) : (d.answering a).boost = d.boost := rfl
@[simp] theorem answering_die (a : Answer) : (d.answering a).die = d.die := rfl
@[simp] theorem answering_btn (a : Answer) : (d.answering a).btn = d.btn := rfl
@[simp] theorem answering_store (a : Answer) : (d.answering a).store = d.store := rfl
@[simp] theorem answering_fw (a : Answer) : (d.answering a).fw = d.fw := rfl
@[simp] theorem answering_nvm (a : Answer) : (d.answering a).nvm = d.nvm := rfl
@[simp] theorem answering_board (a : Answer) : (d.answering a).board = d.board := rfl
@[simp] theorem answering_lateResp (a : Answer) : (d.answering a).lateResp = d.lateResp := rfl

@[simp] theorem modPh_objs (i : Nat) (f : Phase → Phase) : (d.modPh i f).objs = d.objs := rfl
@[simp] theorem modPh_eff (i : Nat) (f : Phase → Phase) : (d.modPh i f).eff = d.eff := rfl
@[simp] theorem modPh_pendT (i : Nat) (f : Phase → Phase) : (d.modPh i f).pendT = d.pendT := rfl
@[simp] theorem modPh_pendS (i : Nat) (f : Phase → Phase) : (d.modPh i f).pendS = d.pendS := rfl
@[simp] theorem modPh_free (i : Nat) (f : Phase → Phase) : (d.modPh i f).free = d.free := rfl
@[simp] theorem modPh_answer (i : Nat) (f : Phase → Phase) : (d.modPh i f).answer = d.answer := rfl
@[simp] theorem modPh_osnNext (i : Nat) (f : Phase → Phase) : (d.modPh i f).osnNext = d.osnNext := rfl
@[simp] theorem modPh_ops (i : Nat) (f : Phase → Phase) : (d.modPh i f).ops = d.ops := rfl
@[simp] theorem modPh_boot (i : Nat) (f : Phase → Phase) : (d.modPh i f).boot = d.boot := rfl
@[simp] theorem modPh_power (i : Nat) (f : Phase → Phase) : (d.modPh i f).power = d.power := rfl
@[simp] theorem modPh_supAbsent (i : Nat) (f : Phase → Phase) : (d.modPh i f).supAbsent = d.supAbsent := rfl
@[simp] theorem modPh_supHalted (i : Nat) (f : Phase → Phase) : (d.modPh i f).supHalted = d.supHalted := rfl
@[simp] theorem modPh_softDue (i : Nat) (f : Phase → Phase) : (d.modPh i f).softDue = d.softDue := rfl
@[simp] theorem modPh_clk (i : Nat) (f : Phase → Phase) : (d.modPh i f).clk = d.clk := rfl
@[simp] theorem modPh_hk (i : Nat) (f : Phase → Phase) : (d.modPh i f).hk = d.hk := rfl
@[simp] theorem modPh_cap (i : Nat) (f : Phase → Phase) : (d.modPh i f).cap = d.cap := rfl
@[simp] theorem modPh_ev (i : Nat) (f : Phase → Phase) : (d.modPh i f).ev = d.ev := rfl
@[simp] theorem modPh_eng (i : Nat) (f : Phase → Phase) : (d.modPh i f).eng = d.eng := rfl
@[simp] theorem modPh_sample (i : Nat) (f : Phase → Phase) : (d.modPh i f).sample = d.sample := rfl
@[simp] theorem modPh_drive (i : Nat) (f : Phase → Phase) : (d.modPh i f).drive = d.drive := rfl
@[simp] theorem modPh_tms (i : Nat) (f : Phase → Phase) : (d.modPh i f).tms = d.tms := rfl
@[simp] theorem modPh_pmb (i : Nat) (f : Phase → Phase) : (d.modPh i f).pmb = d.pmb := rfl
@[simp] theorem modPh_svc (i : Nat) (f : Phase → Phase) : (d.modPh i f).svc = d.svc := rfl
@[simp] theorem modPh_pages (i : Nat) (f : Phase → Phase) : (d.modPh i f).pages = d.pages := rfl
@[simp] theorem modPh_alert (i : Nat) (f : Phase → Phase) : (d.modPh i f).alert = d.alert := rfl
@[simp] theorem modPh_pmbCtrl (i : Nat) (f : Phase → Phase) : (d.modPh i f).pmbCtrl = d.pmbCtrl := rfl
@[simp] theorem modPh_lbCtrl (i : Nat) (f : Phase → Phase) : (d.modPh i f).lbCtrl = d.lbCtrl := rfl
@[simp] theorem modPh_lbWait (i : Nat) (f : Phase → Phase) : (d.modPh i f).lbWait = d.lbWait := rfl
@[simp] theorem modPh_canA (i : Nat) (f : Phase → Phase) : (d.modPh i f).canA = d.canA := rfl
@[simp] theorem modPh_canB (i : Nat) (f : Phase → Phase) : (d.modPh i f).canB = d.canB := rfl
@[simp] theorem modPh_node (i : Nat) (f : Phase → Phase) : (d.modPh i f).node = d.node := rfl
@[simp] theorem modPh_log (i : Nat) (f : Phase → Phase) : (d.modPh i f).log = d.log := rfl
@[simp] theorem modPh_acc (i : Nat) (f : Phase → Phase) : (d.modPh i f).acc = d.acc := rfl
@[simp] theorem modPh_rails (i : Nat) (f : Phase → Phase) : (d.modPh i f).rails = d.rails := rfl
@[simp] theorem modPh_sgs (i : Nat) (f : Phase → Phase) : (d.modPh i f).sgs = d.sgs := rfl
@[simp] theorem modPh_lil (i : Nat) (f : Phase → Phase) : (d.modPh i f).lil = d.lil := rfl
@[simp] theorem modPh_load (i : Nat) (f : Phase → Phase) : (d.modPh i f).load = d.load := rfl
@[simp] theorem modPh_bucks (i : Nat) (f : Phase → Phase) : (d.modPh i f).bucks = d.bucks := rfl
@[simp] theorem modPh_ldos (i : Nat) (f : Phase → Phase) : (d.modPh i f).ldos = d.ldos := rfl
@[simp] theorem modPh_wms (i : Nat) (f : Phase → Phase) : (d.modPh i f).wms = d.wms := rfl
@[simp] theorem modPh_pol (i : Nat) (f : Phase → Phase) : (d.modPh i f).pol = d.pol := rfl
@[simp] theorem modPh_polWait (i : Nat) (f : Phase → Phase) : (d.modPh i f).polWait = d.polWait := rfl
@[simp] theorem modPh_polPost (i : Nat) (f : Phase → Phase) : (d.modPh i f).polPost = d.polPost := rfl
@[simp] theorem modPh_seqr (i : Nat) (f : Phase → Phase) : (d.modPh i f).seqr = d.seqr := rfl
@[simp] theorem modPh_path (i : Nat) (f : Phase → Phase) : (d.modPh i f).path = d.path := rfl
@[simp] theorem modPh_chg (i : Nat) (f : Phase → Phase) : (d.modPh i f).chg = d.chg := rfl
@[simp] theorem modPh_boost (i : Nat) (f : Phase → Phase) : (d.modPh i f).boost = d.boost := rfl
@[simp] theorem modPh_die (i : Nat) (f : Phase → Phase) : (d.modPh i f).die = d.die := rfl
@[simp] theorem modPh_btn (i : Nat) (f : Phase → Phase) : (d.modPh i f).btn = d.btn := rfl
@[simp] theorem modPh_store (i : Nat) (f : Phase → Phase) : (d.modPh i f).store = d.store := rfl
@[simp] theorem modPh_fw (i : Nat) (f : Phase → Phase) : (d.modPh i f).fw = d.fw := rfl
@[simp] theorem modPh_nvm (i : Nat) (f : Phase → Phase) : (d.modPh i f).nvm = d.nvm := rfl
@[simp] theorem modPh_board (i : Nat) (f : Phase → Phase) : (d.modPh i f).board = d.board := rfl
@[simp] theorem modPh_lateResp (i : Nat) (f : Phase → Phase) : (d.modPh i f).lateResp = d.lateResp := rfl

@[simp] theorem modRl_objs (i : Nat) (f : Rail → Rail) : (d.modRl i f).objs = d.objs := rfl
@[simp] theorem modRl_eff (i : Nat) (f : Rail → Rail) : (d.modRl i f).eff = d.eff := rfl
@[simp] theorem modRl_pendT (i : Nat) (f : Rail → Rail) : (d.modRl i f).pendT = d.pendT := rfl
@[simp] theorem modRl_pendS (i : Nat) (f : Rail → Rail) : (d.modRl i f).pendS = d.pendS := rfl
@[simp] theorem modRl_free (i : Nat) (f : Rail → Rail) : (d.modRl i f).free = d.free := rfl
@[simp] theorem modRl_answer (i : Nat) (f : Rail → Rail) : (d.modRl i f).answer = d.answer := rfl
@[simp] theorem modRl_osnNext (i : Nat) (f : Rail → Rail) : (d.modRl i f).osnNext = d.osnNext := rfl
@[simp] theorem modRl_ops (i : Nat) (f : Rail → Rail) : (d.modRl i f).ops = d.ops := rfl
@[simp] theorem modRl_boot (i : Nat) (f : Rail → Rail) : (d.modRl i f).boot = d.boot := rfl
@[simp] theorem modRl_power (i : Nat) (f : Rail → Rail) : (d.modRl i f).power = d.power := rfl
@[simp] theorem modRl_supAbsent (i : Nat) (f : Rail → Rail) : (d.modRl i f).supAbsent = d.supAbsent := rfl
@[simp] theorem modRl_supHalted (i : Nat) (f : Rail → Rail) : (d.modRl i f).supHalted = d.supHalted := rfl
@[simp] theorem modRl_softDue (i : Nat) (f : Rail → Rail) : (d.modRl i f).softDue = d.softDue := rfl
@[simp] theorem modRl_clk (i : Nat) (f : Rail → Rail) : (d.modRl i f).clk = d.clk := rfl
@[simp] theorem modRl_hk (i : Nat) (f : Rail → Rail) : (d.modRl i f).hk = d.hk := rfl
@[simp] theorem modRl_cap (i : Nat) (f : Rail → Rail) : (d.modRl i f).cap = d.cap := rfl
@[simp] theorem modRl_ev (i : Nat) (f : Rail → Rail) : (d.modRl i f).ev = d.ev := rfl
@[simp] theorem modRl_eng (i : Nat) (f : Rail → Rail) : (d.modRl i f).eng = d.eng := rfl
@[simp] theorem modRl_sample (i : Nat) (f : Rail → Rail) : (d.modRl i f).sample = d.sample := rfl
@[simp] theorem modRl_drive (i : Nat) (f : Rail → Rail) : (d.modRl i f).drive = d.drive := rfl
@[simp] theorem modRl_tms (i : Nat) (f : Rail → Rail) : (d.modRl i f).tms = d.tms := rfl
@[simp] theorem modRl_pmb (i : Nat) (f : Rail → Rail) : (d.modRl i f).pmb = d.pmb := rfl
@[simp] theorem modRl_svc (i : Nat) (f : Rail → Rail) : (d.modRl i f).svc = d.svc := rfl
@[simp] theorem modRl_pages (i : Nat) (f : Rail → Rail) : (d.modRl i f).pages = d.pages := rfl
@[simp] theorem modRl_alert (i : Nat) (f : Rail → Rail) : (d.modRl i f).alert = d.alert := rfl
@[simp] theorem modRl_pmbCtrl (i : Nat) (f : Rail → Rail) : (d.modRl i f).pmbCtrl = d.pmbCtrl := rfl
@[simp] theorem modRl_lbCtrl (i : Nat) (f : Rail → Rail) : (d.modRl i f).lbCtrl = d.lbCtrl := rfl
@[simp] theorem modRl_lbWait (i : Nat) (f : Rail → Rail) : (d.modRl i f).lbWait = d.lbWait := rfl
@[simp] theorem modRl_canA (i : Nat) (f : Rail → Rail) : (d.modRl i f).canA = d.canA := rfl
@[simp] theorem modRl_canB (i : Nat) (f : Rail → Rail) : (d.modRl i f).canB = d.canB := rfl
@[simp] theorem modRl_node (i : Nat) (f : Rail → Rail) : (d.modRl i f).node = d.node := rfl
@[simp] theorem modRl_log (i : Nat) (f : Rail → Rail) : (d.modRl i f).log = d.log := rfl
@[simp] theorem modRl_acc (i : Nat) (f : Rail → Rail) : (d.modRl i f).acc = d.acc := rfl
@[simp] theorem modRl_phases (i : Nat) (f : Rail → Rail) : (d.modRl i f).phases = d.phases := rfl
@[simp] theorem modRl_sgs (i : Nat) (f : Rail → Rail) : (d.modRl i f).sgs = d.sgs := rfl
@[simp] theorem modRl_lil (i : Nat) (f : Rail → Rail) : (d.modRl i f).lil = d.lil := rfl
@[simp] theorem modRl_load (i : Nat) (f : Rail → Rail) : (d.modRl i f).load = d.load := rfl
@[simp] theorem modRl_bucks (i : Nat) (f : Rail → Rail) : (d.modRl i f).bucks = d.bucks := rfl
@[simp] theorem modRl_ldos (i : Nat) (f : Rail → Rail) : (d.modRl i f).ldos = d.ldos := rfl
@[simp] theorem modRl_wms (i : Nat) (f : Rail → Rail) : (d.modRl i f).wms = d.wms := rfl
@[simp] theorem modRl_pol (i : Nat) (f : Rail → Rail) : (d.modRl i f).pol = d.pol := rfl
@[simp] theorem modRl_polWait (i : Nat) (f : Rail → Rail) : (d.modRl i f).polWait = d.polWait := rfl
@[simp] theorem modRl_polPost (i : Nat) (f : Rail → Rail) : (d.modRl i f).polPost = d.polPost := rfl
@[simp] theorem modRl_seqr (i : Nat) (f : Rail → Rail) : (d.modRl i f).seqr = d.seqr := rfl
@[simp] theorem modRl_path (i : Nat) (f : Rail → Rail) : (d.modRl i f).path = d.path := rfl
@[simp] theorem modRl_chg (i : Nat) (f : Rail → Rail) : (d.modRl i f).chg = d.chg := rfl
@[simp] theorem modRl_boost (i : Nat) (f : Rail → Rail) : (d.modRl i f).boost = d.boost := rfl
@[simp] theorem modRl_die (i : Nat) (f : Rail → Rail) : (d.modRl i f).die = d.die := rfl
@[simp] theorem modRl_btn (i : Nat) (f : Rail → Rail) : (d.modRl i f).btn = d.btn := rfl
@[simp] theorem modRl_store (i : Nat) (f : Rail → Rail) : (d.modRl i f).store = d.store := rfl
@[simp] theorem modRl_fw (i : Nat) (f : Rail → Rail) : (d.modRl i f).fw = d.fw := rfl
@[simp] theorem modRl_nvm (i : Nat) (f : Rail → Rail) : (d.modRl i f).nvm = d.nvm := rfl
@[simp] theorem modRl_board (i : Nat) (f : Rail → Rail) : (d.modRl i f).board = d.board := rfl
@[simp] theorem modRl_lateResp (i : Nat) (f : Rail → Rail) : (d.modRl i f).lateResp = d.lateResp := rfl

@[simp] theorem modBk_objs (i : Nat) (f : Buck → Buck) : (d.modBk i f).objs = d.objs := rfl
@[simp] theorem modBk_eff (i : Nat) (f : Buck → Buck) : (d.modBk i f).eff = d.eff := rfl
@[simp] theorem modBk_pendT (i : Nat) (f : Buck → Buck) : (d.modBk i f).pendT = d.pendT := rfl
@[simp] theorem modBk_pendS (i : Nat) (f : Buck → Buck) : (d.modBk i f).pendS = d.pendS := rfl
@[simp] theorem modBk_free (i : Nat) (f : Buck → Buck) : (d.modBk i f).free = d.free := rfl
@[simp] theorem modBk_answer (i : Nat) (f : Buck → Buck) : (d.modBk i f).answer = d.answer := rfl
@[simp] theorem modBk_osnNext (i : Nat) (f : Buck → Buck) : (d.modBk i f).osnNext = d.osnNext := rfl
@[simp] theorem modBk_ops (i : Nat) (f : Buck → Buck) : (d.modBk i f).ops = d.ops := rfl
@[simp] theorem modBk_boot (i : Nat) (f : Buck → Buck) : (d.modBk i f).boot = d.boot := rfl
@[simp] theorem modBk_power (i : Nat) (f : Buck → Buck) : (d.modBk i f).power = d.power := rfl
@[simp] theorem modBk_supAbsent (i : Nat) (f : Buck → Buck) : (d.modBk i f).supAbsent = d.supAbsent := rfl
@[simp] theorem modBk_supHalted (i : Nat) (f : Buck → Buck) : (d.modBk i f).supHalted = d.supHalted := rfl
@[simp] theorem modBk_softDue (i : Nat) (f : Buck → Buck) : (d.modBk i f).softDue = d.softDue := rfl
@[simp] theorem modBk_clk (i : Nat) (f : Buck → Buck) : (d.modBk i f).clk = d.clk := rfl
@[simp] theorem modBk_hk (i : Nat) (f : Buck → Buck) : (d.modBk i f).hk = d.hk := rfl
@[simp] theorem modBk_cap (i : Nat) (f : Buck → Buck) : (d.modBk i f).cap = d.cap := rfl
@[simp] theorem modBk_ev (i : Nat) (f : Buck → Buck) : (d.modBk i f).ev = d.ev := rfl
@[simp] theorem modBk_eng (i : Nat) (f : Buck → Buck) : (d.modBk i f).eng = d.eng := rfl
@[simp] theorem modBk_sample (i : Nat) (f : Buck → Buck) : (d.modBk i f).sample = d.sample := rfl
@[simp] theorem modBk_drive (i : Nat) (f : Buck → Buck) : (d.modBk i f).drive = d.drive := rfl
@[simp] theorem modBk_tms (i : Nat) (f : Buck → Buck) : (d.modBk i f).tms = d.tms := rfl
@[simp] theorem modBk_pmb (i : Nat) (f : Buck → Buck) : (d.modBk i f).pmb = d.pmb := rfl
@[simp] theorem modBk_svc (i : Nat) (f : Buck → Buck) : (d.modBk i f).svc = d.svc := rfl
@[simp] theorem modBk_pages (i : Nat) (f : Buck → Buck) : (d.modBk i f).pages = d.pages := rfl
@[simp] theorem modBk_alert (i : Nat) (f : Buck → Buck) : (d.modBk i f).alert = d.alert := rfl
@[simp] theorem modBk_pmbCtrl (i : Nat) (f : Buck → Buck) : (d.modBk i f).pmbCtrl = d.pmbCtrl := rfl
@[simp] theorem modBk_lbCtrl (i : Nat) (f : Buck → Buck) : (d.modBk i f).lbCtrl = d.lbCtrl := rfl
@[simp] theorem modBk_lbWait (i : Nat) (f : Buck → Buck) : (d.modBk i f).lbWait = d.lbWait := rfl
@[simp] theorem modBk_canA (i : Nat) (f : Buck → Buck) : (d.modBk i f).canA = d.canA := rfl
@[simp] theorem modBk_canB (i : Nat) (f : Buck → Buck) : (d.modBk i f).canB = d.canB := rfl
@[simp] theorem modBk_node (i : Nat) (f : Buck → Buck) : (d.modBk i f).node = d.node := rfl
@[simp] theorem modBk_log (i : Nat) (f : Buck → Buck) : (d.modBk i f).log = d.log := rfl
@[simp] theorem modBk_acc (i : Nat) (f : Buck → Buck) : (d.modBk i f).acc = d.acc := rfl
@[simp] theorem modBk_phases (i : Nat) (f : Buck → Buck) : (d.modBk i f).phases = d.phases := rfl
@[simp] theorem modBk_rails (i : Nat) (f : Buck → Buck) : (d.modBk i f).rails = d.rails := rfl
@[simp] theorem modBk_sgs (i : Nat) (f : Buck → Buck) : (d.modBk i f).sgs = d.sgs := rfl
@[simp] theorem modBk_lil (i : Nat) (f : Buck → Buck) : (d.modBk i f).lil = d.lil := rfl
@[simp] theorem modBk_load (i : Nat) (f : Buck → Buck) : (d.modBk i f).load = d.load := rfl
@[simp] theorem modBk_ldos (i : Nat) (f : Buck → Buck) : (d.modBk i f).ldos = d.ldos := rfl
@[simp] theorem modBk_wms (i : Nat) (f : Buck → Buck) : (d.modBk i f).wms = d.wms := rfl
@[simp] theorem modBk_pol (i : Nat) (f : Buck → Buck) : (d.modBk i f).pol = d.pol := rfl
@[simp] theorem modBk_polWait (i : Nat) (f : Buck → Buck) : (d.modBk i f).polWait = d.polWait := rfl
@[simp] theorem modBk_polPost (i : Nat) (f : Buck → Buck) : (d.modBk i f).polPost = d.polPost := rfl
@[simp] theorem modBk_seqr (i : Nat) (f : Buck → Buck) : (d.modBk i f).seqr = d.seqr := rfl
@[simp] theorem modBk_path (i : Nat) (f : Buck → Buck) : (d.modBk i f).path = d.path := rfl
@[simp] theorem modBk_chg (i : Nat) (f : Buck → Buck) : (d.modBk i f).chg = d.chg := rfl
@[simp] theorem modBk_boost (i : Nat) (f : Buck → Buck) : (d.modBk i f).boost = d.boost := rfl
@[simp] theorem modBk_die (i : Nat) (f : Buck → Buck) : (d.modBk i f).die = d.die := rfl
@[simp] theorem modBk_btn (i : Nat) (f : Buck → Buck) : (d.modBk i f).btn = d.btn := rfl
@[simp] theorem modBk_store (i : Nat) (f : Buck → Buck) : (d.modBk i f).store = d.store := rfl
@[simp] theorem modBk_fw (i : Nat) (f : Buck → Buck) : (d.modBk i f).fw = d.fw := rfl
@[simp] theorem modBk_nvm (i : Nat) (f : Buck → Buck) : (d.modBk i f).nvm = d.nvm := rfl
@[simp] theorem modBk_board (i : Nat) (f : Buck → Buck) : (d.modBk i f).board = d.board := rfl
@[simp] theorem modBk_lateResp (i : Nat) (f : Buck → Buck) : (d.modBk i f).lateResp = d.lateResp := rfl

@[simp] theorem modLd_objs (i : Nat) (f : Ldo → Ldo) : (d.modLd i f).objs = d.objs := rfl
@[simp] theorem modLd_eff (i : Nat) (f : Ldo → Ldo) : (d.modLd i f).eff = d.eff := rfl
@[simp] theorem modLd_pendT (i : Nat) (f : Ldo → Ldo) : (d.modLd i f).pendT = d.pendT := rfl
@[simp] theorem modLd_pendS (i : Nat) (f : Ldo → Ldo) : (d.modLd i f).pendS = d.pendS := rfl
@[simp] theorem modLd_free (i : Nat) (f : Ldo → Ldo) : (d.modLd i f).free = d.free := rfl
@[simp] theorem modLd_answer (i : Nat) (f : Ldo → Ldo) : (d.modLd i f).answer = d.answer := rfl
@[simp] theorem modLd_osnNext (i : Nat) (f : Ldo → Ldo) : (d.modLd i f).osnNext = d.osnNext := rfl
@[simp] theorem modLd_ops (i : Nat) (f : Ldo → Ldo) : (d.modLd i f).ops = d.ops := rfl
@[simp] theorem modLd_boot (i : Nat) (f : Ldo → Ldo) : (d.modLd i f).boot = d.boot := rfl
@[simp] theorem modLd_power (i : Nat) (f : Ldo → Ldo) : (d.modLd i f).power = d.power := rfl
@[simp] theorem modLd_supAbsent (i : Nat) (f : Ldo → Ldo) : (d.modLd i f).supAbsent = d.supAbsent := rfl
@[simp] theorem modLd_supHalted (i : Nat) (f : Ldo → Ldo) : (d.modLd i f).supHalted = d.supHalted := rfl
@[simp] theorem modLd_softDue (i : Nat) (f : Ldo → Ldo) : (d.modLd i f).softDue = d.softDue := rfl
@[simp] theorem modLd_clk (i : Nat) (f : Ldo → Ldo) : (d.modLd i f).clk = d.clk := rfl
@[simp] theorem modLd_hk (i : Nat) (f : Ldo → Ldo) : (d.modLd i f).hk = d.hk := rfl
@[simp] theorem modLd_cap (i : Nat) (f : Ldo → Ldo) : (d.modLd i f).cap = d.cap := rfl
@[simp] theorem modLd_ev (i : Nat) (f : Ldo → Ldo) : (d.modLd i f).ev = d.ev := rfl
@[simp] theorem modLd_eng (i : Nat) (f : Ldo → Ldo) : (d.modLd i f).eng = d.eng := rfl
@[simp] theorem modLd_sample (i : Nat) (f : Ldo → Ldo) : (d.modLd i f).sample = d.sample := rfl
@[simp] theorem modLd_drive (i : Nat) (f : Ldo → Ldo) : (d.modLd i f).drive = d.drive := rfl
@[simp] theorem modLd_tms (i : Nat) (f : Ldo → Ldo) : (d.modLd i f).tms = d.tms := rfl
@[simp] theorem modLd_pmb (i : Nat) (f : Ldo → Ldo) : (d.modLd i f).pmb = d.pmb := rfl
@[simp] theorem modLd_svc (i : Nat) (f : Ldo → Ldo) : (d.modLd i f).svc = d.svc := rfl
@[simp] theorem modLd_pages (i : Nat) (f : Ldo → Ldo) : (d.modLd i f).pages = d.pages := rfl
@[simp] theorem modLd_alert (i : Nat) (f : Ldo → Ldo) : (d.modLd i f).alert = d.alert := rfl
@[simp] theorem modLd_pmbCtrl (i : Nat) (f : Ldo → Ldo) : (d.modLd i f).pmbCtrl = d.pmbCtrl := rfl
@[simp] theorem modLd_lbCtrl (i : Nat) (f : Ldo → Ldo) : (d.modLd i f).lbCtrl = d.lbCtrl := rfl
@[simp] theorem modLd_lbWait (i : Nat) (f : Ldo → Ldo) : (d.modLd i f).lbWait = d.lbWait := rfl
@[simp] theorem modLd_canA (i : Nat) (f : Ldo → Ldo) : (d.modLd i f).canA = d.canA := rfl
@[simp] theorem modLd_canB (i : Nat) (f : Ldo → Ldo) : (d.modLd i f).canB = d.canB := rfl
@[simp] theorem modLd_node (i : Nat) (f : Ldo → Ldo) : (d.modLd i f).node = d.node := rfl
@[simp] theorem modLd_log (i : Nat) (f : Ldo → Ldo) : (d.modLd i f).log = d.log := rfl
@[simp] theorem modLd_acc (i : Nat) (f : Ldo → Ldo) : (d.modLd i f).acc = d.acc := rfl
@[simp] theorem modLd_phases (i : Nat) (f : Ldo → Ldo) : (d.modLd i f).phases = d.phases := rfl
@[simp] theorem modLd_rails (i : Nat) (f : Ldo → Ldo) : (d.modLd i f).rails = d.rails := rfl
@[simp] theorem modLd_sgs (i : Nat) (f : Ldo → Ldo) : (d.modLd i f).sgs = d.sgs := rfl
@[simp] theorem modLd_lil (i : Nat) (f : Ldo → Ldo) : (d.modLd i f).lil = d.lil := rfl
@[simp] theorem modLd_load (i : Nat) (f : Ldo → Ldo) : (d.modLd i f).load = d.load := rfl
@[simp] theorem modLd_bucks (i : Nat) (f : Ldo → Ldo) : (d.modLd i f).bucks = d.bucks := rfl
@[simp] theorem modLd_wms (i : Nat) (f : Ldo → Ldo) : (d.modLd i f).wms = d.wms := rfl
@[simp] theorem modLd_pol (i : Nat) (f : Ldo → Ldo) : (d.modLd i f).pol = d.pol := rfl
@[simp] theorem modLd_polWait (i : Nat) (f : Ldo → Ldo) : (d.modLd i f).polWait = d.polWait := rfl
@[simp] theorem modLd_polPost (i : Nat) (f : Ldo → Ldo) : (d.modLd i f).polPost = d.polPost := rfl
@[simp] theorem modLd_seqr (i : Nat) (f : Ldo → Ldo) : (d.modLd i f).seqr = d.seqr := rfl
@[simp] theorem modLd_path (i : Nat) (f : Ldo → Ldo) : (d.modLd i f).path = d.path := rfl
@[simp] theorem modLd_chg (i : Nat) (f : Ldo → Ldo) : (d.modLd i f).chg = d.chg := rfl
@[simp] theorem modLd_boost (i : Nat) (f : Ldo → Ldo) : (d.modLd i f).boost = d.boost := rfl
@[simp] theorem modLd_die (i : Nat) (f : Ldo → Ldo) : (d.modLd i f).die = d.die := rfl
@[simp] theorem modLd_btn (i : Nat) (f : Ldo → Ldo) : (d.modLd i f).btn = d.btn := rfl
@[simp] theorem modLd_store (i : Nat) (f : Ldo → Ldo) : (d.modLd i f).store = d.store := rfl
@[simp] theorem modLd_fw (i : Nat) (f : Ldo → Ldo) : (d.modLd i f).fw = d.fw := rfl
@[simp] theorem modLd_nvm (i : Nat) (f : Ldo → Ldo) : (d.modLd i f).nvm = d.nvm := rfl
@[simp] theorem modLd_board (i : Nat) (f : Ldo → Ldo) : (d.modLd i f).board = d.board := rfl
@[simp] theorem modLd_lateResp (i : Nat) (f : Ldo → Ldo) : (d.modLd i f).lateResp = d.lateResp := rfl

@[simp] theorem modSg_objs (i : Nat) (f : SgLine → SgLine) : (d.modSg i f).objs = d.objs := rfl
@[simp] theorem modSg_eff (i : Nat) (f : SgLine → SgLine) : (d.modSg i f).eff = d.eff := rfl
@[simp] theorem modSg_pendT (i : Nat) (f : SgLine → SgLine) : (d.modSg i f).pendT = d.pendT := rfl
@[simp] theorem modSg_pendS (i : Nat) (f : SgLine → SgLine) : (d.modSg i f).pendS = d.pendS := rfl
@[simp] theorem modSg_free (i : Nat) (f : SgLine → SgLine) : (d.modSg i f).free = d.free := rfl
@[simp] theorem modSg_answer (i : Nat) (f : SgLine → SgLine) : (d.modSg i f).answer = d.answer := rfl
@[simp] theorem modSg_osnNext (i : Nat) (f : SgLine → SgLine) : (d.modSg i f).osnNext = d.osnNext := rfl
@[simp] theorem modSg_ops (i : Nat) (f : SgLine → SgLine) : (d.modSg i f).ops = d.ops := rfl
@[simp] theorem modSg_boot (i : Nat) (f : SgLine → SgLine) : (d.modSg i f).boot = d.boot := rfl
@[simp] theorem modSg_power (i : Nat) (f : SgLine → SgLine) : (d.modSg i f).power = d.power := rfl
@[simp] theorem modSg_supAbsent (i : Nat) (f : SgLine → SgLine) : (d.modSg i f).supAbsent = d.supAbsent := rfl
@[simp] theorem modSg_supHalted (i : Nat) (f : SgLine → SgLine) : (d.modSg i f).supHalted = d.supHalted := rfl
@[simp] theorem modSg_softDue (i : Nat) (f : SgLine → SgLine) : (d.modSg i f).softDue = d.softDue := rfl
@[simp] theorem modSg_clk (i : Nat) (f : SgLine → SgLine) : (d.modSg i f).clk = d.clk := rfl
@[simp] theorem modSg_hk (i : Nat) (f : SgLine → SgLine) : (d.modSg i f).hk = d.hk := rfl
@[simp] theorem modSg_cap (i : Nat) (f : SgLine → SgLine) : (d.modSg i f).cap = d.cap := rfl
@[simp] theorem modSg_ev (i : Nat) (f : SgLine → SgLine) : (d.modSg i f).ev = d.ev := rfl
@[simp] theorem modSg_eng (i : Nat) (f : SgLine → SgLine) : (d.modSg i f).eng = d.eng := rfl
@[simp] theorem modSg_sample (i : Nat) (f : SgLine → SgLine) : (d.modSg i f).sample = d.sample := rfl
@[simp] theorem modSg_drive (i : Nat) (f : SgLine → SgLine) : (d.modSg i f).drive = d.drive := rfl
@[simp] theorem modSg_tms (i : Nat) (f : SgLine → SgLine) : (d.modSg i f).tms = d.tms := rfl
@[simp] theorem modSg_pmb (i : Nat) (f : SgLine → SgLine) : (d.modSg i f).pmb = d.pmb := rfl
@[simp] theorem modSg_svc (i : Nat) (f : SgLine → SgLine) : (d.modSg i f).svc = d.svc := rfl
@[simp] theorem modSg_pages (i : Nat) (f : SgLine → SgLine) : (d.modSg i f).pages = d.pages := rfl
@[simp] theorem modSg_alert (i : Nat) (f : SgLine → SgLine) : (d.modSg i f).alert = d.alert := rfl
@[simp] theorem modSg_pmbCtrl (i : Nat) (f : SgLine → SgLine) : (d.modSg i f).pmbCtrl = d.pmbCtrl := rfl
@[simp] theorem modSg_lbCtrl (i : Nat) (f : SgLine → SgLine) : (d.modSg i f).lbCtrl = d.lbCtrl := rfl
@[simp] theorem modSg_lbWait (i : Nat) (f : SgLine → SgLine) : (d.modSg i f).lbWait = d.lbWait := rfl
@[simp] theorem modSg_canA (i : Nat) (f : SgLine → SgLine) : (d.modSg i f).canA = d.canA := rfl
@[simp] theorem modSg_canB (i : Nat) (f : SgLine → SgLine) : (d.modSg i f).canB = d.canB := rfl
@[simp] theorem modSg_node (i : Nat) (f : SgLine → SgLine) : (d.modSg i f).node = d.node := rfl
@[simp] theorem modSg_log (i : Nat) (f : SgLine → SgLine) : (d.modSg i f).log = d.log := rfl
@[simp] theorem modSg_acc (i : Nat) (f : SgLine → SgLine) : (d.modSg i f).acc = d.acc := rfl
@[simp] theorem modSg_phases (i : Nat) (f : SgLine → SgLine) : (d.modSg i f).phases = d.phases := rfl
@[simp] theorem modSg_rails (i : Nat) (f : SgLine → SgLine) : (d.modSg i f).rails = d.rails := rfl
@[simp] theorem modSg_lil (i : Nat) (f : SgLine → SgLine) : (d.modSg i f).lil = d.lil := rfl
@[simp] theorem modSg_load (i : Nat) (f : SgLine → SgLine) : (d.modSg i f).load = d.load := rfl
@[simp] theorem modSg_bucks (i : Nat) (f : SgLine → SgLine) : (d.modSg i f).bucks = d.bucks := rfl
@[simp] theorem modSg_ldos (i : Nat) (f : SgLine → SgLine) : (d.modSg i f).ldos = d.ldos := rfl
@[simp] theorem modSg_wms (i : Nat) (f : SgLine → SgLine) : (d.modSg i f).wms = d.wms := rfl
@[simp] theorem modSg_pol (i : Nat) (f : SgLine → SgLine) : (d.modSg i f).pol = d.pol := rfl
@[simp] theorem modSg_polWait (i : Nat) (f : SgLine → SgLine) : (d.modSg i f).polWait = d.polWait := rfl
@[simp] theorem modSg_polPost (i : Nat) (f : SgLine → SgLine) : (d.modSg i f).polPost = d.polPost := rfl
@[simp] theorem modSg_seqr (i : Nat) (f : SgLine → SgLine) : (d.modSg i f).seqr = d.seqr := rfl
@[simp] theorem modSg_path (i : Nat) (f : SgLine → SgLine) : (d.modSg i f).path = d.path := rfl
@[simp] theorem modSg_chg (i : Nat) (f : SgLine → SgLine) : (d.modSg i f).chg = d.chg := rfl
@[simp] theorem modSg_boost (i : Nat) (f : SgLine → SgLine) : (d.modSg i f).boost = d.boost := rfl
@[simp] theorem modSg_die (i : Nat) (f : SgLine → SgLine) : (d.modSg i f).die = d.die := rfl
@[simp] theorem modSg_btn (i : Nat) (f : SgLine → SgLine) : (d.modSg i f).btn = d.btn := rfl
@[simp] theorem modSg_store (i : Nat) (f : SgLine → SgLine) : (d.modSg i f).store = d.store := rfl
@[simp] theorem modSg_fw (i : Nat) (f : SgLine → SgLine) : (d.modSg i f).fw = d.fw := rfl
@[simp] theorem modSg_nvm (i : Nat) (f : SgLine → SgLine) : (d.modSg i f).nvm = d.nvm := rfl
@[simp] theorem modSg_board (i : Nat) (f : SgLine → SgLine) : (d.modSg i f).board = d.board := rfl
@[simp] theorem modSg_lateResp (i : Nat) (f : SgLine → SgLine) : (d.modSg i f).lateResp = d.lateResp := rfl

@[simp] theorem modWm_objs (i : Nat) (f : Wm → Wm) : (d.modWm i f).objs = d.objs := rfl
@[simp] theorem modWm_eff (i : Nat) (f : Wm → Wm) : (d.modWm i f).eff = d.eff := rfl
@[simp] theorem modWm_pendT (i : Nat) (f : Wm → Wm) : (d.modWm i f).pendT = d.pendT := rfl
@[simp] theorem modWm_pendS (i : Nat) (f : Wm → Wm) : (d.modWm i f).pendS = d.pendS := rfl
@[simp] theorem modWm_free (i : Nat) (f : Wm → Wm) : (d.modWm i f).free = d.free := rfl
@[simp] theorem modWm_answer (i : Nat) (f : Wm → Wm) : (d.modWm i f).answer = d.answer := rfl
@[simp] theorem modWm_osnNext (i : Nat) (f : Wm → Wm) : (d.modWm i f).osnNext = d.osnNext := rfl
@[simp] theorem modWm_ops (i : Nat) (f : Wm → Wm) : (d.modWm i f).ops = d.ops := rfl
@[simp] theorem modWm_boot (i : Nat) (f : Wm → Wm) : (d.modWm i f).boot = d.boot := rfl
@[simp] theorem modWm_power (i : Nat) (f : Wm → Wm) : (d.modWm i f).power = d.power := rfl
@[simp] theorem modWm_supAbsent (i : Nat) (f : Wm → Wm) : (d.modWm i f).supAbsent = d.supAbsent := rfl
@[simp] theorem modWm_supHalted (i : Nat) (f : Wm → Wm) : (d.modWm i f).supHalted = d.supHalted := rfl
@[simp] theorem modWm_softDue (i : Nat) (f : Wm → Wm) : (d.modWm i f).softDue = d.softDue := rfl
@[simp] theorem modWm_clk (i : Nat) (f : Wm → Wm) : (d.modWm i f).clk = d.clk := rfl
@[simp] theorem modWm_hk (i : Nat) (f : Wm → Wm) : (d.modWm i f).hk = d.hk := rfl
@[simp] theorem modWm_cap (i : Nat) (f : Wm → Wm) : (d.modWm i f).cap = d.cap := rfl
@[simp] theorem modWm_ev (i : Nat) (f : Wm → Wm) : (d.modWm i f).ev = d.ev := rfl
@[simp] theorem modWm_eng (i : Nat) (f : Wm → Wm) : (d.modWm i f).eng = d.eng := rfl
@[simp] theorem modWm_sample (i : Nat) (f : Wm → Wm) : (d.modWm i f).sample = d.sample := rfl
@[simp] theorem modWm_drive (i : Nat) (f : Wm → Wm) : (d.modWm i f).drive = d.drive := rfl
@[simp] theorem modWm_tms (i : Nat) (f : Wm → Wm) : (d.modWm i f).tms = d.tms := rfl
@[simp] theorem modWm_pmb (i : Nat) (f : Wm → Wm) : (d.modWm i f).pmb = d.pmb := rfl
@[simp] theorem modWm_svc (i : Nat) (f : Wm → Wm) : (d.modWm i f).svc = d.svc := rfl
@[simp] theorem modWm_pages (i : Nat) (f : Wm → Wm) : (d.modWm i f).pages = d.pages := rfl
@[simp] theorem modWm_alert (i : Nat) (f : Wm → Wm) : (d.modWm i f).alert = d.alert := rfl
@[simp] theorem modWm_pmbCtrl (i : Nat) (f : Wm → Wm) : (d.modWm i f).pmbCtrl = d.pmbCtrl := rfl
@[simp] theorem modWm_lbCtrl (i : Nat) (f : Wm → Wm) : (d.modWm i f).lbCtrl = d.lbCtrl := rfl
@[simp] theorem modWm_lbWait (i : Nat) (f : Wm → Wm) : (d.modWm i f).lbWait = d.lbWait := rfl
@[simp] theorem modWm_canA (i : Nat) (f : Wm → Wm) : (d.modWm i f).canA = d.canA := rfl
@[simp] theorem modWm_canB (i : Nat) (f : Wm → Wm) : (d.modWm i f).canB = d.canB := rfl
@[simp] theorem modWm_node (i : Nat) (f : Wm → Wm) : (d.modWm i f).node = d.node := rfl
@[simp] theorem modWm_log (i : Nat) (f : Wm → Wm) : (d.modWm i f).log = d.log := rfl
@[simp] theorem modWm_acc (i : Nat) (f : Wm → Wm) : (d.modWm i f).acc = d.acc := rfl
@[simp] theorem modWm_phases (i : Nat) (f : Wm → Wm) : (d.modWm i f).phases = d.phases := rfl
@[simp] theorem modWm_rails (i : Nat) (f : Wm → Wm) : (d.modWm i f).rails = d.rails := rfl
@[simp] theorem modWm_sgs (i : Nat) (f : Wm → Wm) : (d.modWm i f).sgs = d.sgs := rfl
@[simp] theorem modWm_lil (i : Nat) (f : Wm → Wm) : (d.modWm i f).lil = d.lil := rfl
@[simp] theorem modWm_load (i : Nat) (f : Wm → Wm) : (d.modWm i f).load = d.load := rfl
@[simp] theorem modWm_bucks (i : Nat) (f : Wm → Wm) : (d.modWm i f).bucks = d.bucks := rfl
@[simp] theorem modWm_ldos (i : Nat) (f : Wm → Wm) : (d.modWm i f).ldos = d.ldos := rfl
@[simp] theorem modWm_pol (i : Nat) (f : Wm → Wm) : (d.modWm i f).pol = d.pol := rfl
@[simp] theorem modWm_polWait (i : Nat) (f : Wm → Wm) : (d.modWm i f).polWait = d.polWait := rfl
@[simp] theorem modWm_polPost (i : Nat) (f : Wm → Wm) : (d.modWm i f).polPost = d.polPost := rfl
@[simp] theorem modWm_seqr (i : Nat) (f : Wm → Wm) : (d.modWm i f).seqr = d.seqr := rfl
@[simp] theorem modWm_path (i : Nat) (f : Wm → Wm) : (d.modWm i f).path = d.path := rfl
@[simp] theorem modWm_chg (i : Nat) (f : Wm → Wm) : (d.modWm i f).chg = d.chg := rfl
@[simp] theorem modWm_boost (i : Nat) (f : Wm → Wm) : (d.modWm i f).boost = d.boost := rfl
@[simp] theorem modWm_die (i : Nat) (f : Wm → Wm) : (d.modWm i f).die = d.die := rfl
@[simp] theorem modWm_btn (i : Nat) (f : Wm → Wm) : (d.modWm i f).btn = d.btn := rfl
@[simp] theorem modWm_store (i : Nat) (f : Wm → Wm) : (d.modWm i f).store = d.store := rfl
@[simp] theorem modWm_fw (i : Nat) (f : Wm → Wm) : (d.modWm i f).fw = d.fw := rfl
@[simp] theorem modWm_nvm (i : Nat) (f : Wm → Wm) : (d.modWm i f).nvm = d.nvm := rfl
@[simp] theorem modWm_board (i : Nat) (f : Wm → Wm) : (d.modWm i f).board = d.board := rfl
@[simp] theorem modWm_lateResp (i : Nat) (f : Wm → Wm) : (d.modWm i f).lateResp = d.lateResp := rfl

@[simp] theorem modTm_objs (i : Nat) (f : Tm → Tm) : (d.modTm i f).objs = d.objs := rfl
@[simp] theorem modTm_eff (i : Nat) (f : Tm → Tm) : (d.modTm i f).eff = d.eff := rfl
@[simp] theorem modTm_pendT (i : Nat) (f : Tm → Tm) : (d.modTm i f).pendT = d.pendT := rfl
@[simp] theorem modTm_pendS (i : Nat) (f : Tm → Tm) : (d.modTm i f).pendS = d.pendS := rfl
@[simp] theorem modTm_free (i : Nat) (f : Tm → Tm) : (d.modTm i f).free = d.free := rfl
@[simp] theorem modTm_answer (i : Nat) (f : Tm → Tm) : (d.modTm i f).answer = d.answer := rfl
@[simp] theorem modTm_osnNext (i : Nat) (f : Tm → Tm) : (d.modTm i f).osnNext = d.osnNext := rfl
@[simp] theorem modTm_ops (i : Nat) (f : Tm → Tm) : (d.modTm i f).ops = d.ops := rfl
@[simp] theorem modTm_boot (i : Nat) (f : Tm → Tm) : (d.modTm i f).boot = d.boot := rfl
@[simp] theorem modTm_power (i : Nat) (f : Tm → Tm) : (d.modTm i f).power = d.power := rfl
@[simp] theorem modTm_supAbsent (i : Nat) (f : Tm → Tm) : (d.modTm i f).supAbsent = d.supAbsent := rfl
@[simp] theorem modTm_supHalted (i : Nat) (f : Tm → Tm) : (d.modTm i f).supHalted = d.supHalted := rfl
@[simp] theorem modTm_softDue (i : Nat) (f : Tm → Tm) : (d.modTm i f).softDue = d.softDue := rfl
@[simp] theorem modTm_clk (i : Nat) (f : Tm → Tm) : (d.modTm i f).clk = d.clk := rfl
@[simp] theorem modTm_hk (i : Nat) (f : Tm → Tm) : (d.modTm i f).hk = d.hk := rfl
@[simp] theorem modTm_cap (i : Nat) (f : Tm → Tm) : (d.modTm i f).cap = d.cap := rfl
@[simp] theorem modTm_ev (i : Nat) (f : Tm → Tm) : (d.modTm i f).ev = d.ev := rfl
@[simp] theorem modTm_eng (i : Nat) (f : Tm → Tm) : (d.modTm i f).eng = d.eng := rfl
@[simp] theorem modTm_sample (i : Nat) (f : Tm → Tm) : (d.modTm i f).sample = d.sample := rfl
@[simp] theorem modTm_drive (i : Nat) (f : Tm → Tm) : (d.modTm i f).drive = d.drive := rfl
@[simp] theorem modTm_pmb (i : Nat) (f : Tm → Tm) : (d.modTm i f).pmb = d.pmb := rfl
@[simp] theorem modTm_svc (i : Nat) (f : Tm → Tm) : (d.modTm i f).svc = d.svc := rfl
@[simp] theorem modTm_pages (i : Nat) (f : Tm → Tm) : (d.modTm i f).pages = d.pages := rfl
@[simp] theorem modTm_alert (i : Nat) (f : Tm → Tm) : (d.modTm i f).alert = d.alert := rfl
@[simp] theorem modTm_pmbCtrl (i : Nat) (f : Tm → Tm) : (d.modTm i f).pmbCtrl = d.pmbCtrl := rfl
@[simp] theorem modTm_lbCtrl (i : Nat) (f : Tm → Tm) : (d.modTm i f).lbCtrl = d.lbCtrl := rfl
@[simp] theorem modTm_lbWait (i : Nat) (f : Tm → Tm) : (d.modTm i f).lbWait = d.lbWait := rfl
@[simp] theorem modTm_canA (i : Nat) (f : Tm → Tm) : (d.modTm i f).canA = d.canA := rfl
@[simp] theorem modTm_canB (i : Nat) (f : Tm → Tm) : (d.modTm i f).canB = d.canB := rfl
@[simp] theorem modTm_node (i : Nat) (f : Tm → Tm) : (d.modTm i f).node = d.node := rfl
@[simp] theorem modTm_log (i : Nat) (f : Tm → Tm) : (d.modTm i f).log = d.log := rfl
@[simp] theorem modTm_acc (i : Nat) (f : Tm → Tm) : (d.modTm i f).acc = d.acc := rfl
@[simp] theorem modTm_phases (i : Nat) (f : Tm → Tm) : (d.modTm i f).phases = d.phases := rfl
@[simp] theorem modTm_rails (i : Nat) (f : Tm → Tm) : (d.modTm i f).rails = d.rails := rfl
@[simp] theorem modTm_sgs (i : Nat) (f : Tm → Tm) : (d.modTm i f).sgs = d.sgs := rfl
@[simp] theorem modTm_lil (i : Nat) (f : Tm → Tm) : (d.modTm i f).lil = d.lil := rfl
@[simp] theorem modTm_load (i : Nat) (f : Tm → Tm) : (d.modTm i f).load = d.load := rfl
@[simp] theorem modTm_bucks (i : Nat) (f : Tm → Tm) : (d.modTm i f).bucks = d.bucks := rfl
@[simp] theorem modTm_ldos (i : Nat) (f : Tm → Tm) : (d.modTm i f).ldos = d.ldos := rfl
@[simp] theorem modTm_wms (i : Nat) (f : Tm → Tm) : (d.modTm i f).wms = d.wms := rfl
@[simp] theorem modTm_pol (i : Nat) (f : Tm → Tm) : (d.modTm i f).pol = d.pol := rfl
@[simp] theorem modTm_polWait (i : Nat) (f : Tm → Tm) : (d.modTm i f).polWait = d.polWait := rfl
@[simp] theorem modTm_polPost (i : Nat) (f : Tm → Tm) : (d.modTm i f).polPost = d.polPost := rfl
@[simp] theorem modTm_seqr (i : Nat) (f : Tm → Tm) : (d.modTm i f).seqr = d.seqr := rfl
@[simp] theorem modTm_path (i : Nat) (f : Tm → Tm) : (d.modTm i f).path = d.path := rfl
@[simp] theorem modTm_chg (i : Nat) (f : Tm → Tm) : (d.modTm i f).chg = d.chg := rfl
@[simp] theorem modTm_boost (i : Nat) (f : Tm → Tm) : (d.modTm i f).boost = d.boost := rfl
@[simp] theorem modTm_die (i : Nat) (f : Tm → Tm) : (d.modTm i f).die = d.die := rfl
@[simp] theorem modTm_btn (i : Nat) (f : Tm → Tm) : (d.modTm i f).btn = d.btn := rfl
@[simp] theorem modTm_store (i : Nat) (f : Tm → Tm) : (d.modTm i f).store = d.store := rfl
@[simp] theorem modTm_fw (i : Nat) (f : Tm → Tm) : (d.modTm i f).fw = d.fw := rfl
@[simp] theorem modTm_nvm (i : Nat) (f : Tm → Tm) : (d.modTm i f).nvm = d.nvm := rfl
@[simp] theorem modTm_board (i : Nat) (f : Tm → Tm) : (d.modTm i f).board = d.board := rfl
@[simp] theorem modTm_lateResp (i : Nat) (f : Tm → Tm) : (d.modTm i f).lateResp = d.lateResp := rfl

@[simp] theorem modEng_objs (i : Nat) (f : Engine → Engine) : (d.modEng i f).objs = d.objs := rfl
@[simp] theorem modEng_eff (i : Nat) (f : Engine → Engine) : (d.modEng i f).eff = d.eff := rfl
@[simp] theorem modEng_pendT (i : Nat) (f : Engine → Engine) : (d.modEng i f).pendT = d.pendT := rfl
@[simp] theorem modEng_pendS (i : Nat) (f : Engine → Engine) : (d.modEng i f).pendS = d.pendS := rfl
@[simp] theorem modEng_free (i : Nat) (f : Engine → Engine) : (d.modEng i f).free = d.free := rfl
@[simp] theorem modEng_answer (i : Nat) (f : Engine → Engine) : (d.modEng i f).answer = d.answer := rfl
@[simp] theorem modEng_osnNext (i : Nat) (f : Engine → Engine) : (d.modEng i f).osnNext = d.osnNext := rfl
@[simp] theorem modEng_ops (i : Nat) (f : Engine → Engine) : (d.modEng i f).ops = d.ops := rfl
@[simp] theorem modEng_boot (i : Nat) (f : Engine → Engine) : (d.modEng i f).boot = d.boot := rfl
@[simp] theorem modEng_power (i : Nat) (f : Engine → Engine) : (d.modEng i f).power = d.power := rfl
@[simp] theorem modEng_supAbsent (i : Nat) (f : Engine → Engine) : (d.modEng i f).supAbsent = d.supAbsent := rfl
@[simp] theorem modEng_supHalted (i : Nat) (f : Engine → Engine) : (d.modEng i f).supHalted = d.supHalted := rfl
@[simp] theorem modEng_softDue (i : Nat) (f : Engine → Engine) : (d.modEng i f).softDue = d.softDue := rfl
@[simp] theorem modEng_clk (i : Nat) (f : Engine → Engine) : (d.modEng i f).clk = d.clk := rfl
@[simp] theorem modEng_hk (i : Nat) (f : Engine → Engine) : (d.modEng i f).hk = d.hk := rfl
@[simp] theorem modEng_cap (i : Nat) (f : Engine → Engine) : (d.modEng i f).cap = d.cap := rfl
@[simp] theorem modEng_ev (i : Nat) (f : Engine → Engine) : (d.modEng i f).ev = d.ev := rfl
@[simp] theorem modEng_sample (i : Nat) (f : Engine → Engine) : (d.modEng i f).sample = d.sample := rfl
@[simp] theorem modEng_drive (i : Nat) (f : Engine → Engine) : (d.modEng i f).drive = d.drive := rfl
@[simp] theorem modEng_tms (i : Nat) (f : Engine → Engine) : (d.modEng i f).tms = d.tms := rfl
@[simp] theorem modEng_pmb (i : Nat) (f : Engine → Engine) : (d.modEng i f).pmb = d.pmb := rfl
@[simp] theorem modEng_svc (i : Nat) (f : Engine → Engine) : (d.modEng i f).svc = d.svc := rfl
@[simp] theorem modEng_pages (i : Nat) (f : Engine → Engine) : (d.modEng i f).pages = d.pages := rfl
@[simp] theorem modEng_alert (i : Nat) (f : Engine → Engine) : (d.modEng i f).alert = d.alert := rfl
@[simp] theorem modEng_pmbCtrl (i : Nat) (f : Engine → Engine) : (d.modEng i f).pmbCtrl = d.pmbCtrl := rfl
@[simp] theorem modEng_lbCtrl (i : Nat) (f : Engine → Engine) : (d.modEng i f).lbCtrl = d.lbCtrl := rfl
@[simp] theorem modEng_lbWait (i : Nat) (f : Engine → Engine) : (d.modEng i f).lbWait = d.lbWait := rfl
@[simp] theorem modEng_canA (i : Nat) (f : Engine → Engine) : (d.modEng i f).canA = d.canA := rfl
@[simp] theorem modEng_canB (i : Nat) (f : Engine → Engine) : (d.modEng i f).canB = d.canB := rfl
@[simp] theorem modEng_node (i : Nat) (f : Engine → Engine) : (d.modEng i f).node = d.node := rfl
@[simp] theorem modEng_log (i : Nat) (f : Engine → Engine) : (d.modEng i f).log = d.log := rfl
@[simp] theorem modEng_acc (i : Nat) (f : Engine → Engine) : (d.modEng i f).acc = d.acc := rfl
@[simp] theorem modEng_phases (i : Nat) (f : Engine → Engine) : (d.modEng i f).phases = d.phases := rfl
@[simp] theorem modEng_rails (i : Nat) (f : Engine → Engine) : (d.modEng i f).rails = d.rails := rfl
@[simp] theorem modEng_sgs (i : Nat) (f : Engine → Engine) : (d.modEng i f).sgs = d.sgs := rfl
@[simp] theorem modEng_lil (i : Nat) (f : Engine → Engine) : (d.modEng i f).lil = d.lil := rfl
@[simp] theorem modEng_load (i : Nat) (f : Engine → Engine) : (d.modEng i f).load = d.load := rfl
@[simp] theorem modEng_bucks (i : Nat) (f : Engine → Engine) : (d.modEng i f).bucks = d.bucks := rfl
@[simp] theorem modEng_ldos (i : Nat) (f : Engine → Engine) : (d.modEng i f).ldos = d.ldos := rfl
@[simp] theorem modEng_wms (i : Nat) (f : Engine → Engine) : (d.modEng i f).wms = d.wms := rfl
@[simp] theorem modEng_pol (i : Nat) (f : Engine → Engine) : (d.modEng i f).pol = d.pol := rfl
@[simp] theorem modEng_polWait (i : Nat) (f : Engine → Engine) : (d.modEng i f).polWait = d.polWait := rfl
@[simp] theorem modEng_polPost (i : Nat) (f : Engine → Engine) : (d.modEng i f).polPost = d.polPost := rfl
@[simp] theorem modEng_seqr (i : Nat) (f : Engine → Engine) : (d.modEng i f).seqr = d.seqr := rfl
@[simp] theorem modEng_path (i : Nat) (f : Engine → Engine) : (d.modEng i f).path = d.path := rfl
@[simp] theorem modEng_chg (i : Nat) (f : Engine → Engine) : (d.modEng i f).chg = d.chg := rfl
@[simp] theorem modEng_boost (i : Nat) (f : Engine → Engine) : (d.modEng i f).boost = d.boost := rfl
@[simp] theorem modEng_die (i : Nat) (f : Engine → Engine) : (d.modEng i f).die = d.die := rfl
@[simp] theorem modEng_btn (i : Nat) (f : Engine → Engine) : (d.modEng i f).btn = d.btn := rfl
@[simp] theorem modEng_store (i : Nat) (f : Engine → Engine) : (d.modEng i f).store = d.store := rfl
@[simp] theorem modEng_fw (i : Nat) (f : Engine → Engine) : (d.modEng i f).fw = d.fw := rfl
@[simp] theorem modEng_nvm (i : Nat) (f : Engine → Engine) : (d.modEng i f).nvm = d.nvm := rfl
@[simp] theorem modEng_board (i : Nat) (f : Engine → Engine) : (d.modEng i f).board = d.board := rfl
@[simp] theorem modEng_lateResp (i : Nat) (f : Engine → Engine) : (d.modEng i f).lateResp = d.lateResp := rfl

@[simp] theorem setDrive_objs (w : Nat) (v : Int) : (d.setDrive w v).objs = d.objs := rfl
@[simp] theorem setDrive_eff (w : Nat) (v : Int) : (d.setDrive w v).eff = d.eff := rfl
@[simp] theorem setDrive_pendT (w : Nat) (v : Int) : (d.setDrive w v).pendT = d.pendT := rfl
@[simp] theorem setDrive_pendS (w : Nat) (v : Int) : (d.setDrive w v).pendS = d.pendS := rfl
@[simp] theorem setDrive_free (w : Nat) (v : Int) : (d.setDrive w v).free = d.free := rfl
@[simp] theorem setDrive_answer (w : Nat) (v : Int) : (d.setDrive w v).answer = d.answer := rfl
@[simp] theorem setDrive_osnNext (w : Nat) (v : Int) : (d.setDrive w v).osnNext = d.osnNext := rfl
@[simp] theorem setDrive_ops (w : Nat) (v : Int) : (d.setDrive w v).ops = d.ops := rfl
@[simp] theorem setDrive_boot (w : Nat) (v : Int) : (d.setDrive w v).boot = d.boot := rfl
@[simp] theorem setDrive_power (w : Nat) (v : Int) : (d.setDrive w v).power = d.power := rfl
@[simp] theorem setDrive_supAbsent (w : Nat) (v : Int) : (d.setDrive w v).supAbsent = d.supAbsent := rfl
@[simp] theorem setDrive_supHalted (w : Nat) (v : Int) : (d.setDrive w v).supHalted = d.supHalted := rfl
@[simp] theorem setDrive_softDue (w : Nat) (v : Int) : (d.setDrive w v).softDue = d.softDue := rfl
@[simp] theorem setDrive_clk (w : Nat) (v : Int) : (d.setDrive w v).clk = d.clk := rfl
@[simp] theorem setDrive_hk (w : Nat) (v : Int) : (d.setDrive w v).hk = d.hk := rfl
@[simp] theorem setDrive_cap (w : Nat) (v : Int) : (d.setDrive w v).cap = d.cap := rfl
@[simp] theorem setDrive_ev (w : Nat) (v : Int) : (d.setDrive w v).ev = d.ev := rfl
@[simp] theorem setDrive_eng (w : Nat) (v : Int) : (d.setDrive w v).eng = d.eng := rfl
@[simp] theorem setDrive_sample (w : Nat) (v : Int) : (d.setDrive w v).sample = d.sample := rfl
@[simp] theorem setDrive_tms (w : Nat) (v : Int) : (d.setDrive w v).tms = d.tms := rfl
@[simp] theorem setDrive_pmb (w : Nat) (v : Int) : (d.setDrive w v).pmb = d.pmb := rfl
@[simp] theorem setDrive_svc (w : Nat) (v : Int) : (d.setDrive w v).svc = d.svc := rfl
@[simp] theorem setDrive_pages (w : Nat) (v : Int) : (d.setDrive w v).pages = d.pages := rfl
@[simp] theorem setDrive_alert (w : Nat) (v : Int) : (d.setDrive w v).alert = d.alert := rfl
@[simp] theorem setDrive_pmbCtrl (w : Nat) (v : Int) : (d.setDrive w v).pmbCtrl = d.pmbCtrl := rfl
@[simp] theorem setDrive_lbCtrl (w : Nat) (v : Int) : (d.setDrive w v).lbCtrl = d.lbCtrl := rfl
@[simp] theorem setDrive_lbWait (w : Nat) (v : Int) : (d.setDrive w v).lbWait = d.lbWait := rfl
@[simp] theorem setDrive_canA (w : Nat) (v : Int) : (d.setDrive w v).canA = d.canA := rfl
@[simp] theorem setDrive_canB (w : Nat) (v : Int) : (d.setDrive w v).canB = d.canB := rfl
@[simp] theorem setDrive_node (w : Nat) (v : Int) : (d.setDrive w v).node = d.node := rfl
@[simp] theorem setDrive_log (w : Nat) (v : Int) : (d.setDrive w v).log = d.log := rfl
@[simp] theorem setDrive_acc (w : Nat) (v : Int) : (d.setDrive w v).acc = d.acc := rfl
@[simp] theorem setDrive_phases (w : Nat) (v : Int) : (d.setDrive w v).phases = d.phases := rfl
@[simp] theorem setDrive_rails (w : Nat) (v : Int) : (d.setDrive w v).rails = d.rails := rfl
@[simp] theorem setDrive_sgs (w : Nat) (v : Int) : (d.setDrive w v).sgs = d.sgs := rfl
@[simp] theorem setDrive_lil (w : Nat) (v : Int) : (d.setDrive w v).lil = d.lil := rfl
@[simp] theorem setDrive_load (w : Nat) (v : Int) : (d.setDrive w v).load = d.load := rfl
@[simp] theorem setDrive_bucks (w : Nat) (v : Int) : (d.setDrive w v).bucks = d.bucks := rfl
@[simp] theorem setDrive_ldos (w : Nat) (v : Int) : (d.setDrive w v).ldos = d.ldos := rfl
@[simp] theorem setDrive_wms (w : Nat) (v : Int) : (d.setDrive w v).wms = d.wms := rfl
@[simp] theorem setDrive_pol (w : Nat) (v : Int) : (d.setDrive w v).pol = d.pol := rfl
@[simp] theorem setDrive_polWait (w : Nat) (v : Int) : (d.setDrive w v).polWait = d.polWait := rfl
@[simp] theorem setDrive_polPost (w : Nat) (v : Int) : (d.setDrive w v).polPost = d.polPost := rfl
@[simp] theorem setDrive_seqr (w : Nat) (v : Int) : (d.setDrive w v).seqr = d.seqr := rfl
@[simp] theorem setDrive_path (w : Nat) (v : Int) : (d.setDrive w v).path = d.path := rfl
@[simp] theorem setDrive_chg (w : Nat) (v : Int) : (d.setDrive w v).chg = d.chg := rfl
@[simp] theorem setDrive_boost (w : Nat) (v : Int) : (d.setDrive w v).boost = d.boost := rfl
@[simp] theorem setDrive_die (w : Nat) (v : Int) : (d.setDrive w v).die = d.die := rfl
@[simp] theorem setDrive_btn (w : Nat) (v : Int) : (d.setDrive w v).btn = d.btn := rfl
@[simp] theorem setDrive_store (w : Nat) (v : Int) : (d.setDrive w v).store = d.store := rfl
@[simp] theorem setDrive_fw (w : Nat) (v : Int) : (d.setDrive w v).fw = d.fw := rfl
@[simp] theorem setDrive_nvm (w : Nat) (v : Int) : (d.setDrive w v).nvm = d.nvm := rfl
@[simp] theorem setDrive_board (w : Nat) (v : Int) : (d.setDrive w v).board = d.board := rfl
@[simp] theorem setDrive_lateResp (w : Nat) (v : Int) : (d.setDrive w v).lateResp = d.lateResp := rfl

@[simp] theorem faultRequest_objs (g : Nat) : (d.faultRequest g).objs = d.objs := rfl
@[simp] theorem faultRequest_eff (g : Nat) : (d.faultRequest g).eff = d.eff := rfl
@[simp] theorem faultRequest_pendT (g : Nat) : (d.faultRequest g).pendT = d.pendT := rfl
@[simp] theorem faultRequest_pendS (g : Nat) : (d.faultRequest g).pendS = d.pendS := rfl
@[simp] theorem faultRequest_free (g : Nat) : (d.faultRequest g).free = d.free := rfl
@[simp] theorem faultRequest_answer (g : Nat) : (d.faultRequest g).answer = d.answer := rfl
@[simp] theorem faultRequest_osnNext (g : Nat) : (d.faultRequest g).osnNext = d.osnNext := rfl
@[simp] theorem faultRequest_ops (g : Nat) : (d.faultRequest g).ops = d.ops := rfl
@[simp] theorem faultRequest_boot (g : Nat) : (d.faultRequest g).boot = d.boot := rfl
@[simp] theorem faultRequest_power (g : Nat) : (d.faultRequest g).power = d.power := rfl
@[simp] theorem faultRequest_supAbsent (g : Nat) : (d.faultRequest g).supAbsent = d.supAbsent := rfl
@[simp] theorem faultRequest_supHalted (g : Nat) : (d.faultRequest g).supHalted = d.supHalted := rfl
@[simp] theorem faultRequest_softDue (g : Nat) : (d.faultRequest g).softDue = d.softDue := rfl
@[simp] theorem faultRequest_clk (g : Nat) : (d.faultRequest g).clk = d.clk := rfl
@[simp] theorem faultRequest_hk (g : Nat) : (d.faultRequest g).hk = d.hk := rfl
@[simp] theorem faultRequest_cap (g : Nat) : (d.faultRequest g).cap = d.cap := rfl
@[simp] theorem faultRequest_ev (g : Nat) : (d.faultRequest g).ev = d.ev := rfl
@[simp] theorem faultRequest_eng (g : Nat) : (d.faultRequest g).eng = d.eng := rfl
@[simp] theorem faultRequest_sample (g : Nat) : (d.faultRequest g).sample = d.sample := rfl
@[simp] theorem faultRequest_drive (g : Nat) : (d.faultRequest g).drive = d.drive := rfl
@[simp] theorem faultRequest_tms (g : Nat) : (d.faultRequest g).tms = d.tms := rfl
@[simp] theorem faultRequest_pmb (g : Nat) : (d.faultRequest g).pmb = d.pmb := rfl
@[simp] theorem faultRequest_svc (g : Nat) : (d.faultRequest g).svc = d.svc := rfl
@[simp] theorem faultRequest_pages (g : Nat) : (d.faultRequest g).pages = d.pages := rfl
@[simp] theorem faultRequest_alert (g : Nat) : (d.faultRequest g).alert = d.alert := rfl
@[simp] theorem faultRequest_pmbCtrl (g : Nat) : (d.faultRequest g).pmbCtrl = d.pmbCtrl := rfl
@[simp] theorem faultRequest_lbCtrl (g : Nat) : (d.faultRequest g).lbCtrl = d.lbCtrl := rfl
@[simp] theorem faultRequest_lbWait (g : Nat) : (d.faultRequest g).lbWait = d.lbWait := rfl
@[simp] theorem faultRequest_canA (g : Nat) : (d.faultRequest g).canA = d.canA := rfl
@[simp] theorem faultRequest_canB (g : Nat) : (d.faultRequest g).canB = d.canB := rfl
@[simp] theorem faultRequest_node (g : Nat) : (d.faultRequest g).node = d.node := rfl
@[simp] theorem faultRequest_log (g : Nat) : (d.faultRequest g).log = d.log := rfl
@[simp] theorem faultRequest_acc (g : Nat) : (d.faultRequest g).acc = d.acc := rfl
@[simp] theorem faultRequest_phases (g : Nat) : (d.faultRequest g).phases = d.phases := rfl
@[simp] theorem faultRequest_rails (g : Nat) : (d.faultRequest g).rails = d.rails := rfl
@[simp] theorem faultRequest_sgs (g : Nat) : (d.faultRequest g).sgs = d.sgs := rfl
@[simp] theorem faultRequest_lil (g : Nat) : (d.faultRequest g).lil = d.lil := rfl
@[simp] theorem faultRequest_load (g : Nat) : (d.faultRequest g).load = d.load := rfl
@[simp] theorem faultRequest_bucks (g : Nat) : (d.faultRequest g).bucks = d.bucks := rfl
@[simp] theorem faultRequest_ldos (g : Nat) : (d.faultRequest g).ldos = d.ldos := rfl
@[simp] theorem faultRequest_wms (g : Nat) : (d.faultRequest g).wms = d.wms := rfl
@[simp] theorem faultRequest_pol (g : Nat) : (d.faultRequest g).pol = d.pol := rfl
@[simp] theorem faultRequest_polWait (g : Nat) : (d.faultRequest g).polWait = d.polWait := rfl
@[simp] theorem faultRequest_polPost (g : Nat) : (d.faultRequest g).polPost = d.polPost := rfl
@[simp] theorem faultRequest_path (g : Nat) : (d.faultRequest g).path = d.path := rfl
@[simp] theorem faultRequest_chg (g : Nat) : (d.faultRequest g).chg = d.chg := rfl
@[simp] theorem faultRequest_boost (g : Nat) : (d.faultRequest g).boost = d.boost := rfl
@[simp] theorem faultRequest_die (g : Nat) : (d.faultRequest g).die = d.die := rfl
@[simp] theorem faultRequest_btn (g : Nat) : (d.faultRequest g).btn = d.btn := rfl
@[simp] theorem faultRequest_store (g : Nat) : (d.faultRequest g).store = d.store := rfl
@[simp] theorem faultRequest_fw (g : Nat) : (d.faultRequest g).fw = d.fw := rfl
@[simp] theorem faultRequest_nvm (g : Nat) : (d.faultRequest g).nvm = d.nvm := rfl
@[simp] theorem faultRequest_board (g : Nat) : (d.faultRequest g).board = d.board := rfl
@[simp] theorem faultRequest_lateResp (g : Nat) : (d.faultRequest g).lateResp = d.lateResp := rfl

@[simp] theorem heard_objs : (d.heard).objs = d.objs := rfl
@[simp] theorem heard_eff : (d.heard).eff = d.eff := rfl
@[simp] theorem heard_pendT : (d.heard).pendT = d.pendT := rfl
@[simp] theorem heard_pendS : (d.heard).pendS = d.pendS := rfl
@[simp] theorem heard_free : (d.heard).free = d.free := rfl
@[simp] theorem heard_osnNext : (d.heard).osnNext = d.osnNext := rfl
@[simp] theorem heard_ops : (d.heard).ops = d.ops := rfl
@[simp] theorem heard_boot : (d.heard).boot = d.boot := rfl
@[simp] theorem heard_power : (d.heard).power = d.power := rfl
@[simp] theorem heard_supAbsent : (d.heard).supAbsent = d.supAbsent := rfl
@[simp] theorem heard_supHalted : (d.heard).supHalted = d.supHalted := rfl
@[simp] theorem heard_softDue : (d.heard).softDue = d.softDue := rfl
@[simp] theorem heard_clk : (d.heard).clk = d.clk := rfl
@[simp] theorem heard_hk : (d.heard).hk = d.hk := rfl
@[simp] theorem heard_cap : (d.heard).cap = d.cap := rfl
@[simp] theorem heard_ev : (d.heard).ev = d.ev := rfl
@[simp] theorem heard_eng : (d.heard).eng = d.eng := rfl
@[simp] theorem heard_sample : (d.heard).sample = d.sample := rfl
@[simp] theorem heard_drive : (d.heard).drive = d.drive := rfl
@[simp] theorem heard_tms : (d.heard).tms = d.tms := rfl
@[simp] theorem heard_pmb : (d.heard).pmb = d.pmb := rfl
@[simp] theorem heard_svc : (d.heard).svc = d.svc := rfl
@[simp] theorem heard_pages : (d.heard).pages = d.pages := rfl
@[simp] theorem heard_alert : (d.heard).alert = d.alert := rfl
@[simp] theorem heard_pmbCtrl : (d.heard).pmbCtrl = d.pmbCtrl := rfl
@[simp] theorem heard_lbCtrl : (d.heard).lbCtrl = d.lbCtrl := rfl
@[simp] theorem heard_lbWait : (d.heard).lbWait = d.lbWait := rfl
@[simp] theorem heard_canA : (d.heard).canA = d.canA := rfl
@[simp] theorem heard_canB : (d.heard).canB = d.canB := rfl
@[simp] theorem heard_node : (d.heard).node = d.node := rfl
@[simp] theorem heard_log : (d.heard).log = d.log := rfl
@[simp] theorem heard_acc : (d.heard).acc = d.acc := rfl
@[simp] theorem heard_phases : (d.heard).phases = d.phases := rfl
@[simp] theorem heard_rails : (d.heard).rails = d.rails := rfl
@[simp] theorem heard_sgs : (d.heard).sgs = d.sgs := rfl
@[simp] theorem heard_lil : (d.heard).lil = d.lil := rfl
@[simp] theorem heard_load : (d.heard).load = d.load := rfl
@[simp] theorem heard_bucks : (d.heard).bucks = d.bucks := rfl
@[simp] theorem heard_ldos : (d.heard).ldos = d.ldos := rfl
@[simp] theorem heard_wms : (d.heard).wms = d.wms := rfl
@[simp] theorem heard_pol : (d.heard).pol = d.pol := rfl
@[simp] theorem heard_polWait : (d.heard).polWait = d.polWait := rfl
@[simp] theorem heard_polPost : (d.heard).polPost = d.polPost := rfl
@[simp] theorem heard_seqr : (d.heard).seqr = d.seqr := rfl
@[simp] theorem heard_path : (d.heard).path = d.path := rfl
@[simp] theorem heard_chg : (d.heard).chg = d.chg := rfl
@[simp] theorem heard_boost : (d.heard).boost = d.boost := rfl
@[simp] theorem heard_die : (d.heard).die = d.die := rfl
@[simp] theorem heard_btn : (d.heard).btn = d.btn := rfl
@[simp] theorem heard_store : (d.heard).store = d.store := rfl
@[simp] theorem heard_fw : (d.heard).fw = d.fw := rfl
@[simp] theorem heard_nvm : (d.heard).nvm = d.nvm := rfl
@[simp] theorem heard_board : (d.heard).board = d.board := rfl
@[simp] theorem heard_lateResp : (d.heard).lateResp = d.lateResp := rfl

@[simp] theorem setNum_eff (k : Nat) (v : Int) : (d.setNum k v).eff = d.eff := rfl
@[simp] theorem setNum_pendT (k : Nat) (v : Int) : (d.setNum k v).pendT = d.pendT := rfl
@[simp] theorem setNum_pendS (k : Nat) (v : Int) : (d.setNum k v).pendS = d.pendS := rfl
@[simp] theorem setNum_free (k : Nat) (v : Int) : (d.setNum k v).free = d.free := rfl
@[simp] theorem setNum_answer (k : Nat) (v : Int) : (d.setNum k v).answer = d.answer := rfl
@[simp] theorem setNum_osnNext (k : Nat) (v : Int) : (d.setNum k v).osnNext = d.osnNext := rfl
@[simp] theorem setNum_ops (k : Nat) (v : Int) : (d.setNum k v).ops = d.ops := rfl
@[simp] theorem setNum_boot (k : Nat) (v : Int) : (d.setNum k v).boot = d.boot := rfl
@[simp] theorem setNum_power (k : Nat) (v : Int) : (d.setNum k v).power = d.power := rfl
@[simp] theorem setNum_supAbsent (k : Nat) (v : Int) : (d.setNum k v).supAbsent = d.supAbsent := rfl
@[simp] theorem setNum_supHalted (k : Nat) (v : Int) : (d.setNum k v).supHalted = d.supHalted := rfl
@[simp] theorem setNum_softDue (k : Nat) (v : Int) : (d.setNum k v).softDue = d.softDue := rfl
@[simp] theorem setNum_clk (k : Nat) (v : Int) : (d.setNum k v).clk = d.clk := rfl
@[simp] theorem setNum_hk (k : Nat) (v : Int) : (d.setNum k v).hk = d.hk := rfl
@[simp] theorem setNum_cap (k : Nat) (v : Int) : (d.setNum k v).cap = d.cap := rfl
@[simp] theorem setNum_ev (k : Nat) (v : Int) : (d.setNum k v).ev = d.ev := rfl
@[simp] theorem setNum_eng (k : Nat) (v : Int) : (d.setNum k v).eng = d.eng := rfl
@[simp] theorem setNum_sample (k : Nat) (v : Int) : (d.setNum k v).sample = d.sample := rfl
@[simp] theorem setNum_drive (k : Nat) (v : Int) : (d.setNum k v).drive = d.drive := rfl
@[simp] theorem setNum_tms (k : Nat) (v : Int) : (d.setNum k v).tms = d.tms := rfl
@[simp] theorem setNum_pmb (k : Nat) (v : Int) : (d.setNum k v).pmb = d.pmb := rfl
@[simp] theorem setNum_svc (k : Nat) (v : Int) : (d.setNum k v).svc = d.svc := rfl
@[simp] theorem setNum_pages (k : Nat) (v : Int) : (d.setNum k v).pages = d.pages := rfl
@[simp] theorem setNum_alert (k : Nat) (v : Int) : (d.setNum k v).alert = d.alert := rfl
@[simp] theorem setNum_pmbCtrl (k : Nat) (v : Int) : (d.setNum k v).pmbCtrl = d.pmbCtrl := rfl
@[simp] theorem setNum_lbCtrl (k : Nat) (v : Int) : (d.setNum k v).lbCtrl = d.lbCtrl := rfl
@[simp] theorem setNum_lbWait (k : Nat) (v : Int) : (d.setNum k v).lbWait = d.lbWait := rfl
@[simp] theorem setNum_canA (k : Nat) (v : Int) : (d.setNum k v).canA = d.canA := rfl
@[simp] theorem setNum_canB (k : Nat) (v : Int) : (d.setNum k v).canB = d.canB := rfl
@[simp] theorem setNum_node (k : Nat) (v : Int) : (d.setNum k v).node = d.node := rfl
@[simp] theorem setNum_log (k : Nat) (v : Int) : (d.setNum k v).log = d.log := rfl
@[simp] theorem setNum_acc (k : Nat) (v : Int) : (d.setNum k v).acc = d.acc := rfl
@[simp] theorem setNum_phases (k : Nat) (v : Int) : (d.setNum k v).phases = d.phases := rfl
@[simp] theorem setNum_rails (k : Nat) (v : Int) : (d.setNum k v).rails = d.rails := rfl
@[simp] theorem setNum_sgs (k : Nat) (v : Int) : (d.setNum k v).sgs = d.sgs := rfl
@[simp] theorem setNum_lil (k : Nat) (v : Int) : (d.setNum k v).lil = d.lil := rfl
@[simp] theorem setNum_load (k : Nat) (v : Int) : (d.setNum k v).load = d.load := rfl
@[simp] theorem setNum_bucks (k : Nat) (v : Int) : (d.setNum k v).bucks = d.bucks := rfl
@[simp] theorem setNum_ldos (k : Nat) (v : Int) : (d.setNum k v).ldos = d.ldos := rfl
@[simp] theorem setNum_wms (k : Nat) (v : Int) : (d.setNum k v).wms = d.wms := rfl
@[simp] theorem setNum_pol (k : Nat) (v : Int) : (d.setNum k v).pol = d.pol := rfl
@[simp] theorem setNum_polWait (k : Nat) (v : Int) : (d.setNum k v).polWait = d.polWait := rfl
@[simp] theorem setNum_polPost (k : Nat) (v : Int) : (d.setNum k v).polPost = d.polPost := rfl
@[simp] theorem setNum_seqr (k : Nat) (v : Int) : (d.setNum k v).seqr = d.seqr := rfl
@[simp] theorem setNum_path (k : Nat) (v : Int) : (d.setNum k v).path = d.path := rfl
@[simp] theorem setNum_chg (k : Nat) (v : Int) : (d.setNum k v).chg = d.chg := rfl
@[simp] theorem setNum_boost (k : Nat) (v : Int) : (d.setNum k v).boost = d.boost := rfl
@[simp] theorem setNum_die (k : Nat) (v : Int) : (d.setNum k v).die = d.die := rfl
@[simp] theorem setNum_btn (k : Nat) (v : Int) : (d.setNum k v).btn = d.btn := rfl
@[simp] theorem setNum_store (k : Nat) (v : Int) : (d.setNum k v).store = d.store := rfl
@[simp] theorem setNum_fw (k : Nat) (v : Int) : (d.setNum k v).fw = d.fw := rfl
@[simp] theorem setNum_nvm (k : Nat) (v : Int) : (d.setNum k v).nvm = d.nvm := rfl
@[simp] theorem setNum_board (k : Nat) (v : Int) : (d.setNum k v).board = d.board := rfl
@[simp] theorem setNum_lateResp (k : Nat) (v : Int) : (d.setNum k v).lateResp = d.lateResp := rfl

@[simp] theorem modNum_eff (k : Nat) (f : Int → Int) : (d.modNum k f).eff = d.eff := rfl
@[simp] theorem modNum_pendT (k : Nat) (f : Int → Int) : (d.modNum k f).pendT = d.pendT := rfl
@[simp] theorem modNum_pendS (k : Nat) (f : Int → Int) : (d.modNum k f).pendS = d.pendS := rfl
@[simp] theorem modNum_free (k : Nat) (f : Int → Int) : (d.modNum k f).free = d.free := rfl
@[simp] theorem modNum_answer (k : Nat) (f : Int → Int) : (d.modNum k f).answer = d.answer := rfl
@[simp] theorem modNum_osnNext (k : Nat) (f : Int → Int) : (d.modNum k f).osnNext = d.osnNext := rfl
@[simp] theorem modNum_ops (k : Nat) (f : Int → Int) : (d.modNum k f).ops = d.ops := rfl
@[simp] theorem modNum_boot (k : Nat) (f : Int → Int) : (d.modNum k f).boot = d.boot := rfl
@[simp] theorem modNum_power (k : Nat) (f : Int → Int) : (d.modNum k f).power = d.power := rfl
@[simp] theorem modNum_supAbsent (k : Nat) (f : Int → Int) : (d.modNum k f).supAbsent = d.supAbsent := rfl
@[simp] theorem modNum_supHalted (k : Nat) (f : Int → Int) : (d.modNum k f).supHalted = d.supHalted := rfl
@[simp] theorem modNum_softDue (k : Nat) (f : Int → Int) : (d.modNum k f).softDue = d.softDue := rfl
@[simp] theorem modNum_clk (k : Nat) (f : Int → Int) : (d.modNum k f).clk = d.clk := rfl
@[simp] theorem modNum_hk (k : Nat) (f : Int → Int) : (d.modNum k f).hk = d.hk := rfl
@[simp] theorem modNum_cap (k : Nat) (f : Int → Int) : (d.modNum k f).cap = d.cap := rfl
@[simp] theorem modNum_ev (k : Nat) (f : Int → Int) : (d.modNum k f).ev = d.ev := rfl
@[simp] theorem modNum_eng (k : Nat) (f : Int → Int) : (d.modNum k f).eng = d.eng := rfl
@[simp] theorem modNum_sample (k : Nat) (f : Int → Int) : (d.modNum k f).sample = d.sample := rfl
@[simp] theorem modNum_drive (k : Nat) (f : Int → Int) : (d.modNum k f).drive = d.drive := rfl
@[simp] theorem modNum_tms (k : Nat) (f : Int → Int) : (d.modNum k f).tms = d.tms := rfl
@[simp] theorem modNum_pmb (k : Nat) (f : Int → Int) : (d.modNum k f).pmb = d.pmb := rfl
@[simp] theorem modNum_svc (k : Nat) (f : Int → Int) : (d.modNum k f).svc = d.svc := rfl
@[simp] theorem modNum_pages (k : Nat) (f : Int → Int) : (d.modNum k f).pages = d.pages := rfl
@[simp] theorem modNum_alert (k : Nat) (f : Int → Int) : (d.modNum k f).alert = d.alert := rfl
@[simp] theorem modNum_pmbCtrl (k : Nat) (f : Int → Int) : (d.modNum k f).pmbCtrl = d.pmbCtrl := rfl
@[simp] theorem modNum_lbCtrl (k : Nat) (f : Int → Int) : (d.modNum k f).lbCtrl = d.lbCtrl := rfl
@[simp] theorem modNum_lbWait (k : Nat) (f : Int → Int) : (d.modNum k f).lbWait = d.lbWait := rfl
@[simp] theorem modNum_canA (k : Nat) (f : Int → Int) : (d.modNum k f).canA = d.canA := rfl
@[simp] theorem modNum_canB (k : Nat) (f : Int → Int) : (d.modNum k f).canB = d.canB := rfl
@[simp] theorem modNum_node (k : Nat) (f : Int → Int) : (d.modNum k f).node = d.node := rfl
@[simp] theorem modNum_log (k : Nat) (f : Int → Int) : (d.modNum k f).log = d.log := rfl
@[simp] theorem modNum_acc (k : Nat) (f : Int → Int) : (d.modNum k f).acc = d.acc := rfl
@[simp] theorem modNum_phases (k : Nat) (f : Int → Int) : (d.modNum k f).phases = d.phases := rfl
@[simp] theorem modNum_rails (k : Nat) (f : Int → Int) : (d.modNum k f).rails = d.rails := rfl
@[simp] theorem modNum_sgs (k : Nat) (f : Int → Int) : (d.modNum k f).sgs = d.sgs := rfl
@[simp] theorem modNum_lil (k : Nat) (f : Int → Int) : (d.modNum k f).lil = d.lil := rfl
@[simp] theorem modNum_load (k : Nat) (f : Int → Int) : (d.modNum k f).load = d.load := rfl
@[simp] theorem modNum_bucks (k : Nat) (f : Int → Int) : (d.modNum k f).bucks = d.bucks := rfl
@[simp] theorem modNum_ldos (k : Nat) (f : Int → Int) : (d.modNum k f).ldos = d.ldos := rfl
@[simp] theorem modNum_wms (k : Nat) (f : Int → Int) : (d.modNum k f).wms = d.wms := rfl
@[simp] theorem modNum_pol (k : Nat) (f : Int → Int) : (d.modNum k f).pol = d.pol := rfl
@[simp] theorem modNum_polWait (k : Nat) (f : Int → Int) : (d.modNum k f).polWait = d.polWait := rfl
@[simp] theorem modNum_polPost (k : Nat) (f : Int → Int) : (d.modNum k f).polPost = d.polPost := rfl
@[simp] theorem modNum_seqr (k : Nat) (f : Int → Int) : (d.modNum k f).seqr = d.seqr := rfl
@[simp] theorem modNum_path (k : Nat) (f : Int → Int) : (d.modNum k f).path = d.path := rfl
@[simp] theorem modNum_chg (k : Nat) (f : Int → Int) : (d.modNum k f).chg = d.chg := rfl
@[simp] theorem modNum_boost (k : Nat) (f : Int → Int) : (d.modNum k f).boost = d.boost := rfl
@[simp] theorem modNum_die (k : Nat) (f : Int → Int) : (d.modNum k f).die = d.die := rfl
@[simp] theorem modNum_btn (k : Nat) (f : Int → Int) : (d.modNum k f).btn = d.btn := rfl
@[simp] theorem modNum_store (k : Nat) (f : Int → Int) : (d.modNum k f).store = d.store := rfl
@[simp] theorem modNum_fw (k : Nat) (f : Int → Int) : (d.modNum k f).fw = d.fw := rfl
@[simp] theorem modNum_nvm (k : Nat) (f : Int → Int) : (d.modNum k f).nvm = d.nvm := rfl
@[simp] theorem modNum_board (k : Nat) (f : Int → Int) : (d.modNum k f).board = d.board := rfl
@[simp] theorem modNum_lateResp (k : Nat) (f : Int → Int) : (d.modNum k f).lateResp = d.lateResp := rfl

@[simp] theorem bump_eff (k n : Nat) : (d.bump k n).eff = d.eff := rfl
@[simp] theorem bump_pendT (k n : Nat) : (d.bump k n).pendT = d.pendT := rfl
@[simp] theorem bump_pendS (k n : Nat) : (d.bump k n).pendS = d.pendS := rfl
@[simp] theorem bump_free (k n : Nat) : (d.bump k n).free = d.free := rfl
@[simp] theorem bump_answer (k n : Nat) : (d.bump k n).answer = d.answer := rfl
@[simp] theorem bump_osnNext (k n : Nat) : (d.bump k n).osnNext = d.osnNext := rfl
@[simp] theorem bump_ops (k n : Nat) : (d.bump k n).ops = d.ops := rfl
@[simp] theorem bump_boot (k n : Nat) : (d.bump k n).boot = d.boot := rfl
@[simp] theorem bump_power (k n : Nat) : (d.bump k n).power = d.power := rfl
@[simp] theorem bump_supAbsent (k n : Nat) : (d.bump k n).supAbsent = d.supAbsent := rfl
@[simp] theorem bump_supHalted (k n : Nat) : (d.bump k n).supHalted = d.supHalted := rfl
@[simp] theorem bump_softDue (k n : Nat) : (d.bump k n).softDue = d.softDue := rfl
@[simp] theorem bump_clk (k n : Nat) : (d.bump k n).clk = d.clk := rfl
@[simp] theorem bump_hk (k n : Nat) : (d.bump k n).hk = d.hk := rfl
@[simp] theorem bump_cap (k n : Nat) : (d.bump k n).cap = d.cap := rfl
@[simp] theorem bump_ev (k n : Nat) : (d.bump k n).ev = d.ev := rfl
@[simp] theorem bump_eng (k n : Nat) : (d.bump k n).eng = d.eng := rfl
@[simp] theorem bump_sample (k n : Nat) : (d.bump k n).sample = d.sample := rfl
@[simp] theorem bump_drive (k n : Nat) : (d.bump k n).drive = d.drive := rfl
@[simp] theorem bump_tms (k n : Nat) : (d.bump k n).tms = d.tms := rfl
@[simp] theorem bump_pmb (k n : Nat) : (d.bump k n).pmb = d.pmb := rfl
@[simp] theorem bump_svc (k n : Nat) : (d.bump k n).svc = d.svc := rfl
@[simp] theorem bump_pages (k n : Nat) : (d.bump k n).pages = d.pages := rfl
@[simp] theorem bump_alert (k n : Nat) : (d.bump k n).alert = d.alert := rfl
@[simp] theorem bump_pmbCtrl (k n : Nat) : (d.bump k n).pmbCtrl = d.pmbCtrl := rfl
@[simp] theorem bump_lbCtrl (k n : Nat) : (d.bump k n).lbCtrl = d.lbCtrl := rfl
@[simp] theorem bump_lbWait (k n : Nat) : (d.bump k n).lbWait = d.lbWait := rfl
@[simp] theorem bump_canA (k n : Nat) : (d.bump k n).canA = d.canA := rfl
@[simp] theorem bump_canB (k n : Nat) : (d.bump k n).canB = d.canB := rfl
@[simp] theorem bump_node (k n : Nat) : (d.bump k n).node = d.node := rfl
@[simp] theorem bump_log (k n : Nat) : (d.bump k n).log = d.log := rfl
@[simp] theorem bump_acc (k n : Nat) : (d.bump k n).acc = d.acc := rfl
@[simp] theorem bump_phases (k n : Nat) : (d.bump k n).phases = d.phases := rfl
@[simp] theorem bump_rails (k n : Nat) : (d.bump k n).rails = d.rails := rfl
@[simp] theorem bump_sgs (k n : Nat) : (d.bump k n).sgs = d.sgs := rfl
@[simp] theorem bump_lil (k n : Nat) : (d.bump k n).lil = d.lil := rfl
@[simp] theorem bump_load (k n : Nat) : (d.bump k n).load = d.load := rfl
@[simp] theorem bump_bucks (k n : Nat) : (d.bump k n).bucks = d.bucks := rfl
@[simp] theorem bump_ldos (k n : Nat) : (d.bump k n).ldos = d.ldos := rfl
@[simp] theorem bump_wms (k n : Nat) : (d.bump k n).wms = d.wms := rfl
@[simp] theorem bump_pol (k n : Nat) : (d.bump k n).pol = d.pol := rfl
@[simp] theorem bump_polWait (k n : Nat) : (d.bump k n).polWait = d.polWait := rfl
@[simp] theorem bump_polPost (k n : Nat) : (d.bump k n).polPost = d.polPost := rfl
@[simp] theorem bump_seqr (k n : Nat) : (d.bump k n).seqr = d.seqr := rfl
@[simp] theorem bump_path (k n : Nat) : (d.bump k n).path = d.path := rfl
@[simp] theorem bump_chg (k n : Nat) : (d.bump k n).chg = d.chg := rfl
@[simp] theorem bump_boost (k n : Nat) : (d.bump k n).boost = d.boost := rfl
@[simp] theorem bump_die (k n : Nat) : (d.bump k n).die = d.die := rfl
@[simp] theorem bump_btn (k n : Nat) : (d.bump k n).btn = d.btn := rfl
@[simp] theorem bump_store (k n : Nat) : (d.bump k n).store = d.store := rfl
@[simp] theorem bump_fw (k n : Nat) : (d.bump k n).fw = d.fw := rfl
@[simp] theorem bump_nvm (k n : Nat) : (d.bump k n).nvm = d.nvm := rfl
@[simp] theorem bump_board (k n : Nat) : (d.bump k n).board = d.board := rfl
@[simp] theorem bump_lateResp (k n : Nat) : (d.bump k n).lateResp = d.lateResp := rfl

@[simp] theorem putBit_eff (k i : Nat) (b : Bool) : (d.putBit k i b).eff = d.eff := rfl
@[simp] theorem putBit_pendT (k i : Nat) (b : Bool) : (d.putBit k i b).pendT = d.pendT := rfl
@[simp] theorem putBit_pendS (k i : Nat) (b : Bool) : (d.putBit k i b).pendS = d.pendS := rfl
@[simp] theorem putBit_free (k i : Nat) (b : Bool) : (d.putBit k i b).free = d.free := rfl
@[simp] theorem putBit_answer (k i : Nat) (b : Bool) : (d.putBit k i b).answer = d.answer := rfl
@[simp] theorem putBit_osnNext (k i : Nat) (b : Bool) : (d.putBit k i b).osnNext = d.osnNext := rfl
@[simp] theorem putBit_ops (k i : Nat) (b : Bool) : (d.putBit k i b).ops = d.ops := rfl
@[simp] theorem putBit_boot (k i : Nat) (b : Bool) : (d.putBit k i b).boot = d.boot := rfl
@[simp] theorem putBit_power (k i : Nat) (b : Bool) : (d.putBit k i b).power = d.power := rfl
@[simp] theorem putBit_supAbsent (k i : Nat) (b : Bool) : (d.putBit k i b).supAbsent = d.supAbsent := rfl
@[simp] theorem putBit_supHalted (k i : Nat) (b : Bool) : (d.putBit k i b).supHalted = d.supHalted := rfl
@[simp] theorem putBit_softDue (k i : Nat) (b : Bool) : (d.putBit k i b).softDue = d.softDue := rfl
@[simp] theorem putBit_clk (k i : Nat) (b : Bool) : (d.putBit k i b).clk = d.clk := rfl
@[simp] theorem putBit_hk (k i : Nat) (b : Bool) : (d.putBit k i b).hk = d.hk := rfl
@[simp] theorem putBit_cap (k i : Nat) (b : Bool) : (d.putBit k i b).cap = d.cap := rfl
@[simp] theorem putBit_ev (k i : Nat) (b : Bool) : (d.putBit k i b).ev = d.ev := rfl
@[simp] theorem putBit_eng (k i : Nat) (b : Bool) : (d.putBit k i b).eng = d.eng := rfl
@[simp] theorem putBit_sample (k i : Nat) (b : Bool) : (d.putBit k i b).sample = d.sample := rfl
@[simp] theorem putBit_drive (k i : Nat) (b : Bool) : (d.putBit k i b).drive = d.drive := rfl
@[simp] theorem putBit_tms (k i : Nat) (b : Bool) : (d.putBit k i b).tms = d.tms := rfl
@[simp] theorem putBit_pmb (k i : Nat) (b : Bool) : (d.putBit k i b).pmb = d.pmb := rfl
@[simp] theorem putBit_svc (k i : Nat) (b : Bool) : (d.putBit k i b).svc = d.svc := rfl
@[simp] theorem putBit_pages (k i : Nat) (b : Bool) : (d.putBit k i b).pages = d.pages := rfl
@[simp] theorem putBit_alert (k i : Nat) (b : Bool) : (d.putBit k i b).alert = d.alert := rfl
@[simp] theorem putBit_pmbCtrl (k i : Nat) (b : Bool) : (d.putBit k i b).pmbCtrl = d.pmbCtrl := rfl
@[simp] theorem putBit_lbCtrl (k i : Nat) (b : Bool) : (d.putBit k i b).lbCtrl = d.lbCtrl := rfl
@[simp] theorem putBit_lbWait (k i : Nat) (b : Bool) : (d.putBit k i b).lbWait = d.lbWait := rfl
@[simp] theorem putBit_canA (k i : Nat) (b : Bool) : (d.putBit k i b).canA = d.canA := rfl
@[simp] theorem putBit_canB (k i : Nat) (b : Bool) : (d.putBit k i b).canB = d.canB := rfl
@[simp] theorem putBit_node (k i : Nat) (b : Bool) : (d.putBit k i b).node = d.node := rfl
@[simp] theorem putBit_log (k i : Nat) (b : Bool) : (d.putBit k i b).log = d.log := rfl
@[simp] theorem putBit_acc (k i : Nat) (b : Bool) : (d.putBit k i b).acc = d.acc := rfl
@[simp] theorem putBit_phases (k i : Nat) (b : Bool) : (d.putBit k i b).phases = d.phases := rfl
@[simp] theorem putBit_rails (k i : Nat) (b : Bool) : (d.putBit k i b).rails = d.rails := rfl
@[simp] theorem putBit_sgs (k i : Nat) (b : Bool) : (d.putBit k i b).sgs = d.sgs := rfl
@[simp] theorem putBit_lil (k i : Nat) (b : Bool) : (d.putBit k i b).lil = d.lil := rfl
@[simp] theorem putBit_load (k i : Nat) (b : Bool) : (d.putBit k i b).load = d.load := rfl
@[simp] theorem putBit_bucks (k i : Nat) (b : Bool) : (d.putBit k i b).bucks = d.bucks := rfl
@[simp] theorem putBit_ldos (k i : Nat) (b : Bool) : (d.putBit k i b).ldos = d.ldos := rfl
@[simp] theorem putBit_wms (k i : Nat) (b : Bool) : (d.putBit k i b).wms = d.wms := rfl
@[simp] theorem putBit_pol (k i : Nat) (b : Bool) : (d.putBit k i b).pol = d.pol := rfl
@[simp] theorem putBit_polWait (k i : Nat) (b : Bool) : (d.putBit k i b).polWait = d.polWait := rfl
@[simp] theorem putBit_polPost (k i : Nat) (b : Bool) : (d.putBit k i b).polPost = d.polPost := rfl
@[simp] theorem putBit_seqr (k i : Nat) (b : Bool) : (d.putBit k i b).seqr = d.seqr := rfl
@[simp] theorem putBit_path (k i : Nat) (b : Bool) : (d.putBit k i b).path = d.path := rfl
@[simp] theorem putBit_chg (k i : Nat) (b : Bool) : (d.putBit k i b).chg = d.chg := rfl
@[simp] theorem putBit_boost (k i : Nat) (b : Bool) : (d.putBit k i b).boost = d.boost := rfl
@[simp] theorem putBit_die (k i : Nat) (b : Bool) : (d.putBit k i b).die = d.die := rfl
@[simp] theorem putBit_btn (k i : Nat) (b : Bool) : (d.putBit k i b).btn = d.btn := rfl
@[simp] theorem putBit_store (k i : Nat) (b : Bool) : (d.putBit k i b).store = d.store := rfl
@[simp] theorem putBit_fw (k i : Nat) (b : Bool) : (d.putBit k i b).fw = d.fw := rfl
@[simp] theorem putBit_nvm (k i : Nat) (b : Bool) : (d.putBit k i b).nvm = d.nvm := rfl
@[simp] theorem putBit_board (k i : Nat) (b : Bool) : (d.putBit k i b).board = d.board := rfl
@[simp] theorem putBit_lateResp (k i : Nat) (b : Bool) : (d.putBit k i b).lateResp = d.lateResp := rfl

@[simp] theorem causeArg_eff (s c o : Nat) (x : List Byte) : (d.causeArg s c o x).eff = d.eff := by unfold causeArg; split; (split <;> rfl); rfl
@[simp] theorem causeArg_pendT (s c o : Nat) (x : List Byte) : (d.causeArg s c o x).pendT = d.pendT := by unfold causeArg; split; (split <;> rfl); rfl
@[simp] theorem causeArg_pendS (s c o : Nat) (x : List Byte) : (d.causeArg s c o x).pendS = d.pendS := by unfold causeArg; split; (split <;> rfl); rfl
@[simp] theorem causeArg_free (s c o : Nat) (x : List Byte) : (d.causeArg s c o x).free = d.free := by unfold causeArg; split; (split <;> rfl); rfl
@[simp] theorem causeArg_answer (s c o : Nat) (x : List Byte) : (d.causeArg s c o x).answer = d.answer := by unfold causeArg; split; (split <;> rfl); rfl
@[simp] theorem causeArg_osnNext (s c o : Nat) (x : List Byte) : (d.causeArg s c o x).osnNext = d.osnNext := by unfold causeArg; split; (split <;> rfl); rfl
@[simp] theorem causeArg_ops (s c o : Nat) (x : List Byte) : (d.causeArg s c o x).ops = d.ops := by unfold causeArg; split; (split <;> rfl); rfl
@[simp] theorem causeArg_boot (s c o : Nat) (x : List Byte) : (d.causeArg s c o x).boot = d.boot := by unfold causeArg; split; (split <;> rfl); rfl
@[simp] theorem causeArg_power (s c o : Nat) (x : List Byte) : (d.causeArg s c o x).power = d.power := by unfold causeArg; split; (split <;> rfl); rfl
@[simp] theorem causeArg_supAbsent (s c o : Nat) (x : List Byte) : (d.causeArg s c o x).supAbsent = d.supAbsent := by unfold causeArg; split; (split <;> rfl); rfl
@[simp] theorem causeArg_supHalted (s c o : Nat) (x : List Byte) : (d.causeArg s c o x).supHalted = d.supHalted := by unfold causeArg; split; (split <;> rfl); rfl
@[simp] theorem causeArg_softDue (s c o : Nat) (x : List Byte) : (d.causeArg s c o x).softDue = d.softDue := by unfold causeArg; split; (split <;> rfl); rfl
@[simp] theorem causeArg_clk (s c o : Nat) (x : List Byte) : (d.causeArg s c o x).clk = d.clk := by unfold causeArg; split; (split <;> rfl); rfl
@[simp] theorem causeArg_hk (s c o : Nat) (x : List Byte) : (d.causeArg s c o x).hk = d.hk := by unfold causeArg; split; (split <;> rfl); rfl
@[simp] theorem causeArg_cap (s c o : Nat) (x : List Byte) : (d.causeArg s c o x).cap = d.cap := by unfold causeArg; split; (split <;> rfl); rfl
@[simp] theorem causeArg_eng (s c o : Nat) (x : List Byte) : (d.causeArg s c o x).eng = d.eng := by unfold causeArg; split; (split <;> rfl); rfl
@[simp] theorem causeArg_sample (s c o : Nat) (x : List Byte) : (d.causeArg s c o x).sample = d.sample := by unfold causeArg; split; (split <;> rfl); rfl
@[simp] theorem causeArg_drive (s c o : Nat) (x : List Byte) : (d.causeArg s c o x).drive = d.drive := by unfold causeArg; split; (split <;> rfl); rfl
@[simp] theorem causeArg_tms (s c o : Nat) (x : List Byte) : (d.causeArg s c o x).tms = d.tms := by unfold causeArg; split; (split <;> rfl); rfl
@[simp] theorem causeArg_pmb (s c o : Nat) (x : List Byte) : (d.causeArg s c o x).pmb = d.pmb := by unfold causeArg; split; (split <;> rfl); rfl
@[simp] theorem causeArg_svc (s c o : Nat) (x : List Byte) : (d.causeArg s c o x).svc = d.svc := by unfold causeArg; split; (split <;> rfl); rfl
@[simp] theorem causeArg_pages (s c o : Nat) (x : List Byte) : (d.causeArg s c o x).pages = d.pages := by unfold causeArg; split; (split <;> rfl); rfl
@[simp] theorem causeArg_alert (s c o : Nat) (x : List Byte) : (d.causeArg s c o x).alert = d.alert := by unfold causeArg; split; (split <;> rfl); rfl
@[simp] theorem causeArg_pmbCtrl (s c o : Nat) (x : List Byte) : (d.causeArg s c o x).pmbCtrl = d.pmbCtrl := by unfold causeArg; split; (split <;> rfl); rfl
@[simp] theorem causeArg_lbCtrl (s c o : Nat) (x : List Byte) : (d.causeArg s c o x).lbCtrl = d.lbCtrl := by unfold causeArg; split; (split <;> rfl); rfl
@[simp] theorem causeArg_lbWait (s c o : Nat) (x : List Byte) : (d.causeArg s c o x).lbWait = d.lbWait := by unfold causeArg; split; (split <;> rfl); rfl
@[simp] theorem causeArg_canA (s c o : Nat) (x : List Byte) : (d.causeArg s c o x).canA = d.canA := by unfold causeArg; split; (split <;> rfl); rfl
@[simp] theorem causeArg_canB (s c o : Nat) (x : List Byte) : (d.causeArg s c o x).canB = d.canB := by unfold causeArg; split; (split <;> rfl); rfl
@[simp] theorem causeArg_node (s c o : Nat) (x : List Byte) : (d.causeArg s c o x).node = d.node := by unfold causeArg; split; (split <;> rfl); rfl
@[simp] theorem causeArg_log (s c o : Nat) (x : List Byte) : (d.causeArg s c o x).log = d.log := by unfold causeArg; split; (split <;> rfl); rfl
@[simp] theorem causeArg_acc (s c o : Nat) (x : List Byte) : (d.causeArg s c o x).acc = d.acc := by unfold causeArg; split; (split <;> rfl); rfl
@[simp] theorem causeArg_phases (s c o : Nat) (x : List Byte) : (d.causeArg s c o x).phases = d.phases := by unfold causeArg; split; (split <;> rfl); rfl
@[simp] theorem causeArg_rails (s c o : Nat) (x : List Byte) : (d.causeArg s c o x).rails = d.rails := by unfold causeArg; split; (split <;> rfl); rfl
@[simp] theorem causeArg_sgs (s c o : Nat) (x : List Byte) : (d.causeArg s c o x).sgs = d.sgs := by unfold causeArg; split; (split <;> rfl); rfl
@[simp] theorem causeArg_lil (s c o : Nat) (x : List Byte) : (d.causeArg s c o x).lil = d.lil := by unfold causeArg; split; (split <;> rfl); rfl
@[simp] theorem causeArg_load (s c o : Nat) (x : List Byte) : (d.causeArg s c o x).load = d.load := by unfold causeArg; split; (split <;> rfl); rfl
@[simp] theorem causeArg_bucks (s c o : Nat) (x : List Byte) : (d.causeArg s c o x).bucks = d.bucks := by unfold causeArg; split; (split <;> rfl); rfl
@[simp] theorem causeArg_ldos (s c o : Nat) (x : List Byte) : (d.causeArg s c o x).ldos = d.ldos := by unfold causeArg; split; (split <;> rfl); rfl
@[simp] theorem causeArg_wms (s c o : Nat) (x : List Byte) : (d.causeArg s c o x).wms = d.wms := by unfold causeArg; split; (split <;> rfl); rfl
@[simp] theorem causeArg_pol (s c o : Nat) (x : List Byte) : (d.causeArg s c o x).pol = d.pol := by unfold causeArg; split; (split <;> rfl); rfl
@[simp] theorem causeArg_polWait (s c o : Nat) (x : List Byte) : (d.causeArg s c o x).polWait = d.polWait := by unfold causeArg; split; (split <;> rfl); rfl
@[simp] theorem causeArg_polPost (s c o : Nat) (x : List Byte) : (d.causeArg s c o x).polPost = d.polPost := by unfold causeArg; split; (split <;> rfl); rfl
@[simp] theorem causeArg_seqr (s c o : Nat) (x : List Byte) : (d.causeArg s c o x).seqr = d.seqr := by unfold causeArg; split; (split <;> rfl); rfl
@[simp] theorem causeArg_path (s c o : Nat) (x : List Byte) : (d.causeArg s c o x).path = d.path := by unfold causeArg; split; (split <;> rfl); rfl
@[simp] theorem causeArg_chg (s c o : Nat) (x : List Byte) : (d.causeArg s c o x).chg = d.chg := by unfold causeArg; split; (split <;> rfl); rfl
@[simp] theorem causeArg_boost (s c o : Nat) (x : List Byte) : (d.causeArg s c o x).boost = d.boost := by unfold causeArg; split; (split <;> rfl); rfl
@[simp] theorem causeArg_die (s c o : Nat) (x : List Byte) : (d.causeArg s c o x).die = d.die := by unfold causeArg; split; (split <;> rfl); rfl
@[simp] theorem causeArg_btn (s c o : Nat) (x : List Byte) : (d.causeArg s c o x).btn = d.btn := by unfold causeArg; split; (split <;> rfl); rfl
@[simp] theorem causeArg_store (s c o : Nat) (x : List Byte) : (d.causeArg s c o x).store = d.store := by unfold causeArg; split; (split <;> rfl); rfl
@[simp] theorem causeArg_fw (s c o : Nat) (x : List Byte) : (d.causeArg s c o x).fw = d.fw := by unfold causeArg; split; (split <;> rfl); rfl
@[simp] theorem causeArg_nvm (s c o : Nat) (x : List Byte) : (d.causeArg s c o x).nvm = d.nvm := by unfold causeArg; split; (split <;> rfl); rfl
@[simp] theorem causeArg_board (s c o : Nat) (x : List Byte) : (d.causeArg s c o x).board = d.board := by unfold causeArg; split; (split <;> rfl); rfl
@[simp] theorem causeArg_lateResp (s c o : Nat) (x : List Byte) : (d.causeArg s c o x).lateResp = d.lateResp := by unfold causeArg; split; (split <;> rfl); rfl

@[simp] theorem cause_eff (s c : Nat) : (d.cause s c).eff = d.eff := causeArg_eff ..
@[simp] theorem cause_pendT (s c : Nat) : (d.cause s c).pendT = d.pendT := causeArg_pendT ..
@[simp] theorem cause_pendS (s c : Nat) : (d.cause s c).pendS = d.pendS := causeArg_pendS ..
@[simp] theorem cause_free (s c : Nat) : (d.cause s c).free = d.free := causeArg_free ..
@[simp] theorem cause_answer (s c : Nat) : (d.cause s c).answer = d.answer := causeArg_answer ..
@[simp] theorem cause_osnNext (s c : Nat) : (d.cause s c).osnNext = d.osnNext := causeArg_osnNext ..
@[simp] theorem cause_ops (s c : Nat) : (d.cause s c).ops = d.ops := causeArg_ops ..
@[simp] theorem cause_boot (s c : Nat) : (d.cause s c).boot = d.boot := causeArg_boot ..
@[simp] theorem cause_power (s c : Nat) : (d.cause s c).power = d.power := causeArg_power ..
@[simp] theorem cause_supAbsent (s c : Nat) : (d.cause s c).supAbsent = d.supAbsent := causeArg_supAbsent ..
@[simp] theorem cause_supHalted (s c : Nat) : (d.cause s c).supHalted = d.supHalted := causeArg_supHalted ..
@[simp] theorem cause_softDue (s c : Nat) : (d.cause s c).softDue = d.softDue := causeArg_softDue ..
@[simp] theorem cause_clk (s c : Nat) : (d.cause s c).clk = d.clk := causeArg_clk ..
@[simp] theorem cause_hk (s c : Nat) : (d.cause s c).hk = d.hk := causeArg_hk ..
@[simp] theorem cause_cap (s c : Nat) : (d.cause s c).cap = d.cap := causeArg_cap ..
@[simp] theorem cause_eng (s c : Nat) : (d.cause s c).eng = d.eng := causeArg_eng ..
@[simp] theorem cause_sample (s c : Nat) : (d.cause s c).sample = d.sample := causeArg_sample ..
@[simp] theorem cause_drive (s c : Nat) : (d.cause s c).drive = d.drive := causeArg_drive ..
@[simp] theorem cause_tms (s c : Nat) : (d.cause s c).tms = d.tms := causeArg_tms ..
@[simp] theorem cause_pmb (s c : Nat) : (d.cause s c).pmb = d.pmb := causeArg_pmb ..
@[simp] theorem cause_svc (s c : Nat) : (d.cause s c).svc = d.svc := causeArg_svc ..
@[simp] theorem cause_pages (s c : Nat) : (d.cause s c).pages = d.pages := causeArg_pages ..
@[simp] theorem cause_alert (s c : Nat) : (d.cause s c).alert = d.alert := causeArg_alert ..
@[simp] theorem cause_pmbCtrl (s c : Nat) : (d.cause s c).pmbCtrl = d.pmbCtrl := causeArg_pmbCtrl ..
@[simp] theorem cause_lbCtrl (s c : Nat) : (d.cause s c).lbCtrl = d.lbCtrl := causeArg_lbCtrl ..
@[simp] theorem cause_lbWait (s c : Nat) : (d.cause s c).lbWait = d.lbWait := causeArg_lbWait ..
@[simp] theorem cause_canA (s c : Nat) : (d.cause s c).canA = d.canA := causeArg_canA ..
@[simp] theorem cause_canB (s c : Nat) : (d.cause s c).canB = d.canB := causeArg_canB ..
@[simp] theorem cause_node (s c : Nat) : (d.cause s c).node = d.node := causeArg_node ..
@[simp] theorem cause_log (s c : Nat) : (d.cause s c).log = d.log := causeArg_log ..
@[simp] theorem cause_acc (s c : Nat) : (d.cause s c).acc = d.acc := causeArg_acc ..
@[simp] theorem cause_phases (s c : Nat) : (d.cause s c).phases = d.phases := causeArg_phases ..
@[simp] theorem cause_rails (s c : Nat) : (d.cause s c).rails = d.rails := causeArg_rails ..
@[simp] theorem cause_sgs (s c : Nat) : (d.cause s c).sgs = d.sgs := causeArg_sgs ..
@[simp] theorem cause_lil (s c : Nat) : (d.cause s c).lil = d.lil := causeArg_lil ..
@[simp] theorem cause_load (s c : Nat) : (d.cause s c).load = d.load := causeArg_load ..
@[simp] theorem cause_bucks (s c : Nat) : (d.cause s c).bucks = d.bucks := causeArg_bucks ..
@[simp] theorem cause_ldos (s c : Nat) : (d.cause s c).ldos = d.ldos := causeArg_ldos ..
@[simp] theorem cause_wms (s c : Nat) : (d.cause s c).wms = d.wms := causeArg_wms ..
@[simp] theorem cause_pol (s c : Nat) : (d.cause s c).pol = d.pol := causeArg_pol ..
@[simp] theorem cause_polWait (s c : Nat) : (d.cause s c).polWait = d.polWait := causeArg_polWait ..
@[simp] theorem cause_polPost (s c : Nat) : (d.cause s c).polPost = d.polPost := causeArg_polPost ..
@[simp] theorem cause_seqr (s c : Nat) : (d.cause s c).seqr = d.seqr := causeArg_seqr ..
@[simp] theorem cause_path (s c : Nat) : (d.cause s c).path = d.path := causeArg_path ..
@[simp] theorem cause_chg (s c : Nat) : (d.cause s c).chg = d.chg := causeArg_chg ..
@[simp] theorem cause_boost (s c : Nat) : (d.cause s c).boost = d.boost := causeArg_boost ..
@[simp] theorem cause_die (s c : Nat) : (d.cause s c).die = d.die := causeArg_die ..
@[simp] theorem cause_btn (s c : Nat) : (d.cause s c).btn = d.btn := causeArg_btn ..
@[simp] theorem cause_store (s c : Nat) : (d.cause s c).store = d.store := causeArg_store ..
@[simp] theorem cause_fw (s c : Nat) : (d.cause s c).fw = d.fw := causeArg_fw ..
@[simp] theorem cause_nvm (s c : Nat) : (d.cause s c).nvm = d.nvm := causeArg_nvm ..
@[simp] theorem cause_board (s c : Nat) : (d.cause s c).board = d.board := causeArg_board ..
@[simp] theorem cause_lateResp (s c : Nat) : (d.cause s c).lateResp = d.lateResp := causeArg_lateResp ..

@[simp] theorem causeOsn_eff (s c o : Nat) : (d.causeOsn s c o).eff = d.eff := causeArg_eff ..
@[simp] theorem causeOsn_pendT (s c o : Nat) : (d.causeOsn s c o).pendT = d.pendT := causeArg_pendT ..
@[simp] theorem causeOsn_pendS (s c o : Nat) : (d.causeOsn s c o).pendS = d.pendS := causeArg_pendS ..
@[simp] theorem causeOsn_free (s c o : Nat) : (d.causeOsn s c o).free = d.free := causeArg_free ..
@[simp] theorem causeOsn_answer (s c o : Nat) : (d.causeOsn s c o).answer = d.answer := causeArg_answer ..
@[simp] theorem causeOsn_osnNext (s c o : Nat) : (d.causeOsn s c o).osnNext = d.osnNext := causeArg_osnNext ..
@[simp] theorem causeOsn_ops (s c o : Nat) : (d.causeOsn s c o).ops = d.ops := causeArg_ops ..
@[simp] theorem causeOsn_boot (s c o : Nat) : (d.causeOsn s c o).boot = d.boot := causeArg_boot ..
@[simp] theorem causeOsn_power (s c o : Nat) : (d.causeOsn s c o).power = d.power := causeArg_power ..
@[simp] theorem causeOsn_supAbsent (s c o : Nat) : (d.causeOsn s c o).supAbsent = d.supAbsent := causeArg_supAbsent ..
@[simp] theorem causeOsn_supHalted (s c o : Nat) : (d.causeOsn s c o).supHalted = d.supHalted := causeArg_supHalted ..
@[simp] theorem causeOsn_softDue (s c o : Nat) : (d.causeOsn s c o).softDue = d.softDue := causeArg_softDue ..
@[simp] theorem causeOsn_clk (s c o : Nat) : (d.causeOsn s c o).clk = d.clk := causeArg_clk ..
@[simp] theorem causeOsn_hk (s c o : Nat) : (d.causeOsn s c o).hk = d.hk := causeArg_hk ..
@[simp] theorem causeOsn_cap (s c o : Nat) : (d.causeOsn s c o).cap = d.cap := causeArg_cap ..
@[simp] theorem causeOsn_eng (s c o : Nat) : (d.causeOsn s c o).eng = d.eng := causeArg_eng ..
@[simp] theorem causeOsn_sample (s c o : Nat) : (d.causeOsn s c o).sample = d.sample := causeArg_sample ..
@[simp] theorem causeOsn_drive (s c o : Nat) : (d.causeOsn s c o).drive = d.drive := causeArg_drive ..
@[simp] theorem causeOsn_tms (s c o : Nat) : (d.causeOsn s c o).tms = d.tms := causeArg_tms ..
@[simp] theorem causeOsn_pmb (s c o : Nat) : (d.causeOsn s c o).pmb = d.pmb := causeArg_pmb ..
@[simp] theorem causeOsn_svc (s c o : Nat) : (d.causeOsn s c o).svc = d.svc := causeArg_svc ..
@[simp] theorem causeOsn_pages (s c o : Nat) : (d.causeOsn s c o).pages = d.pages := causeArg_pages ..
@[simp] theorem causeOsn_alert (s c o : Nat) : (d.causeOsn s c o).alert = d.alert := causeArg_alert ..
@[simp] theorem causeOsn_pmbCtrl (s c o : Nat) : (d.causeOsn s c o).pmbCtrl = d.pmbCtrl := causeArg_pmbCtrl ..
@[simp] theorem causeOsn_lbCtrl (s c o : Nat) : (d.causeOsn s c o).lbCtrl = d.lbCtrl := causeArg_lbCtrl ..
@[simp] theorem causeOsn_lbWait (s c o : Nat) : (d.causeOsn s c o).lbWait = d.lbWait := causeArg_lbWait ..
@[simp] theorem causeOsn_canA (s c o : Nat) : (d.causeOsn s c o).canA = d.canA := causeArg_canA ..
@[simp] theorem causeOsn_canB (s c o : Nat) : (d.causeOsn s c o).canB = d.canB := causeArg_canB ..
@[simp] theorem causeOsn_node (s c o : Nat) : (d.causeOsn s c o).node = d.node := causeArg_node ..
@[simp] theorem causeOsn_log (s c o : Nat) : (d.causeOsn s c o).log = d.log := causeArg_log ..
@[simp] theorem causeOsn_acc (s c o : Nat) : (d.causeOsn s c o).acc = d.acc := causeArg_acc ..
@[simp] theorem causeOsn_phases (s c o : Nat) : (d.causeOsn s c o).phases = d.phases := causeArg_phases ..
@[simp] theorem causeOsn_rails (s c o : Nat) : (d.causeOsn s c o).rails = d.rails := causeArg_rails ..
@[simp] theorem causeOsn_sgs (s c o : Nat) : (d.causeOsn s c o).sgs = d.sgs := causeArg_sgs ..
@[simp] theorem causeOsn_lil (s c o : Nat) : (d.causeOsn s c o).lil = d.lil := causeArg_lil ..
@[simp] theorem causeOsn_load (s c o : Nat) : (d.causeOsn s c o).load = d.load := causeArg_load ..
@[simp] theorem causeOsn_bucks (s c o : Nat) : (d.causeOsn s c o).bucks = d.bucks := causeArg_bucks ..
@[simp] theorem causeOsn_ldos (s c o : Nat) : (d.causeOsn s c o).ldos = d.ldos := causeArg_ldos ..
@[simp] theorem causeOsn_wms (s c o : Nat) : (d.causeOsn s c o).wms = d.wms := causeArg_wms ..
@[simp] theorem causeOsn_pol (s c o : Nat) : (d.causeOsn s c o).pol = d.pol := causeArg_pol ..
@[simp] theorem causeOsn_polWait (s c o : Nat) : (d.causeOsn s c o).polWait = d.polWait := causeArg_polWait ..
@[simp] theorem causeOsn_polPost (s c o : Nat) : (d.causeOsn s c o).polPost = d.polPost := causeArg_polPost ..
@[simp] theorem causeOsn_seqr (s c o : Nat) : (d.causeOsn s c o).seqr = d.seqr := causeArg_seqr ..
@[simp] theorem causeOsn_path (s c o : Nat) : (d.causeOsn s c o).path = d.path := causeArg_path ..
@[simp] theorem causeOsn_chg (s c o : Nat) : (d.causeOsn s c o).chg = d.chg := causeArg_chg ..
@[simp] theorem causeOsn_boost (s c o : Nat) : (d.causeOsn s c o).boost = d.boost := causeArg_boost ..
@[simp] theorem causeOsn_die (s c o : Nat) : (d.causeOsn s c o).die = d.die := causeArg_die ..
@[simp] theorem causeOsn_btn (s c o : Nat) : (d.causeOsn s c o).btn = d.btn := causeArg_btn ..
@[simp] theorem causeOsn_store (s c o : Nat) : (d.causeOsn s c o).store = d.store := causeArg_store ..
@[simp] theorem causeOsn_fw (s c o : Nat) : (d.causeOsn s c o).fw = d.fw := causeArg_fw ..
@[simp] theorem causeOsn_nvm (s c o : Nat) : (d.causeOsn s c o).nvm = d.nvm := causeArg_nvm ..
@[simp] theorem causeOsn_board (s c o : Nat) : (d.causeOsn s c o).board = d.board := causeArg_board ..
@[simp] theorem causeOsn_lateResp (s c o : Nat) : (d.causeOsn s c o).lateResp = d.lateResp := causeArg_lateResp ..

@[simp] theorem causeIf_eff (b : Bool) (s c : Nat) : (d.causeIf b s c).eff = d.eff := by unfold causeIf; split <;> simp
@[simp] theorem causeIf_pendT (b : Bool) (s c : Nat) : (d.causeIf b s c).pendT = d.pendT := by unfold causeIf; split <;> simp
@[simp] theorem causeIf_pendS (b : Bool) (s c : Nat) : (d.causeIf b s c).pendS = d.pendS := by unfold causeIf; split <;> simp
@[simp] theorem causeIf_free (b : Bool) (s c : Nat) : (d.causeIf b s c).free = d.free := by unfold causeIf; split <;> simp
@[simp] theorem causeIf_answer (b : Bool) (s c : Nat) : (d.causeIf b s c).answer = d.answer := by unfold causeIf; split <;> simp
@[simp] theorem causeIf_osnNext (b : Bool) (s c : Nat) : (d.causeIf b s c).osnNext = d.osnNext := by unfold causeIf; split <;> simp
@[simp] theorem causeIf_ops (b : Bool) (s c : Nat) : (d.causeIf b s c).ops = d.ops := by unfold causeIf; split <;> simp
@[simp] theorem causeIf_boot (b : Bool) (s c : Nat) : (d.causeIf b s c).boot = d.boot := by unfold causeIf; split <;> simp
@[simp] theorem causeIf_power (b : Bool) (s c : Nat) : (d.causeIf b s c).power = d.power := by unfold causeIf; split <;> simp
@[simp] theorem causeIf_supAbsent (b : Bool) (s c : Nat) : (d.causeIf b s c).supAbsent = d.supAbsent := by unfold causeIf; split <;> simp
@[simp] theorem causeIf_supHalted (b : Bool) (s c : Nat) : (d.causeIf b s c).supHalted = d.supHalted := by unfold causeIf; split <;> simp
@[simp] theorem causeIf_softDue (b : Bool) (s c : Nat) : (d.causeIf b s c).softDue = d.softDue := by unfold causeIf; split <;> simp
@[simp] theorem causeIf_clk (b : Bool) (s c : Nat) : (d.causeIf b s c).clk = d.clk := by unfold causeIf; split <;> simp
@[simp] theorem causeIf_hk (b : Bool) (s c : Nat) : (d.causeIf b s c).hk = d.hk := by unfold causeIf; split <;> simp
@[simp] theorem causeIf_cap (b : Bool) (s c : Nat) : (d.causeIf b s c).cap = d.cap := by unfold causeIf; split <;> simp
@[simp] theorem causeIf_eng (b : Bool) (s c : Nat) : (d.causeIf b s c).eng = d.eng := by unfold causeIf; split <;> simp
@[simp] theorem causeIf_sample (b : Bool) (s c : Nat) : (d.causeIf b s c).sample = d.sample := by unfold causeIf; split <;> simp
@[simp] theorem causeIf_drive (b : Bool) (s c : Nat) : (d.causeIf b s c).drive = d.drive := by unfold causeIf; split <;> simp
@[simp] theorem causeIf_tms (b : Bool) (s c : Nat) : (d.causeIf b s c).tms = d.tms := by unfold causeIf; split <;> simp
@[simp] theorem causeIf_pmb (b : Bool) (s c : Nat) : (d.causeIf b s c).pmb = d.pmb := by unfold causeIf; split <;> simp
@[simp] theorem causeIf_svc (b : Bool) (s c : Nat) : (d.causeIf b s c).svc = d.svc := by unfold causeIf; split <;> simp
@[simp] theorem causeIf_pages (b : Bool) (s c : Nat) : (d.causeIf b s c).pages = d.pages := by unfold causeIf; split <;> simp
@[simp] theorem causeIf_alert (b : Bool) (s c : Nat) : (d.causeIf b s c).alert = d.alert := by unfold causeIf; split <;> simp
@[simp] theorem causeIf_pmbCtrl (b : Bool) (s c : Nat) : (d.causeIf b s c).pmbCtrl = d.pmbCtrl := by unfold causeIf; split <;> simp
@[simp] theorem causeIf_lbCtrl (b : Bool) (s c : Nat) : (d.causeIf b s c).lbCtrl = d.lbCtrl := by unfold causeIf; split <;> simp
@[simp] theorem causeIf_lbWait (b : Bool) (s c : Nat) : (d.causeIf b s c).lbWait = d.lbWait := by unfold causeIf; split <;> simp
@[simp] theorem causeIf_canA (b : Bool) (s c : Nat) : (d.causeIf b s c).canA = d.canA := by unfold causeIf; split <;> simp
@[simp] theorem causeIf_canB (b : Bool) (s c : Nat) : (d.causeIf b s c).canB = d.canB := by unfold causeIf; split <;> simp
@[simp] theorem causeIf_node (b : Bool) (s c : Nat) : (d.causeIf b s c).node = d.node := by unfold causeIf; split <;> simp
@[simp] theorem causeIf_log (b : Bool) (s c : Nat) : (d.causeIf b s c).log = d.log := by unfold causeIf; split <;> simp
@[simp] theorem causeIf_acc (b : Bool) (s c : Nat) : (d.causeIf b s c).acc = d.acc := by unfold causeIf; split <;> simp
@[simp] theorem causeIf_phases (b : Bool) (s c : Nat) : (d.causeIf b s c).phases = d.phases := by unfold causeIf; split <;> simp
@[simp] theorem causeIf_rails (b : Bool) (s c : Nat) : (d.causeIf b s c).rails = d.rails := by unfold causeIf; split <;> simp
@[simp] theorem causeIf_sgs (b : Bool) (s c : Nat) : (d.causeIf b s c).sgs = d.sgs := by unfold causeIf; split <;> simp
@[simp] theorem causeIf_lil (b : Bool) (s c : Nat) : (d.causeIf b s c).lil = d.lil := by unfold causeIf; split <;> simp
@[simp] theorem causeIf_load (b : Bool) (s c : Nat) : (d.causeIf b s c).load = d.load := by unfold causeIf; split <;> simp
@[simp] theorem causeIf_bucks (b : Bool) (s c : Nat) : (d.causeIf b s c).bucks = d.bucks := by unfold causeIf; split <;> simp
@[simp] theorem causeIf_ldos (b : Bool) (s c : Nat) : (d.causeIf b s c).ldos = d.ldos := by unfold causeIf; split <;> simp
@[simp] theorem causeIf_wms (b : Bool) (s c : Nat) : (d.causeIf b s c).wms = d.wms := by unfold causeIf; split <;> simp
@[simp] theorem causeIf_pol (b : Bool) (s c : Nat) : (d.causeIf b s c).pol = d.pol := by unfold causeIf; split <;> simp
@[simp] theorem causeIf_polWait (b : Bool) (s c : Nat) : (d.causeIf b s c).polWait = d.polWait := by unfold causeIf; split <;> simp
@[simp] theorem causeIf_polPost (b : Bool) (s c : Nat) : (d.causeIf b s c).polPost = d.polPost := by unfold causeIf; split <;> simp
@[simp] theorem causeIf_seqr (b : Bool) (s c : Nat) : (d.causeIf b s c).seqr = d.seqr := by unfold causeIf; split <;> simp
@[simp] theorem causeIf_path (b : Bool) (s c : Nat) : (d.causeIf b s c).path = d.path := by unfold causeIf; split <;> simp
@[simp] theorem causeIf_chg (b : Bool) (s c : Nat) : (d.causeIf b s c).chg = d.chg := by unfold causeIf; split <;> simp
@[simp] theorem causeIf_boost (b : Bool) (s c : Nat) : (d.causeIf b s c).boost = d.boost := by unfold causeIf; split <;> simp
@[simp] theorem causeIf_die (b : Bool) (s c : Nat) : (d.causeIf b s c).die = d.die := by unfold causeIf; split <;> simp
@[simp] theorem causeIf_btn (b : Bool) (s c : Nat) : (d.causeIf b s c).btn = d.btn := by unfold causeIf; split <;> simp
@[simp] theorem causeIf_store (b : Bool) (s c : Nat) : (d.causeIf b s c).store = d.store := by unfold causeIf; split <;> simp
@[simp] theorem causeIf_fw (b : Bool) (s c : Nat) : (d.causeIf b s c).fw = d.fw := by unfold causeIf; split <;> simp
@[simp] theorem causeIf_nvm (b : Bool) (s c : Nat) : (d.causeIf b s c).nvm = d.nvm := by unfold causeIf; split <;> simp
@[simp] theorem causeIf_board (b : Bool) (s c : Nat) : (d.causeIf b s c).board = d.board := by unfold causeIf; split <;> simp
@[simp] theorem causeIf_lateResp (b : Bool) (s c : Nat) : (d.causeIf b s c).lateResp = d.lateResp := by unfold causeIf; split <;> simp

/-! Reads of objects, flags and bits after an update that leaves the dictionary alone. -/

@[simp] theorem obj_answering (a : Answer) (k : Nat) : (d.answering a).obj k = d.obj k := rfl
@[simp] theorem num_answering (a : Answer) (k : Nat) : (d.answering a).num k = d.num k := rfl
@[simp] theorem bit_answering (a : Answer) (k m : Nat) : (d.answering a).bit k m = d.bit k m := rfl
@[simp] theorem obj_modPh (i : Nat) (f : Phase → Phase) (k : Nat) : (d.modPh i f).obj k = d.obj k := rfl
@[simp] theorem num_modPh (i : Nat) (f : Phase → Phase) (k : Nat) : (d.modPh i f).num k = d.num k := rfl
@[simp] theorem bit_modPh (i : Nat) (f : Phase → Phase) (k m : Nat) : (d.modPh i f).bit k m = d.bit k m := rfl
@[simp] theorem obj_modRl (i : Nat) (f : Rail → Rail) (k : Nat) : (d.modRl i f).obj k = d.obj k := rfl
@[simp] theorem num_modRl (i : Nat) (f : Rail → Rail) (k : Nat) : (d.modRl i f).num k = d.num k := rfl
@[simp] theorem bit_modRl (i : Nat) (f : Rail → Rail) (k m : Nat) : (d.modRl i f).bit k m = d.bit k m := rfl
@[simp] theorem obj_modBk (i : Nat) (f : Buck → Buck) (k : Nat) : (d.modBk i f).obj k = d.obj k := rfl
@[simp] theorem num_modBk (i : Nat) (f : Buck → Buck) (k : Nat) : (d.modBk i f).num k = d.num k := rfl
@[simp] theorem bit_modBk (i : Nat) (f : Buck → Buck) (k m : Nat) : (d.modBk i f).bit k m = d.bit k m := rfl
@[simp] theorem obj_modLd (i : Nat) (f : Ldo → Ldo) (k : Nat) : (d.modLd i f).obj k = d.obj k := rfl
@[simp] theorem num_modLd (i : Nat) (f : Ldo → Ldo) (k : Nat) : (d.modLd i f).num k = d.num k := rfl
@[simp] theorem bit_modLd (i : Nat) (f : Ldo → Ldo) (k m : Nat) : (d.modLd i f).bit k m = d.bit k m := rfl
@[simp] theorem obj_modSg (i : Nat) (f : SgLine → SgLine) (k : Nat) : (d.modSg i f).obj k = d.obj k := rfl
@[simp] theorem num_modSg (i : Nat) (f : SgLine → SgLine) (k : Nat) : (d.modSg i f).num k = d.num k := rfl
@[simp] theorem bit_modSg (i : Nat) (f : SgLine → SgLine) (k m : Nat) : (d.modSg i f).bit k m = d.bit k m := rfl
@[simp] theorem obj_modWm (i : Nat) (f : Wm → Wm) (k : Nat) : (d.modWm i f).obj k = d.obj k := rfl
@[simp] theorem num_modWm (i : Nat) (f : Wm → Wm) (k : Nat) : (d.modWm i f).num k = d.num k := rfl
@[simp] theorem bit_modWm (i : Nat) (f : Wm → Wm) (k m : Nat) : (d.modWm i f).bit k m = d.bit k m := rfl
@[simp] theorem obj_modTm (i : Nat) (f : Tm → Tm) (k : Nat) : (d.modTm i f).obj k = d.obj k := rfl
@[simp] theorem num_modTm (i : Nat) (f : Tm → Tm) (k : Nat) : (d.modTm i f).num k = d.num k := rfl
@[simp] theorem bit_modTm (i : Nat) (f : Tm → Tm) (k m : Nat) : (d.modTm i f).bit k m = d.bit k m := rfl
@[simp] theorem obj_modEng (i : Nat) (f : Engine → Engine) (k : Nat) : (d.modEng i f).obj k = d.obj k := rfl
@[simp] theorem num_modEng (i : Nat) (f : Engine → Engine) (k : Nat) : (d.modEng i f).num k = d.num k := rfl
@[simp] theorem bit_modEng (i : Nat) (f : Engine → Engine) (k m : Nat) : (d.modEng i f).bit k m = d.bit k m := rfl
@[simp] theorem obj_setDrive (w : Nat) (v : Int) (k : Nat) : (d.setDrive w v).obj k = d.obj k := rfl
@[simp] theorem num_setDrive (w : Nat) (v : Int) (k : Nat) : (d.setDrive w v).num k = d.num k := rfl
@[simp] theorem bit_setDrive (w : Nat) (v : Int) (k m : Nat) : (d.setDrive w v).bit k m = d.bit k m := rfl
@[simp] theorem obj_faultRequest (g : Nat) (k : Nat) : (d.faultRequest g).obj k = d.obj k := rfl
@[simp] theorem num_faultRequest (g : Nat) (k : Nat) : (d.faultRequest g).num k = d.num k := rfl
@[simp] theorem bit_faultRequest (g : Nat) (k m : Nat) : (d.faultRequest g).bit k m = d.bit k m := rfl
@[simp] theorem obj_heard (k : Nat) : (d.heard).obj k = d.obj k := rfl
@[simp] theorem num_heard (k : Nat) : (d.heard).num k = d.num k := rfl
@[simp] theorem bit_heard (k m : Nat) : (d.heard).bit k m = d.bit k m := rfl

/-! Two changes of a unit that agree on what the unit is are one change; what a changed unit reads as. -/

theorem vmod_congr {α : Type} [Inhabited α] {n : Nat} (v : Vector α n) (i : Nat) (f g : α → α) (h : f (vget v i) = g (vget v i)) : vmod v i f = vmod v i g := by
  unfold vmod
  split
  · next hi => unfold vget at h; rw [dif_pos hi] at h; rw [h]
  · rfl

theorem modPh_congr (i : Nat) {f g : Phase → Phase} (h : f (d.ph i) = g (d.ph i)) : d.modPh i f = d.modPh i g := by
  unfold modPh; rw [vmod_congr d.phases i f g h]
@[simp] theorem ph_modPh_self {i : Nat} (f : Phase → Phase) (h : i < 32) : (d.modPh i f).ph i = f (d.ph i) := vget_vmod_self _ i f h
theorem ph_modPh_other {i j : Nat} (f : Phase → Phase) (h : j ≠ i) : (d.modPh i f).ph j = d.ph j := vget_vmod_other _ f h
theorem modRl_congr (i : Nat) {f g : Rail → Rail} (h : f (d.rl i) = g (d.rl i)) : d.modRl i f = d.modRl i g := by
  unfold modRl; rw [vmod_congr d.rails i f g h]
@[simp] theorem rl_modRl_self {i : Nat} (f : Rail → Rail) (h : i < 8) : (d.modRl i f).rl i = f (d.rl i) := vget_vmod_self _ i f h
theorem rl_modRl_other {i j : Nat} (f : Rail → Rail) (h : j ≠ i) : (d.modRl i f).rl j = d.rl j := vget_vmod_other _ f h
theorem modBk_congr (i : Nat) {f g : Buck → Buck} (h : f (d.bk i) = g (d.bk i)) : d.modBk i f = d.modBk i g := by
  unfold modBk; rw [vmod_congr d.bucks i f g h]
@[simp] theorem bk_modBk_self {i : Nat} (f : Buck → Buck) (h : i < 6) : (d.modBk i f).bk i = f (d.bk i) := vget_vmod_self _ i f h
theorem bk_modBk_other {i j : Nat} (f : Buck → Buck) (h : j ≠ i) : (d.modBk i f).bk j = d.bk j := vget_vmod_other _ f h
theorem modLd_congr (i : Nat) {f g : Ldo → Ldo} (h : f (d.ld i) = g (d.ld i)) : d.modLd i f = d.modLd i g := by
  unfold modLd; rw [vmod_congr d.ldos i f g h]
@[simp] theorem ld_modLd_self {i : Nat} (f : Ldo → Ldo) (h : i < 4) : (d.modLd i f).ld i = f (d.ld i) := vget_vmod_self _ i f h
theorem ld_modLd_other {i j : Nat} (f : Ldo → Ldo) (h : j ≠ i) : (d.modLd i f).ld j = d.ld j := vget_vmod_other _ f h
theorem modSg_congr (i : Nat) {f g : SgLine → SgLine} (h : f (d.sg i) = g (d.sg i)) : d.modSg i f = d.modSg i g := by
  unfold modSg; rw [vmod_congr d.sgs i f g h]
@[simp] theorem sg_modSg_self {i : Nat} (f : SgLine → SgLine) (h : i < 8) : (d.modSg i f).sg i = f (d.sg i) := vget_vmod_self _ i f h
theorem sg_modSg_other {i j : Nat} (f : SgLine → SgLine) (h : j ≠ i) : (d.modSg i f).sg j = d.sg j := vget_vmod_other _ f h
theorem modWm_congr (i : Nat) {f g : Wm → Wm} (h : f (d.wm i) = g (d.wm i)) : d.modWm i f = d.modWm i g := by
  unfold modWm; rw [vmod_congr d.wms i f g h]
@[simp] theorem wm_modWm_self {i : Nat} (f : Wm → Wm) (h : i < 24) : (d.modWm i f).wm i = f (d.wm i) := vget_vmod_self _ i f h
theorem wm_modWm_other {i j : Nat} (f : Wm → Wm) (h : j ≠ i) : (d.modWm i f).wm j = d.wm j := vget_vmod_other _ f h
theorem modTm_congr (i : Nat) {f g : Tm → Tm} (h : f (d.tm i) = g (d.tm i)) : d.modTm i f = d.modTm i g := by
  unfold modTm; rw [vmod_congr d.tms i f g h]
@[simp] theorem tm_modTm_self {i : Nat} (f : Tm → Tm) (h : i < 16) : (d.modTm i f).tm i = f (d.tm i) := vget_vmod_self _ i f h
theorem tm_modTm_other {i j : Nat} (f : Tm → Tm) (h : j ≠ i) : (d.modTm i f).tm j = d.tm j := vget_vmod_other _ f h
theorem modEng_congr (i : Nat) {f g : Engine → Engine} (h : f (d.engine i) = g (d.engine i)) : d.modEng i f = d.modEng i g := by
  unfold modEng; rw [vmod_congr d.eng i f g h]
@[simp] theorem engine_modEng_self {i : Nat} (f : Engine → Engine) (h : i < 16) : (d.modEng i f).engine i = f (d.engine i) := vget_vmod_self _ i f h
theorem engine_modEng_other {i j : Nat} (f : Engine → Engine) (h : j ≠ i) : (d.modEng i f).engine j = d.engine j := vget_vmod_other _ f h

/-! The object dictionary. -/

@[simp] theorem obj_setObj_self (k : Nat) (v : Val) : (d.setObj k v).obj k = v := Assoc.get_set_self ..

theorem obj_setObj_other {k j : Nat} (v : Val) (h : j ≠ k) : (d.setObj k v).obj j = d.obj j := Assoc.get_set_other _ _ _ h

theorem obj_setObj (k j : Nat) (v : Val) : (d.setObj k v).obj j = if j = k then v else d.obj j := Assoc.get_set ..

@[simp] theorem num_setNum_self (k : Nat) (v : Int) : (d.setNum k v).num k = v := by simp [num, setNum, Val.int]

theorem num_setNum_other {k j : Nat} (v : Int) (h : j ≠ k) : (d.setNum k v).num j = d.num j := by
  simp [num, setNum, obj_setObj_other d _ h]

theorem num_setNum (k j : Nat) (v : Int) : (d.setNum k v).num j = if j = k then v else d.num j := by
  by_cases h : j = k
  · subst h; simp
  · simp [h, num_setNum_other d v h]

@[simp] theorem num_modNum_self (k : Nat) (f : Int → Int) : (d.modNum k f).num k = f (d.num k) := num_setNum_self ..

theorem num_modNum_other {k j : Nat} (f : Int → Int) (h : j ≠ k) : (d.modNum k f).num j = d.num j := num_setNum_other _ _ h

@[simp] theorem num_bump_self (k n : Nat) : (d.bump k n).num k = satU n (d.num k + 1) := num_modNum_self ..

theorem num_bump_other {k j : Nat} (n : Nat) (h : j ≠ k) : (d.bump k n).num j = d.num j := num_modNum_other _ _ h

@[simp] theorem num_putBit_self (k i : Nat) (b : Bool) : (d.putBit k i b).num k = Machine.putBit (d.num k) i b := num_modNum_self ..

theorem num_putBit_other {k j : Nat} (i : Nat) (b : Bool) (h : j ≠ k) : (d.putBit k i b).num j = d.num j := num_modNum_other _ _ h

theorem obj_setNum_other {k j : Nat} (v : Int) (h : j ≠ k) : (d.setNum k v).obj j = d.obj j := obj_setObj_other _ _ h
theorem obj_modNum_other {k j : Nat} (f : Int → Int) (h : j ≠ k) : (d.modNum k f).obj j = d.obj j := obj_setObj_other _ _ h
theorem obj_bump_other {k j : Nat} (n : Nat) (h : j ≠ k) : (d.bump k n).obj j = d.obj j := obj_setObj_other _ _ h
theorem obj_putBit_other {k j : Nat} (i : Nat) (b : Bool) (h : j ≠ k) : (d.putBit k i b).obj j = d.obj j := obj_setObj_other _ _ h

/-- The object dictionary decides what an object reads as. -/
theorem obj_congr {e : Dev} (h : e.objs = d.objs) (k : Nat) : e.obj k = d.obj k := by unfold obj; rw [h]

/-! The back-off (R462). -/

@[simp] theorem backoffSet_wait (n : Nat) : (d.backoffSet n).acc.wait = n := rfl

@[simp] theorem backoffSet_shown (n : Nat) :
    (d.backoffSet n).num K.AUTH_BACKOFF = ((n + (backoffSecond - 1)) / backoffSecond : Nat) := num_setNum_self ..

theorem backoffSet_num (n : Nat) {k : Nat} (h : k ≠ K.AUTH_BACKOFF) : (d.backoffSet n).num k = d.num k := num_setNum_other _ _ h

/-! Bits of status words. -/

@[simp] theorem bitAt_putBit_self (w : Int) (i : Nat) (b : Bool) : bitAt (Machine.putBit w i b) i = b := by
  unfold bitAt Machine.putBit
  cases b <;> simp only [Int.ofNat_eq_natCast, Int.toNat_natCast, if_true, Bool.false_eq_true, if_false]
  · split
    · next h =>
      have hs : ∀ n, (n - 2 ^ i) / 2 ^ i = n / 2 ^ i - 1 := fun n => by simpa using Nat.sub_mul_div n (2 ^ i) 1
      simp only [Nat.testBit_eq_decide_div_mod_eq, decide_eq_true_eq] at h
      simp only [Nat.testBit_eq_decide_div_mod_eq, decide_eq_false_iff_not, hs]
      omega
    · next h => simpa using h
  · simp [Nat.testBit_or, Nat.testBit_shiftLeft]

theorem testBit_sub_two_pow : ∀ (i n j : Nat), n.testBit i = true → j ≠ i → (n - 2 ^ i).testBit j = n.testBit j
  | 0, n, 0, _, h => absurd rfl h
  | 0, n, j + 1, h, _ => by
    simp only [Nat.testBit_zero, decide_eq_true_eq] at h
    have : (n - 2 ^ 0) / 2 = n / 2 := by omega
    rw [Nat.testBit_succ, Nat.testBit_succ, this]
  | i + 1, n, 0, _, _ => by
    have : (n - 2 ^ (i + 1)) % 2 = n % 2 ∨ n < 2 ^ (i + 1) := by
      rcases Nat.lt_or_ge n (2 ^ (i + 1)) with h | h
      · exact .inr h
      · left; rw [Nat.pow_succ] at h ⊢; omega
    rcases this with h | h
    · simp [Nat.testBit_zero, h]
    · next hb _ => rw [Nat.testBit_lt_two_pow h] at hb; cases hb
  | i + 1, n, j + 1, h, hj => by
    have : (n - 2 ^ (i + 1)) / 2 = n / 2 - 2 ^ i := by rw [Nat.pow_succ]; omega
    rw [Nat.testBit_succ, Nat.testBit_succ, this]
    rw [Nat.testBit_succ] at h
    exact testBit_sub_two_pow i (n / 2) j h (by omega)

theorem bitAt_putBit_other (w : Int) {i j : Nat} (b : Bool) (h : j ≠ i) : bitAt (Machine.putBit w i b) j = bitAt w j := by
  unfold bitAt Machine.putBit
  cases b <;> simp only [Int.ofNat_eq_natCast, Int.toNat_natCast, if_true, Bool.false_eq_true, if_false]
  · split
    · next hb => exact testBit_sub_two_pow i _ j hb h
    · rfl
  · have : ¬ (i ≤ j ∧ j - i = 0) := by omega
    simp only [Nat.testBit_or, Nat.testBit_shiftLeft]
    by_cases hij : i ≤ j
    · have h1 : Nat.testBit 1 (j - i) = false := by
        rw [show j - i = (j - i - 1) + 1 by omega, Nat.testBit_succ]; simp
      simp [h1]
    · simp [hij]

theorem bit_putBit_same (k : Nat) {i j : Nat} (b : Bool) (h : j ≠ i) : (d.putBit k i b).bit k j = d.bit k j := by
  simp [bit, bitAt_putBit_other _ b h]

@[simp] theorem bit_putBit_self (k i : Nat) (b : Bool) : (d.putBit k i b).bit k i = b := by simp [bit]

theorem bit_putBit_other {k j : Nat} (i m : Nat) (b : Bool) (h : j ≠ k) : (d.putBit k i b).bit j m = d.bit j m := by
  simp [bit, num_putBit_other d i b h]

/-! Causes. -/

/-- Outside DOME a cause waits for the next edge, and no object changes. -/
theorem causeArg_awake (s c o : Nat) (x : List Byte) (h : d.power ≠ .dome) :
    (d.causeArg s c o x).objs = d.objs ∧ (d.causeArg s c o x).posts s c := by
  unfold causeArg posts
  rw [if_neg h]
  refine ⟨rfl, ?_⟩
  dsimp only
  split
  · next hs =>
    obtain ⟨e, he, hm⟩ := List.any_eq_true.mp hs
    refine ⟨_, List.mem_map.mpr ⟨e, he, rfl⟩, ?_⟩
    simp only [hm, if_true]
    simp only [Bool.and_eq_true, beq_iff_eq] at hm
    exact ⟨hm.1.1, hm.1.2⟩
  · exact ⟨⟨s, c, o, 1, x⟩, by simp, rfl, rfl⟩

/-- A cause that waits stays, whatever else is caused. -/
theorem causeArg_keeps (s c o : Nat) (x : List Byte) {s' c' : Nat} (h : d.posts s' c') : (d.causeArg s c o x).posts s' c' := by
  unfold causeArg posts at *
  obtain ⟨e, he, h1, h2⟩ := h
  split
  · split
    · exact ⟨e, he, h1, h2⟩
    · exact ⟨e, he, h1, h2⟩
  · dsimp only
    split
    · refine ⟨_, List.mem_map.mpr ⟨e, he, rfl⟩, ?_⟩
      split <;> exact ⟨h1, h2⟩
    · exact ⟨e, by simp [he], h1, h2⟩

end Sys2Proof.Machine.Dev
end

