-- ==== Sys2Proof/Laws/OpTable.lean ====
section
/-! SUPPORT. The frame of the operation table (R375–R379): one lemma for each operation of the machine that neither enters
nor ends an operation says that it leaves the table and the next OSN as they were. -/

set_option Elab.async false

namespace Sys2Proof.Machine.Dev

set_option maxRecDepth 4000

@[simp] theorem opTable_pair (d : Dev) : (d.ops, d.osnNext) = d.opTable := rfl

@[simp] theorem opTable_ite (c : Prop) [Decidable c] (a b : Dev) : (if c then a else b).opTable = if c then a.opTable else b.opTable := by split <;> rfl

@[simp] theorem opTable_foldl {α : Type} (f : Dev → α → Dev) (l : List α) (d : Dev) (h : ∀ d x, (f d x).opTable = d.opTable) : (l.foldl f d).opTable = d.opTable := by
  induction l generalizing d with
  | nil => rfl
  | cons x l ih => rw [List.foldl_cons, ih, h]

@[simp] theorem opTable_mk x0 x1 x2 x3 x4 x5 x6 x7 x8 x9 x10 x11 x12 x13 x14 x15 x16 x17 x18 x19 x20 x21 x22 x23 x24 x25 x26 x27 x28 x29 x30 x31 x32 x33 x34 x35 x36 x37 x38 x39 x40 x41 x42 x43 x44 x45 x46 x47 x48 x49 x50 x51 x52 x53 x54 :
    opTable (Dev.mk x0 x1 x2 x3 x4 x5 x6 x7 x8 x9 x10 x11 x12 x13 x14 x15 x16 x17 x18 x19 x20 x21 x22 x23 x24 x25 x26 x27 x28 x29 x30 x31 x32 x33 x34 x35 x36 x37 x38 x39 x40 x41 x42 x43 x44 x45 x46 x47 x48 x49 x50 x51 x52 x53 x54) = (x7, x6) := rfl

@[simp] theorem opTable_forUnits (n : Nat) (f : Nat → Dev → Dev) (d : Dev) (h : ∀ i d, (f i d).opTable = d.opTable) : (forUnits n f d).opTable = d.opTable :=
  opTable_foldl _ _ _ (fun d i => h i d)

@[simp] theorem opTable_setObj (d : Dev) (key : Nat) (v : Val) : (setObj d key v).opTable = d.opTable := by
  simp [setObj]

@[simp] theorem opTable_setNum (d : Dev) (key : Nat) (v : Int) : (setNum d key v).opTable = d.opTable := by
  simp [setNum]

@[simp] theorem opTable_modNum (d : Dev) (key : Nat) (f : Int → Int) : (modNum d key f).opTable = d.opTable := by
  simp [modNum]

@[simp] theorem opTable_bump (d : Dev) (key : Nat) (n : Nat) : (bump d key n).opTable = d.opTable := by
  simp [bump]

@[simp] theorem opTable_putBit (d : Dev) (key i : Nat) (b : Bool) : (putBit d key i b).opTable = d.opTable := by
  simp [putBit]

@[simp] theorem opTable_draw (d : Dev) : (draw d).2.opTable = d.opTable := by
  simp [draw]

@[simp] theorem opTable_causeArg (d : Dev) (src code osn : Nat) (arg : List Byte) : (causeArg d src code osn arg).opTable = d.opTable := by
  simp [causeArg]

@[simp] theorem opTable_cause (d : Dev) (src code : Nat) : (cause d src code).opTable = d.opTable := by
  simp [cause]

@[simp] theorem opTable_causeOsn (d : Dev) (src code osn : Nat) : (causeOsn d src code osn).opTable = d.opTable := by
  simp [causeOsn]

@[simp] theorem opTable_causeIf (d : Dev) (b : Bool) (src code : Nat) : (causeIf d b src code).opTable = d.opTable := by
  simp [causeIf]

@[simp] theorem opTable_stampCauses (d : Dev) (old : List Cause) (osn : Nat) : ((stampCauses d old osn)).opTable = d.opTable := by
  unfold stampCauses; try dsimp only
  (repeat' split) <;> (first | rfl | (simp; done))

@[simp] theorem opTable_noCauses (d : Dev) : ((noCauses d)).opTable = d.opTable := by
  unfold noCauses; try dsimp only
  (repeat' split) <;> (first | rfl | (simp; done))

@[simp] theorem opTable_withOsn (d : Dev) (osn : Nat) (f : Dev → Dev) (h : ∀ d, (f d).opTable = d.opTable) : (d.withOsn osn f).opTable = d.opTable := by
  unfold withOsn; rw [opTable_stampCauses, h, opTable_noCauses]

@[simp] theorem opTable_answering (d : Dev) (a : Answer) : (answering d a).opTable = d.opTable := by
  simp [answering]

@[simp] theorem opTable_recordOp (d : Dev) (p : Src) (code osn key : Nat) (r : Reason) (first : List Byte) : (recordOp d p code osn key r first).opTable = d.opTable := by
  simp [recordOp]

@[simp] theorem opTable_reply (d : Dev) (p : Src) (a : Answer) : (reply d p a).opTable = d.opTable := by
  simp [reply]

@[simp] theorem opTable_sdoAbort (d : Dev) (p : Src) (code : Nat) : (sdoAbort d p code).opTable = d.opTable := by
  simp [sdoAbort]

@[simp] theorem opTable_sdoLate (d : Dev) (p : Src) (r : Reason) : (sdoLate d p r).opTable = d.opTable := by
  simp [sdoLate]

@[simp] theorem opTable_modPh (d : Dev) (p : Nat) (f : Phase → Phase) : (modPh d p f).opTable = d.opTable := by
  simp [modPh]

@[simp] theorem opTable_modRl (d : Dev) (n : Nat) (f : Rail → Rail) : (modRl d n f).opTable = d.opTable := by
  simp [modRl]

@[simp] theorem opTable_modBk (d : Dev) (b : Nat) (f : Buck → Buck) : (modBk d b f).opTable = d.opTable := by
  simp [modBk]

@[simp] theorem opTable_modLd (d : Dev) (l : Nat) (f : Ldo → Ldo) : (modLd d l f).opTable = d.opTable := by
  simp [modLd]

@[simp] theorem opTable_modSg (d : Dev) (g : Nat) (f : SgLine → SgLine) : (modSg d g f).opTable = d.opTable := by
  simp [modSg]

@[simp] theorem opTable_modWm (d : Dev) (w : Nat) (f : Wm → Wm) : (modWm d w f).opTable = d.opTable := by
  simp [modWm]

@[simp] theorem opTable_modTm (d : Dev) (t : Nat) (f : Tm → Tm) : (modTm d t f).opTable = d.opTable := by
  simp [modTm]

@[simp] theorem opTable_modEng (d : Dev) (e : Nat) (f : Engine → Engine) : (modEng d e f).opTable = d.opTable := by
  simp [modEng]

@[simp] theorem opTable_setDrive (d : Dev) (w : Nat) (v : Int) : (setDrive d w v).opTable = d.opTable := by
  simp [setDrive]

@[simp] theorem opTable_backoffSet (d : Dev) (n : Nat) : (backoffSet d n).opTable = d.opTable := by
  unfold backoffSet; simp

@[simp] theorem opTable_backoffPass (d : Dev) (u : Nat) : (backoffPass d u).opTable = d.opTable := by
  unfold backoffPass; split <;> simp

@[simp] theorem opTable_clockFollow (d : Dev) : (clockFollow d).opTable = d.opTable := by
  simp [clockFollow]

@[simp] theorem opTable_lbAsk (d : Dev) (j : LbJob) : (lbAsk d j).opTable = d.opTable := by
  simp [lbAsk]

@[simp] theorem opTable_lbDrop (d : Dev) (j : LbJob) : (lbDrop d j).opTable = d.opTable := by
  simp [lbDrop]

@[simp] theorem opTable_qualRead (d : Dev) (p : Nat) (w : Option (BitVec 16)) : ((qualRead d p w)).opTable = d.opTable := by
  unfold qualRead; try dsimp only
  (repeat' split) <;> (first | rfl | (simp; done))

@[simp] theorem opTable_lbFail (d : Dev) (j : LbJob) : ((lbFail d j)).opTable = d.opTable := by
  unfold lbFail; try dsimp only
  (repeat' split) <;> (first | rfl | (simp; done))

@[simp] theorem opTable_lbAskQual (d : Dev) (p : Nat) : ((lbAskQual d p)).opTable = d.opTable := by
  unfold lbAskQual; try dsimp only
  (repeat' split) <;> (first | rfl | (simp; done))

@[simp] theorem opTable_tmEvent (d : Dev) (t c : Nat) : (tmEvent d t c).opTable = d.opTable := by
  simp [tmEvent]

@[simp] theorem opTable_tmTakePeriod (d : Dev) (t : Nat) : (tmTakePeriod d t).opTable = d.opTable := by
  simp [tmTakePeriod]

@[simp] theorem opTable_tmTakeCompare (d : Dev) (t : Nat) : (tmTakeCompare d t).opTable = d.opTable := by
  unfold tmTakeCompare; dsimp only; (repeat' split) <;> (first | rfl | (simp; done))

@[simp] theorem opTable_tmWrites (d : Dev) (t : Nat) : (tmWrites d t).opTable = d.opTable := by
  simp [tmWrites]

@[simp] theorem opTable_tmStopped (d : Dev) (t : Nat) : (tmStopped d t).opTable = d.opTable := by
  simp [tmStopped]

@[simp] theorem opTable_tmMatch (d : Dev) (t : Nat) : (tmMatch d t).opTable = d.opTable := by
  simp [tmMatch]

@[simp] theorem opTable_tmTerminal (d : Dev) (t : Nat) : (tmTerminal d t).opTable = d.opTable := by
  simp [tmTerminal]

@[simp] theorem opTable_tmAdvance (d : Dev) (t : Nat) : (tmAdvance d t).1.opTable = d.opTable := by
  unfold tmAdvance; dsimp only; (repeat' split) <;> (first | rfl | (simp; done))

@[simp] theorem opTable_tmSample (d : Dev) (t : Nat) : (tmSample d t).opTable = d.opTable := by
  simp [tmSample]

@[simp] theorem opTable_tmRestart (d : Dev) (t : Nat) : (tmRestart d t).opTable = d.opTable := by
  simp [tmRestart]

@[simp] theorem opTable_tmGo (d : Dev) (t : Nat) : (tmGo d t).opTable = d.opTable := by
  simp [tmGo]

@[simp] theorem opTable_tmHalt (d : Dev) (t : Nat) : (tmHalt d t).opTable = d.opTable := by
  simp [tmHalt]

@[simp] theorem opTable_tmZero (d : Dev) (t : Nat) : (tmZero d t).opTable = d.opTable := by
  simp [tmZero]

@[simp] theorem opTable_tmApply (d : Dev) (acts : List (Nat × Nat)) (t : Nat) : (tmApply d acts t).opTable = d.opTable := by
  simp [tmApply]

theorem opTable_tmSteps (step : Dev → Nat → Dev × Bool × Bool) (h : ∀ d t, (step d t).1.opTable = d.opTable) (d : Dev) (ts : List Nat) :
    (tmSteps step d ts).1.opTable = d.opTable := by
  induction ts generalizing d with
  | nil => rfl
  | cons t ts ih => simp [tmSteps, ih, h]

@[simp] theorem opTable_tmClock (d : Dev) (t : Nat) : (tmClock d t).1.opTable = d.opTable := by
  simp [tmClock]

@[simp] theorem opTable_tmPass (d : Dev) (k t : Nat) : (tmPass k d t).opTable = d.opTable := by
  simp [tmPass]

@[simp] theorem opTable_timerClockEdge (d : Dev) (clocks : Nat) : (timerClockEdge d clocks).opTable = d.opTable := by
  unfold timerClockEdge; dsimp only
  split
  · simp [opTable_tmSteps]
  · rfl

@[simp] theorem opTable_tmLf (d : Dev) (t : Nat) : (tmLf d t).1.opTable = d.opTable := by
  unfold tmLf; dsimp only; (repeat' split) <;> (first | rfl | (simp; done))

@[simp] theorem opTable_lfSet (d : Dev) (on : Bool) : (lfSet d on).opTable = d.opTable := by
  simp [lfSet]

@[simp] theorem opTable_lfStep (d : Dev) : (lfStep d).opTable = d.opTable := by
  simp [lfStep, opTable_tmSteps]

@[simp] theorem opTable_lfPass (d : Dev) : (lfPass d).opTable = d.opTable := by
  unfold lfPass; split <;> simp

@[simp] theorem opTable_lfTimerStep (d : Dev) : (lfTimerStep d).opTable = d.opTable := by
  unfold lfTimerStep; dsimp only; (repeat' split) <;> simp

@[simp] theorem opTable_tmCtrl (d : Dev) (t : Nat) (v : Int) : (tmCtrl d t v).opTable = d.opTable := by
  simp [tmCtrl]

@[simp] theorem opTable_tmPeriodWrite (d : Dev) (t : Nat) (v : Int) : (tmPeriodWrite d t v).opTable = d.opTable := by
  simp [tmPeriodWrite]

@[simp] theorem opTable_tmCompareWrite (d : Dev) (t : Nat) (v : Int) : (tmCompareWrite d t v).opTable = d.opTable := by
  simp [tmCompareWrite]

@[simp] theorem opTable_tmStartAll (d : Dev) (mask : Nat) : (tmStartAll d mask).opTable = d.opTable := by
  simp [tmStartAll]

@[simp] theorem opTable_tmStopAll (d : Dev) (mask : Nat) : (tmStopAll d mask).opTable = d.opTable := by
  simp [tmStopAll]

@[simp] theorem opTable_tmGlobal (d : Dev) (start : Bool) (mask : Nat) : (tmGlobal d start mask).opTable = d.opTable := by
  simp [tmGlobal]

@[simp] theorem opTable_tmGlobalStart (d : Dev) (mask : Nat) : (tmGlobalStart d mask).opTable = d.opTable := by
  simp [tmGlobalStart]

@[simp] theorem opTable_tmGlobalStop (d : Dev) (mask : Nat) : (tmGlobalStop d mask).opTable = d.opTable := by
  simp [tmGlobalStop]

@[simp] theorem opTable_tmWaiting (d : Dev) : (tmWaiting d).opTable = d.opTable := by
  unfold tmWaiting; rw [opTable_foldl]
  · rfl
  · intro d w; split <;> simp

@[simp] theorem opTable_tmStatusClear (d : Dev) (t : Nat) : (tmStatusClear d t).opTable = d.opTable := by
  simp [tmStatusClear]

@[simp] theorem opTable_tmCaptureClear (d : Dev) (t : Nat) : (tmCaptureClear d t).opTable = d.opTable := by
  simp [tmCaptureClear]

@[simp] theorem opTable_endOn (d : Dev) (p : Nat) (steps : Int) : (endOn d p steps).opTable = d.opTable := by
  simp [endOn]

@[simp] theorem opTable_cutOn (d : Dev) (p : Nat) : (cutOn d p).opTable = d.opTable := by
  simp [cutOn]

@[simp] theorem opTable_toMid (d : Dev) (p : Nat) : (toMid d p).opTable = d.opTable := by
  simp [toMid]

@[simp] theorem opTable_allMid (d : Dev) : (allMid d).opTable = d.opTable := by
  simp [allMid]

@[simp] theorem opTable_loadDac (d : Dev) (p : Nat) : (loadDac d p).opTable = d.opTable := by
  simp [loadDac]

@[simp] theorem opTable_turnOn (d : Dev) (p : Nat) (at_ : Int) : (turnOn d p at_).opTable = d.opTable := by
  simp [turnOn]

@[simp] theorem opTable_fireSlot (d : Dev) (n p s : Nat) : (fireSlot d n p s).opTable = d.opTable := by
  simp [fireSlot]

@[simp] theorem opTable_slotTurnOn (d : Dev) (p : Nat) : (slotTurnOn d p).opTable = d.opTable := by
  unfold slotTurnOn; (repeat' split) <;> simp

@[simp] theorem opTable_deferredTurnOn (d : Dev) (p : Nat) : (deferredTurnOn d p).opTable = d.opTable := by
  simp [deferredTurnOn]

@[simp] theorem opTable_peakTrip (d : Dev) (p steps imon : Nat) : (peakTrip d p steps imon).opTable = d.opTable := by
  simp [peakTrip]

@[simp] theorem opTable_blankingEnd (d : Dev) (p : Nat) : (blankingEnd d p).opTable = d.opTable := by
  simp [blankingEnd]

@[simp] theorem opTable_tonMaxExpiry (d : Dev) (p : Nat) : (tonMaxExpiry d p).opTable = d.opTable := by
  simp [tonMaxExpiry]

@[simp] theorem opTable_timedTurnOff (d : Dev) (p : Nat) : (timedTurnOff d p).opTable = d.opTable := by
  simp [timedTurnOff]

@[simp] theorem opTable_pulseResult (d : Dev) (p : Nat) (i zero : Int) : ((pulseResult d p i zero)).opTable = d.opTable := by
  unfold pulseResult; try dsimp only
  (repeat' split) <;> (first | rfl | (simp; done))

@[simp] theorem opTable_zeroCross (d : Dev) (p : Nat) (steps : Int) : (zeroCross d p steps).opTable = d.opTable := by
  unfold zeroCross; dsimp only; rw [opTable_modPh]; (repeat' split) <;> simp

@[simp] theorem opTable_zeroCrossing (d : Dev) (p steps : Nat) : (zeroCrossing d p steps).opTable = d.opTable := by
  simp [zeroCrossing]

@[simp] theorem opTable_timedZeroCrossing (d : Dev) (p : Nat) : (timedZeroCrossing d p).opTable = d.opTable := by
  simp [timedZeroCrossing]

@[simp] theorem opTable_pulseImon (d : Dev) (p : Nat) (i : Int) : ((pulseImon d p i)).opTable = d.opTable := by
  unfold pulseImon; try dsimp only
  (repeat' split) <;> (first | rfl | (simp; done))

@[simp] theorem opTable_imonConversion (d : Dev) (p : Nat) (code : Int) : (imonConversion d p code).opTable = d.opTable := by
  simp [imonConversion]

@[simp] theorem opTable_placedHold (d : Dev) (p : Nat) (late : Bool) : (placedHold d p late).opTable = d.opTable := by
  simp [placedHold]

@[simp] theorem opTable_disablePhase (d : Dev) (p code : Nat) : (disablePhase d p code).opTable = d.opTable := by
  simp [disablePhase]

@[simp] theorem opTable_terminatePhase (d : Dev) (p id : Nat) : (terminatePhase d p id).opTable = d.opTable := by
  simp [terminatePhase]

@[simp] theorem opTable_releaseTerm (d : Dev) (p id : Nat) : (releaseTerm d p id).opTable = d.opTable := by
  simp [releaseTerm]

@[simp] theorem opTable_parkPhase (d : Dev) (p : Nat) : (parkPhase d p).opTable = d.opTable := by
  simp [parkPhase]

@[simp] theorem opTable_realign (d : Dev) (p : Nat) : (realign d p).opTable = d.opTable := by
  simp [realign]

@[simp] theorem opTable_releaseLatch (d : Dev) (p : Nat) : (releaseLatch d p).opTable = d.opTable := by
  simp [releaseLatch]

@[simp] theorem opTable_singlePulse (d : Dev) (p : Nat) : (singlePulse d p).opTable = d.opTable := by
  simp [singlePulse]

@[simp] theorem opTable_singlePulseTurnOff (d : Dev) (p : Nat) : (singlePulseTurnOff d p).opTable = d.opTable := by
  simp [singlePulseTurnOff]

@[simp] theorem opTable_applyS (d : Dev) (settles : Nat → Bool) : (applyS d settles).opTable = d.opTable := by
  simp [applyS]

@[simp] theorem opTable_railPeriodStart (d : Dev) (n : Nat) : (railPeriodStart d n).opTable = d.opTable := by
  simp [railPeriodStart]

@[simp] theorem opTable_reloadDacs (d : Dev) : (reloadDacs d).opTable = d.opTable := by
  simp [reloadDacs]

@[simp] theorem opTable_statusLatch (d : Dev) : (statusLatch d).opTable = d.opTable := by
  simp [statusLatch]

@[simp] theorem opTable_fillCoef (d : Dev) (e : Nat) (bankB : Bool) (c : Nat) (from_ : Nat) (v : Val) : (fillCoef d e bankB c from_ v).opTable = d.opTable := by
  simp [fillCoef]

@[simp] theorem opTable_settled (d : Dev) : (settled d).opTable = d.opTable := by
  simp [settled]

@[simp] theorem opTable_coming (d : Dev) : (coming d).opTable = d.opTable := by
  simp [coming]

@[simp] theorem opTable_markKind (d : Dev) (u sub : Nat) (b : Bool) : (markKind d u sub b).opTable = d.opTable := by
  simp [markKind]

@[simp] theorem opTable_gloveLeave (d : Dev) (n : Nat) : (gloveLeave d n).opTable = d.opTable := by
  simp [gloveLeave]

@[simp] theorem opTable_dischargeFollow (d : Dev) : (dischargeFollow d).opTable = d.opTable := by
  rfl

@[simp] theorem opTable_unitOff (d : Dev) (u : Nat) : (unitOff d u).opTable = d.opTable := by
  simp [unitOff]

@[simp] theorem opTable_unitEnable (d : Dev) (u : Nat) : (unitEnable d u).opTable = d.opTable := by
  simp [unitEnable]

@[simp] theorem opTable_unitBack (d : Dev) (u : Nat) : (unitBack d u).opTable = d.opTable := by
  unfold unitBack; split <;> simp

@[simp] theorem opTable_faultRequest (d : Dev) (groups : Nat) : (faultRequest d groups).opTable = d.opTable := by
  simp [faultRequest]

@[simp] theorem opTable_railMid (d : Dev) (n : Nat) : (railMid d n).opTable = d.opTable := by
  simp [railMid]

@[simp] theorem opTable_hardStop (d : Dev) (u : Nat) : (hardStop d u).opTable = d.opTable := by
  simp [hardStop]

@[simp] theorem opTable_respond (d : Dev) (u code : Nat) : (respond d u code).opTable = d.opTable := by
  unfold respond; dsimp only; (repeat' split) <;> (first | rfl | (simp; done))

@[simp] theorem opTable_tripList (d : Dev) (u : Nat) (subs : List Nat) : (tripList d u subs).opTable = d.opTable := by
  simp [tripList]

@[simp] theorem opTable_trip (d : Dev) (u sub : Nat) : (trip d u sub).opTable = d.opTable := by
  simp [trip]

@[simp] theorem opTable_tripKinds (d : Dev) (u mask : Nat) : (tripKinds d u mask).opTable = d.opTable := by
  simp [tripKinds]

@[simp] theorem opTable_tripDue (d : Dev) (n sub : Nat) : (tripDue d n sub).opTable = d.opTable := by
  simp [tripDue]

@[simp] theorem opTable_raiseKind (d : Dev) (n sub : Nat) : (raiseKind d n sub).opTable = d.opTable := by
  simp [raiseKind]

@[simp] theorem opTable_lateResponses (d : Dev) : (lateResponses d).opTable = d.opTable := by
  simp [lateResponses]

@[simp] theorem opTable_markRetried (d : Dev) (u : Nat) (b : Bool) : (markRetried d u b).opTable = d.opTable := by
  simp [markRetried]

@[simp] theorem opTable_retriesClear (d : Dev) (u : Nat) : (retriesClear d u).opTable = d.opTable := by
  simp [retriesClear]

@[simp] theorem opTable_clearFaults (d : Dev) (u : Nat) : (clearFaults d u).opTable = d.opTable := by
  simp [clearFaults]

@[simp] theorem opTable_modSide (d : Dev) (w : Nat) (upper : Bool) (f : Cmp → Cmp) : (modSide d w upper f).opTable = d.opTable := by
  simp [modSide]

@[simp] theorem opTable_wmCapture (d : Dev) (w : Nat) (upper asserted : Bool) : (wmCapture d w upper asserted).opTable = d.opTable := by
  simp [wmCapture]

@[simp] theorem opTable_wmTripPhase (d : Dev) (w : Nat) (upper : Bool) (p : Nat) : (wmTripPhase d w upper p).opTable = d.opTable := by
  unfold wmTripPhase; (repeat' split) <;> (first | rfl | (simp; done) | (simp_all; done))

@[simp] theorem opTable_wmAssertNow (d : Dev) (w : Nat) (upper : Bool) : (wmAssertNow d w upper).opTable = d.opTable := by
  simp [wmAssertNow]

@[simp] theorem opTable_wmReleaseNow (d : Dev) (w : Nat) (upper : Bool) : (wmReleaseNow d w upper).opTable = d.opTable := by
  simp [wmReleaseNow]

@[simp] theorem opTable_wmDecide (d : Dev) (w : Nat) (upper : Bool) (uv : Int) : (wmDecide d w upper uv).opTable = d.opTable := by
  simp [wmDecide]

@[simp] theorem opTable_wmAssert (d : Dev) (w : Nat) (upper : Bool) (uv : Int) : (wmAssert d w upper uv).opTable = d.opTable := by
  simp [wmAssert]

@[simp] theorem opTable_wmRelease (d : Dev) (w : Nat) (upper : Bool) (uv : Int) : (wmRelease d w upper uv).opTable = d.opTable := by
  simp [wmRelease]

@[simp] theorem opTable_wmSettled (d : Dev) (w : Nat) (upper : Bool) (uv : Int) : (wmSettled d w upper uv).opTable = d.opTable := by
  simp [wmSettled]

@[simp] theorem opTable_wmWindow (d : Dev) (w : Nat) (uv : Int) : (wmWindow d w uv).opTable = d.opTable := by
  simp [wmWindow]

@[simp] theorem opTable_asyncTrip (d : Dev) (w : Nat) (upper : Bool) (p : Nat) : (asyncTrip d w upper p).opTable = d.opTable := by
  simp [asyncTrip]

@[simp] theorem opTable_tripRelease (d : Dev) (w : Nat) (upper : Bool) (p : Nat) : (tripRelease d w upper p).opTable = d.opTable := by
  simp [tripRelease]

@[simp] theorem opTable_wmRefreshSide (d : Dev) (w : Nat) (upper : Bool) : (wmRefreshSide d w upper).opTable = d.opTable := by
  simp [wmRefreshSide]

@[simp] theorem opTable_wmRefresh (d : Dev) (w : Nat) : (wmRefresh d w).opTable = d.opTable := by
  simp [wmRefresh]

@[simp] theorem opTable_trimTerms (d : Dev) : (trimTerms d).opTable = d.opTable := by
  simp [trimTerms]

@[simp] theorem opTable_routesEdge (d : Dev) : (routesEdge d).opTable = d.opTable := by
  simp [routesEdge]

@[simp] theorem opTable_wmSyncSide (d : Dev) (w : Nat) (upper sampled : Bool) : (wmSyncSide d w upper sampled).opTable = d.opTable := by
  simp [wmSyncSide]

@[simp] theorem opTable_wmSync (d : Dev) (w : Nat) : (wmSync d w).opTable = d.opTable := by
  simp [wmSync]

@[simp] theorem opTable_wmTestStart (d : Dev) (w kind : Nat) : (wmTestStart d w kind).opTable = d.opTable := by
  simp [wmTestStart]

@[simp] theorem opTable_wmTestDone (d : Dev) (w : Nat) (uv : Int) (checks : Nat) : (wmTestDone d w uv checks).opTable = d.opTable := by
  simp [wmTestDone]

@[simp] theorem opTable_pkTestStart (d : Dev) (p : Nat) : (pkTestStart d p).opTable = d.opTable := by
  simp [pkTestStart]

@[simp] theorem opTable_pkTestDone (d : Dev) (p : Nat) (high : Bool) (low : Bool) (slope : Bool) (time : Nat) : (pkTestDone d p high low slope time).opTable = d.opTable := by
  simp [pkTestDone]

@[simp] theorem opTable_intQueue (d : Dev) (ev : Event) (i : Nat) : (intQueue d ev i).opTable = d.opTable := by
  simp [intQueue]

@[simp] theorem opTable_loseEvents (d : Dev) (a b n : Nat) : (loseEvents d a b n).opTable = d.opTable := by
  simp [loseEvents]

@[simp] theorem opTable_supQueue (d : Dev) (ev : Event) : (supQueue d ev).opTable = d.opTable := by
  simp [supQueue]

@[simp] theorem opTable_esnSkip (d : Dev) (next : Nat) : (esnSkip d next).opTable = d.opTable := by
  simp [esnSkip]

@[simp] theorem opTable_loseDome (d : Dev) : (loseDome d).opTable = d.opTable := by
  unfold loseDome; dsimp only; split
  · rfl
  · rw [opTable_esnSkip, opTable_loseEvents]

@[simp] theorem opTable_commitOne (flags : Nat) (d : Dev) (c : Cause) : (commitOne flags d c).opTable = d.opTable := by
  unfold commitOne; dsimp only; (repeat' split) <;> (first | rfl | (simp; done))

@[simp] theorem opTable_engineEvents (d : Dev) : (engineEvents d).opTable = d.opTable := by
  simp [engineEvents]

@[simp] theorem opTable_esnReserve (d : Dev) : (esnReserve d).opTable = d.opTable := by
  simp [esnReserve]

@[simp] theorem opTable_commitEvents (d : Dev) (keep : Bool) : (commitEvents d keep).opTable = d.opTable := by
  simp [commitEvents]

@[simp] theorem opTable_eventLoss (d : Dev) : (eventLoss d).opTable = d.opTable := by
  unfold eventLoss; dsimp only; (repeat' split) <;> (first | rfl | (simp; done))

@[simp] theorem opTable_intAck (d : Dev) (i e : Nat) : (intAck d i e).opTable = d.opTable := by
  simp [intAck]

@[simp] theorem opTable_evTest (d : Dev) (v : Int) (osn : Nat) : (evTest d v osn).opTable = d.opTable := by
  simp [evTest]

@[simp] theorem opTable_buckPeriodStart (d : Dev) (b : Nat) (code : Int) : (buckPeriodStart d b code).opTable = d.opTable := by
  simp [buckPeriodStart]

@[simp] theorem opTable_buckTurnOff (d : Dev) (b : Nat) (limit : Bool) (mA : Nat) : (buckTurnOff d b limit mA).opTable = d.opTable := by
  simp [buckTurnOff]

@[simp] theorem opTable_buckVinUv (d : Dev) : (buckVinUv d).opTable = d.opTable := by
  simp [buckVinUv]

@[simp] theorem opTable_buckVinResume (d : Dev) : (buckVinResume d).opTable = d.opTable := by
  simp [buckVinResume]

@[simp] theorem opTable_buckZero (d : Dev) (b : Nat) : (buckZero d b).opTable = d.opTable := by
  simp [buckZero]

@[simp] theorem opTable_buckTrip (d : Dev) (b sub : Nat) (ok : Bool) : (buckTrip d b sub ok).opTable = d.opTable := by
  simp [buckTrip]

@[simp] theorem opTable_bkOcTrip (d : Dev) (b : Nat) : (bkOcTrip d b).opTable = d.opTable := by
  simp [bkOcTrip]

@[simp] theorem opTable_bkOvTrip (d : Dev) (b : Nat) : (bkOvTrip d b).opTable = d.opTable := by
  simp [bkOvTrip]

@[simp] theorem opTable_bkUvTrip (d : Dev) (b : Nat) : (bkUvTrip d b).opTable = d.opTable := by
  simp [bkUvTrip]

@[simp] theorem opTable_bkThermalTrip (d : Dev) (b : Nat) : (bkThermalTrip d b).opTable = d.opTable := by
  simp [bkThermalTrip]

@[simp] theorem opTable_buckCount (d : Dev) (b : Nat) : (buckCount d b).opTable = d.opTable := by
  simp [buckCount]

@[simp] theorem opTable_postBuck (d : Dev) (b : Nat) (v : Int) (src osn : Nat) : (postBuck d b v src osn).opTable = d.opTable := by
  simp [postBuck]

@[simp] theorem opTable_buckLatch (d : Dev) (b : Nat) : (buckLatch d b).opTable = d.opTable := by
  simp [buckLatch]

@[simp] theorem opTable_ldoRampDone (d : Dev) (l : Nat) : (ldoRampDone d l).opTable = d.opTable := by
  simp [ldoRampDone]

@[simp] theorem opTable_ldoRetarget (d : Dev) (l : Nat) : (ldoRetarget d l).opTable = d.opTable := by
  simp [ldoRetarget]

@[simp] theorem opTable_ldoTrip (d : Dev) (l sub : Nat) (ok : Bool) : (ldoTrip d l sub ok).opTable = d.opTable := by
  simp [ldoTrip]

@[simp] theorem opTable_ldoOcTrip (d : Dev) (l : Nat) : (ldoOcTrip d l).opTable = d.opTable := by
  simp [ldoOcTrip]

@[simp] theorem opTable_ldoUvTrip (d : Dev) (l : Nat) : (ldoUvTrip d l).opTable = d.opTable := by
  simp [ldoUvTrip]

@[simp] theorem opTable_ldoThermalTrip (d : Dev) (l : Nat) : (ldoThermalTrip d l).opTable = d.opTable := by
  simp [ldoThermalTrip]

@[simp] theorem opTable_ldoCount (d : Dev) (l : Nat) : (ldoCount d l).opTable = d.opTable := by
  simp [ldoCount]

@[simp] theorem opTable_keepRailStart (d : Dev) (l : Nat) : (keepRailStart d l).opTable = d.opTable := by
  simp [keepRailStart]

@[simp] theorem opTable_keepRailStop (d : Dev) (l : Nat) : (keepRailStop d l).opTable = d.opTable := by
  simp [keepRailStop]

@[simp] theorem opTable_retryCountReset (d : Dev) (u : Nat) : (retryCountReset d u).opTable = d.opTable := by
  simp [retryCountReset]

@[simp] theorem opTable_setSvc (d : Dev) (p s : Nat) : (setSvc d p s).opTable = d.opTable := by
  simp [setSvc]

@[simp] theorem opTable_phaseFault (d : Dev) (p : Nat) : (phaseFault d p).opTable = d.opTable := by
  unfold phaseFault; (repeat' split) <;> (first | rfl | (simp; done) | (simp_all; done))

@[simp] theorem opTable_failPhase (d : Dev) (p : Nat) : (failPhase d p).opTable = d.opTable := by
  simp [failPhase]

@[simp] theorem opTable_requalify (d : Dev) (p : Nat) : (requalify d p).opTable = d.opTable := by
  simp [requalify]

@[simp] theorem opTable_readmit (d : Dev) (p : Nat) : (readmit d p).opTable = d.opTable := by
  simp [readmit]

@[simp] theorem opTable_followPresent (d : Dev) (p : Nat) : (followPresent d p).opTable = d.opTable := by
  simp [followPresent]

@[simp] theorem opTable_followAbsent (d : Dev) (p : Nat) : (followAbsent d p).opTable = d.opTable := by
  simp [followAbsent]

@[simp] theorem opTable_svcFollow (d : Dev) (g : Nat) : (svcFollow d g).opTable = d.opTable := by
  unfold svcFollow; dsimp only; (repeat' split) <;> (first | rfl | (simp; done))

@[simp] theorem opTable_svcUnknown (d : Dev) (p : Nat) : (svcUnknown d p).opTable = d.opTable := by
  unfold svcUnknown; (repeat' split) <;> (first | rfl | (simp; done) | (simp_all; done))

@[simp] theorem opTable_assignPhase (d : Dev) (p : Nat) (v : Int) : (assignPhase d p v).opTable = d.opTable := by
  simp [assignPhase]

@[simp] theorem opTable_sgFault (d : Dev) (g : Nat) : (sgFault d g).opTable = d.opTable := by
  simp [sgFault]

@[simp] theorem opTable_sgComparator (d : Dev) (g : Nat) : (sgComparator d g).opTable = d.opTable := by
  simp [sgComparator]

@[simp] theorem opTable_sgRuns (d : Dev) (g : Nat) : (sgRuns d g).opTable = d.opTable := by
  simp [sgRuns]

@[simp] theorem opTable_sgTempSet (d : Dev) (g : Nat) (t : Int) : ((sgTempSet d g t)).opTable = d.opTable := by
  unfold sgTempSet; try dsimp only
  (repeat' split) <;> (first | rfl | (simp; done))

@[simp] theorem opTable_sgScan (d : Dev) (g : Nat) (mv : Int) : (sgScan d g mv).opTable = d.opTable := by
  simp [sgScan]

@[simp] theorem opTable_svcRun (d : Dev) (ps : List Nat) (cmd : Int) : (svcRun d ps cmd).opTable = d.opTable := by
  simp [svcRun]

@[simp] theorem opTable_settleDrain (d : Dev) (p : Nat) : (settleDrain d p).opTable = d.opTable := by
  simp [settleDrain]

@[simp] theorem opTable_qualEnd (d0 : Dev) (p : Nat) (r : QualResult) (code : Nat) : ((qualEnd d0 p r code)).opTable = d0.opTable := by
  unfold qualEnd; try dsimp only
  (repeat' split) <;> (first | rfl | (simp; done))

@[simp] theorem opTable_qualifyPhase (d0 : Dev) (p : Nat) (r : QualResult) : (qualifyPhase d0 p r).opTable = d0.opTable := by
  simp [qualifyPhase]

@[simp] theorem opTable_stageReport (d : Dev) (p : Nat) (w : BitVec 16) : (stageReport d p w).opTable = d.opTable := by
  simp [stageReport]

@[simp] theorem opTable_stageOtTrip (d : Dev) (g : Nat) : (stageOtTrip d g).opTable = d.opTable := by
  simp [stageOtTrip]

@[simp] theorem opTable_sgOtWarning (d : Dev) (g : Nat) : (sgOtWarning d g).opTable = d.opTable := by
  simp [sgOtWarning]

@[simp] theorem opTable_autoReadmit (d : Dev) (p : Nat) : (autoReadmit d p).opTable = d.opTable := by
  simp [autoReadmit]

@[simp] theorem opTable_wearBitSet (d : Dev) (p bit : Nat) : (wearBitSet d p bit).opTable = d.opTable := by
  simp [wearBitSet]

@[simp] theorem opTable_tempHistMinute (d : Dev) : (tempHistMinute d).opTable = d.opTable := by
  simp [tempHistMinute]

@[simp] theorem opTable_emitPort (d : Dev) (e w : Nat) (v : Int) : (emitPort d e w v).opTable = d.opTable := by
  simp [emitPort]

@[simp] theorem opTable_emitDrive (d : Dev) (e w : Nat) (v : Int) : (emitDrive d e w v).opTable = d.opTable := by
  simp [emitDrive]

@[simp] theorem opTable_lpPhases (o : Dev) (d : Dev) (e : Nat) (ps : List Nat) (iC y vin tRail : Int) : (lpPhases o d e ps iC y vin tRail).opTable = d.opTable := by
  simp [lpPhases]

@[simp] theorem opTable_lpPorts (d : Dev) (e : Nat) (lp : Lp) (req thrOn ffOn loc mit : Bool) (iM : Int) (iFf : Int) : (lpPorts d e lp req thrOn ffOn loc mit iM iFf).opTable = d.opTable := by
  simp [lpPorts]

@[simp] theorem opTable_lpOff (d : Dev) (e n : Nat) (ps : List Nat) : (lpOff d e n ps).opTable = d.opTable := by
  simp [lpOff]

@[simp] theorem opTable_lpOn (o : Dev) (d : Dev) (e n : Nat) : (lpOn o d e n).opTable = d.opTable := by
  simp [lpOn]

@[simp] theorem opTable_lpMain (o : Dev) (e : Nat) (d : Dev) : (lpMain o e d).opTable = d.opTable := by
  simp [lpMain]

@[simp] theorem opTable_auxBuck (o : Dev) (e beta b : Nat) (d : Dev) : (auxBuck o e beta b d).opTable = d.opTable := by
  simp [auxBuck]

@[simp] theorem opTable_lpAux (o : Dev) (e : Nat) (d : Dev) : (lpAux o e d).opTable = d.opTable := by
  simp [lpAux]

@[simp] theorem opTable_shedRail (o : Dev) (e n : Nat) (d : Dev) : (shedRail o e n d).opTable = d.opTable := by
  unfold shedRail
  dsimp only
  split
  · simp
  · simp only [opTable_emitPort, opTable_modRl, opTable_emitDrive]
    apply opTable_foldl; intro d x; split <;> simp

@[simp] theorem opTable_pmShed (o : Dev) (e : Nat) (d : Dev) : (pmShed o e d).opTable = d.opTable := by
  simp [pmShed]

@[simp] theorem opTable_obsPorts (d : Dev) (e j : Nat) (c : Phase) : (obsPorts d e j c).opTable = d.opTable := by
  simp [obsPorts]

@[simp] theorem opTable_obPhase (o : Dev) (e : Nat) (d : Dev) : (obPhase o e d).opTable = d.opTable := by
  simp [obPhase]

@[simp] theorem opTable_plausOn (o : Dev) (e n : Nat) (d : Dev) : (plausOn o e n d).opTable = d.opTable := by
  simp [plausOn]

@[simp] theorem opTable_plausOff (o : Dev) (e n : Nat) (d : Dev) : (plausOff o e n d).opTable = d.opTable := by
  simp [plausOff]

@[simp] theorem opTable_plausTrack (o : Dev) (e w : Nat) (d : Dev) : (plausTrack o e w d).opTable = d.opTable := by
  simp [plausTrack]

@[simp] theorem opTable_rmPlaus (o : Dev) (e : Nat) (d : Dev) : (rmPlaus o e d).opTable = d.opTable := by
  simp [rmPlaus]

@[simp] theorem opTable_engEvent (d : Dev) (e kind first addr : Nat) : (engEvent d e kind first addr).opTable = d.opTable := by
  simp [engEvent]

@[simp] theorem opTable_nyExec (d : Dev) (e : Nat) (i : Instr) (f : Engine → Engine) : (nyExec d e i f).opTable = d.opTable := by
  simp [nyExec]

@[simp] theorem opTable_nyEndAt (d : Dev) (e : Fin 16) : (nyEndAt d e).opTable = d.opTable := by
  simp [nyEndAt]

@[simp] theorem opTable_overrunAt (d : Dev) (e : Nat) : (overrunAt d e).opTable = d.opTable := by
  simp [overrunAt]

@[simp] theorem opTable_engRelease (d : Dev) (e : Nat) (stamp : Int) : (engRelease d e stamp).opTable = d.opTable := by
  simp [engRelease]

@[simp] theorem opTable_engOverrun (d : Dev) (e : Nat) : (engOverrun d e).opTable = d.opTable := by
  simp [engOverrun]

@[simp] theorem opTable_stdTick (o : Dev) (e : Nat) (d : Dev) : (stdTick o e d).opTable = d.opTable := by
  unfold stdTick; dsimp only; (repeat' split) <;> (first | rfl | (simp; done))

@[simp] theorem opTable_engEdge (d : Dev) (stamp : Int) : (engEdge d stamp).opTable = d.opTable := by
  simp [engEdge]

@[simp] theorem opTable_commitSets (d : Dev) : (commitSets d).opTable = d.opTable := by
  simp [commitSets]

@[simp] theorem opTable_stdInit (d : Dev) (id e : Nat) : (stdInit d id e).opTable = d.opTable := by
  unfold stdInit
  split
  · exact opTable_foldl _ _ _ (fun d n => by simp)
  · split
    · exact opTable_forUnits _ _ _ (fun j d => by simp)
    · rfl
  · exact opTable_forUnits _ _ _ (fun j d => by simp)
  · exact opTable_foldl _ _ _ (fun d n => by simp)
  · exact opTable_forUnits _ _ _ (fun j d => by simp)
  · exact Eq.refl _

@[simp] theorem opTable_swapProg (d : Dev) (e : Nat) : (swapProg d e).opTable = d.opTable := by
  simp [swapProg]

@[simp] theorem opTable_patchWords (d : Dev) : (patchWords d).opTable = d.opTable := by
  simp [patchWords]

@[simp] theorem opTable_flipBank (d : Dev) (e : Nat) : (flipBank d e).opTable = d.opTable := by
  simp [flipBank]

@[simp] theorem opTable_swapBank (d : Dev) (e : Nat) : (swapBank d e).opTable = d.opTable := by
  simp [swapBank]

@[simp] theorem opTable_swapEdge (d : Dev) (e : Nat) : (swapEdge d e).opTable = d.opTable := by
  simp [swapEdge]

@[simp] theorem opTable_stateReload (d : Dev) : (stateReload d).opTable = d.opTable := by
  unfold stateReload; exact opTable_forUnits _ _ _ (fun e d => by split <;> simp)

@[simp] theorem opTable_engStart (d : Dev) : (engStart d).opTable = d.opTable := by
  unfold engStart; rw [opTable_forUnits _ _ _ (fun e d => by split <;> simp), opTable_stateReload]

@[simp] theorem opTable_progSwap (d : Dev) (e : Nat) (v : Int) : (progSwap d e v).opTable = d.opTable := by
  simp [progSwap]

@[simp] theorem opTable_bankCopy (d : Dev) (e : Nat) : (bankCopy d e).opTable = d.opTable := by
  simp [bankCopy]

@[simp] theorem opTable_shadowLoad (d : Dev) (e : Nat) (g : Image) : (shadowLoad d e g).opTable = d.opTable := by
  simp [shadowLoad]

@[simp] theorem opTable_shadowSel (d : Dev) (e id : Nat) : (shadowSel d e id).opTable = d.opTable := by
  unfold shadowSel; dsimp only; (repeat' split) <;> (first | rfl | (simp; done))

@[simp] theorem opTable_shadowImage (d : Dev) (e : Nat) (bs : List Byte) : (shadowImage d e bs).opTable = d.opTable := by
  simp [shadowImage]

@[simp] theorem opTable_mailboxPost (d : Dev) (e : Nat) : (mailboxPost d e).opTable = d.opTable := by
  simp [mailboxPost]

@[simp] theorem opTable_eccScrub (d : Dev) (e : Nat) (corrected stall : Bool) : (eccScrub d e corrected stall).opTable = d.opTable := by
  unfold eccScrub; dsimp only; (repeat' split) <;> (first | rfl | (simp; done) | (simp_all; done))

@[simp] theorem opTable_eccUncorrectable (d : Dev) (e : Nat) (loc : EccLoc) : (eccUncorrectable d e loc).opTable = d.opTable := by
  unfold eccUncorrectable; dsimp only; (repeat' split) <;> (first | rfl | (simp; done))

@[simp] theorem opTable_reloadRefused (d : Dev) (e c a : Nat) : ((reloadRefused d e c a)).opTable = d.opTable := by
  unfold reloadRefused; try dsimp only
  (repeat' split) <;> (first | rfl | (simp; done))

@[simp] theorem opTable_progReload (d : Dev) (e : Nat) : ((progReload d e)).opTable = d.opTable := by
  unfold progReload; try dsimp only
  (repeat' split) <;> (first | rfl | (simp; done))

@[simp] theorem opTable_bankReload (d : Dev) (e : Nat) (stored : Nat → Val) : (bankReload d e stored).opTable = d.opTable := by
  have fill := fun (d : Dev) (f : Nat → Dev → Dev) h => opTable_forUnits 257 f d h
  unfold bankReload
  generalize 257 = k at *
  dsimp only
  rw [opTable_modEng, fill _ _ (fun c d => opTable_fillCoef ..)]

@[simp] theorem opTable_reloadDone (d : Dev) (e : Nat) (stored : Nat → Val) : (reloadDone d e stored).opTable = d.opTable := by
  unfold reloadDone; dsimp only; (repeat' split) <;> simp

@[simp] theorem opTable_loadEngine (d : Dev) (e : Nat) : (loadEngine d e).opTable = d.opTable := by
  unfold loadEngine; dsimp only; (repeat' split) <;> (first | rfl | (simp; done))

@[simp] theorem opTable_engStatusClear (d : Dev) (e : Nat) : (engStatusClear d e).opTable = d.opTable := by
  simp [engStatusClear]

@[simp] theorem opTable_gloveEdge (d : Dev) (n : Nat) : (gloveEdge d n).opTable = d.opTable := by
  simp [gloveEdge]

@[simp] theorem opTable_gloveExit (d : Dev) (n : Nat) : (gloveExit d n).opTable = d.opTable := by
  simp [gloveExit]

@[simp] theorem opTable_gloveExpiry (d : Dev) (n : Nat) : (gloveExpiry d n).opTable = d.opTable := by
  simp [gloveExpiry]

@[simp] theorem opTable_senseTestDue (d : Dev) (n : Nat) : (senseTestDue d n).opTable = d.opTable := by
  simp [senseTestDue]

@[simp] theorem opTable_frozenAdc (d : Dev) (n : Nat) : (frozenAdc d n).opTable = d.opTable := by
  simp [frozenAdc]

@[simp] theorem opTable_targetRefused (d : Dev) (p : Src) (n : Nat) : (targetRefused d p n).opTable = d.opTable := by
  simp [targetRefused]

@[simp] theorem opTable_acceptTarget (d : Dev) (p : Src) (n : Nat) (v : Int) (osn : Nat) : (acceptTarget d p n v osn).opTable = d.opTable := by
  simp [acceptTarget]

@[simp] theorem opTable_targetLatch (d : Dev) (n : Nat) : (targetLatch d n).opTable = d.opTable := by
  unfold targetLatch; dsimp only; (repeat' split) <;> (first | rfl | (simp; done))

@[simp] theorem opTable_transitionDone (d : Dev) (n : Nat) : (transitionDone d n).opTable = d.opTable := by
  simp [transitionDone]

@[simp] theorem opTable_rdyEdge (d : Dev) (n : Nat) : (rdyEdge d n).opTable = d.opTable := by
  simp [rdyEdge]

@[simp] theorem opTable_rdyAssert (d : Dev) (n : Nat) : (rdyAssert d n).opTable = d.opTable := by
  simp [rdyAssert]

@[simp] theorem opTable_lilFollow (d : Dev) : (lilFollow d).opTable = d.opTable := by
  simp [lilFollow]

@[simp] theorem opTable_lilUp (d : Dev) : (lilUp d).opTable = d.opTable := by
  simp [lilUp]

@[simp] theorem opTable_lilTrainTimeout (d : Dev) : (lilTrainTimeout d).opTable = d.opTable := by
  simp [lilTrainTimeout]

@[simp] theorem opTable_lilWordError (d : Dev) : (lilWordError d).opTable = d.opTable := by
  simp [lilWordError]

@[simp] theorem opTable_lilLinkDrop (d : Dev) : (lilLinkDrop d).opTable = d.opTable := by
  simp [lilLinkDrop]

@[simp] theorem opTable_lilFrame (d : Dev) (w : BitVec 40) : (lilFrame d w).opTable = d.opTable := by
  simp [lilFrame]

@[simp] theorem opTable_latchIntent (d : Dev) (n : Nat) (slope : Bool) (delta : Int) (lead : Nat) : (latchIntent d n slope delta lead).opTable = d.opTable := by
  unfold latchIntent; dsimp only; (repeat' split) <;> (first | rfl | (simp; done))

@[simp] theorem opTable_handleFrame (d : Dev) (f : BitVec 40) : (handleFrame d f).opTable = d.opTable := by
  simp [handleFrame]

@[simp] theorem opTable_dropIntents (d : Dev) (n mask : Nat) : (dropIntents d n mask).opTable = d.opTable := by
  simp [dropIntents]

@[simp] theorem opTable_intentEdge (d : Dev) : (intentEdge d).opTable = d.opTable := by
  simp [intentEdge]

@[simp] theorem opTable_intentRetract (d : Dev) (n j : Nat) : (intentRetract d n j).opTable = d.opTable := by
  unfold intentRetract; dsimp only; (repeat' split) <;> (first | rfl | (simp; done))

@[simp] theorem opTable_intentResume (d : Dev) (n : Nat) : (intentResume d n).opTable = d.opTable := by
  simp [intentResume]

@[simp] theorem opTable_throttleCount (d : Dev) (n : Nat) : (throttleCount d n).opTable = d.opTable := by
  simp [throttleCount]

@[simp] theorem opTable_throttleEdge (d : Dev) : (throttleEdge d).opTable = d.opTable := by
  simp [throttleEdge]

@[simp] theorem opTable_throttleGrace (d : Dev) (n : Nat) : (throttleGrace d n).opTable = d.opTable := by
  simp [throttleGrace]

@[simp] theorem opTable_throttleRelease (d : Dev) : (throttleRelease d).opTable = d.opTable := by
  simp [throttleRelease]

@[simp] theorem opTable_pfwFollow (d : Dev) : (pfwFollow d).opTable = d.opTable := by
  simp [pfwFollow]

@[simp] theorem opTable_pfwRelease (d : Dev) : (pfwRelease d).opTable = d.opTable := by
  simp [pfwRelease]

@[simp] theorem opTable_seqEvent (d : Dev) (src code osn : Nat) (arg : List Byte) : (seqEvent d src code osn arg).opTable = d.opTable := by
  simp [seqEvent]

@[simp] theorem opTable_skipSteps (d : Dev) (n : Nat) : (d.skipSteps n).opTable = d.opTable := by
  induction n generalizing d with
  | zero => rfl
  | succ n ih => unfold skipSteps; split <;> simp [ih]

@[simp] theorem opTable_progIdle (d : Dev) : (progIdle d).opTable = d.opTable := by
  simp [progIdle]

@[simp] theorem opTable_progDone (d : Dev) : (progDone d).opTable = d.opTable := by
  simp [progDone]

@[simp] theorem opTable_progAbandon (d : Dev) : (progAbandon d).opTable = d.opTable := by
  simp [progAbandon]

@[simp] theorem opTable_nextStep (d : Dev) : (nextStep d).opTable = d.opTable := by
  simp [nextStep]

@[simp] theorem opTable_startDelay (d : Dev) : (startDelay d).opTable = d.opTable := by
  simp [startDelay]

@[simp] theorem opTable_stepEdge (d : Dev) : (stepEdge d).opTable = d.opTable := by
  simp [stepEdge]

@[simp] theorem opTable_sqiFirst (d : Dev) : (sqiFirst d).opTable = d.opTable := by
  simp [sqiFirst]

@[simp] theorem opTable_outEdge (d : Dev) : (outEdge d).opTable = d.opTable := by
  simp [outEdge]

@[simp] theorem opTable_toWait (d : Dev) : (toWait d).opTable = d.opTable := by
  simp [toWait]

@[simp] theorem opTable_seqNop (d : Dev) : (seqNop d).opTable = d.opTable := by
  simp [seqNop]

@[simp] theorem opTable_seqCmd (d : Dev) (v : Int) : (seqCmd d v).opTable = d.opTable := by
  simp [seqCmd]

@[simp] theorem opTable_sqiEdge (d : Dev) (i : Nat) (level : Bool) : (sqiEdge d i level).opTable = d.opTable := by
  simp [sqiEdge]

@[simp] theorem opTable_chgEnter (d : Dev) (s : ChgState) : (chgEnter d s).opTable = d.opTable := by
  simp [chgEnter]

@[simp] theorem opTable_safetyZero (d : Dev) : (safetyZero d).opTable = d.opTable := by
  simp [safetyZero]

@[simp] theorem opTable_chgEval (d : Dev) : (chgEval d).opTable = d.opTable := by
  simp [chgEval]

@[simp] theorem opTable_chgLatch (d : Dev) (b : Nat) : (chgLatch d b).opTable = d.opTable := by
  simp [chgLatch]

@[simp] theorem opTable_dischOpen (d : Dev) : (dischOpen d).opTable = d.opTable := by
  simp [dischOpen]

@[simp] theorem opTable_switchClose (d : Dev) : (switchClose d).opTable = d.opTable := by
  simp [switchClose]

@[simp] theorem opTable_handover (d : Dev) : (handover d).opTable = d.opTable := by
  simp [handover]

@[simp] theorem opTable_vinConversion (d : Dev) (code : Int) : (vinConversion d code).opTable = d.opTable := by
  simp [vinConversion]

@[simp] theorem opTable_tsConversion (d : Dev) (r : Int) : (tsConversion d r).opTable = d.opTable := by
  simp [tsConversion]

@[simp] theorem opTable_tsZone (d : Dev) (z : Nat) : (tsZone d z).opTable = d.opTable := by
  simp [tsZone]

@[simp] theorem opTable_tsShort (d : Dev) : (tsShort d).opTable = d.opTable := by
  simp [tsShort]

@[simp] theorem opTable_dischHot (d : Dev) : (dischHot d).opTable = d.opTable := by
  simp [dischHot]

@[simp] theorem opTable_batUv (d : Dev) : (batUv d).opTable = d.opTable := by
  simp [batUv]

@[simp] theorem opTable_dischOc (d : Dev) : (dischOc d).opTable = d.opTable := by
  simp [dischOc]

@[simp] theorem opTable_batOv (d : Dev) : (batOv d).opTable = d.opTable := by
  simp [batOv]

@[simp] theorem opTable_vinOv (d : Dev) : (vinOv d).opTable = d.opTable := by
  simp [vinOv]

@[simp] theorem opTable_chgThermal (d : Dev) : (chgThermal d).opTable = d.opTable := by
  simp [chgThermal]

@[simp] theorem opTable_convStart (d : Dev) : (convStart d).opTable = d.opTable := by
  simp [convStart]

@[simp] theorem opTable_convStop (d : Dev) : (convStop d).opTable = d.opTable := by
  simp [convStop]

@[simp] theorem opTable_chgPrechargeDone (d : Dev) : (chgPrechargeDone d).opTable = d.opTable := by
  simp [chgPrechargeDone]

@[simp] theorem opTable_chgCvEntry (d : Dev) : (chgCvEntry d).opTable = d.opTable := by
  simp [chgCvEntry]

@[simp] theorem opTable_chgTermination (d : Dev) : (chgTermination d).opTable = d.opTable := by
  simp [chgTermination]

@[simp] theorem opTable_chgPreTimeout (d : Dev) : (chgPreTimeout d).opTable = d.opTable := by
  simp [chgPreTimeout]

@[simp] theorem opTable_chgSafetyTimeout (d : Dev) : (chgSafetyTimeout d).opTable = d.opTable := by
  simp [chgSafetyTimeout]

@[simp] theorem opTable_chgRecharge (d : Dev) : (chgRecharge d).opTable = d.opTable := by
  simp [chgRecharge]

@[simp] theorem opTable_chgFaultClear (d : Dev) : (chgFaultClear d).opTable = d.opTable := by
  simp [chgFaultClear]

@[simp] theorem opTable_batteryRemoval (d : Dev) (byBat : Bool) : (batteryRemoval d byBat).opTable = d.opTable := by
  simp [batteryRemoval]

@[simp] theorem opTable_batteryPresent (d : Dev) : (batteryPresent d).opTable = d.opTable := by
  simp [batteryPresent]

@[simp] theorem opTable_accEval (d : Dev) : (accEval d).opTable = d.opTable := by
  simp [accEval]

@[simp] theorem opTable_accOff (d : Dev) : ((accOff d)).opTable = d.opTable := by
  unfold accOff; try dsimp only
  (repeat' split) <;> (first | rfl | (simp; done))

@[simp] theorem opTable_accTime (d : Dev) (ns : Nat) : ((accTime d ns)).opTable = d.opTable := by
  unfold accTime; try dsimp only
  (repeat' split) <;> (first | rfl | (simp; done))

@[simp] theorem opTable_accShort (d : Dev) : (accShort d).opTable = d.opTable := by
  simp [accShort]

@[simp] theorem opTable_accRetry (d : Dev) : (accRetry d).opTable = d.opTable := by
  simp [accRetry]

@[simp] theorem opTable_accClear (d : Dev) : (accClear d).opTable = d.opTable := by
  simp [accClear]

@[simp] theorem opTable_chgChem (d : Dev) (v : Int) : (chgChem d v).opTable = d.opTable := by
  simp [chgChem]

@[simp] theorem opTable_shipCancel (d : Dev) : (shipCancel d).opTable = d.opTable := by
  simp [shipCancel]

@[simp] theorem opTable_vinPresent (d : Dev) (b : Bool) : (vinPresent d b).opTable = d.opTable := by
  simp [vinPresent]

@[simp] theorem opTable_btnPress (d : Dev) : (btnPress d).opTable = d.opTable := by
  simp [btnPress]

@[simp] theorem opTable_btnRelease (d : Dev) : (btnRelease d).opTable = d.opTable := by
  simp [btnRelease]

@[simp] theorem opTable_btnWarn (d : Dev) : (btnWarn d).opTable = d.opTable := by
  simp [btnWarn]

@[simp] theorem opTable_shipRequest (d : Dev) : (shipRequest d).opTable = d.opTable := by
  simp [shipRequest]

@[simp] theorem opTable_chargeNow (d : Dev) : ((chargeNow d)).opTable = d.opTable := by
  unfold chargeNow; try dsimp only
  (repeat' split) <;> (first | rfl | (simp; done))

@[simp] theorem opTable_chargerTime (d : Dev) (ns : Nat) : (chargerTime d ns).opTable = d.opTable := by
  simp [chargerTime]

@[simp] theorem opTable_openEdge (d : Dev) : (openEdge d).opTable = d.opTable := by
  simp [openEdge]

@[simp] theorem opTable_chargeEdge (d : Dev) (ns : Nat) : (chargeEdge d ns).opTable = d.opTable := by
  simp [chargeEdge]

@[simp] theorem opTable_batCurrent (d : Dev) : ((batCurrent d).2).opTable = d.opTable := by
  unfold batCurrent; try dsimp only
  (repeat' split) <;> (first | rfl | (simp; done))

@[simp] theorem opTable_lateRefusal (d : Dev) (p : Src) (osn key : Nat) (r : Reason) (v : Int) : (lateRefusal d p osn key r v).opTable = d.opTable := by
  simp [lateRefusal]

@[simp] theorem opTable_withProfile (d : Dev) (key : Nat) (v : Int) : (withProfile d key v).opTable = d.opTable := by
  unfold withProfile; dsimp only; (repeat' split) <;> (first | rfl | (simp; done))

@[simp] theorem opTable_switchRefused (d : Dev) (key : Nat) (v : Int) (r : Reason) : (switchRefused d key v r).opTable = d.opTable := by
  simp [switchRefused]

@[simp] theorem opTable_switchAccept (d : Dev) (key : Nat) (v : Int) (p : Src) (osn : Nat) : (switchAccept d key v p osn).opTable = d.opTable := by
  simp [switchAccept]

@[simp] theorem opTable_switchesLeft (d : Dev) (l : List Switch) : (switchesLeft d l).opTable = d.opTable := by
  simp [switchesLeft]

@[simp] theorem opTable_profileSched (d : Dev) (v : Int) : (profileSched d v).opTable = d.opTable := by
  unfold profileSched; (repeat' split) <;> (first | rfl | (simp; done) | (simp_all; done))

@[simp] theorem opTable_profileAt (d : Dev) (v : Int) : (profileAt d v).opTable = d.opTable := by
  unfold profileAt; dsimp only; (repeat' split) <;> (first | rfl | (simp; done))

@[simp] theorem opTable_rateChange (d : Dev) (swaps : List Nat) (b new : Nat) : (rateChange d swaps b new).opTable = d.opTable := by
  unfold rateChange; dsimp only; split
  · rfl
  · rw [opTable_setNum, opTable_forUnits _ _ _ (fun e d => opTable_modNum ..), opTable_mk, opTable_pair,
      opTable_foldl _ _ _ (fun d e => opTable_flipBank d e)]

@[simp] theorem opTable_rateFollow (d : Dev) : (rateFollow d).opTable = d.opTable := by
  simp [rateFollow]

@[simp] theorem opTable_loweredSwaps (d : Dev) (old : Int) : ((loweredSwaps d old)).opTable = d.opTable := by
  unfold loweredSwaps; try dsimp only
  (repeat' split) <;> (first | rfl | (simp; done))

@[simp] theorem opTable_mittenEnd (d : Dev) : (mittenEnd d).opTable = d.opTable := by
  simp [mittenEnd]

@[simp] theorem opTable_switchOne (t : Nat) (d : Dev) (s : Switch) : (switchOne t d s).opTable = d.opTable := by
  simp [switchOne]

@[simp] theorem opTable_switchEdge (d : Dev) (t : Nat) : (switchEdge d t).opTable = d.opTable := by
  unfold switchEdge; dsimp only; (repeat' split) <;> (first | rfl | (simp; done))

@[simp] theorem opTable_tickoutEdge (d : Dev) (t : Nat) : (tickoutEdge d t).opTable = d.opTable := by
  simp [tickoutEdge]

@[simp] theorem opTable_syncinEdge (d : Dev) (period width : Nat) (offset : Int) : (syncinEdge d period width offset).opTable = d.opTable := by
  simp [syncinEdge]

@[simp] theorem opTable_syncLost (d : Dev) : (syncLost d).opTable = d.opTable := by
  simp [syncLost]

@[simp] theorem opTable_xoFault (d : Dev) (code : Nat) : (xoFault d code).opTable = d.opTable := by
  simp [xoFault]

@[simp] theorem opTable_xoFaultClear (d : Dev) : (xoFaultClear d).opTable = d.opTable := by
  simp [xoFaultClear]

@[simp] theorem opTable_lfXtalFail (d : Dev) : (lfXtalFail d).opTable = d.opTable := by
  simp [lfXtalFail]

@[simp] theorem opTable_lfCalibration (d : Dev) (e : Int) : (lfCalibration d e).opTable = d.opTable := by
  simp [lfCalibration]

@[simp] theorem opTable_spreadEdge (d : Dev) (i : Nat) : (spreadEdge d i).opTable = d.opTable := by
  simp [spreadEdge]

@[simp] theorem opTable_chargerSpread (d : Dev) : (chargerSpread d).opTable = d.opTable := by
  simp [chargerSpread]

@[simp] theorem opTable_dieJudge (d : Dev) : (dieJudge d).opTable = d.opTable := by
  simp [dieJudge]

@[simp] theorem opTable_hkStep (d : Dev) (ch : Nat) : (hkStep d ch).opTable = d.opTable := by
  simp [hkStep]

@[simp] theorem opTable_hkConversion (d : Dev) (ch code : Nat) : (hkConversion d ch code).opTable = d.opTable := by
  simp [hkConversion]

@[simp] theorem opTable_capArm (d : Dev) : (capArm d).opTable = d.opTable := by
  simp [capArm]

@[simp] theorem opTable_capTrigger (d : Dev) (esn : Nat) (now : Bool) : (capTrigger d esn now).opTable = d.opTable := by
  simp [capTrigger]

@[simp] theorem opTable_capAbort (d : Dev) : (capAbort d).opTable = d.opTable := by
  simp [capAbort]

@[simp] theorem opTable_capRecord (d : Dev) (vals : List Int) : (capRecord d vals).opTable = d.opTable := by
  simp [capRecord]

@[simp] theorem opTable_capEdge (d : Dev) (newIntent : Bool) : (capEdge d newIntent).opTable = d.opTable := by
  unfold capEdge; dsimp only; (repeat' split) <;> (first | rfl | (simp; done))

@[simp] theorem opTable_rawTake (d : Dev) (x : RawSlot) : (rawTake d x).opTable = d.opTable := by
  simp [rawTake]

@[simp] theorem opTable_rawSample (d : Dev) (slots : List RawSlot) : (rawSample d slots).opTable = d.opTable := by
  simp [rawSample]

@[simp] theorem opTable_captureDone (d : Dev) : (captureDone d).opTable = d.opTable := by
  simp [captureDone]

@[simp] theorem opTable_logAppend (d : Dev) (r : LogRec) : (logAppend d r).opTable = d.opTable := by
  simp [logAppend]

@[simp] theorem opTable_logDrop (d : Dev) : (logDrop d).opTable = d.opTable := by
  simp [logDrop]

@[simp] theorem opTable_stopEvent (d : Dev) (how : Nat) : ((stopEvent d how)).opTable = d.opTable := by
  unfold stopEvent; try dsimp only
  (repeat' split) <;> (first | rfl | (simp; done))

@[simp] theorem opTable_spareTake (d : Dev) (r : LogRec) : (spareTake d r).opTable = d.opTable := by
  unfold spareTake; dsimp only; split <;> simp

@[simp] theorem opTable_spareNone (d : Dev) : ((spareNone d)).opTable = d.opTable := by
  unfold spareNone; try dsimp only
  (repeat' split) <;> (first | rfl | (simp; done))

@[simp] theorem opTable_spareWrite (d : Dev) (e : Event) : (spareWrite d e).opTable = d.opTable := by
  simp [spareWrite]

@[simp] theorem opTable_mediaFault (d : Dev) (spare : Bool) (kind b : Nat) (span : List Byte) (lost : Nat) : ((mediaFault d spare kind b span lost)).opTable = d.opTable := by
  unfold mediaFault; try dsimp only
  (repeat' split) <;> (first | rfl | (simp; done))

@[simp] theorem opTable_spareBad (d : Dev) (kind b : Nat) (span : List Byte) (lost : Nat) (stops : Bool) : ((spareBad d kind b span lost stops)).opTable = d.opTable := by
  unfold spareBad; try dsimp only
  (repeat' split) <;> (first | rfl | (simp; done))

@[simp] theorem opTable_spareFail (d : Dev) : (spareFail d).opTable = d.opTable := by
  simp [spareFail]

@[simp] theorem opTable_mainTake (d : Dev) (r : LogRec) : (mainTake d r).opTable = d.opTable := by
  unfold mainTake; dsimp only; split <;> simp

@[simp] theorem opTable_mainWrite (d : Dev) (e : Event) : (mainWrite d e).opTable = d.opTable := by
  simp [mainWrite]

@[simp] theorem opTable_mainFail (d : Dev) (e : Event) : (mainFail d e).opTable = d.opTable := by
  simp [mainFail]

@[simp] theorem opTable_logEcc (d : Dev) (i : Nat) : (logEcc d i).opTable = d.opTable := by
  unfold logEcc; dsimp only; (repeat' split) <;> (first | rfl | (simp; done))

@[simp] theorem opTable_logMeet (d : Dev) (c : Nat) (reads : Nat → Bool) : ((logMeet d c reads)).opTable = d.opTable := by
  unfold logMeet; try dsimp only
  (repeat' split) <;> (first | rfl | (simp; done))

@[simp] theorem opTable_logWrite (d : Dev) (e : Event) (ok : Bool) : (logWrite d e ok).opTable = d.opTable := by
  simp [logWrite]

@[simp] theorem opTable_clearCompose (d : Dev) (e : Event) : (clearCompose d e).opTable = d.opTable := by
  simp [clearCompose]

@[simp] theorem opTable_takeTorn (d : Dev) (spare : Bool) (b : List Byte) : ((takeTorn d spare b)).opTable = d.opTable := by
  unfold takeTorn; try dsimp only
  (repeat' split) <;> (first | rfl | (simp; done))

@[simp] theorem opTable_logTorn (d : Dev) (x : Option (List Byte)) : (logTorn d x).opTable = d.opTable := by
  unfold logTorn; dsimp only; (repeat' split) <;> (first | rfl | (simp; done))

@[simp] theorem opTable_logErase (d : Dev) (r : LogRec) : (logErase d r).opTable = d.opTable := by
  simp [logErase]

@[simp] theorem opTable_logClear (d : Dev) (osn : Nat) : (logClear d osn).opTable = d.opTable := by
  simp [logClear]

@[simp] theorem opTable_logTimeMark (d : Dev) (p : Src) (bs : List Byte) (osn : Nat) : (logTimeMark d p bs osn).opTable = d.opTable := by
  simp [logTimeMark]

@[simp] theorem opTable_logWindow (d : Dev) (i : Nat) : (logWindow d i).2.opTable = d.opTable := by
  simp [logWindow]

@[simp] theorem opTable_wearSnapshot (d : Dev) : (wearSnapshot d).opTable = d.opTable := by
  simp [wearSnapshot]

@[simp] theorem opTable_logBoot (d : Dev) : (logBoot d).opTable = d.opTable := by
  unfold logBoot; dsimp only; (repeat' split) <;> (first | rfl | (simp; done))

@[simp] theorem opTable_stBit (d : Dev) (pg : Nat) (r : StReg) (i : Nat) (b : Bool) : (stBit d pg r i b).opTable = d.opTable := by
  simp [stBit]

@[simp] theorem opTable_statusTake (d : Dev) (e : Event) : (statusTake d e).opTable = d.opTable := by
  simp [statusTake]

@[simp] theorem opTable_modPort (d : Dev) (b : Bus) (f : CanPort → CanPort) : (modPort d b f).opTable = d.opTable := by
  unfold modPort; (repeat' split) <;> (first | rfl | (simp; done) | (simp_all; done))

@[simp] theorem opTable_setCob (d : Dev) (key : Nat) (v : Val) : ((setCob d key v)).opTable = d.opTable := by
  unfold setCob; try dsimp only
  (repeat' split) <;> (first | rfl | (simp; done))

@[simp] theorem opTable_emcyPut (d : Dev) (e : Event) (b : Bus) : (emcyPut d e b).opTable = d.opTable := by
  simp [emcyPut]

@[simp] theorem opTable_emcyTake (d : Dev) (e : Event) : (emcyTake d e).opTable = d.opTable := by
  simp [emcyTake]

@[simp] theorem opTable_eventDispatch (d : Dev) : (eventDispatch d).opTable = d.opTable := by
  unfold eventDispatch; dsimp only; (repeat' split) <;> (first | rfl | (simp; done))

@[simp] theorem opTable_errorEdge (d : Dev) : (errorEdge d).opTable = d.opTable := by
  simp [errorEdge]

@[simp] theorem opTable_historyAdd (d : Dev) (e : Event) : (historyAdd d e).opTable = d.opTable := by
  simp [historyAdd]

@[simp] theorem opTable_historyClear (d : Dev) : (historyClear d).opTable = d.opTable := by
  simp [historyClear]

@[simp] theorem opTable_emcyEdge (d : Dev) (ns : Nat) : (emcyEdge d ns).opTable = d.opTable := by
  simp [emcyEdge]

theorem opTable_emcySend (x : List (Nat × List Byte) × Dev) (b : Bus) : (emcySend x b).2.opTable = x.2.opTable := by
  unfold emcySend
  dsimp only
  split
  · rfl
  · split
    · split <;> simp
    · rfl
@[simp] theorem opTable_emcyTransmit (d : Dev) : d.emcyTransmit.opTable = d.opTable := by
  unfold emcyTransmit
  split
  · dsimp only
    have : ([Bus.a, Bus.b].foldl emcySend ([], d)).2.opTable = d.opTable := by
      simp only [List.foldl_cons, List.foldl_nil]; rw [opTable_emcySend, opTable_emcySend]
    split
    · exact this
    · rw [← this]; simp
  · rfl

@[simp] theorem opTable_pageClear (d : Dev) (pg : Nat) : (pageClear d pg).opTable = d.opTable := by
  simp [pageClear]

@[simp] theorem opTable_alertRelease (d : Dev) : (alertRelease d).opTable = d.opTable := by
  simp [alertRelease]

@[simp] theorem opTable_statusEdge (o d : Dev) : (statusEdge o d).opTable = d.opTable := by
  simp [statusEdge]

@[simp] theorem opTable_applyUnit (d : Dev) (u : Nat) (v : Int) : (applyUnit d u v).opTable = d.opTable := by
  simp [applyUnit]

@[simp] theorem opTable_applyWrite (d : Dev) (key : Nat) (v : Val) : (applyWrite d key v).opTable = d.opTable := by
  simp [applyWrite]

@[simp] theorem opTable_applyPending (d : Dev) : (applyPending d).opTable = d.opTable := by
  simp [applyPending]

@[simp] theorem opTable_latchRail (x : EdgeSamples) (slots n : Nat) (d : Dev) : (latchRail x slots n d).opTable = d.opTable := by
  simp [latchRail]

@[simp] theorem opTable_latchSamples (d : Dev) (count : Int) : (latchSamples d count).opTable = d.opTable := by
  simp [latchSamples]

@[simp] theorem opTable_policyEntryPost (d : Dev) : (policyEntryPost d).opTable = d.opTable := by
  simp [policyEntryPost]

@[simp] theorem opTable_postPolicy (d : Dev) : d.postPolicy.2.opTable = d.opTable := by
  unfold postPolicy; dsimp only; exact opTable_policyEntryPost d

@[simp] theorem opTable_holdFollow (d : Dev) (n : Nat) : (holdFollow d n).opTable = d.opTable := by
  simp [holdFollow]

@[simp] theorem opTable_postMail (d : Dev) : (postMail d).opTable = d.opTable := by
  have h0 : (forUnits 16 (fun e d => match (d.engine e).mailPost with
    | some ws => d.modEng e (fun g => { g with mailIn := ws, mailPost := none })
    | none => d) d).opTable = d.opTable := by
    apply opTable_forUnits; intro i d; split <;> simp
  unfold postMail
  generalize forUnits 16 (fun e d => match (d.engine e).mailPost with
    | some ws => d.modEng e (fun g => { g with mailIn := ws, mailPost := none })
    | none => d) d = d0 at *
  dsimp only
  rw [← h0]
  split
  · apply opTable_forUnits; intro i d; split
    · split <;> simp
    · rfl
  · simp

@[simp] theorem opTable_observerEdge (o : Dev) (p : Nat) (d : Dev) : (observerEdge o p d).opTable = d.opTable := by
  simp [observerEdge]

@[simp] theorem opTable_railCount (d : Dev) (n : Nat) : (railCount d n).opTable = d.opTable := by
  simp [railCount]

@[simp] theorem opTable_railEdge (d : Dev) (n : Nat) : (railEdge d n).opTable = d.opTable := by
  simp [railEdge]

@[simp] theorem opTable_ovTrip (d : Dev) (n : Nat) : (ovTrip d n).opTable = d.opTable := by
  simp [ovTrip]

@[simp] theorem opTable_uvTrip (d : Dev) (n : Nat) : (uvTrip d n).opTable = d.opTable := by
  simp [uvTrip]

@[simp] theorem opTable_ocTrip (d : Dev) (n : Nat) : (ocTrip d n).opTable = d.opTable := by
  simp [ocTrip]

@[simp] theorem opTable_gate (d : Dev) : (gate d).opTable = d.opTable := by
  simp [gate]

@[simp] theorem opTable_economyEdge (d : Dev) : (economyEdge d).opTable = d.opTable := by
  simp [economyEdge]

@[simp] theorem opTable_enginesIdle (d : Dev) : (enginesIdle d).opTable = d.opTable := by
  simp [enginesIdle]

@[simp] theorem opTable_economyLeave (d : Dev) : (economyLeave d).opTable = d.opTable := by
  simp [economyLeave]

@[simp] theorem opTable_edgeRelease (d : Dev) (t : Nat) : (edgeRelease d t).opTable = d.opTable := by
  simp [edgeRelease]

@[simp] theorem opTable_edgeLatch (d : Dev) (t : Nat) (x : EdgeSamples) (slots : Nat) : (edgeLatch d t x slots).opTable = d.opTable := by
  simp [edgeLatch]

@[simp] theorem opTable_modIface (d : Dev) (i : Nat) (f : Iface → Iface) : (modIface d i f).opTable = d.opTable := by
  simp [modIface]

@[simp] theorem opTable_debugClose (d : Dev) : (debugClose d).opTable = d.opTable := by
  simp [debugClose]

@[simp] theorem opTable_debugShut (d : Dev) (osn : Nat) : (debugShut d osn).opTable = d.opTable := by
  simp [debugShut]

@[simp] theorem opTable_sessionEnd (d : Dev) (i cause osn : Nat) : (sessionEnd d i cause osn).opTable = d.opTable := by
  simp [sessionEnd]

@[simp] theorem opTable_sessionsEnd (d : Dev) (cause osn : Nat) : (sessionsEnd d cause osn).opTable = d.opTable := by
  simp [sessionsEnd]

@[simp] theorem opTable_nonceDraw (d : Dev) (i : Nat) : (nonceDraw d i).2.opTable = d.opTable := by
  simp [nonceDraw]

@[simp] theorem opTable_attemptBegin (d : Dev) (i : Nat) (resp : Bool) (osn : Nat) : (attemptBegin d i resp osn).opTable = d.opTable := by
  simp [attemptBegin]

@[simp] theorem opTable_attemptOpen (d : Dev) (i : Nat) (resp : Bool) (data : List Byte) (osn : Nat) : (attemptOpen d i resp data osn).opTable = d.opTable := by
  simp [attemptOpen]

@[simp] theorem opTable_attemptFail (d : Dev) (i : Nat) (resp : Bool) (osn : Nat) : (attemptFail d i resp osn).opTable = d.opTable := by
  simp [attemptFail]

@[simp] theorem opTable_sessionTimeout (d : Dev) (i : Nat) : (sessionTimeout d i).opTable = d.opTable := by
  simp [sessionTimeout]

@[simp] theorem opTable_nonceExpiry (d : Dev) (i : Nat) : (nonceExpiry d i).opTable = d.opTable := by
  simp [nonceExpiry]

@[simp] theorem opTable_backoffExpiry (d : Dev) : (backoffExpiry d).opTable = d.opTable := by
  simp [backoffExpiry]

@[simp] theorem opTable_credWrite (d : Dev) (key : Nat) (bs : List Byte) (osn : Nat) : (credWrite d key bs osn).opTable = d.opTable := by
  simp [credWrite]

@[simp] theorem opTable_lockWrite (d : Dev) (v : Int) (osn : Nat) : (lockWrite d v osn).opTable = d.opTable := by
  simp [lockWrite]

@[simp] theorem opTable_debugOpenWrite (d : Dev) (p : Src) (v : Int) (osn : Nat) : (debugOpenWrite d p v osn).opTable = d.opTable := by
  simp [debugOpenWrite]

@[simp] theorem opTable_tapLoad (d : Dev) (t : Tap) : (tapLoad d t).opTable = d.opTable := by
  simp [tapLoad]

@[simp] theorem opTable_tapDebug (d : Dev) (f : Dev → Dev) (h : ∀ d, (f d).opTable = d.opTable) : (d.tapDebug f).opTable = d.opTable := by
  unfold tapDebug; split <;> simp [h]

@[simp] theorem opTable_debugHalt (d : Dev) (t : Option Nat) : (debugHalt d t).opTable = d.opTable := by
  unfold debugHalt; apply opTable_tapDebug; intro d; cases t <;> simp

@[simp] theorem opTable_debugResume (d : Dev) (t : Option Nat) : (debugResume d t).opTable = d.opTable := by
  unfold debugResume; apply opTable_tapDebug; intro d; cases t <;> simp

@[simp] theorem opTable_debugBreak (d : Dev) (t : Option Nat) (a : Nat) (set : Bool) : (debugBreak d t a set).opTable = d.opTable := by
  unfold debugBreak; apply opTable_tapDebug; intro d; cases t <;> simp

@[simp] theorem opTable_supBreak (d : Dev) : ((supBreak d)).opTable = d.opTable := by
  unfold supBreak; try dsimp only
  (repeat' split) <;> (first | rfl | (simp; done))

@[simp] theorem opTable_debugMemory (d : Dev) (e a : Nat) (w : Option Int) : (debugMemory d e a w).opTable = d.opTable := by
  unfold debugMemory; apply opTable_tapDebug; intro d; cases w <;> simp

@[simp] theorem opTable_setImage (d : Dev) (b : Bool) (m : SetImage) : (setImage d b m).opTable = d.opTable := by
  simp [setImage]

@[simp] theorem opTable_storeBegin (d : Dev) (factory : Bool) (osn : Nat) : (storeBegin d factory osn).opTable = d.opTable := by
  simp [storeBegin]

@[simp] theorem opTable_keepRecords (d : Dev) : (keepRecords d).opTable = d.opTable := by
  simp [keepRecords]

@[simp] theorem opTable_restoreBegin (d : Dev) : (restoreBegin d).opTable = d.opTable := by
  simp [restoreBegin]

@[simp] theorem opTable_takeEntries (d : Dev) (es : List (Nat × Val)) : (d.takeEntries es).1.opTable = d.opTable := by
  unfold takeEntries
  suffices ∀ x : Dev × Nat, x.1.opTable = d.opTable → (es.foldl (fun x e =>
      match objRow e.1 with
      | some r => if storedKey e.1 && rangeOk x.1 r e.1 e.2 then (x.1.setObj e.1 e.2, x.2) else (x.1, x.2 + 1)
      | none => (x.1, x.2 + 1)) x).1.opTable = d.opTable from this (d, 0) rfl
  intro x hx
  induction es generalizing x with
  | nil => exact hx
  | cons e es ih =>
    apply ih
    dsimp only
    split
    · split
      · simpa using hx
      · exact hx
    · exact hx

@[simp] theorem opTable_withoutN (d : Dev) : (withoutN d).opTable = d.opTable := by
  simp [withoutN]

@[simp] theorem opTable_restoreLock (d : Dev) (v : Int) : ((restoreLock d v)).opTable = d.opTable := by
  unfold restoreLock; try dsimp only
  (repeat' split) <;> (first | rfl | (simp; done))

@[simp] theorem opTable_restoreOne (d : Dev) (e : Nat × Val) : (restoreOne d e).opTable = d.opTable := by
  unfold restoreOne; dsimp only; (repeat' split) <;> (first | rfl | (simp; done))

@[simp] theorem opTable_loadSettings (d : Dev) (deltas : List (Nat × Val)) (boot : Bool) : (loadSettings d deltas boot).opTable = d.opTable := by
  simp [loadSettings]

@[simp] theorem opTable_nvmEcc (d : Dev) (e : NvmEcc) : ((nvmEcc d e)).opTable = d.opTable := by
  unfold nvmEcc; try dsimp only
  (repeat' split) <;> (first | rfl | (simp; done))

@[simp] theorem opTable_modSlot (d : Dev) (s : Nat) (f : FwSlot → FwSlot) : (modSlot d s f).opTable = d.opTable := by
  simp [modSlot]

@[simp] theorem opTable_fwResult (d : Dev) (r : Nat) : (fwResult d r).opTable = d.opTable := by
  simp [fwResult]

@[simp] theorem opTable_fwErase (d : Dev) : (fwErase d).opTable = d.opTable := by
  unfold fwErase; dsimp only; (repeat' split) <;> (first | rfl | (simp; done))

@[simp] theorem opTable_fwWriteRefused (d : Dev) (bs : List Byte) (osn : Nat) : (fwWriteRefused d bs osn).opTable = d.opTable := by
  simp [fwWriteRefused]

@[simp] theorem opTable_fwWrite (d : Dev) (bs : List Byte) : (fwWrite d bs).opTable = d.opTable := by
  unfold fwWrite; (repeat' split) <;> (first | rfl | (simp; done) | (simp_all; done))

@[simp] theorem opTable_fwVerify (d : Dev) : (fwVerify d).opTable = d.opTable := by
  unfold fwVerify; dsimp only; (repeat' split) <;> (first | rfl | (simp; done))

@[simp] theorem opTable_fwConfirm (d : Dev) (osn : Nat) : (fwConfirm d osn).opTable = d.opTable := by
  simp [fwConfirm]

@[simp] theorem opTable_fwAutoConfirm (d : Dev) : (fwAutoConfirm d).opTable = d.opTable := by
  simp [fwAutoConfirm]

@[simp] theorem opTable_fwSwitch (d : Dev) (osn : Nat) : (fwSwitch d osn).opTable = d.opTable := by
  simp [fwSwitch]

@[simp] theorem opTable_fwTry (d : Dev) (s : Nat) : ((fwTry d s)).opTable = d.opTable := by
  unfold fwTry; try dsimp only
  (repeat' split) <;> (first | rfl | (simp; done))

@[simp] theorem opTable_fwEdge (d : Dev) : (fwEdge d).opTable = d.opTable := by
  unfold fwEdge; split <;> simp [fwTry]

@[simp] theorem opTable_fwStart (d : Dev) (ok : Bool) (gapUs : Nat) : (fwStart d ok gapUs).opTable = d.opTable := by
  simp [fwStart, fwTry]

@[simp] theorem opTable_fwBoot (d : Dev) (watchdog bad : Bool) : (fwBoot d watchdog bad).opTable = d.opTable := by
  unfold fwBoot; dsimp only; (repeat' split) <;> (first | rfl | (simp; done))

@[simp] theorem opTable_canCount (d : Dev) (b : Bus) (i : Nat) : (canCount d b i).opTable = d.opTable := by
  simp [canCount]

@[simp] theorem opTable_heartbeatProduce (d : Dev) : (heartbeatProduce d).opTable = d.opTable := by
  simp [heartbeatProduce]

@[simp] theorem opTable_modHb (d : Dev) (i : Nat) (f : HbEntry → HbEntry) : (modHb d i f).opTable = d.opTable := by
  simp [modHb]

@[simp] theorem opTable_heartbeatReceived (d : Dev) (b : Bus) (node : BitVec 8) : (heartbeatReceived d b node).opTable = d.opTable := by
  unfold heartbeatReceived; dsimp only; (repeat' split) <;> (first | rfl | (simp; done))

@[simp] theorem opTable_canErrorActive (d : Dev) (b : Bus) : (canErrorActive d b).opTable = d.opTable := by
  simp [canErrorActive]

@[simp] theorem opTable_canRecovery (d : Dev) (b : Bus) : (canRecovery d b).opTable = d.opTable := by
  simp [canRecovery]

@[simp] theorem opTable_canRxOverrun (d : Dev) (b : Bus) : (canRxOverrun d b).opTable = d.opTable := by
  simp [canRxOverrun]

@[simp] theorem opTable_idConflictResume (d : Dev) (b : Bus) : (idConflictResume d b).opTable = d.opTable := by
  simp [idConflictResume]

@[simp] theorem opTable_activeBusSwitch (d : Dev) : (activeBusSwitch d).opTable = d.opTable := by
  simp [activeBusSwitch]

@[simp] theorem opTable_ldosFollow (o d : Dev) : (ldosFollow o d).opTable = d.opTable := by
  simp [ldosFollow]

@[simp] theorem opTable_settleSettings (d : Dev) : (settleSettings d).opTable = d.opTable := by
  simp [settleSettings]

@[simp] theorem opTable_phasesUnknown (d : Dev) : (phasesUnknown d).opTable = d.opTable := by
  simp [phasesUnknown]

@[simp] theorem opTable_bootSupervisor (d : Dev) (x : BootInputs) : (bootSupervisor d x).opTable = d.opTable := by
  simp [bootSupervisor]

@[simp] theorem opTable_bootEvents (d : Dev) : (bootEvents d).opTable = d.opTable := by
  simp [bootEvents]

@[simp] theorem opTable_bootLoad (d : Dev) : (bootLoad d).opTable = d.opTable := by
  simp [bootLoad]

@[simp] theorem opTable_bootRun (d : Dev) : (bootRun d).opTable = d.opTable := by
  simp [bootRun]

@[simp] theorem opTable_leaveKeep (d : Dev) : (leaveKeep d).opTable = d.opTable := by
  simp [leaveKeep]

@[simp] theorem opTable_ppReturn (d : Dev) : (ppReturn d).opTable = d.opTable := by
  simp [ppReturn]

@[simp] theorem opTable_economyExit (d : Dev) : (economyExit d).opTable = d.opTable := by
  simp [economyExit]

@[simp] theorem opTable_sysFollow (d : Dev) : ((sysFollow d)).opTable = d.opTable := by
  unfold sysFollow; try dsimp only
  (repeat' split) <;> (first | rfl | (simp; done))

@[simp] theorem opTable_supervisorResume (d : Dev) : (supervisorResume d).opTable = d.opTable := by
  simp [supervisorResume]

@[simp] theorem opTable_ioSupply (d : Dev) (h : Bool) (up : Bool) : (ioSupply d h up).opTable = d.opTable := by
  simp [ioSupply]

@[simp] theorem opTable_autoUpEdge (d : Dev) : (autoUpEdge d).opTable = d.opTable := by
  simp [autoUpEdge]

@[simp] theorem opTable_modTw (d : Dev) (t : TwPort) (f : TwTarget → TwTarget) : (modTw d t f).opTable = d.opTable := by
  unfold modTw; (repeat' split) <;> (first | rfl | (simp; done) | (simp_all; done))

@[simp] theorem opTable_stateView (d : Dev) (e : Nat) : (stateView d e).2.opTable = d.opTable := by
  unfold stateView; dsimp only; (repeat' split) <;> (first | rfl | (simp; done))

theorem opTable_roBytes (d : Dev) (key : Nat) (r : List Byte × Dev) (h : d.roBytes key = some r) : r.2.opTable = d.opTable := by
  unfold roBytes at h
  split at h <;> first | (cases h; done) | (cases h; first | rfl | exact opTable_stateView d _ | exact opTable_logWindow d _ | exact opTable_nonceDraw d _)

@[simp] theorem opTable_readClears (d : Dev) (key : Nat) : (readClears d key).opTable = d.opTable := by
  unfold readClears; dsimp only; (repeat' split) <;> (first | rfl | (simp; done))

@[simp] theorem opTable_readObj (d : Dev) (key : Nat) : (d.readObj key).2.opTable = d.opTable := by
  unfold readObj
  split
  · rfl
  · split
    · exact opTable_roBytes d key _ ‹_›
    · simp

@[simp] theorem opTable_withWrite (d : Dev) (key : Nat) (v : Val) : (withWrite d key v).opTable = d.opTable := by
  simp [withWrite]

@[simp] theorem opTable_xferStart (d : Dev) (lb : Bool) (bs : List Byte) : (xferStart d lb bs).opTable = d.opTable := by
  simp [xferStart]

@[simp] theorem opTable_twEvent (d : Dev) (t : TwPort) (code osn : Nat) : (twEvent d t code osn).opTable = d.opTable := by
  unfold twEvent; dsimp only; (repeat' split) <;> (first | rfl | (simp; done))

@[simp] theorem opTable_twFault (d : Dev) (t : TwPort) (bit code osn : Nat) : (twFault d t bit code osn).opTable = d.opTable := by
  simp [twFault]

@[simp] theorem opTable_turnedAway (d : Dev) (p : Src) (g : Gate) : (turnedAway d p g).opTable = d.opTable := by
  unfold turnedAway; dsimp only; (repeat' split) <;> (first | rfl | (simp; done))

@[simp] theorem opTable_answerWrite (d : Dev) (p : Src) (key : Nat) (r : Reason) (osn : Nat) : (answerWrite d p key r osn).opTable = d.opTable := by
  unfold answerWrite; (repeat' split) <;> (first | rfl | (simp; done) | (simp_all; done))

@[simp] theorem opTable_noteLast (d : Dev) (p : Src) (osn : Nat) (r : Reason) : (noteLast d p osn r).opTable = d.opTable := by
  unfold noteLast; dsimp only; (repeat' split) <;> (first | rfl | (simp; done))

@[simp] theorem opTable_holdWrite (d : Dev) (key : Nat) (v : Val) : (holdWrite d key v).opTable = d.opTable := by
  unfold holdWrite; (repeat' split) <;> (first | rfl | (simp; done) | (simp_all; done))

@[simp] theorem opTable_railAct (d : Dev) (a : Act) (p : Src) (n key : Nat) (v : Val) (osn : Nat) : (railAct d a p n key v osn).opTable = d.opTable := by
  unfold railAct; dsimp only; (repeat' split) <;> (first | rfl | (simp; done))

@[simp] theorem opTable_engAct (d : Dev) (a : Act) (p : Src) (e key : Nat) (v : Val) (osn : Nat) : (engAct d a p e key v osn).opTable = d.opTable := by
  unfold engAct
  cases a <;> first | (simp; done) | (dsimp only; split <;> simp; done) | (dsimp only; repeat' split <;> simp)

@[simp] theorem opTable_boardAct (d : Dev) (a : Act) (i key : Nat) (v : Val) (osn : Nat) : (boardAct d a i key v osn).opTable = d.opTable := by
  unfold boardAct; dsimp only; (repeat' split) <;> (first | rfl | (simp; done))

@[simp] theorem opTable_refusedAct (d : Dev) (p : Src) (key : Nat) (v : Val) (r : Reason) (osn : Nat) : (refusedAct d p key v r osn).opTable = d.opTable := by
  unfold refusedAct; dsimp only; (repeat' split) <;> (first | rfl | (simp; done))

@[simp] theorem opTable_clearStaged (d : Dev) (key : Nat) (r : Reason) : (clearStaged d key r).opTable = d.opTable := by
  simp [clearStaged]

@[simp] theorem opTable_recordApart (d : Dev) (p : Src) (osn : Nat) (x : Part) : (recordApart d p osn x).opTable = d.opTable := by
  simp [recordApart]

@[simp] theorem opTable_railTemp (d : Dev) (n : Nat) : (railTemp d n).2.opTable = d.opTable := by
  unfold railTemp; (repeat' split) <;> (first | rfl | (simp; done) | (simp_all; done))

@[simp] theorem opTable_avsAnswer (d : Dev) (code : Nat) (value : Int) : (avsAnswer d code value).opTable = d.opTable := by
  simp [avsAnswer]

@[simp] theorem opTable_avsCount (d : Dev) : (avsCount d).opTable = d.opTable := by
  simp [avsCount]

@[simp] theorem opTable_avsGo (n : Nat) (w : AvsWrite) (osn : Nat) (d : Dev) : (avsGo n w osn d).opTable = d.opTable := by
  unfold avsGo; dsimp only; (repeat' split) <;> (first | rfl | (simp; done))

@[simp] theorem opTable_avsNo (n : Nat) (w : AvsWrite) (o : Nat) (d : Dev) : (avsNo n w o d).opTable = d.opTable := by
  simp [avsNo]

@[simp] theorem opTable_avsWait (d : Dev) (w : AvsWrite) : (avsWait d w).opTable = d.opTable := by
  simp [avsWait]

theorem opTable_avsValue (d : Dev) (n type : Nat) (r : Int × Dev) (h : d.avsValue n type = some r) : r.2.opTable = d.opTable := by
  unfold avsValue at h
  split at h <;> first | (cases h; rfl) | (cases h; exact opTable_railTemp d n) | cases h

@[simp] theorem opTable_avsReply (d : Dev) (sel type : Nat) : (avsReply d sel type).opTable = d.opTable := by
  unfold avsReply
  split
  · next x h =>
    obtain ⟨n, -, h⟩ := Option.bind_eq_some_iff.mp h
    simp [opTable_avsValue d n type x h]
  · simp

@[simp] theorem opTable_avsBadCrc (d : Dev) : (avsBadCrc d).opTable = d.opTable := by
  simp [avsBadCrc]

@[simp] theorem opTable_pmbBad (d : Dev) (t : TwPort) (bit code : Nat) (a : Answer) : (pmbBad d t bit code a).opTable = d.opTable := by
  simp [pmbBad]

@[simp] theorem opTable_pmbUnsupported (d : Dev) (t : TwPort) : (pmbUnsupported d t).opTable = d.opTable := by
  simp [pmbUnsupported]

@[simp] theorem opTable_pmbData (d : Dev) (x : TwFrame) (code : Nat) (bs : List Byte) : (pmbData d x code bs).opTable = d.opTable := by
  simp [pmbData]

@[simp] theorem opTable_clearPage (d : Dev) (t : TwPort) (pg : Nat) : (clearPage d t pg).opTable = d.opTable := by
  simp [clearPage]

@[simp] theorem opTable_statusClear (d : Dev) (pg : Nat) (r : StReg) (b : Byte) : (statusClear d pg r b).opTable = d.opTable := by
  simp [statusClear]

@[simp] theorem opTable_unsupportedCommand (d : Dev) (t : TwPort) (code : Nat) : (unsupportedCommand d t code).opTable = d.opTable := by
  unfold unsupportedCommand; dsimp only
  split
  · rfl
  · unfold atPort; split <;> simp

@[simp] theorem opTable_quickCommand (d : Dev) (t : TwPort) : (quickCommand d t).opTable = d.opTable := by
  simp [quickCommand]

@[simp] theorem opTable_alertResponse (d : Dev) (won pec : Bool) : (alertResponse d won pec).opTable = d.opTable := by
  simp [alertResponse]

@[simp] theorem opTable_targetTimeout (d : Dev) (t : TwPort) : (targetTimeout d t).opTable = d.opTable := by
  simp [targetTimeout]

@[simp] theorem opTable_unexpectedStart (d : Dev) (t : TwPort) : (unexpectedStart d t).opTable = d.opTable := by
  simp [unexpectedStart]

@[simp] theorem opTable_bulkPoint (d : Dev) (t : TwPort) (a : Nat) : (bulkPoint d t a).opTable = d.opTable := by
  simp [bulkPoint]

@[simp] theorem opTable_bulkNack (d : Dev) (t : TwPort) (code : Nat) : (bulkNack d t code).opTable = d.opTable := by
  simp [bulkNack]

@[simp] theorem opTable_windowBytes (d : Dev) (t : TwPort) (as : List Nat) : (d.windowBytes t as).2.2.opTable = d.opTable := by
  unfold windowBytes; dsimp only; repeat' split
  all_goals simp

@[simp] theorem opTable_coefStore (ws : List (Nat × List Byte)) (d : Dev) : (coefStore ws d).opTable = d.opTable := by
  simp [coefStore]

@[simp] theorem opTable_bulkWrote (d : Dev) (t : TwPort) (last : Nat) (bs : List Byte) : (bulkWrote d t last bs).opTable = d.opTable := by
  simp [bulkWrote]

@[simp] theorem opTable_bulkRefused (t : TwPort) (osn : Nat) (d : Dev) : (bulkRefused t osn d).opTable = d.opTable := by
  simp [bulkRefused]

@[simp] theorem opTable_ctrlEvent (d : Dev) (lb : Bool) (code : Nat) : (ctrlEvent d lb code).opTable = d.opTable := by
  unfold ctrlEvent; dsimp only; (repeat' split) <;> (first | rfl | (simp; done))

@[simp] theorem opTable_modCtrl (d : Dev) (lb : Bool) (f : TwCtrl → TwCtrl) : (modCtrl d lb f).opTable = d.opTable := by
  simp [modCtrl]

@[simp] theorem opTable_xferFail (d : Dev) (lb : Bool) (code : Nat) : (xferFail d lb code).opTable = d.opTable := by
  simp [xferFail]

@[simp] theorem opTable_xferComplete (d : Dev) (lb : Bool) (status : Nat) (bs : List Byte) : (xferComplete d lb status bs).opTable = d.opTable := by
  simp [xferComplete]

@[simp] theorem opTable_jobError (d : Dev) (code : Nat) (over_ : Bool) : ((jobError d code over_)).opTable = d.opTable := by
  unfold jobError; try dsimp only
  (repeat' split) <;> (first | rfl | (simp; done))

@[simp] theorem opTable_busError (d : Dev) (lb : Bool) : (busError d lb).opTable = d.opTable := by
  simp [busError]

@[simp] theorem opTable_controllerTimeout (d : Dev) (lb : Bool) : (controllerTimeout d lb).opTable = d.opTable := by
  simp [controllerTimeout]

@[simp] theorem opTable_arbitrationLost (d : Dev) (lb own : Bool) : (arbitrationLost d lb own).opTable = d.opTable := by
  simp [arbitrationLost]

@[simp] theorem opTable_lbStuck (d : Dev) (lb : Bool) : (lbStuck d lb).opTable = d.opTable := by
  simp [lbStuck]

@[simp] theorem opTable_busRecovery (d : Dev) (lb freed sclLow : Bool) : (busRecovery d lb freed sclLow).opTable = d.opTable := by
  simp [busRecovery]

@[simp] theorem opTable_stageStatusRead (d : Dev) (p : Nat) (x : StageAnswer) : (stageStatusRead d p x).opTable = d.opTable := by
  unfold stageStatusRead; dsimp only; (repeat' split) <;> simp

@[simp] theorem opTable_lbAlertOne (d : Dev) (x : BitVec 7 × BitVec 16) : (lbAlertOne d x).opTable = d.opTable := by
  simp [lbAlertOne]

@[simp] theorem opTable_lbAlertService (d : Dev) (xs : List (BitVec 7 × BitVec 16)) (released : Bool) : (lbAlertService d xs released).opTable = d.opTable := by
  simp [lbAlertService]

@[simp] theorem opTable_addFrames (d : Dev) (fs : List (Nat × List Byte)) : (addFrames d fs).opTable = d.opTable := by
  unfold addFrames; (repeat' split) <;> (first | rfl | (simp; done) | (simp_all; done))

@[simp] theorem opTable_rpdoHold (d : Dev) (b : Bus) (r : Nat) (bs : List Byte) : (rpdoHold d b r bs).opTable = d.opTable := by
  unfold rpdoHold; split <;> simp

@[simp] theorem opTable_tpdoSend (d : Dev) (r : Nat) : (tpdoSend d r).opTable = d.opTable := by
  simp [tpdoSend]

@[simp] theorem opTable_tpdoTimer (d : Dev) (r : Nat) : (tpdoTimer d r).opTable = d.opTable := by
  simp [tpdoTimer]

@[simp] theorem opTable_tpdoInhibitEnd (d : Dev) (r : Nat) : (tpdoInhibitEnd d r).opTable = d.opTable := by
  simp [tpdoInhibitEnd]

@[simp] theorem opTable_tpdoEdge (d : Dev) (r : Nat) : (tpdoEdge d r).opTable = d.opTable := by
  simp [tpdoEdge]

@[simp] theorem opTable_bxtOut (d : Dev) (b : Bus) (bs : List Byte) : (bxtOut d b bs).opTable = d.opTable := by
  simp [bxtOut]

@[simp] theorem opTable_modBxt (d : Dev) (b : Bus) (f : Bxt → Bxt) : (modBxt d b f).opTable = d.opTable := by
  simp [modBxt]

@[simp] theorem opTable_bxtRefuse (d : Dev) (b : Bus) (tag kind idx off len : Nat) (r : Reason) :
    (bxtRefuse d b tag kind idx off len r).opTable = d.opTable := by
  simp [bxtRefuse]

@[simp] theorem opTable_bxtBytes (d : Dev) (u : Bus) (kind unit idx off n : Nat) : (bxtBytes d u kind unit idx off n).2.opTable = d.opTable := by
  unfold bxtBytes; dsimp only; (repeat' split) <;> (first | rfl | (simp; done))

@[simp] theorem opTable_bxtSend (d : Dev) (b : Bus) (c : Nat) : (bxtSend d b c).opTable = d.opTable := by
  simp [bxtSend]

@[simp] theorem opTable_bxtDataFrame (d : Dev) (b : Bus) (tag c : Nat) (bs : List Byte) : (bxtDataFrame d b tag c bs).opTable = d.opTable := by
  simp [bxtDataFrame]

end Sys2Proof.Machine.Dev
end

