-- ==== Sys2Proof/Laws/OpKept.lean ====
section
/-! SUPPORT. A sound operation table stays sound (R375, R376, R379): one lemma for each operation of the machine that
enters an operation, ends one, or clears the table. -/

set_option Elab.async false

namespace Sys2Proof.Machine.Dev

set_option maxRecDepth 4000

theorem sound_nil (n : Nat) (h : 1 ≤ n ∧ n ≤ 4294967295) : tableSound ([], n) := ⟨h, by simp⟩

@[simp] theorem sound_foldl {α : Type} (f : Dev → α → Dev) (l : List α) (d : Dev) (h : ∀ d x, tableSound d.opTable → tableSound (f d x).opTable) (hd : tableSound d.opTable) :
    tableSound (l.foldl f d).opTable := by
  induction l generalizing d with
  | nil => exact hd
  | cons x l ih => exact ih _ (h _ _ hd)

@[simp] theorem sound_forUnits (n : Nat) (f : Nat → Dev → Dev) (d : Dev) (h : ∀ i d, tableSound d.opTable → tableSound (f i d).opTable) (hd : tableSound d.opTable) :
    tableSound (forUnits n f d).opTable := sound_foldl _ _ _ (fun d i => h i d) hd

theorem mem_dropOldest {p : Src} {l : List OpEntry} {e : OpEntry} (h : e ∈ dropOldest p l) : e ∈ l := by
  unfold dropOldest at h; split at h
  · exact h
  · exact List.mem_of_mem_eraseP h

theorem nextNo_range (x : Nat) : 1 ≤ nextNo x ∧ nextNo x ≤ 4294967295 := by unfold nextNo; split <;> omega

@[simp] theorem sound_reserve (d : Dev) (p : Src) (key : Nat) (h : tableSound d.opTable) : tableSound (d.reserve p key).opTable := by
  refine ⟨h.1, ?_⟩
  intro e he
  simp only [reserve, opTable, List.mem_append, List.mem_singleton] at he
  rcases he with he | rfl
  · exact h.2 e (mem_dropOldest he)
  · exact ⟨.inl ⟨rfl, rfl⟩, by simp⟩

@[simp] theorem sound_unreserve (d : Dev) (p : Src) (key : Nat) (h : tableSound d.opTable) : tableSound (d.unreserve p key).opTable :=
  ⟨h.1, fun e he => h.2 e (List.mem_of_mem_eraseP he)⟩

@[simp] theorem sound_enterWith (d : Dev) (p : Src) (key : Nat) (st : OpState) (r : Reason) (first : List Byte)
    (hs : st = .running ∨ st = .done ∨ st = .refused) (hr : st = .refused ↔ r ≠ .none) (h : tableSound d.opTable) :
    tableSound (d.enterWith p key st r first).opTable := by
  refine ⟨nextNo_range _, ?_⟩
  intro e he
  simp only [enterWith, opTable, List.mem_append, List.mem_singleton] at he
  rcases he with he | rfl
  · exact h.2 e (mem_dropOldest he)
  · exact ⟨.inr ⟨h.1, hs⟩, hr⟩

@[simp] theorem sound_enter (d : Dev) (p : Src) (key : Nat) (st : OpState) (r : Reason)
    (hs : st = .running ∨ st = .done ∨ st = .refused) (hr : st = .refused ↔ r ≠ .none) (h : tableSound d.opTable) :
    tableSound (d.enter p key st r).opTable := sound_enterWith d p key st r [] hs hr h

@[simp] theorem sound_endOp (d : Dev) (key : Nat) (r : Reason) (h : tableSound d.opTable) : tableSound (d.endOp key r).opTable := by
  unfold endOp
  dsimp only
  rw [opTable_foldl _ _ _ (by intro d x; (repeat' split) <;> simp)]
  refine ⟨h.1, ?_⟩
  intro e he
  simp only [opTable, List.mem_map] at he
  obtain ⟨a, ha, rfl⟩ := he
  have hs := h.2 a ha
  split
  · next hm =>
    have hrun : a.st = .running := by simp only [Bool.and_eq_true, beq_iff_eq] at hm; exact hm.2
    rcases hs.1 with hw | hw
    · simp [hrun] at hw
    · refine ⟨.inr ⟨hw.1, ?_⟩, ?_⟩
      · dsimp only; split <;> simp
      · dsimp only; split <;> simp_all
  · exact hs

@[simp] theorem sound_retryEnable (d : Dev) (u : Nat) (hd : tableSound d.opTable) : tableSound (retryEnable d u).opTable := by
  first
  | (simp [retryEnable, *]; done)
  | (unfold retryEnable; try dsimp only
     (repeat' split) <;> (first | assumption | (simp [*]; done) | (simp_all; done)))

@[simp] theorem sound_checkDone (d : Dev) (e : Nat) (hd : tableSound d.opTable) : tableSound (checkDone d e).opTable := by
  first
  | (simp [checkDone, *]; done)
  | (unfold checkDone; try dsimp only
     (repeat' split) <;> (first | assumption | (simp [*]; done) | (simp_all; done)))

@[simp] theorem sound_libStoreDone (d : Dev) (ok : Bool) (h : tableSound d.opTable) : tableSound (d.libStoreDone ok).opTable := by
  unfold libStoreDone; split
  · exact sound_endOp _ _ _ h
  · exact h

@[simp] theorem sound_faultClose (d : Dev) (h : tableSound d.opTable) : tableSound d.faultClose.opTable := by
  unfold faultClose
  dsimp only
  have h1 := sound_foldl (fun d u => d.enter .seq (K.UNIT_ON u) .done .none) ((List.range 18).filter (fun u => d.unitOn u &&
    d.seqr.groups.testBit (d.nat (K.FAULT_GROUP u)) && !(decide (u ≥ 14) && d.keepRail (u - 14)))) d
    (fun d u h => sound_enter _ _ _ _ _ (by simp) (by simp) h) h
  generalize List.foldl _ d _ = d1 at *
  exact h1

@[simp] theorem sound_progStart (d : Dev) (p : Nat) (byPath : Bool) (groups : Nat) (h : tableSound d.opTable) :
    tableSound (d.progStart p byPath groups).opTable := by
  unfold progStart
  extract_lets a n q1 d1 l2 d2 d3
  have h3 : tableSound d3.opTable := by
    simp only [d3, opTable_seqEvent, d2]
    split <;> exact h
  clear_value d3
  split
  · exact h3
  · split <;> simp [h3]

@[simp] theorem sound_takePath (d : Dev) (h : tableSound d.opTable) : tableSound d.takePath.opTable := by
  unfold takePath
  split
  · exact h
  · dsimp only
    split
    · exact h
    · split <;> refine sound_progStart _ _ _ _ ?_ <;> rw [opTable_progAbandon] <;> exact h

@[simp] theorem sound_takeFault (d : Dev) (h : tableSound d.opTable) : tableSound d.takeFault.opTable := by
  unfold takeFault
  dsimp only
  split
  · exact h
  · split
    · exact sound_progStart _ _ _ _ h
    · refine sound_progStart _ _ _ _ ?_; rw [opTable_progAbandon]; exact h
    · exact h
    · exact h

@[simp] theorem sound_takeDown (d : Dev) (h : tableSound d.opTable) : tableSound d.takeDown.opTable := by
  unfold takeDown
  split
  · dsimp only
    split
    · exact sound_progStart _ _ _ _ h
    · refine sound_progStart _ _ _ _ ?_; rw [opTable_progAbandon]; exact h
    · rw [opTable_cause]; exact h
    · exact h
  · exact h

@[simp] theorem sound_takeUp (d : Dev) (h : tableSound d.opTable) : tableSound d.takeUp.opTable := by
  unfold takeUp
  split
  · dsimp only
    split
    · split
      · exact sound_progStart _ _ _ _ h
      · rw [opTable_cause]; exact h
    · exact h
    · rw [opTable_cause]; exact h
  · exact h

@[simp] theorem sound_seqEdge (d : Dev) (h : tableSound d.opTable) : tableSound d.seqEdge.opTable := by
  unfold seqEdge
  dsimp only
  have h1 : tableSound d.outEdge.opTable := by simpa using h
  generalize d.outEdge = x at *
  split
  · have h2 : tableSound ({ x with seqr := { x.seqr with held := false } } : Dev).sqiFirst.stepEdge.opTable := by
      rw [opTable_stepEdge, opTable_sqiFirst]; exact h1
    exact sound_takeUp _ (sound_takeDown _ (sound_takeFault _ (sound_takePath _ h2)))
  · exact h1

@[simp] theorem sound_onTimeout (d : Dev) (h : tableSound d.opTable) : tableSound d.onTimeout.opTable := by
  unfold onTimeout
  dsimp only
  split
  · rw [opTable_startDelay]; exact h
  · split
    · rw [opTable_progAbandon]; exact h
    · split
      · exact sound_takeFault _ (sound_takePath _ (by rw [opTable_faultRequest]; exact h))
      · rw [opTable_startDelay, opTable_faultRequest]; exact h

@[simp] theorem sound_stepRefused (d : Dev) (key : Nat) (r : Reason) (hr : r ≠ .none) (h : tableSound d.opTable) : tableSound (d.stepRefused key r).opTable := by
  unfold stepRefused; simp [hr, h]

@[simp] theorem sound_seqSwitch (d : Dev) (kind : Nat) (v : Int) (hd : tableSound d.opTable) : tableSound (seqSwitch d kind v).opTable := by
  first
  | (simp [seqSwitch, *]; done)
  | (unfold seqSwitch; try dsimp only
     (repeat' split) <;> (first | assumption | (simp [*]; done) | (simp_all; done)))

@[simp] theorem sound_seqEnable (d : Dev) (hd : tableSound d.opTable) : tableSound (seqEnable d).opTable := by
  first
  | (simp [seqEnable, *]; done)
  | (unfold seqEnable; try dsimp only
     (repeat' split) <;> (first | assumption | (simp [*]; done) | (simp_all; done)))

@[simp] theorem sound_seqDisable (d : Dev) (hd : tableSound d.opTable) : tableSound (seqDisable d).opTable := by
  first
  | (simp [seqDisable, *]; done)
  | (unfold seqDisable; try dsimp only
     (repeat' split) <;> (first | assumption | (simp [*]; done) | (simp_all; done)))

@[simp] theorem sound_seqSetVout (d : Dev) (hd : tableSound d.opTable) : tableSound (seqSetVout d).opTable := by
  first
  | (simp [seqSetVout, *]; done)
  | (unfold seqSetVout; try dsimp only
     (repeat' split) <;> (first | assumption | (simp [*]; done) | (simp_all; done)))

@[simp] theorem sound_seqOut (d : Dev) (hd : tableSound d.opTable) : tableSound (seqOut d).opTable := by
  first
  | (simp [seqOut, *]; done)
  | (unfold seqOut; try dsimp only
     (repeat' split) <;> (first | assumption | (simp [*]; done) | (simp_all; done)))

@[simp] theorem sound_seqSignal (d : Dev) (hd : tableSound d.opTable) : tableSound (seqSignal d).opTable := by
  first
  | (simp [seqSignal, *]; done)
  | (unfold seqSignal; try dsimp only
     (repeat' split) <;> (first | assumption | (simp [*]; done) | (simp_all; done)))

@[simp] theorem sound_seqStepTimeout (d : Dev) (hd : tableSound d.opTable) : tableSound (seqStepTimeout d).opTable := by
  first
  | (simp [seqStepTimeout, *]; done)
  | (unfold seqStepTimeout; try dsimp only
     (repeat' split) <;> (first | assumption | (simp [*]; done) | (simp_all; done)))

@[simp] theorem sound_meeting (d : Dev) (l : List Nat) (f : Dev → Dev) (hf : ∀ d, tableSound d.opTable → tableSound (f d).opTable)
    (h : tableSound d.opTable) : tableSound (d.meeting l f).opTable := by
  unfold meeting; split
  · exact hf d h
  · exact hf _ h

@[simp] theorem sound_clearEnd (d : Dev) (h : tableSound d.opTable) : tableSound d.clearEnd.opTable := sound_endOp _ _ _ h

@[simp] theorem sound_clearStep (d : Dev) (hd : tableSound d.opTable) : tableSound ((clearStep d)).opTable := by
  first
  | (simp [clearStep, *]; done)
  | (unfold clearStep; try dsimp only
     (repeat' split) <;> (first | assumption | (simp [*]; done) | (simp_all; done)))

@[simp] theorem sound_clearCount (d : Dev) (h : tableSound d.opTable) : tableSound d.clearCount.opTable := sound_clearStep _ h

@[simp] theorem sound_logRecordWrite (d : Dev) (ok : Bool) (hd : tableSound d.opTable) : tableSound ((logRecordWrite d ok)).opTable := by
  first
  | (simp [logRecordWrite, *]; done)
  | (unfold logRecordWrite; try dsimp only
     (repeat' split) <;> (first | assumption | (simp [*]; done) | (simp_all; done)))

@[simp] theorem sound_logClearDone (d : Dev) (hd : tableSound d.opTable) : tableSound (logClearDone d).opTable := by
  first
  | (simp [logClearDone, *]; done)
  | (unfold logClearDone; try dsimp only
     (repeat' split) <;> (first | assumption | (simp [*]; done) | (simp_all; done)))

@[simp] theorem sound_setSdo (d : Dev) (b : Bus) (x : Sdo) (hd : tableSound d.opTable) : tableSound ((setSdo d b x)).opTable := by
  first
  | (simp [setSdo, *]; done)
  | (unfold setSdo; try dsimp only
     (repeat' split) <;> (first | assumption | (simp [*]; done) | (simp_all; done)))

@[simp] theorem sound_enterKeep (d : Dev) (h : tableSound d.opTable) : tableSound d.enterKeep.opTable := by
  unfold enterKeep
  dsimp only
  have h1 : tableSound (forUnits 18 (fun u d =>
    if d.unitOn u && !(decide (u ≥ 14) && d.keepRail (u - 14)) then
      ((d.enter .seq (K.UNIT_ON u) .done .none).unitOff u).stBit u .inp 3 true
    else d) d.economyLeave).allMid.opTable := by
    rw [opTable_allMid]
    apply sound_forUnits
    · intro i d h; split
      · simp [h]
      · exact h
    · simpa using h
  generalize (forUnits 18 (fun u d =>
    if d.unitOn u && !(decide (u ≥ 14) && d.keepRail (u - 14)) then
      ((d.enter .seq (K.UNIT_ON u) .done .none).unitOff u).stBit u .inp 3 true
    else d) d.economyLeave).allMid = d1 at *
  rw [opTable_cause, opTable_lilFollow, opTable_clockFollow, opTable_enginesIdle, opTable_mk]
  exact h1

@[simp] theorem sound_seqProgramEnd (d : Dev) (h : tableSound d.opTable) : tableSound d.seqProgramEnd.opTable := by
  unfold seqProgramEnd
  have hk := sound_enterKeep d h
  generalize d.enterKeep = k at *
  dsimp only
  split
  · rw [opTable_progDone]
    split
    · exact sound_faultClose _ h
    · split
      · rw [opTable_cause]; exact hk
      · exact h
  · exact h

@[simp] theorem sound_keepAtOnce (d : Dev) (hd : tableSound d.opTable) : tableSound (keepAtOnce d).opTable := by
  first
  | (simp [keepAtOnce, *]; done)
  | (unfold keepAtOnce; try dsimp only
     (repeat' split) <;> (first | assumption | (simp [*]; done) | (simp_all; done)))

@[simp] theorem sound_edgeDecide (d : Dev) (t : Nat) (h : tableSound d.opTable) : tableSound (d.edgeDecide t).opTable := by
  unfold edgeDecide
  apply sound_keepAtOnce
  simp only [opTable_tickoutEdge, opTable_economyEdge, opTable_chargerSpread, opTable_pfwFollow, opTable_chargeEdge, opTable_spreadEdge,
    opTable_modSg, implies_true, opTable_forUnits]
  apply sound_seqEdge
  simpa using h

@[simp] theorem sound_tickEdge (d : Dev) (x : EdgeSamples) (h : tableSound d.opTable) : tableSound (d.tickEdge x).opTable := by
  unfold tickEdge
  split
  · dsimp only
    rw [opTable_tmWaiting, opTable_capEdge, opTable_setNum, opTable_commitEvents]
    apply sound_edgeDecide
    simpa using h
  · exact h

@[simp] theorem sound_keepEdge (d : Dev) (h : tableSound d.opTable) : tableSound d.keepEdge.opTable := by
  unfold keepEdge
  split
  · rw [opTable_commitEvents, opTable_chargeEdge]
    apply sound_seqEdge
    simpa using h
  · exact h

@[simp] theorem sound_storeFail (d : Dev) (r : Reason) (failed : Bool) (hd : tableSound d.opTable) : tableSound (storeFail d r failed).opTable := by
  first
  | (simp [storeFail, *]; done)
  | (unfold storeFail; try dsimp only
     (repeat' split) <;> (first | assumption | (simp [*]; done) | (simp_all; done)))

@[simp] theorem sound_storeFlip (d : Dev) (hd : tableSound d.opTable) : tableSound (storeFlip d).opTable := by
  first
  | (simp [storeFlip, *]; done)
  | (unfold storeFlip; try dsimp only
     (repeat' split) <;> (first | assumption | (simp [*]; done) | (simp_all; done)))

@[simp] theorem sound_storeDone (d : Dev) (verified : Bool) (hd : tableSound d.opTable) : tableSound (storeDone d verified).opTable := by
  first
  | (simp [storeDone, *]; done)
  | (unfold storeDone; try dsimp only
     (repeat' split) <;> (first | assumption | (simp [*]; done) | (simp_all; done)))

@[simp] theorem sound_restoreDone (d : Dev) (h : tableSound d.opTable) : tableSound d.restoreDone.opTable := by
  unfold restoreDone; split
  · dsimp only
    have h1 : ∀ (l : List (Nat × Val)) (x : Dev), x.opTable = d.opTable → tableSound (l.foldl restoreOne x).opTable := by
      intro l x hx
      rw [opTable_foldl _ _ _ (fun d x => opTable_restoreOne d x), hx]; exact h
    split
    · rw [opTable_causeArg, opTable_causeOsn]; exact sound_endOp _ _ _ (h1 _ _ rfl)
    · rw [opTable_causeOsn]; exact sound_endOp _ _ _ (h1 _ _ rfl)
  · exact h

@[simp] theorem sound_fwEraseDone (d : Dev) (hd : tableSound d.opTable) : tableSound (fwEraseDone d).opTable := by
  first
  | (simp [fwEraseDone, *]; done)
  | (unfold fwEraseDone; try dsimp only
     (repeat' split) <;> (first | assumption | (simp [*]; done) | (simp_all; done)))

@[simp] theorem sound_fwVerifyDone (d : Dev) (hd : tableSound d.opTable) : tableSound (fwVerifyDone d).opTable := by
  first
  | (simp [fwVerifyDone, *]; done)
  | (unfold fwVerifyDone; try dsimp only
     (repeat' split) <;> (first | assumption | (simp [*]; done) | (simp_all; done)))

@[simp] theorem sound_onCan (d : Dev) (f : CanFrame) (go : Dev → Dev) (hg : ∀ d, tableSound d.opTable → tableSound (go d).opTable)
    (h : tableSound d.opTable) : tableSound (d.onCan f go).opTable := by
  unfold onCan; (repeat' split) <;> first | exact hg _ h | simpa using h

@[simp] theorem sound_bxtRelease (d : Dev) (b : Bus) (hd : tableSound d.opTable) : tableSound ((bxtRelease d b)).opTable := by
  first
  | (simp [bxtRelease, *]; done)
  | (unfold bxtRelease; try dsimp only
     (repeat' split) <;> (first | assumption | (simp [*]; done) | (simp_all; done)))

@[simp] theorem sound_bxtEnd (d : Dev) (b : Bus) (r : Reason) (hd : tableSound d.opTable) : tableSound ((bxtEnd d b r)).opTable := by
  first
  | (simp [bxtEnd, *]; done)
  | (unfold bxtEnd; try dsimp only
     (repeat' split) <;> (first | assumption | (simp [*]; done) | (simp_all; done)))

@[simp] theorem sound_transfersEnd (d : Dev) (b : Bus) (r : Reason) (hd : tableSound d.opTable) : tableSound ((transfersEnd d b r)).opTable := by
  first
  | (simp [transfersEnd, *]; done)
  | (unfold transfersEnd; try dsimp only
     (repeat' split) <;> (first | assumption | (simp [*]; done) | (simp_all; done)))

@[simp] theorem sound_nmtEnter (d : Dev) (s : Nmt) (h : tableSound d.opTable) : tableSound (d.nmtEnter s).opTable := by
  unfold nmtEnter; dsimp only; split
  · exact h
  · rw [opTable_causeArg]; split
    · exact sound_foldl _ _ _ (fun d b h => sound_transfersEnd d b _ h) h
    · exact h

@[simp] theorem sound_nmtStart (d : Dev) (b : Bus) (node : BitVec 8) (hd : tableSound d.opTable) : tableSound ((nmtStart d b node)).opTable := by
  first
  | (simp [nmtStart, *]; done)
  | (unfold nmtStart; try dsimp only
     (repeat' split) <;> (first | assumption | (simp [*]; done) | (simp_all; done)))

@[simp] theorem sound_nmtStop (d : Dev) (b : Bus) (node : BitVec 8) (hd : tableSound d.opTable) : tableSound ((nmtStop d b node)).opTable := by
  first
  | (simp [nmtStop, *]; done)
  | (unfold nmtStop; try dsimp only
     (repeat' split) <;> (first | assumption | (simp [*]; done) | (simp_all; done)))

@[simp] theorem sound_nmtPreOp (d : Dev) (b : Bus) (node : BitVec 8) (hd : tableSound d.opTable) : tableSound ((nmtPreOp d b node)).opTable := by
  first
  | (simp [nmtPreOp, *]; done)
  | (unfold nmtPreOp; try dsimp only
     (repeat' split) <;> (first | assumption | (simp [*]; done) | (simp_all; done)))

@[simp] theorem sound_nodeStart (d : Dev) (h : tableSound d.opTable) : tableSound d.nodeStart.opTable := by
  unfold nodeStart; dsimp only; rw [opTable_answering]; exact sound_nmtEnter _ _ h

@[simp] theorem sound_nmtResetComm (d : Dev) (b : Bus) (node : BitVec 8) (h : tableSound d.opTable) : tableSound (d.nmtResetComm b node).opTable := by
  unfold nmtResetComm; split
  · extract_lets d0 img d1 d2
    have h0 : tableSound d0.opTable := by
      simp only [d0, opTable_causeArg]
      exact sound_foldl _ _ _ (fun d b h => sound_transfersEnd d b _ h) (by simpa using h)
    clear_value d0
    exact sound_nodeStart _ h0
  · exact h

@[simp] theorem sound_commError (d : Dev) (hd : tableSound d.opTable) : tableSound ((commError d)).opTable := by
  first
  | (simp [commError, *]; done)
  | (unfold commError; try dsimp only
     (repeat' split) <;> (first | assumption | (simp [*]; done) | (simp_all; done)))

@[simp] theorem sound_heartbeatTimeout (d : Dev) (i : Nat) (hd : tableSound d.opTable) : tableSound ((heartbeatTimeout d i)).opTable := by
  first
  | (simp [heartbeatTimeout, *]; done)
  | (unfold heartbeatTimeout; try dsimp only
     (repeat' split) <;> (first | assumption | (simp [*]; done) | (simp_all; done)))

@[simp] theorem sound_canErrorPassive (d : Dev) (b : Bus) (hd : tableSound d.opTable) : tableSound ((canErrorPassive d b)).opTable := by
  first
  | (simp [canErrorPassive, *]; done)
  | (unfold canErrorPassive; try dsimp only
     (repeat' split) <;> (first | assumption | (simp [*]; done) | (simp_all; done)))

@[simp] theorem sound_canBusOff (d : Dev) (b : Bus) (hd : tableSound d.opTable) : tableSound ((canBusOff d b)).opTable := by
  first
  | (simp [canBusOff, *]; done)
  | (unfold canBusOff; try dsimp only
     (repeat' split) <;> (first | assumption | (simp [*]; done) | (simp_all; done)))

@[simp] theorem sound_canTxTimeout (d : Dev) (b : Bus) (hd : tableSound d.opTable) : tableSound ((canTxTimeout d b)).opTable := by
  first
  | (simp [canTxTimeout, *]; done)
  | (unfold canTxTimeout; try dsimp only
     (repeat' split) <;> (first | assumption | (simp [*]; done) | (simp_all; done)))

@[simp] theorem sound_nodeIdConflict (d : Dev) (b : Bus) (hd : tableSound d.opTable) : tableSound ((nodeIdConflict d b)).opTable := by
  first
  | (simp [nodeIdConflict, *]; done)
  | (unfold nodeIdConflict; try dsimp only
     (repeat' split) <;> (first | assumption | (simp [*]; done) | (simp_all; done)))

@[simp] theorem sound_reset (d : Dev) (k x : Nat) : tableSound (d.reset k x).opTable := sound_nil 1 (by omega)

@[simp] theorem sound_powerOnReset (d : Dev) (hd : tableSound d.opTable) : tableSound (powerOnReset d).opTable := by
  first
  | (simp [powerOnReset, *]; done)
  | (unfold powerOnReset; try dsimp only
     (repeat' split) <;> (first | assumption | (simp [*]; done) | (simp_all; done)))

@[simp] theorem sound_coreBrownOut (d : Dev) (sys : Bool) (hd : tableSound d.opTable) : tableSound (coreBrownOut d sys).opTable := by
  first
  | (simp [coreBrownOut, *]; done)
  | (unfold coreBrownOut; try dsimp only
     (repeat' split) <;> (first | assumption | (simp [*]; done) | (simp_all; done)))

@[simp] theorem sound_resetPin (d : Dev) (hd : tableSound d.opTable) : tableSound (resetPin d).opTable := by
  first
  | (simp [resetPin, *]; done)
  | (unfold resetPin; try dsimp only
     (repeat' split) <;> (first | assumption | (simp [*]; done) | (simp_all; done)))

@[simp] theorem sound_supervisorWatchdog (d : Dev) (detail : Nat) (hd : tableSound d.opTable) : tableSound (supervisorWatchdog d detail).opTable := by
  first
  | (simp [supervisorWatchdog, *]; done)
  | (unfold supervisorWatchdog; try dsimp only
     (repeat' split) <;> (first | assumption | (simp [*]; done) | (simp_all; done)))

@[simp] theorem sound_softEdge (d : Dev) (hd : tableSound d.opTable) : tableSound (softEdge d).opTable := by
  first
  | (simp [softEdge, *]; done)
  | (unfold softEdge; try dsimp only
     (repeat' split) <;> (first | assumption | (simp [*]; done) | (simp_all; done)))

@[simp] theorem sound_nmtResetNode (d : Dev) (b : Bus) (node : BitVec 8) (hd : tableSound d.opTable) : tableSound (nmtResetNode d b node).opTable := by
  first
  | (simp [nmtResetNode, *]; done)
  | (unfold nmtResetNode; try dsimp only
     (repeat' split) <;> (first | assumption | (simp [*]; done) | (simp_all; done)))

@[simp] theorem sound_longPressReset (d : Dev) (hd : tableSound d.opTable) : tableSound (longPressReset d).opTable := by
  first
  | (simp [longPressReset, *]; done)
  | (unfold longPressReset; try dsimp only
     (repeat' split) <;> (first | assumption | (simp [*]; done) | (simp_all; done)))

@[simp] theorem sound_shipExit (d : Dev) (hd : tableSound d.opTable) : tableSound (shipExit d).opTable := by
  first
  | (simp [shipExit, *]; done)
  | (unfold shipExit; try dsimp only
     (repeat' split) <;> (first | assumption | (simp [*]; done) | (simp_all; done)))

@[simp] theorem sound_bootSettings (d : Dev) (ecc : List NvmEcc) (hd : tableSound d.opTable) : tableSound ((bootSettings d ecc)).opTable := by
  first
  | (simp [bootSettings, *]; done)
  | (unfold bootSettings; try dsimp only
     (repeat' split) <;> (first | assumption | (simp [*]; done) | (simp_all; done)))

@[simp] theorem sound_bootDevice (d : Dev) (x : BootInputs) (h : tableSound d.opTable) : tableSound (d.bootDevice x).opTable := by
  unfold bootDevice
  extract_lets n d1 d2 d3
  have h1 : tableSound d1.opTable := by simp only [d1]; split <;> simpa using h
  clear_value d1
  have h2 : tableSound d2.opTable := by simp only [d2]; split <;> simp [h1]
  clear_value d2
  have h3 : tableSound d3.opTable := by simp only [d3]; split <;> simp [h2]
  clear_value d3
  split <;> simp [h3]

@[simp] theorem sound_flushEvents (d : Dev) (hd : tableSound d.opTable) : tableSound ((flushEvents d)).opTable := by
  first
  | (simp [flushEvents, *]; done)
  | (unfold flushEvents; try dsimp only
     (repeat' split) <;> (first | assumption | (simp [*]; done) | (simp_all; done)))

@[simp] theorem sound_domeDown (d : Dev) (l : List (Nat × Val)) (h : tableSound d.opTable) : tableSound (d.domeDown l).opTable :=
  sound_nil d.osnNext h.1

@[simp] theorem sound_domeEnter (d : Dev) (osn : Nat) (h : tableSound d.opTable) : tableSound (d.domeEnter osn).opTable := by
  unfold domeEnter
  extract_lets a0 d0 d1 d2
  have h0 : tableSound d0.opTable := h
  clear_value d0
  have h1 : tableSound d1.opTable := by simp [d1, h0]
  clear_value d1
  have h2 : tableSound d2.opTable := by simp [d2, h1]
  clear_value d2
  simp [h2]

@[simp] theorem sound_keepDomeTimeout (d : Dev) (h : tableSound d.opTable) : tableSound d.keepDomeTimeout.opTable := by
  unfold keepDomeTimeout; split
  · exact sound_domeEnter _ _ h
  · exact h

@[simp] theorem sound_wakeDev (d : Dev) (h : tableSound d.opTable) : tableSound d.wakeDev.opTable := sound_nil _ h.1

@[simp] theorem sound_domeWake (d : Dev) (c : WakeCause) (h : tableSound d.opTable) : tableSound (d.domeWake c).opTable := by
  unfold domeWake
  split
  · extract_lets act d0 d1 d2 e3 d3 d4 q5 d5 lf d6
    have h0 : tableSound d0.opTable := by simp only [d0]; split <;> simp [h]
    clear_value d0
    have h1 : tableSound d1.opTable := by simp [d1, h0]
    clear_value d1
    have h2 : tableSound d2.opTable := by simp [d2, h1]
    clear_value d2
    have h3 : tableSound d3.opTable := h2
    clear_value d3
    have h4 : tableSound d4.opTable := by simp [d4, h3]
    clear_value d4
    have h5 : tableSound d5.opTable := h4
    clear_value d5
    have h6 : tableSound d6.opTable := by simpa [d6, lf] using h5
    clear_value d6
    split <;> simp [h6]
  · exact h

@[simp] theorem sound_timerWake (d : Dev) (hd : tableSound d.opTable) : tableSound ((timerWake d)).opTable := by
  first
  | (simp [timerWake, *]; done)
  | (unfold timerWake; try dsimp only
     (repeat' split) <;> (first | assumption | (simp [*]; done) | (simp_all; done)))

@[simp] theorem sound_shipEntry (d : Dev) (hd : tableSound d.opTable) : tableSound ((shipEntry d)).opTable := by
  first
  | (simp [shipEntry, *]; done)
  | (unfold shipEntry; try dsimp only
     (repeat' split) <;> (first | assumption | (simp [*]; done) | (simp_all; done)))

@[simp] theorem sound_atPort (d : Dev) (p : Src) (f : Dev → Dev) (hf : ∀ d, tableSound d.opTable → tableSound (f d).opTable) (h : tableSound d.opTable) : tableSound (d.atPort p f).opTable := by
  unfold atPort; split
  · exact hf d h
  · simpa using h

@[simp] theorem sound_systemAct (d : Dev) (a : Act) (p : Src) (i key : Nat) (v : Val) (osn : Nat) (h : tableSound d.opTable) : tableSound (d.systemAct a p i key v osn).opTable := by
  unfold systemAct; dsimp only; cases a <;> first | (simp only [sound_domeEnter, h]; done) | (simp; exact h) | (dsimp only; split <;> simp [h]; done) | exact h

@[simp] theorem sound_carryOut (d : Dev) (p : Src) (key : Nat) (v : Val) (osn : Nat) (hd : tableSound d.opTable) : tableSound (carryOut d p key v osn).opTable := by
  first
  | (simp [carryOut, *]; done)
  | (unfold carryOut; try dsimp only
     (repeat' split) <;> (first | assumption | (simp [*]; done) | (simp_all; done)))

@[simp] theorem sound_operate (d : Dev) (p : Src) (key : Nat) (first : List Byte) (level : Nat) (run : Bool) (r : Reason) (go refused : Nat → Dev → Dev)
    (hg : ∀ n d, tableSound d.opTable → tableSound (go n d).opTable) (hr : ∀ n d, tableSound d.opTable → tableSound (refused n d).opTable) (h : tableSound d.opTable) :
    tableSound (d.operate p key first level run r go refused).opTable := by
  unfold operate
  dsimp only
  split
  · rename_i e; subst e
    apply hg; split <;> simp only [opTable_recordOp, opTable_noteLast] <;> apply sound_enterWith _ _ _ _ _ _ _ _ h <;> cases run <;> simp
  · apply hr; simp only [opTable_recordOp, opTable_noteLast]; apply sound_enterWith _ _ _ _ _ _ _ _ h <;> simp_all

@[simp] theorem sound_writeAs (d : Dev) (p : Src) (key : Nat) (bs : List Byte) (r : Reason) (hd : tableSound d.opTable) : tableSound (writeAs d p key bs r).opTable := by
  first
  | (simp [writeAs, *]; done)
  | (unfold writeAs; try dsimp only
     (repeat' split) <;> (first | assumption | (simp [*]; done) | (simp_all; done)))

@[simp] theorem sound_writeOp (d : Dev) (p : Src) (key : Nat) (bs : List Byte) (hd : tableSound d.opTable) : tableSound (writeOp d p key bs).opTable := by
  first
  | (simp [writeOp, *]; done)
  | (unfold writeOp; try dsimp only
     (repeat' split) <;> (first | assumption | (simp [*]; done) | (simp_all; done)))

@[simp] theorem sound_hostWrite (d : Dev) (p : Src) (key : Nat) (bs : List Byte) (hd : tableSound d.opTable) : tableSound (hostWrite d p key bs).opTable := by
  first
  | (simp [hostWrite, *]; done)
  | (unfold hostWrite; try dsimp only
     (repeat' split) <;> (first | assumption | (simp [*]; done) | (simp_all; done)))

@[simp] theorem sound_runPart (p : Src) (osn : Nat) (d : Dev) (x : Part)
    (hx : tableSound d.opTable → tableSound (x.go osn d).opTable) (hy : ∀ e : Dev, tableSound e.opTable → tableSound (x.no osn e).opTable)
    (h : tableSound d.opTable) : tableSound (runPart p osn d x).opTable := by
  unfold runPart
  split
  · exact hx h
  · exact hy _ (by simpa using h)

@[simp] theorem sound_operateParts (d : Dev) (p : Src) (key : Nat) (first : List Byte) (level : Nat) (parts : List Part)
    (hp : ∀ x ∈ parts, ∀ n d, tableSound d.opTable → tableSound (x.go n d).opTable ∧ tableSound (x.no n d).opTable) (h : tableSound d.opTable) :
    tableSound (d.operateParts p key first level parts).opTable := by
  unfold operateParts
  dsimp only
  generalize hosn : d.osnNext = osn
  have h1 : tableSound (if partsReason parts = .none ∧ d.recordsWrite level = true then
      ((d.enterWith p key (if partsReason parts = .none then .done else .refused) (partsReason parts) first).noteLast p osn (partsReason parts)).recordOp p 0x40 osn key .none first
      else (d.enterWith p key (if partsReason parts = .none then .done else .refused) (partsReason parts) first).noteLast p osn (partsReason parts)).opTable := by
    split <;> simp only [opTable_recordOp, opTable_noteLast] <;> apply sound_enterWith _ _ _ _ _ _ _ _ h <;> split <;> simp_all
  generalize (if partsReason parts = .none ∧ d.recordsWrite level = true then _ else _ : Dev) = d1 at *
  clear h
  induction parts generalizing d1 with
  | nil => exact h1
  | cons x l ih =>
    exact ih (fun y hy => hp y (List.mem_cons_of_mem _ hy)) _
      (sound_runPart _ _ _ _ (fun h => (hp x (List.mem_cons_self ..) _ _ h).1) (fun e h => (hp x (List.mem_cons_self ..) _ e h).2) h1)

@[simp] theorem sound_readRefused (d : Dev) (p : Src) (key : Nat) (r : Reason) (hr : r ≠ .none) (h : tableSound d.opTable) : tableSound (d.readRefused p key r).opTable := by
  unfold readRefused; dsimp only
  split <;> simp [hr, h]

@[simp] theorem sound_readOp (d : Dev) (p : Src) (key : Nat) (hd : tableSound d.opTable) : tableSound ((Dev.readOp d p key).2).opTable := by
  first
  | (simp [Dev.readOp, *]; done)
  | (unfold Dev.readOp; dsimp only; (repeat' split) <;> (first | assumption | (simp [*]; done)))
  | (unfold Dev.readOp; (repeat' split) <;> (first | assumption | (simp [*]; done) | (simp_all; done)))

@[simp] theorem sound_hostRead (d : Dev) (p : Src) (key : Nat) (h : tableSound d.opTable) : tableSound (d.hostRead p key).opTable := by
  unfold hostRead; apply sound_atPort _ _ _ _ h; intro d h; split
  · rename_i hr; exact sound_readRefused _ _ _ _ hr h
  · simp [h]

@[simp] theorem sound_avsEnter (d : Dev) (w : AvsWrite) (h : tableSound d.opTable) : tableSound (d.avsEnter w).opTable := by
  unfold avsEnter
  apply sound_operateParts
  · intro x hx n d' h'
    simp only [List.mem_flatMap, avsParts, List.mem_map] at hx
    obtain ⟨a, _, i, _, rfl⟩ := hx
    simp [h']
  · exact h

@[simp] theorem sound_avsWrite (d : Dev) (hold : Bool) (w : AvsWrite) (hd : tableSound d.opTable) : tableSound (avsWrite d hold w).opTable := by
  first
  | (simp [avsWrite, *]; done)
  | (unfold avsWrite; try dsimp only
     (repeat' split) <;> (first | assumption | (simp [*]; done) | (simp_all; done)))

@[simp] theorem sound_avsRead (d : Dev) (cmd sel type : Nat) (h : tableSound d.opTable) : tableSound (d.avsRead cmd sel type).opTable := by
  unfold avsRead
  dsimp only
  split
  · exact sound_operate _ _ _ _ _ _ _ _ _ (fun n d h => by simpa using h) (fun n d h => by simpa using h) h
  · split <;> simpa using h

@[simp] theorem sound_avsFrame (d : Dev) (cmd sel type data : Nat) (h : tableSound d.opTable) : tableSound (d.avsFrame cmd sel type data).opTable := by
  unfold avsFrame
  split
  · dsimp only; split <;> simp [h]
  · exact h

@[simp] theorem sound_avsLate (d : Dev) (w : AvsWrite) (hd : tableSound d.opTable) : tableSound ((avsLate d w)).opTable := by
  first
  | (simp [avsLate, *]; done)
  | (unfold avsLate; try dsimp only
     (repeat' split) <;> (first | assumption | (simp [*]; done) | (simp_all; done)))

@[simp] theorem sound_avsHeldEntry (d : Dev) (sel : Nat) (h : tableSound d.opTable) : tableSound (d.avsHeldEntry sel).opTable := by
  unfold avsHeldEntry
  split
  · split
    · exact sound_avsLate _ _ h
    · exact h
  · exact h

@[simp] theorem sound_pmbOpen (d : Dev) (t : TwPort) (code : Nat) (f : Dev → Dev) (hf : ∀ d, tableSound d.opTable → tableSound (f d).opTable) (h : tableSound d.opTable) : tableSound (d.pmbOpen t code f).opTable := by
  unfold pmbOpen; apply sound_atPort _ _ _ _ h; intro d h; split
  · exact hf d h
  · simpa using h

@[simp] theorem sound_pmbWrite (d : Dev) (x : TwFrame) (code : Nat) (bs : List Byte) (f : Dev → Dev) (hf : ∀ d, tableSound d.opTable → tableSound (f d).opTable) (h : tableSound d.opTable) :
    tableSound (d.pmbWrite x code bs f).opTable := by
  unfold pmbWrite; apply sound_pmbOpen _ _ _ _ _ h; intro d h; repeat' split
  all_goals first | exact hf d h | simpa using h

@[simp] theorem sound_pmbAsk (d : Dev) (x : TwFrame) (code : Nat) (f : Dev → Dev) (hf : ∀ d, tableSound d.opTable → tableSound (f d).opTable)
    (h : tableSound d.opTable) : tableSound (d.pmbAsk x code f).opTable := by
  unfold pmbAsk; apply sound_pmbOpen _ _ _ _ _ h; intro d h; (repeat' split) <;> first | exact hf _ h | simp [h]

@[simp] theorem sound_pmbRead (d : Dev) (x : TwFrame) (code key : Nat) (f : Dev → List Byte × Dev) (hf : ∀ d, tableSound d.opTable → tableSound (f d).2.opTable) (h : tableSound d.opTable) :
    tableSound (d.pmbRead x code key f).opTable := by
  unfold pmbRead; apply sound_pmbAsk _ _ _ _ _ h; intro d h; simp [hf d h]

@[simp] theorem sound_pmbPaged (d : Dev) (x : TwFrame) (code n : Nat) (key : Nat → Nat) (f : Nat → Dev → List Byte × Dev) (hf : ∀ i d, tableSound d.opTable → tableSound (f i d).2.opTable) (h : tableSound d.opTable) :
    tableSound (d.pmbPaged x code n key f).opTable := by
  unfold pmbPaged; apply sound_pmbAsk _ _ _ _ _ h; intro d h; dsimp only; split
  · simp [h]
  · simp [hf _ d h]

@[simp] theorem sound_pmbSet (d : Dev) (p : Src) (key : Nat) (bs : List Byte) (hd : tableSound d.opTable) : tableSound (pmbSet d p key bs).opTable := by
  first
  | (simp [pmbSet, *]; done)
  | (unfold pmbSet; try dsimp only
     (repeat' split) <;> (first | assumption | (simp [*]; done) | (simp_all; done)))

theorem sound_writePart (d : Dev) (p : Src) (key : Nat) (bs : List Byte) (r : Reason) (n : Nat) (e : Dev) (h : tableSound e.opTable) :
    tableSound ((d.writePart p key bs r).go n e).opTable ∧ tableSound ((d.writePart p key bs r).no n e).opTable := by
  unfold writePart; constructor
  · exact sound_carryOut _ _ _ _ _ h
  · simpa using h

@[simp] theorem sound_pmbParts (d : Dev) (t : TwPort) (key : Nat) (bs : List Byte) (parts : List Part)
    (hp : ∀ x ∈ parts, ∀ n d, tableSound d.opTable → tableSound (x.go n d).opTable ∧ tableSound (x.no n d).opTable)
    (h : tableSound d.opTable) : tableSound (d.pmbParts t key bs parts).opTable := by
  unfold pmbParts; dsimp only; rw [opTable_answering]
  have := sound_operateParts d t.src key bs 1 parts hp h
  split
  · simpa using this
  · exact this

@[simp] theorem sound_pmbNumber (d : Dev) (x : TwFrame) (code : Nat) (key : Nat → Nat) (w : BitVec 16) (v : Int) (h : tableSound d.opTable) :
    tableSound (d.pmbNumber x code key w v).opTable := by
  unfold pmbNumber; apply sound_pmbWrite _ _ _ _ _ _ h; intro d h; dsimp only; split
  · apply sound_pmbParts _ _ _ _ _ _ h; intro y hy; simp only [List.mem_map] at hy; obtain ⟨n, _, rfl⟩ := hy
    intro n d h; exact sound_writePart _ _ _ _ _ _ _ h
  · simp [h]

@[simp] theorem sound_pmbWord (d : Dev) (x : TwFrame) (code : Nat) (key : Nat → Nat) (w : Option (BitVec 16)) (hd : tableSound d.opTable) : tableSound (pmbWord d x code key w).opTable := by
  first
  | (simp [pmbWord, *]; done)
  | (unfold pmbWord; try dsimp only
     (repeat' split) <;> (first | assumption | (simp [*]; done) | (simp_all; done)))

@[simp] theorem sound_pmbLinear (d : Dev) (x : TwFrame) (code : Nat) (scale : Int) (key : Nat → Nat) (w : Option (BitVec 16)) (hd : tableSound d.opTable) : tableSound (pmbLinear d x code scale key w).opTable := by
  first
  | (simp [pmbLinear, *]; done)
  | (unfold pmbLinear; try dsimp only
     (repeat' split) <;> (first | assumption | (simp [*]; done) | (simp_all; done)))

@[simp] theorem sound_pmbByte (d : Dev) (x : TwFrame) (code key : Nat) (b : Option Byte) (hd : tableSound d.opTable) : tableSound (pmbByte d x code key b).opTable := by
  first
  | (simp [pmbByte, *]; done)
  | (unfold pmbByte; try dsimp only
     (repeat' split) <;> (first | assumption | (simp [*]; done) | (simp_all; done)))

@[simp] theorem sound_pmbConst (d : Dev) (x : TwFrame) (code : Nat) (bs : List Byte) (hd : tableSound d.opTable) : tableSound (pmbConst d x code bs).opTable := by
  first
  | (simp [pmbConst, *]; done)
  | (unfold pmbConst; try dsimp only
     (repeat' split) <;> (first | assumption | (simp [*]; done) | (simp_all; done)))

@[simp] theorem sound_pmbOperate (d : Dev) (x : TwFrame) (v : Byte) (h : tableSound d.opTable) : tableSound (d.pmbOperate x v).opTable := by
  unfold pmbOperate; apply sound_pmbWrite _ _ _ _ _ _ h; intro d h; dsimp only; split
  · apply sound_pmbParts _ _ _ _ _ _ h; intro y hy; simp only [List.mem_cons, List.mem_map] at hy
    rcases hy with rfl | ⟨n, -, rfl⟩ <;> intro n d h <;> exact sound_writePart _ _ _ _ _ _ _ h
  · apply sound_pmbParts _ _ _ _ _ _ h; intro y hy; simp only [List.mem_cons, List.not_mem_nil, or_false] at hy
    rcases hy with rfl | rfl <;> intro n d h <;> exact sound_writePart _ _ _ _ _ _ _ h
  · simp [h]

@[simp] theorem sound_pmbOperation (d : Dev) (x : TwFrame) (b : Option Byte) (hd : tableSound d.opTable) : tableSound (pmbOperation d x b).opTable := by
  first
  | (simp [pmbOperation, *]; done)
  | (unfold pmbOperation; try dsimp only
     (repeat' split) <;> (first | assumption | (simp [*]; done) | (simp_all; done)))

@[simp] theorem sound_pmbClearFaults (d : Dev) (x : TwFrame) (h : tableSound d.opTable) : tableSound (d.pmbClearFaults x).opTable := by
  unfold pmbClearFaults; apply sound_pmbWrite _ _ _ _ _ _ h; intro d h; dsimp only; rw [opTable_answering]
  apply sound_operate _ _ _ _ _ _ _ _ _ _ _ h
  · intro n d h; rw [opTable_alertRelease, opTable_foldl _ _ _ (fun d i => opTable_clearPage d _ i)]; exact h
  · intro n d h; exact h

@[simp] theorem sound_pmbStatus (d : Dev) (x : TwFrame) (code : Nat) (r : StReg) (b : Option Byte) (hd : tableSound d.opTable) : tableSound (pmbStatus d x code r b).opTable := by
  first
  | (simp [pmbStatus, *]; done)
  | (unfold pmbStatus; try dsimp only
     (repeat' split) <;> (first | assumption | (simp [*]; done) | (simp_all; done)))

@[simp] theorem sound_pmbStatusCml (d : Dev) (x : TwFrame) (b : Option Byte) (hd : tableSound d.opTable) : tableSound (pmbStatusCml d x b).opTable := by
  first
  | (simp [pmbStatusCml, *]; done)
  | (unfold pmbStatusCml; try dsimp only
     (repeat' split) <;> (first | assumption | (simp [*]; done) | (simp_all; done)))

@[simp] theorem sound_pmbStatusWord (d : Dev) (x : TwFrame) (code n : Nat) (hd : tableSound d.opTable) : tableSound (pmbStatusWord d x code n).opTable := by
  first
  | (simp [pmbStatusWord, *]; done)
  | (unfold pmbStatusWord; try dsimp only
     (repeat' split) <;> (first | assumption | (simp [*]; done) | (simp_all; done)))

@[simp] theorem sound_pmbReadVin (d : Dev) (x : TwFrame) (hd : tableSound d.opTable) : tableSound (pmbReadVin d x).opTable := by
  first
  | (simp [pmbReadVin, *]; done)
  | (unfold pmbReadVin; try dsimp only
     (repeat' split) <;> (first | assumption | (simp [*]; done) | (simp_all; done)))

@[simp] theorem sound_pmbReadVout (d : Dev) (x : TwFrame) (hd : tableSound d.opTable) : tableSound (pmbReadVout d x).opTable := by
  first
  | (simp [pmbReadVout, *]; done)
  | (unfold pmbReadVout; try dsimp only
     (repeat' split) <;> (first | assumption | (simp [*]; done) | (simp_all; done)))

@[simp] theorem sound_pmbReadIout (d : Dev) (x : TwFrame) (hd : tableSound d.opTable) : tableSound (pmbReadIout d x).opTable := by
  first
  | (simp [pmbReadIout, *]; done)
  | (unfold pmbReadIout; try dsimp only
     (repeat' split) <;> (first | assumption | (simp [*]; done) | (simp_all; done)))

@[simp] theorem sound_pmbReadTemperature (d : Dev) (x : TwFrame) (h : tableSound d.opTable) : tableSound (d.pmbReadTemperature x).opTable := by
  unfold pmbReadTemperature; apply sound_pmbPaged _ _ _ _ _ _ _ h; intro i d h; dsimp only; split <;> simp [h]

@[simp] theorem sound_objSelect (d : Dev) (x : TwFrame) (bs : List Byte) (hd : tableSound d.opTable) : tableSound (objSelect d x bs).opTable := by
  first
  | (simp [objSelect, *]; done)
  | (unfold objSelect; try dsimp only
     (repeat' split) <;> (first | assumption | (simp [*]; done) | (simp_all; done)))

@[simp] theorem sound_objData (d : Dev) (x : TwFrame) (bs : Option (List Byte)) (h : tableSound d.opTable) : tableSound (d.objData x bs).opTable := by
  unfold objData; split
  · apply sound_pmbWrite _ _ _ _ _ _ h; intro d h; simp [h]
  · apply sound_pmbAsk _ _ _ _ _ h; intro d h; dsimp only; split
    · rename_i hr; exact sound_readRefused _ _ _ _ hr h
    · split
      · exact sound_readRefused _ _ _ _ (by simp) h
      · simp [h]

@[simp] theorem sound_objResult (d : Dev) (x : TwFrame) (hd : tableSound d.opTable) : tableSound (objResult d x).opTable := by
  first
  | (simp [objResult, *]; done)
  | (unfold objResult; try dsimp only
     (repeat' split) <;> (first | assumption | (simp [*]; done) | (simp_all; done)))

@[simp] theorem sound_bulkOpen (d : Dev) (t : TwPort) (f : Dev → Dev) (hf : ∀ d, tableSound d.opTable → tableSound (f d).opTable) (h : tableSound d.opTable) : tableSound (d.bulkOpen t f).opTable := by
  unfold bulkOpen; repeat' split
  all_goals first | exact hf d h | simpa using h

@[simp] theorem sound_bulkReadOp (d : Dev) (t : TwPort) (n : Nat) (hd : tableSound d.opTable) : tableSound (bulkReadOp d t n).opTable := by
  first
  | (simp [bulkReadOp, *]; done)
  | (unfold bulkReadOp; try dsimp only
     (repeat' split) <;> (first | assumption | (simp [*]; done) | (simp_all; done)))

@[simp] theorem sound_bulkCoef (d : Dev) (t : TwPort) (e ptr : Nat) (bs : List Byte) (hd : tableSound d.opTable) : tableSound (bulkCoef d t e ptr bs).opTable := by
  first
  | (simp [bulkCoef, *]; done)
  | (unfold bulkCoef; try dsimp only
     (repeat' split) <;> (first | assumption | (simp [*]; done) | (simp_all; done)))

@[simp] theorem sound_bulkStage (d : Dev) (t : TwPort) (ptr : Nat) (bs : List Byte) (hd : tableSound d.opTable) : tableSound (bulkStage d t ptr bs).opTable := by
  first
  | (simp [bulkStage, *]; done)
  | (unfold bulkStage; try dsimp only
     (repeat' split) <;> (first | assumption | (simp [*]; done) | (simp_all; done)))

@[simp] theorem sound_bulkWriteAt (d : Dev) (t : TwPort) (ptr : Nat) (bs : List Byte) (h : tableSound d.opTable) : tableSound (d.bulkWriteAt t ptr bs).opTable := by
  unfold bulkWriteAt; apply sound_bulkOpen _ _ _ _ h; intro d h; dsimp only; repeat' split
  all_goals simp [h]

@[simp] theorem sound_bulkWrite (d : Dev) (ptr : Nat) (bs : List Byte) (hd : tableSound d.opTable) : tableSound (bulkWrite d ptr bs).opTable := by
  first
  | (simp [bulkWrite, *]; done)
  | (unfold bulkWrite; try dsimp only
     (repeat' split) <;> (first | assumption | (simp [*]; done) | (simp_all; done)))

@[simp] theorem sound_bulkRead (d : Dev) (n : Nat) (hd : tableSound d.opTable) : tableSound (bulkRead d n).opTable := by
  first
  | (simp [bulkRead, *]; done)
  | (unfold bulkRead; try dsimp only
     (repeat' split) <;> (first | assumption | (simp [*]; done) | (simp_all; done)))

@[simp] theorem sound_bulkAccess (d : Dev) (write : Bool) (ptr : Nat) (bs : List Byte) (n : Nat) (h : tableSound d.opTable) : tableSound (d.bulkAccess write ptr bs n).opTable := by
  unfold bulkAccess; split
  · split
    · simpa using h
    · exact sound_bulkWriteAt _ _ _ _ h
  · apply sound_bulkOpen _ _ _ _ h; intro d h; split <;> simp [h]

@[simp] theorem sound_sdoEnd (d : Dev) (b : Bus) (code : Nat) (hd : tableSound d.opTable) : tableSound ((sdoEnd d b code)).opTable := by
  first
  | (simp [sdoEnd, *]; done)
  | (unfold sdoEnd; try dsimp only
     (repeat' split) <;> (first | assumption | (simp [*]; done) | (simp_all; done)))

@[simp] theorem sound_onSdo (d : Dev) (f : SdoFrame) (go : Dev → Dev) (hg : ∀ d, tableSound d.opTable → tableSound (go d).opTable)
    (h : tableSound d.opTable) : tableSound (d.onSdo f go).opTable := by
  unfold onSdo; apply sound_onCan _ _ _ _ h; intro d h; (repeat' split) <;> first | exact hg _ h | simp [h]

@[simp] theorem sound_sdoInitDown (d : Dev) (b : Bus) (key : Nat) (expedited : Bool) (size : Option Nat) (bs : List Byte) (hd : tableSound d.opTable) : tableSound (sdoInitDown d b key expedited size bs).opTable := by
  first
  | (simp [sdoInitDown, *]; done)
  | (unfold sdoInitDown; try dsimp only
     (repeat' split) <;> (first | assumption | (simp [*]; done) | (simp_all; done)))

@[simp] theorem sound_sdoDownSegment (d : Dev) (b : Bus) (toggle last : Bool) (bs : List Byte) (hd : tableSound d.opTable) : tableSound (sdoDownSegment d b toggle last bs).opTable := by
  first
  | (simp [sdoDownSegment, *]; done)
  | (unfold sdoDownSegment; try dsimp only
     (repeat' split) <;> (first | assumption | (simp [*]; done) | (simp_all; done)))

@[simp] theorem sound_sdoInitUp (d : Dev) (u : Bus) (key : Nat) (h : tableSound d.opTable) : tableSound (d.sdoInitUp u key).opTable := by
  unfold sdoInitUp; split
  · apply sound_atPort
    · intro d h; split
      · rename_i hr; exact sound_readRefused _ _ _ _ hr h
      · dsimp only; split <;> simp [h]
    · exact sound_setSdo _ _ _ h
  · exact h

@[simp] theorem sound_sdoUpSegment (d : Dev) (b : Bus) (toggle : Bool) (hd : tableSound d.opTable) : tableSound ((sdoUpSegment d b toggle)).opTable := by
  first
  | (simp [sdoUpSegment, *]; done)
  | (unfold sdoUpSegment; try dsimp only
     (repeat' split) <;> (first | assumption | (simp [*]; done) | (simp_all; done)))

@[simp] theorem sound_sdoClientAbort (d : Dev) (b : Bus) (hd : tableSound d.opTable) : tableSound ((sdoClientAbort d b)).opTable := by
  first
  | (simp [sdoClientAbort, *]; done)
  | (unfold sdoClientAbort; try dsimp only
     (repeat' split) <;> (first | assumption | (simp [*]; done) | (simp_all; done)))

@[simp] theorem sound_sdoTimeout (d : Dev) (b : Bus) (hd : tableSound d.opTable) : tableSound ((sdoTimeout d b)).opTable := by
  first
  | (simp [sdoTimeout, *]; done)
  | (unfold sdoTimeout; try dsimp only
     (repeat' split) <;> (first | assumption | (simp [*]; done) | (simp_all; done)))

@[simp] theorem sound_sdoBreak (d : Dev) (code : Nat) (b : Bus) (hd : tableSound d.opTable) : tableSound ((sdoBreak d code b)).opTable := by
  first
  | (simp [sdoBreak, *]; done)
  | (unfold sdoBreak; try dsimp only
     (repeat' split) <;> (first | assumption | (simp [*]; done) | (simp_all; done)))

@[simp] theorem sound_fwAbort (d : Dev) (hd : tableSound d.opTable) : tableSound ((fwAbort d)).opTable := by
  first
  | (simp [fwAbort, *]; done)
  | (unfold fwAbort; try dsimp only
     (repeat' split) <;> (first | assumption | (simp [*]; done) | (simp_all; done)))

@[simp] theorem sound_carryOne (p : Src) (osn : Nat) (d : Dev) (w : Nat × List Byte) (hd : tableSound d.opTable) : tableSound (carryOne p osn d w).opTable := by
  first
  | (simp [carryOne, *]; done)
  | (unfold carryOne; try dsimp only
     (repeat' split) <;> (first | assumption | (simp [*]; done) | (simp_all; done)))

@[simp] theorem sound_rpdoOperate (d : Dev) (p : Src) (ws : List (Nat × List Byte)) (h : tableSound d.opTable) : tableSound (d.rpdoOperate p ws).opTable := by
  unfold rpdoOperate; dsimp only
  apply sound_operate _ _ _ _ _ _ _ _ _ _ _ h
  · intro n d h; apply sound_foldl _ _ _ _ h; intro d x h; exact sound_carryOne _ _ _ _ h
  · intro n d h; simpa using h

@[simp] theorem sound_rpdoEnter (d : Dev) (r : Nat) (h : tableSound d.opTable) : tableSound (d.rpdoEnter r).opTable := by
  unfold rpdoEnter; dsimp only; split
  · split
    · split
      · exact sound_rpdoOperate _ _ _ h
      · exact h
    · exact h
  · exact h

@[simp] theorem sound_rpdoEdge (d : Dev) (ns r : Nat) (h : tableSound d.opTable) : tableSound (d.rpdoEdge ns r).opTable :=
  sound_rpdoEnter _ r h

@[simp] theorem sound_rpdo (d : Dev) (u : Bus) (r : Nat) (bs : List Byte) (h : tableSound d.opTable) : tableSound (d.rpdo u r bs).opTable := by
  unfold rpdo; dsimp only
  split
  · split
    · simpa using h
    · split
      · simpa using h
      · split
        · exact h
        · apply sound_rpdoEnter; rw [opTable_rpdoHold]; exact h
  · exact h

@[simp] theorem sound_bxtAbortNow (d : Dev) (b : Bus) (r : Reason) (hd : tableSound d.opTable) : tableSound ((bxtAbortNow d b r)).opTable := by
  first
  | (simp [bxtAbortNow, *]; done)
  | (unfold bxtAbortNow; try dsimp only
     (repeat' split) <;> (first | assumption | (simp [*]; done) | (simp_all; done)))

@[simp] theorem sound_bxtReadStart (d : Dev) (b : Bus) (tag kind unit idx block off len : Nat) (hd : tableSound d.opTable) : tableSound (bxtReadStart d b tag kind unit idx block off len).opTable := by
  first
  | (simp [bxtReadStart, *]; done)
  | (unfold bxtReadStart; try dsimp only
     (repeat' split) <;> (first | assumption | (simp [*]; done) | (simp_all; done)))

@[simp] theorem sound_bxtContinue (d : Dev) (b : Bus) (tag c : Nat) (hd : tableSound d.opTable) : tableSound ((bxtContinue d b tag c)).opTable := by
  first
  | (simp [bxtContinue, *]; done)
  | (unfold bxtContinue; try dsimp only
     (repeat' split) <;> (first | assumption | (simp [*]; done) | (simp_all; done)))

@[simp] theorem sound_bxtWriteStart (d : Dev) (b : Bus) (tag kind unit idx block off len : Nat) (hd : tableSound d.opTable) : tableSound ((bxtWriteStart d b tag kind unit idx block off len)).opTable := by
  first
  | (simp [bxtWriteStart, *]; done)
  | (unfold bxtWriteStart; try dsimp only
     (repeat' split) <;> (first | assumption | (simp [*]; done) | (simp_all; done)))

@[simp] theorem sound_bxtResult (d : Dev) (b : Bus) (osn crc : Nat) (r : Reason) (hd : tableSound d.opTable) : tableSound ((bxtResult d b osn crc r)).opTable := by
  first
  | (simp [bxtResult, *]; done)
  | (unfold bxtResult; try dsimp only
     (repeat' split) <;> (first | assumption | (simp [*]; done) | (simp_all; done)))

@[simp] theorem sound_bxtCoef (d : Dev) (p : Src) (e : Nat) (off : Nat) (bs : List Byte) (hd : tableSound d.opTable) : tableSound ((Dev.bxtCoef d p e off bs).2).opTable := by
  first
  | (simp [Dev.bxtCoef, *]; done)
  | (unfold Dev.bxtCoef; dsimp only; (repeat' split) <;> (first | assumption | (simp [*]; done)))
  | (unfold Dev.bxtCoef; (repeat' split) <;> (first | assumption | (simp [*]; done) | (simp_all; done)))

@[simp] theorem sound_bxtWrite (d : Dev) (b : Bus) (t : Bxt) (bs : List Byte) (crc : Nat) (hd : tableSound d.opTable) : tableSound ((bxtWrite d b t bs crc)).opTable := by
  first
  | (simp [bxtWrite, *]; done)
  | (unfold bxtWrite; try dsimp only
     (repeat' split) <;> (first | assumption | (simp [*]; done) | (simp_all; done)))

@[simp] theorem sound_bxtCommit (d : Dev) (b : Bus) (tag len crc : Nat) (hd : tableSound d.opTable) : tableSound (bxtCommit d b tag len crc).opTable := by
  first
  | (simp [bxtCommit, *]; done)
  | (unfold bxtCommit; try dsimp only
     (repeat' split) <;> (first | assumption | (simp [*]; done) | (simp_all; done)))

@[simp] theorem sound_bxtHostAbort (d : Dev) (b : Bus) (tag : Nat) (hd : tableSound d.opTable) : tableSound ((bxtHostAbort d b tag)).opTable := by
  first
  | (simp [bxtHostAbort, *]; done)
  | (unfold bxtHostAbort; try dsimp only
     (repeat' split) <;> (first | assumption | (simp [*]; done) | (simp_all; done)))

@[simp] theorem sound_bxtTimeout (d : Dev) (b : Bus) (hd : tableSound d.opTable) : tableSound ((bxtTimeout d b)).opTable := by
  first
  | (simp [bxtTimeout, *]; done)
  | (unfold bxtTimeout; try dsimp only
     (repeat' split) <;> (first | assumption | (simp [*]; done) | (simp_all; done)))

@[simp] theorem sound_bxtLogEnd (d : Dev) (b : Bus) (hd : tableSound d.opTable) : tableSound ((bxtLogEnd d b)).opTable := by
  first
  | (simp [bxtLogEnd, *]; done)
  | (unfold bxtLogEnd; try dsimp only
     (repeat' split) <;> (first | assumption | (simp [*]; done) | (simp_all; done)))

@[simp] theorem sound_logCleared (d : Dev) (h : tableSound d.opTable) : tableSound d.logCleared.opTable := by
  unfold logCleared; split
  · exact sound_foldl _ _ _ (fun d b h => sound_bxtLogEnd d b h) (sound_logClearDone d h)
  · exact h

@[simp] theorem sound_afterEdge (o : Dev) (d : Dev) (ho : tableSound o.opTable) (hd : tableSound d.opTable) : tableSound ((Dev.afterEdge o d)).opTable := by
  unfold Dev.afterEdge
  apply sound_softEdge
  rw [opTable_fwEdge, opTable_forUnits _ _ _ (fun i d => opTable_tpdoEdge d i)]
  apply sound_forUnits
  · intro i x h; exact sound_rpdoEdge _ _ _ h
  · rw [opTable_backoffPass, opTable_emcyEdge]; split <;> simp [*]

@[simp] theorem sound_wholeTickEdge (d : Dev) (x : EdgeSamples) (h : tableSound d.opTable) : tableSound (d.wholeTickEdge x).opTable := by
  unfold wholeTickEdge; split
  · exact sound_afterEdge _ _ h (sound_tickEdge _ x (by simpa using sound_fwAbort d h))
  · exact h

@[simp] theorem sound_wholeKeepEdge (d : Dev) (h : tableSound d.opTable) : tableSound d.wholeKeepEdge.opTable := by
  unfold wholeKeepEdge; split
  · exact sound_afterEdge _ _ h (sound_keepEdge _ (by simpa using sound_fwAbort d h))
  · exact h

end Sys2Proof.Machine.Dev
end

