-- ==== Sys2Proof/WellFormed.lean ====
section
/-! DEFINITION. Which commands can come at all: the frames, ports and addresses that the buses can carry. A command that is
well-formed may still be refused by the device (R373); that is its effect, not a matter of form. -/

namespace Sys2Proof

open Machine

/-- The port that sends an operation. -/
def hostPortOf : Instr → Option Src
  | .authResponse p _ | .authPasswordEntry p _ | .authClose p | .authPasswordWrite p _ _ | .authKeyWrite p _
  | .lockStateWrite p _ | .debugOpen p _ | .storeParameters p _ | .restoreDefaultParameters p _ | .errorHistoryClear p
  | .opQueryOsn p _ | .objectWrite p _ _ _ | .perfProfileWrite p _ | .tickRateWrite p _ | .profileAtTickWrite p _
  | .profileSchedWrite p _ | .capArm p | .capForceTrigger p | .capAbort p | .progShadowSel p _ _ | .progImage p _ _
  | .progSwapReq p _ _ | .bankSwapReq p _ | .bankCopy p _ | .coefWrite p _ _ _ _ | .libStore p _ | .mailboxPost p _
  | .clearFaultsWrite p _ | .drain p _ | .drainForce p _ | .admitPhase p _ | .groupDrain p _ | .groupDrainForce p _
  | .groupAdmit p _ | .logSeekEsn p _ | .logTimeMark p _ | .logClear p _ | .wmSwap p _ | .wmTie p _ | .pkTestCmd p _ _
  | .realign p _ | .forceMid p _ | .release p _ | .singlePulse p _ | .phaseRailWrite p _ _ | .chgEnWrite p _
  | .chgChemWrite p _ | .accRestart p | .shipCmd p _ | .powerUp p | .powerDown p | .abort p | .domeCmd p _
  | .softReset p _ | .factorySettings p _ | .fwErase p _ | .fwWrite p _ | .fwVerify p _ | .fwSwitch p _ | .fwConfirm p _
  | .tmStart p _ | .tmStop p _ | .tmReset p _ | .tmGlobalStart p _ | .tmGlobalStop p _ | .tmPeriodWrite p _ _
  | .tmCompareWrite p _ _ | .intAck p _ _ | .evTest p _ | .pmbXfer p _ | .lbXfer p _ | .bulkWindowWrite p _ _
  | .bulkObjectWrite p _ _ | .bulkLoad p _ _ | .unitEnable p _ | .unitDisable p _ | .bkVoutCommandWrite p _ _
  | .loopModeWrite p _ _ | .policyEntryWrite p _ _ _ _ | .policyHoldWrite p _ _ | .voutCommandWrite p _ _
  | .marginStateWrite p _ _ | .lilEnWrite p _ | .intentResume p _ | .authNonceRead p | .readIoutPeakRead p _
  | .engStatusRead p _ | .engCyclesMaxRead p _ | .logWindowRead p _ | .phaseStatusRead p _ | .chgFaultRead p
  | .shipStatusRead p | .tmCaptureRead p _ | .tmStatusRead p _ => some p
  | _ => none

/-- A host operation comes from PMBus, SVC, CANA or CANB (R377, R453); AVSBus and the sequencer have commands of their own. -/
def hostPortOk (c : Instr) : Bool :=
  match hostPortOf c with
  | some .avs => false
  | some .seq => false
  | _ => true

/-- A policy entry is one of rail `n`: `ADD_AT`, `SHED_AT`, `ILIM_AT`, `MITTEN_ENTER` or `MITTEN_EXIT` in the rail's block (R163, R12). -/
def policyOk : Instr → Bool
  | .policyEntryWrite _ n i _ _ => decide (0x2508 + 0x20 * n.val ≤ i.toNat) && decide (i.toNat ≤ 0x250C + 0x20 * n.val)
  | _ => true

/-- A CAN frame carries what its kind can: an RPDO 8 bytes, an expedited download 1 to 4, a segment up to 7 (R14, R387, R390), a data frame
of the bulk extension 60 (R394). -/
def canFrameOk : Instr → Bool
  | .rpdo _ _ bs => decide (bs.length ≤ 8)
  | .sdoInitiateDownload _ _ _ true _ bs => decide (1 ≤ bs.length) && decide (bs.length ≤ 4)
  | .sdoInitiateDownload _ _ _ false _ bs => bs.isEmpty
  | .sdoDownloadSegment _ _ _ bs => decide (bs.length ≤ 7)
  | .bxtDataFrame f _ _ bs => f.wrong || decide (bs.length = 60)
  | _ => true

/-- A block of a manufacturer command has a count of one byte (R344, R357). -/
def blockOk : Instr → Bool
  | .objSelect _ bs => decide (bs.length ≤ 255)
  | .objData _ (some bs) => decide (bs.length ≤ 255)
  | _ => true

/-- A bulk access behind E0h writes bytes or reads a number of them (R358). -/
def bulkOk : Instr → Bool
  | .bulkAccess true _ _ n => decide (n.bytes = 0)
  | .bulkAccess false _ bs _ => bs.isEmpty
  | _ => true

/-- The housekeeping converter has 31 channels (R46). -/
def channelOk : Instr → Bool
  | .hkConversion ch _ => decide (ch.val < 31)
  | _ => true

/-- A breakpoint of an engine stands in its program memory (R91). -/
def breakpointOk : Instr → Bool
  | .debugBreakpoint (some _) a _ => decide (a < 4096)
  | _ => true

/-- An AVSBus frame that has no row of its own is one the port does not support (R175, R176). -/
def avsOk : Instr → Bool
  | .avsUnsupported cmd _ ty =>
    !(decide (cmd.val ≤ 1) && [0, 1, 4, 14].contains ty.val) && !(decide (cmd.val = 3) && [0, 1, 2, 3, 14].contains ty.val)
  | _ => true

/-- A sample instant of the RAW mode ends 1 to 256 raw slots, as many as `CAP_DIV` says (R48). -/
def slotsOk : Instr → Bool
  | .rawCaptureSample slots => decide (1 ≤ slots.length) && decide (slots.length ≤ 256)
  | _ => true

/-- A command that can come at a pin, a bus or a port. -/
def WellFormed (c : Instr) : Bool :=
  hostPortOk c && policyOk c && canFrameOk c && blockOk c && bulkOk c && channelOk c && breakpointOk c && avsOk c && slotsOk c

end Sys2Proof
end

