-- ==== Sys2Proof/Tests/Slice0.lean ====
section
/-! SUPPORT. Tests: an ill-formed term for each check of WellFormed; a witness for the hypotheses of every obligation (states and
operands that meet all of them together, clause by clause); and a few effects of commands, expected from the spec's text. -/

namespace Sys2Proof.Tests

set_option Elab.async false
set_option maxRecDepth 8000

open Sys2Proof Sys2Proof.Machine Sys2Proof.Machine.Dev

/-- A device that has booted: in ACTIVE, with a PMBus address, both CAN ports on and the node in PRE_OPERATIONAL. -/
def up : Dev :=
  ({ State.reset.dev with boot := .complete, node := { nmt := .preOperational, id := 1 }, canA := { enabled := true }, canB := { enabled := true } }).setNum
    K.PMB_ADDR 0x40

/-- A device with some objects set. -/
def set (d : Dev) (xs : List (Nat × Int)) : Dev := xs.foldl (fun d x => d.setNum x.1 x.2) d

/-- Values in force of objects of apply point U. -/
def force (d : Dev) (xs : List (Nat × Int)) : Dev := { d with eff := xs.foldl (fun m x => Assoc.set objDefault m x.1 (.num x.2)) d.eff }

/-- The device as a command finds it in the state whose device is `d`. -/
def here (d : Dev) : Dev := (⟨d, []⟩ : State).dev.heard

/-- The hypotheses of the statements of accepted writes. -/
def accepts (d : Dev) (effect : Dev → Nat → Instr → Option Dev) (c : Instr) : Bool :=
  match hostWriteOf c with
  | some w => (here d).gateOf w.port == .open_ && (here d).writeRule w.port w.key w.bytes == .none &&
      (effect ((here d).admitted w) (here d).osnNext c).isSome
  | none => false

/-! Ill-formed terms: one for each check of WellFormed, and a well-formed neighbour. -/

theorem illFormed_port : WellFormed (.unitEnable .avs 0) = false ∧ WellFormed (.authNonceRead .seq) = false ∧ WellFormed (.unitEnable .pmbus 0) = true := by decide +kernel
theorem illFormed_policy : WellFormed (.policyEntryWrite .svc 0 0x2507 1 []) = false ∧ WellFormed (.policyEntryWrite .svc 7 0x25ED 1 []) = false ∧
    WellFormed (.policyEntryWrite .svc 7 0x25EC 1 []) = true := by decide +kernel
theorem illFormed_canFrame :
    ([.rpdo { bus := .a } 0 (List.replicate 9 0), .sdoInitiateDownload { bus := .a } 0 0 true none [], .sdoInitiateDownload { bus := .a } 0 0 true none [1, 2, 3, 4, 5],
      .sdoInitiateDownload { bus := .a } 0 0 false none [1], .sdoDownloadSegment { bus := .b } false false (List.replicate 8 0),
      .bxtDataFrame { bus := .a } 0 0 (List.replicate 59 0)] : List Instr).all (fun c => !WellFormed c) = true ∧
    ([.rpdo { bus := .a } 0 (List.replicate 8 0), .sdoDownloadSegment { bus := .b } false false (List.replicate 7 0), .sdoDownloadSegment { bus := .b } false true [],
      .bxtDataFrame { bus := .a, wrong := true } 0 0 (List.replicate 59 0)] : List Instr).all WellFormed = true := by decide +kernel
theorem illFormed_block : WellFormed (.objSelect {} (List.replicate 256 0)) = false ∧ WellFormed (.objData {} (some (List.replicate 256 0))) = false ∧
    WellFormed (.objData {} (some (List.replicate 255 0))) = true := by decide +kernel
theorem illFormed_bulk : WellFormed (.bulkAccess true 0 [1] ⟨1, []⟩) = false ∧ WellFormed (.bulkAccess false 0 [1] ⟨1, []⟩) = false ∧ WellFormed (.bulkAccess false 0 [] ⟨1, []⟩) = true := by decide +kernel
theorem illFormed_channel : WellFormed (.hkConversion 31 0) = false ∧ WellFormed (.hkConversion 30 0) = true := by decide +kernel
theorem illFormed_breakpoint : WellFormed (.debugBreakpoint (some 0) 4096 true) = false ∧ WellFormed (.debugBreakpoint none 4096 true) = true ∧
    WellFormed (.debugBreakpoint (some 0) 4095 true) = true := by decide +kernel
theorem illFormed_rawSlots : WellFormed (.rawCaptureSample []) = false ∧ WellFormed (.rawCaptureSample [{}]) = true := by decide +kernel
theorem illFormed_avs : WellFormed (.avsUnsupported 1 0 0) = false ∧ WellFormed (.avsUnsupported 3 0 3) = false ∧ WellFormed (.avsUnsupported 3 0 4) = true ∧
    WellFormed (.avsUnsupported 2 0 0) = true := by decide +kernel

/-! Witnesses: queue, levels, credentials. -/

theorem witness_StepRunsFrontCommand : (⟨up, [.powerOnReset, .keepEdge]⟩ : State).pending = .powerOnReset :: [.keepEdge] := rfl
theorem witness_EmptyQueueIdles : State.reset.pending = [] := rfl

/-- A locked device with sessions of level 2 on PMBUS and 3 on SVC. -/
def locked : Dev :=
  { set up [(K.LOCK_STATE, 1)] with acc := { up.acc with ifs := #v[{ level := 2 }, { level := 3 }, {}, {}] } }

theorem witness_InterfaceLevels : Src.pmbus.iface.isSome = true ∧ (up.num K.LOCK_STATE = 0) ∧ locked.num K.LOCK_STATE = 1 ∧
    ([Src.pmbus, .canA, .canB, .svc].all (fun p => match p.iface with
      | some i => (locked.iface i).level == 0 || (locked.iface i).level == 2 || (locked.iface i).level == 3
      | none => false)) = true ∧
    ([Src.pmbus, .canA, .canB, .svc].map (fun p => (locked.iface (p.iface.getD 0)).level)).contains 0 = true ∧
    ([Src.pmbus, .canA, .canB, .svc].map (fun p => (locked.iface (p.iface.getD 0)).level)).contains 2 = true ∧
    ([Src.pmbus, .canA, .canB, .svc].map (fun p => (locked.iface (p.iface.getD 0)).level)).contains 3 = true := by decide +kernel

/-- A device with different passwords of L2 and L3. -/
def keyed : Dev := (up.setObj (K.AUTH_PASSWORD 0) (.bytes (List.replicate 8 1))).setObj (K.AUTH_PASSWORD 1) (.bytes (List.replicate 8 2))

theorem witness_PasswordAttempts : (List.replicate 8 (1 : Byte)).length = 8 ∧ Src.canA.iface = some 3 ∧ keyed.num K.AUTH_BACKOFF = 0 ∧
    (keyed.obj (K.AUTH_PASSWORD 0)).bs = List.replicate 8 1 ∧ (∃ b ∈ (keyed.obj (K.AUTH_PASSWORD 0)).bs, b ≠ 0) ∧
    (keyed.obj (K.AUTH_PASSWORD 0)).bs ≠ (keyed.obj (K.AUTH_PASSWORD 1)).bs ∧ (0 : Byte) ≠ 2 ∧ (0 : Byte) ≠ 3 ∧
    (here keyed).gateOf .canA = .open_ ∧ (∀ e ∈ (here keyed).ops, e.key = K.AUTH_PASSWORD_ENTRY 2 → e.st ≠ .running) := by decide +kernel

theorem witness_CredentialsStayOut :
    (hostWriteOf (.authPasswordWrite .canA 1 [])).map (fun w => w.key / 256) = some 0x3202 ∧
    (hostWriteOf (.authKeyWrite .canA [])).map (fun w => w.key / 256) = some 0x3203 ∧
    (hostWriteOf (.authPasswordEntry .canA [])).map (fun w => w.key / 256) = some 0x3207 ∧
    (here up).gateOf .canA = .open_ ∧ (∀ x ∈ (here up).ev.causes, x.osn ≠ (here up).osnNext) := by decide +kernel

/-! Witnesses: engines. -/

/-- Engine 0 runs a customer program whose memory holds `ws`. -/
def running (ws : List Nat) : Dev :=
  up.modEng 0 (fun g => { g with st := .running, ended := false, idle := false, prog := { Image.none with id := 6, code := ws }, words := ws })

/-- Engine 0 has the instruction at its pc. -/
def meets (i : Instr) : Dev := running [(nymrenWord i).getD 0]

/-- Engine 0 carries out the instruction in the device changed by `f`. -/
def carries (i : Instr) (f : Dev → Dev := id) : Bool := (here (f (meets i))).fetches 0 i && !(here (f (meets i))).breaksAt 0

/-- The device with registers of engine 0 set. -/
def withRegs (xs : List (Fin 32 × Int)) (d : Dev) : Dev := d.modEng 0 (fun g => { g with regs := xs.foldl (fun m x => m.set x.1 x.2) g.regs })

/-- The device with the TAP in DEBUG. -/
def debugged (d : Dev) : Dev := { d with acc := { d.acc with tap := .debug } }

theorem witness_EngineCommandsComplete :
    (let d := here (up.modEng 15 (fun g => { g with shadowSt := .loading, shadow := { Image.none with id := 6 } }));
      (d.engine 15).shadowSt = .loading ∧ d.supRuns = true ∧ (d.engine 15).shadow.id ≠ 0xFFFF) ∧
    ((here (up.modEng 15 (fun g => { g with shadowSt := .loading, shadow := { Image.none with id := 0xFFFF } }))).engine 15).shadow.id = 0xFFFF ∧
    ((here up).engine 15).shadowSt ≠ .loading ∧ (here { up with supAbsent := true }).supRuns = false ∧
    (here { up with nvm := { up.nvm with libRun := some (15, 3) } }).nvm.libRun = some (15, 3) ∧ up.nvm.libRun = none ∧
    (let d := here (running [0]);
      d.engRuns 0 = true ∧ (d.engine 0).ended = false ∧ (d.engine 0).overran = false ∧ d.engRuns 15 = false) := by decide +kernel

theorem witness_EccCommandsComplete :
    (let d := here (running [0]);
      (true && d.engRuns 0 && (d.engine 0).executes) = true ∧ (false && d.engRuns 0 && (d.engine 0).executes) = false) ∧
    (here up).supRuns = true ∧ (here { up with supAbsent := true }).supRuns = false ∧
    (let d := here (up.modEng 0 (fun g => { g with badProg := true, prog := { stdImage 5 with size := stdSize 5 } }));
      (d.engine 0).badProg = true ∧ (d.engine 0).badBank = false ∧ d.libraryCopy (d.engine 0).prog = some { stdImage 5 with size := stdSize 5 } ∧
        d.checkImage 0 { stdImage 5 with size := stdSize 5 } d.budget (d.flag (K.CHECK_BYPASS 0)) = none) ∧
    (let x : Image := { Image.none with id := 0x8003, size := 64 }
      let d := here ({ up with nvm := { up.nvm with lib := vset up.nvm.lib 3 x } }.modEng 0 (fun g => { g with badProg := true, prog := x }));
      d.libraryCopy (d.engine 0).prog = some x ∧ (d.checkImage 0 x d.budget (d.flag (K.CHECK_BYPASS 0))).isSome = true) ∧
    (let d := here (up.modEng 0 (fun g => { g with badProg := true, prog := { Image.none with id := 0x8003 } }));
      (d.engine 0).badProg = true ∧ d.libraryCopy (d.engine 0).prog = none) ∧
    ((here (up.modEng 15 (fun g => { g with badBank := true }))).engine 15).badBank = true ∧ ((here up).engine 15).badProg = false := by decide +kernel

theorem witness_OverrunDiscards : satU 8 (up.num (K.OVERRUN_CONSEC 15) + 1) < up.num (K.OVERRUN_LIMIT 15) := by decide +kernel

theorem witness_EdgesComplete :
    (here up).power = .active ∧ (here up).boot ≠ .held ∧ (here { up with power := .economy }).power = .economy ∧
    (here { up with power := .keep }).power = .keep ∧ (here { up with power := .dome }).power ≠ .active ∧
    (here { up with power := .dome }).power ≠ .economy ∧ (here { up with power := .dome }).power ≠ .keep := by decide +kernel

theorem witness_NymrenRegisterResults :
    ((regWrite (here (meets (.nyAdd 0 31 0 1))) (.nyAdd 0 31 0 1)).map (fun x => (x.e, x.rd))) = some (0, 31) ∧ carries (.nyAdd 0 31 0 1) = true ∧
    ((regWrite (here (meets (.nyMovi 0 0 5))) (.nyMovi 0 0 5)).map (fun x => (x.e, x.rd))) = some (0, 0) ∧ carries (.nyMovi 0 0 5) = true := by decide +kernel

theorem witness_NymrenAccumulatorsAndMemory :
    ((accWrite (here (meets (.nyClra 0 3))) (.nyClra 0 3)).map (fun x => (x.e, x.a))) = some (0, 3) ∧ carries (.nyClra 0 3) = true ∧
    carries (.nyDivq 0 31 1 2 31) (withRegs [(2, -1)]) = true ∧ ((here (withRegs [(2, -1)] (meets (.nyDivq 0 31 1 2 31)))).engine 0).reg 2 ≠ 0 ∧
    carries (.nyDivq 0 31 1 2 31) = true ∧ ((here (meets (.nyDivq 0 31 1 2 31))).engine 0).reg 2 = 0 ∧
    carries (.nyLd 0 31 0 0x5FF) = true ∧ carries (.nySt 0 0 31 0xFFFF) = true ∧ carries (.nySt 0 0 0 0x5FF) = true ∧
    ((((here (meets (.nySt 0 0 0 0x5FF))).engine 0).reg 0 + (0x5FF : BitVec 16).toNat) % 65536).toNat < 0x600 := by decide +kernel

theorem witness_NymrenControlFlow :
    ([Instr.nyNop 0, .nyCommit 0, .nyBr 0 4095, .nyBcc 0 0 31 4095, .nyLoop 0 255 4095, .nyLoop 0 0 1, .nyCall 0 4095, .nySig 0 255, .nySig 0 0, .nyBrk 0,
      .nyEnd 0].all (fun i => carries i)) = true ∧
    carries (.nyRet 0) (fun d => d.modEng 0 (fun g => { g with calls := [7] })) = true ∧ carries (.nyBrk 0) debugged = true ∧
    ((here (meets (.nyCall 0 1))).engine 0).calls.length < 4 ∧ (here up).acc.tap ≠ .debug ∧ (here (debugged up)).acc.tap = .debug ∧
    ((here (meets (.nyBcc 0 0 1 1))).engine 0).reg 1 = 0 ∧ ((here (withRegs [(1, -1)] up)).engine 0).reg 1 < 0 ∧
    ((here (withRegs [(1, 1)] up)).engine 0).reg 1 > 0 ∧ ((here (up.modEng 0 (fun g => { g with sigs := [255] }))).engine 0).sigs ≠ [] := by decide +kernel

theorem witness_NymrenPortsAndIdleEngines :
    carries (.nyOut 0 31 0 31) = true ∧ carries (.nyOutd 0 31 0 0x90) = true ∧ (here (running [0])).ownerOf 0x90 = some 0 ∧ (here (running [0])).ownerOf 0xE0 ≠ some 0 ∧
    nymrenOf (.nyEnd 15) = some 15 ∧ (here (running [0])).fetches 15 (.nyEnd 15) = false ∧ (here (meets (.nyNop 0))).fetches 0 (.nyEnd 0) = false ∧
    (let d := here (debugged (meets (.nyEnd 0)) |>.modEng 0 (fun g => { g with breakpoints := [0] }));
      d.fetches 0 (.nyEnd 0) = true ∧ d.breaksAt 0 = true) := by decide +kernel

/-! Witnesses: clocks, measurement, faults. -/

theorem witness_ClockCommandsComplete :
    (let d := here (force up [(K.SYNC_MODE, 2)]);
      d.effNum K.SYNC_MODE = 2 ∧ d.ticking = true ∧ d.bit K.SYNC_STATUS 3 = false ∧ (100 : Int) * 600000 > 101 * d.tickPs) ∧
    (let d := here { force up [(K.SYNC_MODE, 2)] with clk := { up.clk with freeRun := false, syncRun := 15 } };
      d.effNum K.SYNC_MODE = 2 ∧ d.ticking = true ∧ d.clk.freeRun = false ∧ d.clk.syncRun ≥ 15 ∧ d.bit K.SYNC_STATUS 3 = false) ∧
    (let d := here up;
      d.xoFaulty = false ∧ d.power ≠ .dome ∧ d.power ≠ .ship ∧ d.boot ≠ .held ∧ d.boot.rank ≥ 1) ∧
    (here (set up [(K.CLOCK_STATUS, 8)])).xoFaulty = true ∧
    (here (set up [(K.CLOCK_STATUS, 0xF0)])).bit K.CLOCK_STATUS 7 = true ∧ (here (set up [(K.CLOCK_STATUS, 0xF0)])).bit K.CLOCK_STATUS 4 = true ∧
    (let d := here (force up [(K.LF_SOURCE, 1)]);
      d.effNum K.LF_SOURCE = 1 ∧ d.boot.rank ≥ 1 ∧ d.bit K.CLOCK_STATUS 1 = false) := by decide +kernel

theorem witness_MeasurementCommandsComplete :
    (here up).boot ≠ .held ∧ (here up).power ≠ .dome ∧ (here up).power ≠ .ship ∧ (here up).hkNext = (0 : Fin 32).val ∧ (here up).hkNext ≠ (30 : Fin 32).val ∧
    (here { set up [(K.HK_SCAN_MASK, 0x7FFFFFFF)] with hk := { vin := false, pos := 30 } }).hkNext = (30 : Fin 32).val ∧
    (here (set up [(K.DITHER_MISS 7, 64)])).num (K.DITHER_MISS 7) ≥ 64 ∧
    (let d := here { up with cap := { up.cap with mode := 1, st := .triggered, left := 1 } };
      d.cap.mode = 1 ∧ d.ticking = true ∧ d.cap.st = .triggered ∧ d.cap.left > 0) ∧
    (let d := here { up with cap := { up.cap with mode := 1, st := .armed, trig := 0x01FF } };
      d.cap.mode = 1 ∧ d.ticking = true ∧ d.cap.st = .armed ∧ ¬ 0x0200 ≤ d.cap.trig) ∧
    (let d := here { up with cap := { up.cap with mode := 1, st := .armed, trig := 0x0207, level := 5, edge := 1, srcs := [0x21F], samples := [List.replicate 8 6] } };
      d.cap.mode = 1 ∧ d.cap.st = .armed ∧ 0x0200 ≤ d.cap.trig ∧ d.cap.trig < 0x0208 ∧ d.cap.fresh = false ∧ capCrosses d.cap [0] = true) ∧
    (let d := here { up with cap := { up.cap with st := .triggered, left := 0 } };
      d.cap.st = .triggered ∧ d.cap.left = 0) := by decide +kernel

theorem witness_TripsComplete :
    (let d := here ((set up [(K.UNIT_ON 7, 1), (K.OV_COUNT 7, 2), (K.UV_COUNT 7, 8), (K.OC_COUNT 7, 4)]).modRl 7 (fun r =>
        { r with ovN := 2, uvN := 8, ocN := 4, glove := true, gloveLeft := 0, due := 78 }));
      (d.countedKinds 7).testBit 1 = true ∧ (d.countedKinds 7).testBit 2 = true ∧ (d.countedKinds 7).testBit 3 = true ∧ (d.countedKinds 7).testBit 6 = true ∧
        (d.rl 7).gloveFb = false ∧ [1, 2, 3, 6].all (d.rl 7).due.testBit = true ∧ (d.rl 7).glove = true ∧
        d.unitOn 7 = true ∧ d.verdict 7 ≠ 2 ∧ d.supRuns = true ∧ d.ticking = true) ∧
    (let d := here (up.modRl 0 (fun r => { r with glove := true, gloveFb := true, gloveLeft := 0, gloveClear := 64, due := 32 }));
      (d.rl 0).glove = true ∧ (d.rl 0).due.testBit 5 = true ∧ (d.countedKinds 0).testBit 5 = true ∧ d.nat (K.GLOVE_RECOVER 0) ≤ (d.rl 0).gloveClear) ∧
    (let d := here up;
      (d.rl 0).due = 0 ∧ (d.rl 0).glove = false ∧ d.unitOn 0 = false ∧ (d.bk 5).on = false ∧ d.retrying 13 = false ∧ (d.ld 3).on = false ∧ d.retrying 17 = false) ∧
    (let d := here ({ set up [(K.BK_OC_COUNT 5, 8)] with die := { run150 := 3 } }.modBk 5 (fun k => { k with on := true, ocN := 8, ovN := 2, uvN := 8 }));
      (d.bk 5).on = true ∧ 0 < (d.bk 5).ocN ∧ d.num (K.BK_OC_COUNT 5) ≤ (d.bk 5).ocN ∧ 2 ≤ (d.bk 5).ovN ∧ 8 ≤ (d.bk 5).uvN ∧ 3 ≤ d.die.run150) ∧
    (let d := here (set up [(faultKey 13, 0x4000), (faultKey 17, 0x4000)]);
      d.retrying 13 = true ∧ (d.bk 5).ocN = 0 ∧ (d.bk 5).ovN < 2 ∧ (d.bk 5).uvN < 8 ∧ d.die.run150 < 3 ∧ d.retrying 17 = true ∧ (d.ld 3).uvN < 3) ∧
    (let d := here ({ up with die := { run150 := 3 } }.modLd 3 (fun l => { l with on := true, uvN := 3 }));
      (d.ld 3).on = true ∧ 3 ≤ (d.ld 3).uvN ∧ (d.ld 3).ramping = false ∧ 3 ≤ d.die.run150) := by decide +kernel

/-- The unit of code `u` answers its faults of kind `k` with response `r`. -/
def responding (u k r : Nat) : Dev := set up [(respKey u k, (r : Int))]

theorem witness_FaultResponsesHold :
    up.power ≠ .dome ∧ up.supRuns = true ∧
    ([(0, 2), (7, 9), (8, 1), (13, 4), (14, 1), (17, 3)].all (fun x =>
      (List.range 4).all (fun r => (responding x.1 x.2 r).response x.1 x.2 == r && !(responding x.1 x.2 r).bit (faultKey x.1) 15 &&
        !(responding x.1 x.2 r).bit (faultKey x.1) 14 && !((responding x.1 x.2 r).presentKinds x.1).testBit (x.2 - 1)))) = true ∧
    (let d := (responding 0 2 0).markKind 0 2 true;
      d.response 0 2 = 0 ∧ (d.presentKinds 0).testBit 1 = true) := by decide +kernel

theorem witness_ServiceComplete :
    (let d := here (set up [(K.PHASE_SVC_STATE 31, 2)]);
      d.svcOf 31 = 2 ∧ d.supRuns = true ∧ 3 ≤ d.boot.rank ∧ d.qualCode 31 {} ≠ 0) ∧
    (let d := here ((set up [(K.PHASE_SVC_STATE 31, 2)]).modSg 7 (fun l => { l with st := .present }));
      d.svcOf 31 = 2 ∧ d.supRuns = true ∧ d.qualCode 31 { ip := 6144 } = 0) ∧
    (let x : Dev := (set up [(K.PHASE_SVC_STATE 31, 2), (K.LB_STAGE_ADDR 31, 8)]).modSg 7 (fun l => { l with st := .present })
      let d := here (x.modPh 31 (fun c => { c with qualStage := some (some 0) }))
      let off := here { x with board := { x.board with ioH := false } };
      d.stageListed 31 = true ∧ (d.ph 31).qualStage.isSome = true ∧ d.qualCode 31 { ip := 6144 } = 0 ∧
        ((here x).ph 31).qualStage = none ∧ (here x).lbLive = true ∧ ¬ ((here x).qualCode 31 { ip := 6144 } ≤ 4 ∧ 1 ≤ (here x).qualCode 31 { ip := 6144 }) ∧
        off.lbLive = false ∧ off.svcOf 31 = 2) ∧
    (here (set up [(K.LB_STAGE_ADDR 31, 8)])).stageListed 31 = true ∧ (here up).stageListed 31 = false ∧
    (here (set up [(K.CLOCK_STATUS, 8), (faultKey 13, 0x4000)])).retrying 13 = true ∧ (here (set up [(K.CLOCK_STATUS, 8), (faultKey 13, 0x4000)])).xoFaulty = true ∧
    (let d := here (up.modSg 7 (fun l => { l with otRun := 3, warnRun := 3 }));
      d.supRuns = true ∧ 3 ≤ (d.sg 7).otRun ∧ 3 ≤ (d.sg 7).warnRun ∧ (d.sg 7).warn = false) ∧
    (let d := here ((set up [(K.PHASE_SVC_STATE 0, 6), (K.AUTO_ADMIT 0, 1), (K.SG_OT_WARN 0, 1)]).modSg 0 (fun l => { l with st := .present })
        |>.modPh 0 (fun c => { c with afterOt := true }));
      d.supRuns = true ∧ d.svcOf 0 = 6 ∧ (d.ph 0).afterOt = true ∧ d.flag (K.AUTO_ADMIT (0 / 4)) = true ∧ d.groupPresent (0 / 4) = true ∧
        d.num (K.SG_TEMP (0 / 4)) < d.num (K.SG_OT_WARN (0 / 4))) ∧
    (let d := here (set up [(faultKey 17, 0x4000)]);
      d.retrying 17 = true ∧ d.supRuns = true ∧ fieldAt (d.num (faultKey 17)) 10 4 < d.retryMax 17 ∧ d.keepRail 3 = false ∧
        (d.putBit (faultKey 17) 14 false).enableRule .seq 17 = .none) ∧
    (let d := here (set up [(faultKey 0, 0x4000 + 3 * 1024)]);
      d.retrying 0 = true ∧ d.retryMax 0 ≤ fieldAt (d.num (faultKey 0)) 10 4) ∧
    (let d := here (set up [(faultKey 13, 0x4000 + 15 * 1024)]);
      d.retrying 13 = true ∧ d.retryMax 13 ≤ fieldAt (d.num (faultKey 13)) 10 4) ∧
    (let d := here (up.modRl 0 (fun r => { r with retried := true, done := true }));
      (d.rl 0).retried = true ∧ (d.rl 0).done = true) ∧
    (let d := here (set up [(K.L_EST 31, 1000), (K.L_QUAL 31, 100), (K.R_EST 31, 1000000), (K.PHASE_WEAR 31, 0)]);
      d.num K.WEAR_L_TOL * d.num (K.L_QUAL 31) < 100 * (d.num (K.L_EST 31) - d.num (K.L_QUAL 31)).natAbs ∧ d.bit (K.PHASE_WEAR 31) 0 = false ∧
        d.coefInt (obEngine 31) 6 * (100 + d.num K.WEAR_R_TOL) < d.num (K.R_EST 31) * 100 ∧ d.bit (K.PHASE_WEAR 31) 1 = false) ∧
    (let d := here ((set up [(K.WEAR_HOT_LIMIT, 0)]).setObj (K.TEMP_HIST 7) (.bytes (List.replicate 16 0 ++ leBytes 4 1 ++ [0, 0])));
      d.num K.WEAR_HOT_LIMIT < d.tempBin (31 / 4) 4 ∧ d.bit (K.PHASE_WEAR 31) 2 = false) := by decide +kernel

theorem witness_RegulatorCommandsComplete :
    (let d := here (up.modBk 5 (fun k => { k with on := true }));
      let m := d.applyS (buckS 5);
      let started := m.modBk 5 (fun k => { k with fb := buckVolts 0, period := spreadPeriod (m.buckBase 5) (vget m.clk.spread 1), limited := false });
      d.ticking = true ∧ started.buckSwitches 5 = true ∧ started.buckOnTime 5 < 2500) ∧
    (let d := here ({ up.modBk 0 (fun k => { k with on := true }) with drive := [(0x98, 32768)] });
      let m := d.applyS (buckS 0);
      let started := m.modBk 0 (fun k => { k with fb := buckVolts 0, period := spreadPeriod (m.buckBase 0) (vget m.clk.spread 1), limited := false });
      started.buckSwitches 0 = true ∧ 2500 ≤ started.buckOnTime 0) ∧
    ((here (up.modBk 5 (fun k => { k with out := .high }))).bk 5).out = .high ∧
    (let d := here { force up [(K.LDO_KEEP 3, 1)] with power := .keep };
      d.keepNow 3 = true ∧ (d.ld 3).on = false ∧ d.power ≠ .ship ∧ d.bit (faultKey 17) 15 = false ∧ d.bit (faultKey 17) 14 = false) := by decide +kernel

theorem witness_TempHistogramCounts :
    let d := here (up.modSg 7 (fun l => { l with st := .present }));
    d.supRuns = true ∧ d.groupPresent 7 = true ∧ d.tempBin 7 4 < 4294967295 ∧ tempBinOf (d.num (K.SG_TEMP 7)) < 5 := by decide +kernel

/-- Phase 31 may turn on in its slot, the first of rail 7. -/
def slotted : Dev :=
  ((set up [(K.PHASE_RAIL 31, 7)]).modPh 31 (fun c => { c with inGrid := true, inSet := true, w := 1, wc := 65536 })).modRl 7 (fun r => { r with grid := [31] })

theorem witness_PhaseSwitchingComplete :
    (let d := here slotted;
      d.mayFire 31 = true ∧ d.railOf 31 = some 7 ∧ (d.rl 7).slot ≤ d.slotOf 7 31 ∧ d.drains 31 = false ∧ d.peakRef 31 ≤ 0 ∧
        max ((d.ph 31).offAt + d.num (K.TOFF_MIN 31) * 50) (d.ph 31).restAt ≤ d.slotAt 7 (d.slotOf 7 31)) ∧
    (let d := here (slotted.modPh 31 (fun c => { c with restAt := 1000000 }));
      d.mayFire 31 = true ∧ d.slotAt 7 (d.slotOf 7 31) < (d.ph 31).restAt) ∧
    (let d := here { slotted with drive := (List.range 0x60).map (fun w => (w, 65536)) };
      d.mayFire 31 = true ∧ 0 < d.peakRef 31) ∧
    (let d := here (slotted.modPh 31 (fun c => { c with deferred := true }));
      d.mayFire 31 = true ∧ (d.ph 31).deferred = true ∧ d.drains 31 = false) ∧
    (let d := here (slotted.modPh 31 (fun c => { c with pulse := .drain }));
      d.mayFire 31 = true ∧ d.drains 31 = true) ∧
    (let d := here (up.modPh 0 (fun c => { c with out := .high, early := true, dacPeak := 4095, dacSlope := 65535 }));
      let level := fun steps : Nat => max 0 ((d.ph 0).dacPeak * 256 - (d.ph 0).dacSlope * (steps / 200 : Nat))
      let from_ := max (d.num (K.LEB_NS 0)) (d.num (K.TON_MIN 0)) * 50;
      (d.ph 0).out = .high ∧ (d.ph 0).pulse = .none ∧ (d.ph 0).timed = false ∧ (d.ph 0).early = true ∧
        level 100000 ≤ (0 : BitVec 20).toNat ∧ from_ ≤ (100000 : Nat) ∧ level 0 ≤ (0xFFFFF : BitVec 20).toNat ∧ ((0 : Nat) : Int) < from_ ∧
        ((0 : BitVec 20).toNat : Int) < level 0) ∧
    (let d := here (up.modPh 0 (fun c => { c with out := .high, timed := true }));
      (d.ph 0).out = .high ∧ (d.ph 0).pulse = .none ∧ (d.ph 0).timed = true) ∧
    (let d := here (up.modPh 31 (fun c => { c with out := .low, draining := true }));
      (d.ph 31).out = .low ∧ d.diode 31 = true ∧ (d.ph 31).timed = false ∧ (d.ph 31).pulse ≠ .drain) ∧
    (let d := here (up.modPh 31 (fun c => { c with out := .low, draining := true, pulse := .drain }));
      (d.ph 31).out = .low ∧ d.diode 31 = true ∧ (d.ph 31).pulse = .drain ∧ (d.ph 31).pulseI = none) ∧
    (let d := here (up.modPh 31 (fun c => { c with out := .low, draining := true, pulse := .drain, pulseI := some 7 }));
      (d.ph 31).out = .low ∧ d.diode 31 = true ∧ (d.ph 31).pulse = .drain ∧ (d.ph 31).pulseI = some 7) ∧
    ((here (up.modPh 31 (fun c => { c with placed := true }))).ph 31).placed = true ∧ ((here up).ph 31).placed = false ∧
    ¬ ((here { up with power := .keep }).power = .active) ∧ (here up).boot ≠ .held ∧
    (let d := here (up.modPh 31 (fun c => { c with out := .low, draining := true, timed := true }));
      (d.ph 31).out = .low ∧ d.diode 31 = true ∧ (d.ph 31).timed = true ∧ (d.ph 31).pulse = .none) ∧
    ((here (up.modPh 31 (fun c => { c with pulse := .on }))).ph 31).pulse = .on ∧
    (here up).power = .active ∧ (here up).boot = .complete := by decide +kernel

/-- The comparator of monitor 23's over side runs. -/
def watching (asserted settling : Bool) : Dev := up.modSide 23 true (fun c => { c with on := true, asserted := asserted, settling := settling, thr := 100, rel := 90 })

theorem witness_MonitorCommandsComplete :
    (let d := here (watching false false);
      let c := d.wmSide 23 true;
      c.on = true ∧ c.settling = false ∧ (d.wm 23).test = 0 ∧ d.wmSampled 23 = false ∧ c.asserted = false ∧ d.crossesIn 23 true 1000000000 = true) ∧
    (let d := here (watching true false);
      let c := d.wmSide 23 true;
      c.on = true ∧ c.settling = false ∧ (d.wm 23).test = 0 ∧ d.wmSampled 23 = false ∧ c.asserted = true ∧ d.crossesOut 23 true 0 = true) ∧
    (let d := here (set (watching true false) [(K.WM_ROUTE 23, 0x60000000), (K.WM_TRIP_MASK 23, 0x80000000)]);
      (d.wmSide 23 true).asserted = true ∧ (d.routePhases 23 true).contains 31 = true ∧ routeKind (d.wmRoute 23 true) = 1) ∧
    (let d := here (set (watching true false) [(K.WM_ROUTE 23, 0xA0000000), (K.WM_TRIP_MASK 23, 0x80000000)]);
      (d.wmSide 23 true).asserted = true ∧ (d.routePhases 23 true).contains 31 = true ∧ routeKind (d.wmRoute 23 true) = 2) ∧
    (let d := here (watching false true);
      (d.wmSide 23 true).settling = true ∧ (d.wm 23).test = 0 ∧ d.wmSampled 23 = false ∧ (d.wmSide 23 true).asserted = false) ∧
    (let d := here (set up [(K.WM_CONFIG 0, 128)]);
      d.wmSampled 0 = true ∧ d.wmRuns 0 = true ∧ (d.wm 0).test = 0) ∧
    (let d := here ((up.modSide 0 true (fun c => { c with rel := 100 })).modWm 0 (fun m => { m with test := 1 }));
      (d.wm 0).test = 1 ∧ d.aboveCode 0 (d.wm 0).under.rel 1000 = true ∧ d.belowCode 0 (d.wm 0).upper.rel 1000 = true ∧
        ¬ (d.aboveCode 0 (d.wm 0).under.rel 0 = true ∧ d.belowCode 0 (d.wm 0).upper.rel 0 = true)) ∧
    ((here (up.modWm 23 (fun m => { m with test := 2 }))).wm 23).test = 2 ∧
    ((here (up.modPh 31 (fun c => { c with pkTest := true }))).ph 31).pkTest = true ∧
    ((here up).sg 7).st ≠ .fault ∧
    (let d := here (up.modSg 7 (fun l => { l with st := .fault }));
      (d.sg 7).st = .fault ∧ ∀ p ∈ groupPhases 7, (d.ph p).inSet = false) ∧
    (let d := here ((up.modSg 7 (fun l => { l with st := .fault })).modPh 31 (fun c => { c with inSet := true }));
      31 ∈ groupPhases 7 ∧ (d.ph 31).inSet = true) ∧
    ((here up).wmSide 0 true).asserted = false := by decide +kernel

theorem witness_ComparatorRouteActs : (23 : Nat) < 24 ∧ up.power ≠ .dome ∧ routeKind (up.wmRoute 23 true) = 0 ∧
    routeKind ((set up [(K.WM_ROUTE 23, 0x60000000)]).wmRoute 23 true) = 1 ∧ routeKind ((set up [(K.WM_ROUTE 23, 0x00008000)]).wmRoute 23 false) = 2 := by decide +kernel

/-- An event of source 123. -/
def anEvent : Event := ⟨1, 123, 0x20, 0, 1, 0, []⟩

theorem witness_LogCommandsComplete :
    (let d := here { up with log := { up.log with wait := [anEvent] } };
      d.log.wait = anEvent :: [] ∧ d.supRuns = true ∧ d.erasing = false ∧ d.composes anEvent = false ∧ d.log.stopped = false ∧
        d.log.full = false ∧ d.log.inSpare = false ∧ isLog anEvent 2 = false) ∧
    (let e : Event := ⟨1, 121, 5, 0, 1, 0, []⟩;
      let d := here { up with log := { up.log with wait := [e], clearRun := true } };
      d.log.wait = e :: [] ∧ d.erasing = false ∧ d.composes e = true) ∧
    (let d := here { up with log := { up.log with clearing := some {} } };
      d.log.clearing = some {} ∧ d.log.clearLeft = none ∧ d.supRuns = true ∧ d.log.wait = []) ∧
    (here { up with log := { up.log with clearing := some {}, wait := [anEvent] } }).log.wait ≠ [] ∧
    (let d := here { up with log := { up.log with clearing := some {} }, canB := { enabled := true, bxt := { st := 1, kind := 2 } } };
      d.log.clearing = some {} ∧ d.supRuns = true ∧ (d.bxt .b).st = 1 ∧ (d.bxt .b).kind = 2) ∧
    (let d := here ({ up with log := { up.log with recs := [{}, { esn := 9, block := 107 }] } }.setNum (K.LOG_CURSOR 3) 1);
      Src.canB.iface.isSome = true ∧ d.gateOf .canB = .open_ ∧ d.log.recs[d.nat (K.LOG_CURSOR Src.canB.ownIx)]? = some { esn := 9, block := 107 } ∧
        d.log.badMain.contains 107 = false) := by decide +kernel

/-! Witnesses: power. -/

theorem witness_PowerPathComplete :
    (let d := here { up with path := { up.path with valid := true, validNs := 1000000000000, st := .onBattery } };
      d.path.valid = true ∧ d.num K.T_RETURN * 1000000 ≤ d.path.validNs ∧ d.supRuns = true ∧ d.path.st = .onBattery ∧ d.power ≠ .keep) ∧
    (let d := here { up with chg := { up.chg with st := .cv } };
      d.chg.absent = false ∧ d.chg.st = .cv ∧ d.power ≠ .dome ∧ d.power ≠ .ship ∧ d.boot ≠ .held) ∧
    (let d := here { up with path := { up.path with valid := true, validNs := 1000000000000, st := .handover }, power := .keep };
      d.path.st = .handover ∧ d.seqr.prog = 0 ∧ d.seqr.reqPath = none ∧ d.power = .keep ∧ d.supRuns = true) ∧
    (here up).bit K.CHG_FAULT 11 = false ∧ (here (set up [(K.CHG_FAULT, 0x800)])).bit K.CHG_FAULT 11 = true ∧
    ([(200, 2000), (9450, 65535)].all (fun x => let d := here (set up [(K.TS_HYST, 50), (K.TS_RATIO, x.1), (K.BAT_VOLTAGE, x.2)])
      d.power != .dome && d.power != .ship && d.boot != .held && decide (200 ≤ d.num K.TS_RATIO ∧ d.num K.TS_RATIO ≤ 9500 - d.num K.TS_HYST ∧
        2000 ≤ d.num K.BAT_VOLTAGE))) = true ∧
    (here up).btn.pressed = false ∧ (here up).power ≠ .ship ∧
    (let d := here { up with btn := { up.btn with pressed := true } };
      d.btn.pressed = true ∧ d.btn.warned = false) ∧
    (let d := here { up with btn := { up.btn with shipPending := true }, power := .keep };
      d.btn.shipPending = true ∧ d.power = .keep) ∧
    (here { up with power := .ship }).power = .ship := by decide +kernel

theorem witness_ChargerComplete :
    (let d := here { up with chg := { up.chg with st := .precharge, preNs := 7200000000000 } };
      d.chg.st = .precharge ∧ d.num K.CHG_PRE_TIME * 60000000000 ≤ d.chg.preNs ∧ d.chg.absent = false) ∧
    (let d := here { set up [(K.CHG_TIMER, 86400)] with chg := { up.chg with st := .cc } };
      d.chg.st = .cc ∧ d.num K.CHG_SAFETY_TIME * 3600 ≤ d.num K.CHG_TIMER) ∧
    (let d := here { set up [(K.CHG_VPRE, 3000), (K.BAT_VOLTAGE, 3100)] with chg := { up.chg with st := .precharge } };
      d.supRuns = true ∧ d.chg.st = .precharge ∧ d.num K.CHG_VPRE + 100 ≤ d.num K.BAT_VOLTAGE) ∧
    (let d := here { set up [(K.CHG_VREG, 4200), (K.CHG_VWARM_DELTA, 100), (K.TS_ZONE, 3), (K.BAT_VOLTAGE, 4100)] with chg := { up.chg with st := .cc } };
      d.supRuns = true ∧ d.chg.st = .cc ∧ d.num K.CHG_VREG - d.num K.CHG_VWARM_DELTA ≤ d.num K.BAT_VOLTAGE ∧ d.num K.TS_ZONE = 3) ∧
    (let d := here { set up [(K.CHG_ITERM, 100), (K.BAT_CURRENT, 99)] with chg := { up.chg with st := .cv } };
      d.supRuns = true ∧ d.chg.st = .cv ∧ d.num K.BAT_CURRENT < d.num K.CHG_ITERM) ∧
    (let d := here { set up [(K.CHG_VREG, 4200), (K.CHG_RECHG_DELTA, 150), (K.TS_ZONE, 2), (K.BAT_VOLTAGE, 4049)] with chg := { up.chg with st := .done } };
      d.supRuns = true ∧ d.chg.st = .done ∧ d.num K.BAT_VOLTAGE < d.num K.CHG_VREG - d.num K.CHG_RECHG_DELTA ∧ d.num K.TS_ZONE ≠ 3) ∧
    (let d := here { set up [(K.CHG_VREG, 4200), (K.TS_ZONE, 2), (K.BAT_VOLTAGE, 4301)] with chg := { up.chg with st := .cv } };
      d.chg.absent = false ∧ d.chg.st = .cv ∧ d.num K.CHG_VREG + 100 < d.num K.BAT_VOLTAGE ∧ d.num K.TS_ZONE ≠ 3) ∧
    (let d := here (set up [(K.BAT_CUTOFF, 3000), (K.BAT_VOLTAGE, 2999)]);
      d.bit K.CHG_FAULT 7 = false ∧ d.num K.BAT_VOLTAGE < d.num K.BAT_CUTOFF) ∧
    (let d := here { set up [(K.HK_RAW 0, 3501)] with chg := { up.chg with shortRun := 3, hotRun := 3, tsRun := [(0, 1), (0, 0), (0, 0)] }, die := { run150 := 3 } };
      3 ≤ d.chg.shortRun ∧ 17500 < d.num (K.HK_RAW 0) * 5 ∧ 3 ≤ d.die.run150 ∧ 3 ≤ d.chg.hotRun ∧ d.bit K.CHG_FAULT 8 = false ∧
        d.bit K.CHG_FAULT 7 = false ∧ d.chg.tsRun = [(0, 1), (0, 0), (0, 0)] ∧ d.zoneDue = 1 ∧ (1 : Fin 5).val < d.nat K.TS_ZONE) ∧
    (let d := here { set up [(K.TS_ZONE, 2)] with chg := { up.chg with tsRun := [(4, 4), (3, 2), (4, 4)] } };
      d.nat K.TS_ZONE < (3 : Fin 5).val ∧ d.zoneDue = 3) ∧
    (let d := here { up with boost := { on := true, retries := 3, retrying := true } };
      d.boost.on = true ∧ 3 ≤ d.boost.retries ∧ d.boost.retrying = true) ∧
    (here up).supRuns = true ∧ (here { up with supAbsent := true }).supRuns = false ∧
    (here { up with boost := { on := true } }).boost.retries < 3 := by decide +kernel

theorem witness_ChargerFaultBlocks : up.power ≠ .dome ∧ (set up [(K.CHG_FAULT, 0x8000)]).bit K.CHG_FAULT 15 = true ∧ up.bit K.CHG_FAULT 7 = false ∧
    (set up [(K.CHG_EN, 1)]).num K.CHG_EN ≠ 0 ∧ ({ up with chg := { up.chg with st := .cc } } : Dev).chg.st ≠ .disabled := by decide +kernel

theorem witness_ResetsComplete : (here up).power ≠ .ship ∧ (here up).power ≠ .dome ∧ (here up).boot ≠ .held ∧ (here { up with supAbsent := true }).supAbsent = true ∧
    (here up).nmtAddressed .b 0 = true ∧ (here up).nmtAddressed .a 1 = true ∧ (here up).anyUnitOn = false ∧
    (here { up with btn := { up.btn with pressed := true } }).btn.pressed = true ∧ (here { up with power := .ship }).power = .ship := by decide +kernel

theorem witness_StatesComplete :
    State.reset.dev.heard.boot = .held ∧ ([BootPoint.supervisor, .verified, .loaded].all (fun p => (here { up with boot := p }).boot == p)) = true ∧
    BootPoint.complete.rank ≤ (here up).boot.rank ∧
    (let d := here { set up [(K.SVC_EN, 1), (K.SVC_WAKE, 1)] with power := .dome };
      d.power = .dome ∧ d.wakes .svc = true ∧ d.wakes .vinPresent = true) ∧
    (let d := here { set up [(K.ECONOMY_EN, 0)] with power := .economy };
      d.power = .economy ∧ d.flag K.ECONOMY_EN = false) ∧
    (let d := here { up with power := .economy, pendT := [(K.UNIT_ON 0, .num 1)] };
      d.pendT.filter d.staysPending ≠ []) ∧
    (let d := here { set up [(K.KEEP_DOME_EN, 1)] with power := .keep };
      d.power = .keep ∧ d.flag K.KEEP_DOME_EN = true ∧ d.supRuns = true ∧ d.domeRule 0x656D6F64 = .none) ∧
    (here up).fw.gap = false ∧ (here up).boot ≠ .held ∧ (here { up with fw := { up.fw with gap := true } }).fw.gap = true := by decide +kernel

theorem witness_StorageCommandsComplete :
    (let d := here { up with store := { up.store with run := .store } };
      d.store.run = .store ∧ d.supRuns = true ∧ (entriesBytes d.store.snap.entries).length ≤ 65472) ∧
    (let d := here { up with store := { up.store with run := .factory, snap := { entries := [(K.PROG_IMAGE 0, .bytes (List.replicate 65600 0))] } } };
      d.store.run = .factory ∧ (entriesBytes d.store.snap.entries).length > 65472) ∧
    (let d := here { up with store := { up.store with run := .restore } };
      d.store.run = .restore ∧ d.supRuns = true) ∧
    (here { up with fw := { up.fw with run := .erase 1 } }).fw.run = .erase 1 ∧
    (let d := here { up with fw := { up.fw with run := .verify 1, slots := #v[⟨4, [], true⟩, ⟨1, [], false⟩] } };
      d.fw.run = .verify 1 ∧ fwCheck (d.slot 1) ≠ 0) ∧
    (let d := here { set up [(K.FW_AUTO_CONFIRM, 1)] with fw := { up.fw with slots := #v[⟨3, [], true⟩, ⟨4, [], false⟩] } };
      d.flag K.FW_AUTO_CONFIRM = true ∧ (d.slot d.runSlot).st = 3 ∧ d.supRuns = true) := by decide +kernel

/-- An action word of kind `k` on unit `u`. -/
def word (k u v : Int) : Int := k * 2 ^ 28 + u * 2 ^ 22 + v

/-- The sequencer stands at step 0, whose action word is `w`. -/
def stepping (w : Int) : Dev := { set up [(K.SEQ_STEP_ACTION 0, w)] with seqr := { up.seqr with prog := 1, left := 1 } }

theorem witness_SequencerComplete :
    (here (stepping 0)).stepDue 0 = true ∧
    (let d := here (stepping (word 1 14 0));
      d.stepDue 1 = true ∧ d.unitRule .seq (actUnit (d.num (K.SEQ_STEP_ACTION 0))) 1 = .none) ∧
    (let d := here (stepping (word 1 0 0));
      d.stepDue 1 = true ∧ d.unitRule .seq (actUnit (d.num (K.SEQ_STEP_ACTION 0))) 1 ≠ .none) ∧
    (let d := here (stepping (word 2 0 0));
      d.stepDue 2 = true ∧ d.unitRule .seq (actUnit (d.num (K.SEQ_STEP_ACTION 0))) 0 = .none) ∧
    (let d := here (force (stepping (word 2 14 0)) [(K.LDO_KEEP 0, 1)]);
      d.stepDue 2 = true ∧ d.unitRule .seq (actUnit (d.num (K.SEQ_STEP_ACTION 0))) 0 ≠ .none) ∧
    (here (stepping (word 3 0 0))).stepDue 3 = true ∧ actUnit (word 3 0 0) < 8 ∧ 8 ≤ actUnit (word 3 8 0) ∧ (here (stepping (word 3 8 2458))).stepDue 3 = true ∧
    (here (stepping (word 4 0x20 1))).stepDue 4 = true ∧ (here (stepping (word 5 0 0xFFFF))).stepDue 5 = true ∧
    (let d := here { stepping 0 with seqr := { up.seqr with prog := 1, phase := 1, waitN := 100000 } };
      d.supRuns = true ∧ d.seqr.prog ≠ 0 ∧ d.seqr.phase = 1 ∧ d.stepTimeout + 1 ≤ d.seqr.waitN) ∧
    ([1, 3, 4].all (fun p => (here { up with seqr := { up.seqr with prog := p } }).progOver)) = true ∧
    (let d := here { up with seqr := { up.seqr with sqiSeen := true } };
      d.seqr.sqiSeen = true ∧ d.seqr.sqi.testBit (3 : Fin 4) ≠ true ∧ d.ticking = true) ∧
    (let d := here { up with seqr := { up.seqr with sqiSeen := true, sqi := 1 } };
      d.seqr.sqi.testBit (0 : Fin 4) ≠ false) := by decide +kernel

theorem witness_TimersAndEventsComplete :
    (here up).xoFaulty = false ∧ (here up).supHalted = false ∧ (here up).power ≠ .dome ∧ (here up).power ≠ .ship ∧ (here up).boot ≠ .held ∧
    (let d := here { set up [(K.TM_STATUS 3, 0x8000), (K.TM_STATUS 15, 0x8000), (K.TM_PRESCALE 3, 10), (K.TM_PRESCALE 15, 65536)] with
        tms := (up.tms.set 3 { pre := 4 }).set 15 { pre := 65530 } };
      d.clk.lfMode = false ∧ d.runningTimers = [3, 15] ∧
        (∀ t ∈ d.runningTimers, 6 ≤ d.nat (K.TM_PRESCALE t) - (d.tm t).pre) ∧ (∃ t ∈ d.runningTimers, d.nat (K.TM_PRESCALE t) - (d.tm t).pre = 6) ∧
        d.runningTimers.filter (fun t => decide (d.nat (K.TM_PRESCALE t) - (d.tm t).pre ≤ 6)) = [3, 15]) ∧
    (here up).runningTimers = [] ∧
    ([true, false].all (fun lf => [Power.dome, .active].all (fun p => let d := here ({ up with power := p }.lfSet lf); d.clk.lfMode == lf && d.power == p))) = true ∧
    (here { up with supHalted := true }).supHalted = true ∧ (here up).supHalted = false ∧
    (let d := here { up with ev := { up.ev with queue := [anEvent] } };
      d.ev.queue = anEvent :: [] ∧ d.supRuns = true ∧ d.power ≠ .dome) ∧
    (let d := here { up with ev := { up.ev with lost := some (4294967295, 1), lostN := 3 } };
      d.ev.lost = some (4294967295, 1) ∧ d.ev.queue.length < 1024 ∧ d.ev.lossDue = false) ∧
    (let d := here { set up [(K.EV_ROUTE 76, 0x200)] with power := .dome, ev := { up.ev with domeSeen := [(76, 1)] } };
      d.wakes (.timer 2) = true ∧ (∀ i : Fin 16, i < 2 → d.wakes (.timer i) = false)) ∧ (∀ i : Fin 16, (here up).wakes (.timer i) = false) := by decide +kernel

/-! Witnesses: ports, access, network. -/

/-- The table is full for CANA, SVC and PMBUS: each holds 64 running entries. -/
def full : Dev := { up with ops := [Src.canA, .svc, .pmbus].flatMap (fun p => List.replicate 64 ⟨1, .running, p, K.UNIT_ON 0, .none, []⟩) }

theorem witness_TargetsAndBulkComplete :
    (here up).twLive .pmb = true ∧ (here up).twLive .svc = true ∧ (here { up with alert := true }).alert = true ∧ (here up).alert = false ∧
    (here { up with power := .dome }).twLive .pmb = false ∧ (here { up with power := .dome }).twLive .svc = false ∧
    (here { up with power := .dome }).bulkLive .svc = false ∧ (here (force up [(K.PMB_CONFIG, 0)])).bulkLive .pmb = false ∧
    (let d := here { up with supAbsent := true };
      d.bulkLive .pmb = true ∧ d.opsOpen = false) ∧
    (let d := here full;
      d.bulkLive .svc = true ∧ d.opsOpen = true ∧ d.hasEntry .svc = false) ∧
    (let d := here (set up [(K.BULK_WINDOW 0, 5)]);
      d.bulkLive .pmb = true ∧ d.opsOpen = true ∧ d.hasEntry .pmbus = true ∧ d.bulkBlocked .pmb = true) ∧
    (let d := here (set up [(K.BULK_WINDOW 0, 6)]);
      d.bulkLive .pmb = true ∧ d.opsOpen = true ∧ d.hasEntry .pmbus = true ∧ d.bulkBlocked .pmb = false ∧ d.bulkForbids .pmb = true ∧ d.bulkWindow .pmb ≠ 0xFF00) ∧
    (let d := here (set up [(K.BULK_WINDOW 1, 0xFF00), (K.BULK_OBJECT 1, K.PROG_IMAGE 15)]);
      d.bulkForbids .svc = false ∧ d.bulkBlocked .svc = false ∧ d.nat (K.BULK_WINDOW (bulkIx .svc)) = 0xFF00) ∧
    (let d := here (set up [(K.BULK_WINDOW 1, 0xFF00), (K.BULK_OBJECT 1, K.PULSE_RESULT 31)]);
      d.bulkBlocked .svc = false ∧ d.bulkWindow .svc = 0xFF00 ∧ d.readRule .svc (d.bulkNamed .svc) = .none ∧
        (d.modTw .svc (fun x => { x with ptr := 5 })).bulkBlocked .svc = false) ∧
    (let d := here (set up [(K.BULK_WINDOW 0, 0x200)]);
      d.bulkForbids .pmb = false ∧ d.bulkWindow .pmb ≠ 0xFF00) ∧
    (let d := here up;
      d.gateOf .pmbus = .open_ ∧ cmdOk (0xFF : Byte).toNat (d.pageOf .pmb) = false ∧ cmdOk (0 : Byte).toNat (d.pageOf .pmb) = true ∧ protects (d.nat K.PMB_WRITE_PROTECT) 0xE0 = false) ∧
    (let d := here (set up [(K.PMB_WRITE_PROTECT, 0x80)]);
      d.twLive .svc = true ∧ d.opsOpen = true ∧ d.hasEntry .svc = true ∧ protects (d.nat K.PMB_WRITE_PROTECT) 0xE0 = true) := by decide +kernel

theorem witness_ControllersComplete :
    (let d := here { up with lbCtrl := { busy := true, started := true, retries := 2 }, pmbCtrl := { busy := true, started := true, retries := 3 } };
      (d.ctrl true).started = true ∧ (d.ctrl true).busy = true ∧ d.num K.LB_RETRY_COUNT ≤ (d.ctrl true).retries ∧
        (d.ctrl false).started = true ∧ (d.ctrl false).busy = true ∧ d.num K.PMB_RETRY_COUNT ≤ (d.ctrl false).retries) ∧
    (let d := here { up with lbCtrl := { busy := true, started := true, retries := 1 }, pmbCtrl := { busy := true, started := true, retries := 2 } };
      (d.ctrl true).retries < d.num K.LB_RETRY_COUNT ∧ (d.ctrl false).retries < d.num K.PMB_RETRY_COUNT) ∧
    ((here up).ctrl true).started = false ∧ ((here up).ctrl false).started = false ∧
    (here up).ctrlOn true = true ∧ (here (force up [(K.PMB_CONFIG, 3)])).ctrlOn false = true ∧ (here up).ctrlOn false = false ∧
    (let d := here ({ set up [(K.LB_STAGE_ADDR 31, 8), (K.LB_STAGE_FAULT_MASK, 0x8000), (K.PHASE_SVC_STATE 31, 3)] with lbWait := [.alert, .qualRead 30, .sgRead 31] }.modPh
        31 (fun c => { c with afterSg := true }));
      let e := d.lbDrop (.sgRead 31);
      d.lbLive = true ∧ d.supRuns = true ∧ d.lbTurn (.sgRead 31) = true ∧ e.svcOf 31 = 3 ∧
        (e.ph 31).afterSg = true ∧ e.stageFaulty 0x8000 = true ∧ e.stageFaulty 0x7FFF = false ∧
        d.lbTurn (.sgRead 30) = false ∧ d.lbTurn (.qualRead 30) = false ∧ (d.lbAsk .alert).lbTurn .alert = false) ∧
    (let d := here { up with lbWait := [.alert, .qualRead 30] };
      d.lbTurn (.sgRead 30) = false ∧ d.lbTurn (.qualRead 30) = true ∧ d.lbNext = some (.qualRead 30) ∧ d.lbCtrl.tries < d.num K.LB_RETRY_COUNT ∧
        (d.ctrl true).started = false ∧ d.lbLive = true) ∧
    (let d := here { up with lbWait := [.alert], lbCtrl := { tries := 2 } };
      d.lbNext = some .alert ∧ d.num K.LB_RETRY_COUNT ≤ d.lbCtrl.tries ∧ (here up).lbNext = none) ∧
    (let d := here (set (force up [(K.LB_CONFIG, 3)]) [(K.LB_STAGE_ADDR 31, 8)]);
      bitAt (d.effNum K.LB_CONFIG) 1 = true ∧ (0 : Byte).toNat ≠ pecOf (leBytes 1 (2 * d.nat (K.LB_STAGE_ADDR 31) : Nat) ++ leBytes 1 (d.num K.LB_STAGE_STATUS_CMD) ++
        leBytes 1 (2 * d.nat (K.LB_STAGE_ADDR 31) + 1 : Nat) ++ leBytes 2 (0 : BitVec 16).toNat)) ∧
    (here { up with power := .dome }).lbLive = false ∧ ((here up).lbAsk .alert).lbTurn .alert = true ∧
    ([(8, 0)] : List (BitVec 7 × BitVec 16)).length ≤ (here up).nat K.LB_ALERT_MAX ∧
    (here (set up [(K.LB_ALERT_MAX, 1)])).nat K.LB_ALERT_MAX < ([(8, 0), (9, 0)] : List (BitVec 7 × BitVec 16)).length := by decide +kernel

theorem witness_AccessCommandsComplete :
    (let d := here locked;
      2 ≤ (vget d.acc.ifs 0).level ∧ (vget d.acc.ifs 0).debugOwner = false ∧ d.debugAvail = false ∧ (vget d.acc.ifs 2).level < 2) ∧
    (let d := here (locked.modIface 4 (fun x => { x with level := 3, debugOwner := true }));
      2 ≤ (vget d.acc.ifs 3).level ∧ (vget d.acc.ifs 3).debugOwner = true) ∧
    (here (up.backoffSet 1)).acc.wait ≠ 0 ∧
    (here { up with power := .ship }).power = .ship ∧ (here (set up [(K.UNIT_ON 17, 1)])).anyUnitOn = true ∧
    (here up).power ≠ .ship ∧ (here up).debugAvail = true ∧ (here up).anyUnitOn = false := by decide +kernel

theorem witness_NodeCommandsComplete :
    (here up).nmtAddressed .a 0 = true ∧ (here up).nmtAddressed .b 1 = true ∧
    (here up).nmtAddressed .a 127 = false ∧ (here (set up [(K.PRODUCER_HEARTBEAT_TIME, 0)])).num K.PRODUCER_HEARTBEAT_TIME = 0 ∧
    (here up).hbEntry (127 : BitVec 8).toNat = none ∧ (vget (here up).node.hb (3 : Fin 4)).heard = false ∧
    ((here { up with canA := {} }).port .a).enabled = false ∧ ((here { up with canA := { enabled := true, idConflict := true } }).port .a).idConflict = true ∧
    7 ≤ ((here { up with canA := { enabled := true, busOffRun := 7 } }).port .a).busOffRun ∧
    (let d := here (set up [(K.CAN_REDUNDANCY, 1)]);
      d.num K.CAN_REDUNDANCY = 1 ∧ d.node.activeB = false ∧ d.canA.errPassive = false ∧ d.canA.busOff = false) ∧
    (here up).num K.CAN_REDUNDANCY ≠ 1 ∧
    (let d := here up;
      d.num K.PRODUCER_HEARTBEAT_TIME ≠ 0 ∧ d.node.nmt ≠ .initialising ∧ buses.filter d.portBeats ≠ []) ∧
    (let d := here (set up [(K.CONSUMER_HEARTBEAT_TIME 3, 0x7F0001)]);
      d.canHears .b = true ∧ d.hbEntry (127 : BitVec 8).toNat = some 3) ∧
    (let d := here { set up [(K.CONSUMER_HEARTBEAT_TIME 3, 0x7F0001)] with node := { up.node with hb := vmod up.node.hb 3 (fun h => { h with heard := true }) } };
      (vget d.node.hb (3 : Fin 4)).heard = true ∧ fieldAt (d.num (K.CONSUMER_HEARTBEAT_TIME (3 : Fin 4))) 0 16 ≠ 0 ∧ d.canLive = true) ∧
    (let d := here { up with canA := { enabled := true, errPassive := true }, canB := { enabled := true, busOff := true } };
      (d.port .a).errPassive = true ∧ (d.port .a).busOff = false ∧ (d.port .b).busOff = true) ∧
    (let d := here up;
      (d.port .a).enabled = true ∧ (d.port .a).emcy = [] ∧ (d.port .a).idConflict = false ∧ (d.port .a).busOff = false ∧ (d.port .a).errPassive = false ∧
        (d.port .a).busOffRun < 7) ∧
    ((here { up with canB := { enabled := true, emcy := [anEvent] } }).port .b).emcy = anEvent :: [] ∧
    (let d := here { set up [(K.CAN_REDUNDANCY, 1)] with canA := { enabled := true, busOff := true } };
      d.num K.CAN_REDUNDANCY = 1 ∧ d.node.activeB = false ∧ d.canA.busOff = true ∧ d.canB.enabled = true ∧ d.canB.errPassive = false ∧ d.canB.busOff = false) ∧
    (let d := here { set up [(K.CAN_REDUNDANCY, 1)] with node := { up.node with activeB := true } };
      d.node.activeB = true ∧ d.canA.enabled = true ∧ d.canA.errPassive = false ∧ d.canA.busOff = false) ∧
    2 ≤ ((here locked).iface 2).level ∧ 2 ≤ ((here (locked.modIface 3 (fun x => { x with level := 2 }))).iface 3).level ∧
    (here up).canOn = true ∧ (here { up with power := .dome }).canOn = false ∧
    (here up).node.nmt = .preOperational ∧ ([Bus.a, Bus.b].foldl emcySend ([], here up)).1 = [] ∧
    ([Bus.a, Bus.b].foldl emcySend ([], here { up with canB := { enabled := true, emcy := [anEvent] } })).1 ≠ [] := by decide +kernel

theorem witness_SdoPdoComplete :
    (here up).canServes .a = true ∧ (here up).canServes .b = true ∧
    ((here { up with canB := { enabled := true, sdo := .down 0 (some 8) [] false } }).port .b).sdo = .down 0 (some 8) [] false ∧
    ((here { up with canB := { enabled := true, sdo := .up 0 [1, 2, 3, 4, 5, 6, 7, 8] true } }).port .b).sdo = .up 0 [1, 2, 3, 4, 5, 6, 7, 8] true ∧
    ((here up).port .a).sdo = .idle ∧
    (let idle := (here up).setSdo .a .idle;
      idle.gateOf .canA = .open_ ∧ idle.readRule .canA K.LOCK_STATE = .none ∧ 1 ≤ (idle.readObj K.LOCK_STATE).1.length ∧ (idle.readObj K.LOCK_STATE).1.length ≤ 4 ∧
        idle.readRule .canA K.RESET_INFO = .none ∧ 5 ≤ (idle.readObj K.RESET_INFO).1.length) ∧
    (let x : Dev := set up [(K.RPDO_COB_ID 3, 0x201), (K.RPDO_MAP_COUNT 3, 1), (K.RPDO_MAPPING 3 0, K.VOUT_COMMAND 7 * 256 + 32)];
      let d := here { x with node := { up.node with nmt := .operational } };
      let w := here { x with node := { up.node with nmt := .operational, rpdoLeft := vset up.node.rpdoLeft 3 100000, rpdoHeld := vset up.node.rpdoHeld 3 (some (.b, [0, 16, 0, 0])) } };
      d.canHears .b = true ∧ d.node.nmt = .operational ∧ (d.cobId (K.RPDO_COB_ID 3)).testBit 31 = false ∧ d.hasEntry .canB = true ∧
        d.pdoMap 0x1603 = [(K.VOUT_COMMAND 7, 4)] ∧ vget d.node.rpdoLeft 3 = 0 ∧ vget w.node.rpdoLeft 3 = 100000 ∧
        vget w.node.rpdoHeld 3 = some (.b, [0, 16, 0, 0]) ∧ w.opsOpen = true ∧ w.hasEntry .canB = true ∧
        (w.pdoMap 0x1603).map (fun x => x.2) = [4] ∧ w.canHears .b = true) ∧
    (here (set up [(K.TPDO_EVENT_TIMER 3, 1)])).num (K.TPDO_EVENT_TIMER 3) ≠ 0 ∧ (here up).num (K.TPDO_EVENT_TIMER 3) = 0 ∧
    (here { up with canA := {} }).canServes .a = false ∧ (here up).node.nmt ≠ .operational ∧
    (let idle := (here up).setSdo .a .idle;
      idle.readRule .canA K.SOFT_RESET ≠ .none) := by decide +kernel

theorem witness_BulkTransfersComplete :
    (let d := here up;
      d.canServes .b = true ∧ (d.bxt .b).st = 0 ∧ d.hasEntry .canB = true) ∧
    (let d := here up;
      d.bxtReadRule .b (2 : BitVec 8).toNat 0 0 64 1 = .none ∧ d.bxtReadRule .b (9 : BitVec 8).toNat 0 0 64 1 ≠ .none ∧
        (here { up with canB := {} }).canServes .b = false) ∧
    (here { full with canB := { enabled := true } }).hasEntry .canA = false ∧
    (let d := here { up with canB := { enabled := true, bxt := { st := 1, tag := 255, len := 60, sentTo := 1 } } };
      (d.bxt .b).st = 1 ∧ (d.bxt .b).tag = (255 : BitVec 8).toNat ∧ (0 : BitVec 16).toNat < frameCount (d.bxt .b).len ∧ frameCount (d.bxt .b).len ≤ (1 : BitVec 16).toNat ∧
        (1 : BitVec 16).toNat ≤ (d.bxt .b).sentTo) ∧
    (let d := here { up with canB := { enabled := true, bxt := { st := 2, tag := 255, len := 181, block := 64, kind := 5, idx := 0x4F20, unit := 15 } } };
      (d.bxt .b).st = 2 ∧ (d.bxt .b).tag = (255 : BitVec 8).toNat ∧ (0 : BitVec 16).toNat = (d.bxt .b).nextCtr ∧ (0 : BitVec 16).toNat < frameCount (d.bxt .b).len ∧
        ((0 : BitVec 16).toNat + 1) % (d.bxt .b).block ≠ 0 ∧ (0 : BitVec 16).toNat + 1 ≠ frameCount (d.bxt .b).len ∧ (d.bxt .b).nextCtr < frameCount (d.bxt .b).len) ∧
    (let d := here { up with canB := { enabled := true, bxt := { st := 2, tag := 1, len := 60, block := 1, kind := 5, idx := K.PROG_IMAGE 15 / 256, unit := K.PROG_IMAGE 15 % 256, nextCtr := 1, data := List.replicate 60 0 } } };
      let t := d.bxt .b;
      frameCount t.len ≤ t.nextCtr ∧ (60 : BitVec 32).toNat = t.len ∧ crc32 (slice t.data 0 t.len) = (BitVec.ofNat 32 (crc32 (List.replicate 60 0))).toNat ∧
        crc32 (slice t.data 0 t.len) ≠ (0 : BitVec 32).toNat ∧ d.hasEntry .canB = true ∧ t.kind ≠ 3 ∧ t.off = 0 ∧ isDomain (t.idx * 256 + t.unit) = true ∧
        ((d.unreserve .canB (bxtKey .b t.kind t.unit t.idx)).modBxt .b (fun x => { x with st := 3 })).hasEntry .canB = true) ∧
    (let d := here { full with canA := { enabled := true, bxt := { st := 2, tag := 1, len := 60, block := 1, kind := 3, nextCtr := 1, data := List.replicate 60 0 } } };
      let t := d.bxt .a;
      frameCount t.len ≤ t.nextCtr ∧ (60 : BitVec 32).toNat = t.len ∧ t.kind = 3 ∧
        ((d.unreserve .canA (bxtKey .a t.kind t.unit t.idx)).modBxt .a (fun x => { x with st := 3 })).hasEntry .canA = false) := by decide +kernel

theorem witness_WrongFramesTurnedAway :
    (here up).canHears .b = true ∧ (here { up with power := .dome }).canHears .b = false ∧ (here up).canServes .b = true ∧ (here up).muted .canB = false ∧
    (let d := here { up with canB := { enabled := true, idConflict := true } };
      d.canServes .b = true ∧ d.muted .canB = true) ∧ (here { up with canB := {} }).canServes .b = false := by decide +kernel

/-! Witnesses: load interface. -/

theorem witness_LoadInterfaceComplete :
    (here { up with lil := { st := .training } }).lil.st = .training ∧ (here { up with lil := { st := .up } }).lil.st = .up ∧
    (let d := here (up.modRl 7 (fun r => { r with intents := vset r.intents 7 (some { age := 5, deadline := 5 }) }));
      vget (d.rl (7 : Fin 8)).intents (7 : Fin 8) = some { age := 5, deadline := 5 }) ∧
    ((here (up.modRl 7 (fun r => { r with due := 16 }))).rl 7).due.testBit 4 = true ∧ ((here up).rl 7).due.testBit 4 = false ∧
    (here up).lil.st ≠ .training ∧ (here up).lil.st ≠ .up ∧ vget ((here up).rl (7 : Fin 8)).intents (7 : Fin 8) = none ∧
    (let d := here (set up [(K.HK_RAW 0, 4095), (K.PFW_FORCE, 1)]);
      d.num K.PFW_VIN_TH + d.num K.PFW_HYST ≤ d.num (K.HK_RAW 0) * 5 ∧ d.flag K.PFW_FORCE = true) ∧
    (let d := here { set up [(K.HK_RAW 0, 4095)] with power := .keep };
      ¬ d.path.st ≠ .onInput ∧ d.load.pfwProg = false ∧ d.flag K.PFW_FORCE = false ∧ d.ticking = false) ∧
    (let d := here (set up [(K.HK_RAW 0, 0)]);
      ¬ d.num K.PFW_VIN_TH + d.num K.PFW_HYST ≤ d.num (K.HK_RAW 0) * 5) ∧
    (let d := here up;
      ¬ (d.load.throttle = true ∧ d.throttleCause = false ∧ d.num K.THROTTLE_HOLD * 1000 ≤ (d.load.throttleN - 1) * d.tickNs) ∧ (d.rl 7).rdyN = 0) ∧
    (here { up with supAbsent := true }).supRuns = false ∧
    (let d := here { up with load := { up.load with throttle := true, throttleN := 100000 } };
      d.load.throttle = true ∧ d.throttleCause = false ∧ d.num K.THROTTLE_HOLD * 1000 ≤ (d.load.throttleN - 1) * d.tickNs) ∧
    (let d := here (set up [(K.HK_RAW 0, 4095)]);
      d.num K.PFW_VIN_TH + d.num K.PFW_HYST ≤ d.num (K.HK_RAW 0) * 5 ∧ ¬ d.path.st ≠ .onInput ∧ d.load.pfwProg = false ∧ d.flag K.PFW_FORCE = false ∧ d.ticking = true) ∧
    (let d := here ((set up [(K.UNIT_ON 7, 1), (K.RDY_MONITOR 7, 255)]).modRl 7 (fun r => { r with rdyN := 1000000, done := true, leftSs := true }));
      (d.rl 7).glove = false ∧ 1 ≤ (d.rl 7).rdyN ∧ d.num (K.RDY_DELAY 7) * 1000 ≤ ((d.rl 7).rdyN - 1) * d.tickNs ∧ d.readyCond 7 = true) ∧
    (here up).supRuns = true := by decide +kernel

theorem witness_AvsFramesComplete :
    (let d := here (set (force up [(K.AVS_EN, 1)]) [(K.AVS_SELECT 7, 14), (K.AVS_SELECT 0, 255)]);
      d.avsLive = true ∧ d.avsRails 14 = 7 :: [] ∧ d.avsRails 0 = [] ∧ (14 : Fin 16) ≠ 15 ∧ (4 : Fin 16) ∉ ([0, 1, 2, 3, 14] : List (Fin 16)) ∧ d.opsOpen = true ∧ d.hasEntry .avs = true) ∧
    (let d := here { force up [(K.AVS_EN, 1)] with load := { up.load with waiting := [⟨15, 0, 4096, 0⟩, ⟨3, 2, 0, 3⟩] } };
      d.load.waiting.find? (fun x => x.sel == (15 : Fin 16).val) = some ⟨15, 0, 4096, 0⟩ ∧
        d.load.waiting.find? (fun x => x.sel == (3 : Fin 16).val) = some ⟨3, 2, 0, 3⟩ ∧ d.opsOpen = true ∧ d.hasEntry .avs = true) ∧
    (here up).avsLive = false ∧ (here up).load.waiting.find? (fun x => x.sel == (15 : Fin 16).val) = none ∧
    (let d := here { force up [(K.AVS_EN, 1)] with supAbsent := true };
      d.avsLive = true ∧ d.opsOpen = false) := by decide +kernel

/-! Witnesses: writes and reads at a port. -/

theorem witness_PortTurnsAway :
    (hostWriteOf (.unitEnable .svc 0)).map (fun w => w.port) = some .svc ∧ hostReadOf (.authNonceRead .canA) = some (.canA, K.AUTH_NONCE 2) ∧
    (here { up with power := .dome }).gateOf .svc = .silent ∧ (here { up with power := .dome }).gateOf .canA = .silent ∧
    (here { up with supAbsent := true }).gateOf .pmbus = .absent ∧ (here full).gateOf .svc = .full ∧ (here full).gateOf .canA = .full ∧
    (here full).muted .canA = false ∧ ({ full with canA := { enabled := true, idConflict := true } } : Dev).muted .canA = true ∧
    (({ full with canA := { enabled := true, idConflict := true } } : Dev).port .a).idConflict = true ∧
    (here { full with canA := { enabled := true, idConflict := true } }).gateOf .canA = .full := by decide +kernel

theorem witness_WriteDecisionOrder :
    objRow 0x1234 = none ∧ idxExists (0x1FFF00 / 256) = false ∧ objRow 0x1FFF00 = none ∧
    (objRow 0x291020 = none ∧ idxExists (0x291020 / 256) = true ∧ 0x291020 % 256 ≠ 0) ∧
    (objRow 0x291000 = none ∧ idxExists (0x291000 / 256) = true) ∧
    (objRow K.RESET_INFO).map (fun r => r.acc) = some .ro ∧
    ((objRow K.LOCK_STATE).any (fun r => decide (r.acc ≠ .ro ∧ locked.level .canA < locked.writeLevel r K.LOCK_STATE))) = true ∧
    ((objRow (K.UNIT_ON 17)).any (fun r => decide (r.acc ≠ .ro ∧ up.writeLevel r (K.UNIT_ON 17) ≤ up.level .svc ∧
          lengthOk r [] = false ∧ lengthOk r [1] = true ∧ rangeOk up r (K.UNIT_ON 17) (r.ty.decode [2]) = false ∧
          rangeOk up r (K.UNIT_ON 17) (r.ty.decode [1]) = true ∧ (∃ e ∈ full.ops, e.key = K.UNIT_ON 0 ∧ e.st = .running) ∧ (∀ e ∈ up.ops, e.key = K.UNIT_ON 17 → e.st ≠ .running)))) = true := by decide +kernel

theorem witness_RegulatorWritesComplete_0 :
    ([Instr.unitEnable .canA 14,
      .unitEnable .svc 17,
      .unitDisable .pmbus 17,
      .bkVoutCommandWrite .canB 5 (leBytes 2 2458),
      .voutCommandWrite .svc 0 (leBytes 2 819),
      .marginStateWrite .canA 7 [2],
      .loopModeWrite .canA 0 [1],
      .policyHoldWrite .canA 0 [1],
      .lilEnWrite .canA [1],
      .intentResume .canA 7,
      .phaseRailWrite .canA 31 [255],
      .realign .canA 0,
      .forceMid .canA 31].all (accepts up regulatorEffect)) = true := by decide +kernel

theorem witness_RegulatorWritesComplete_1 :
    ([Instr.release .canA 31,
      .groupDrain .canA 0,
      .groupDrainForce .canA 7,
      .groupAdmit .canA 7,
      .clearFaultsWrite .canA 0,
      .clearFaultsWrite .canA 17].all (accepts up regulatorEffect)) = true := by decide +kernel

theorem witness_RegulatorWritesComplete_set :
    accepts (set up [(K.POLICY_HOLD 0, 1)]) regulatorEffect (.policyEntryWrite .canA 0 0x2508 1 (leBytes 2 1)) = true ∧
    accepts (up.modSg 7 (fun l => { l with st := .present })) regulatorEffect (.singlePulse .canA 31) = true ∧
    accepts (set up [(K.PHASE_SVC_STATE 0, 3)]) regulatorEffect (.drain .canA 0) = true ∧
    accepts (set up [(K.PHASE_SVC_STATE 31, 4)]) regulatorEffect (.drainForce .canA 31) = true ∧
    accepts (set (up.modSg 0 (fun l => { l with st := .present })) [(K.PHASE_SVC_STATE 0, 7)]) regulatorEffect (.admitPhase .canA 0) = true := by decide +kernel

theorem witness_EngineWritesComplete_0 :
    ([Instr.perfProfileWrite .canA [1],
      .profileSchedWrite .canA [1],
      .profileAtTickWrite .canA (leBytes 4 100),
      .capArm .canA,
      .capForceTrigger .canA,
      .capAbort .canA,
      .progShadowSel .canA 0 (leBytes 2 1),
      .progImage .canA 15 (List.replicate 64 0),
      .bankSwapReq .canA 15,
      .bankCopy .canA 15,
      .coefWrite .canA 0 true 0 (List.replicate 8 0),
      .mailboxPost .canA 15].all (accepts up engineEffect)) = true := by decide +kernel

theorem witness_EngineWritesComplete_set :
    accepts (set up [(K.PERF_PROFILE, 3)]) engineEffect (.tickRateWrite .canA [4]) = true ∧
    accepts (up.modEng 0 (fun g => { g with shadowSt := .checked })) engineEffect (.progSwapReq .canA 0 [1]) = true ∧
    accepts (up.modEng 15 (fun g => { g with shadowSt := .checked, shadow := { Image.none with id := 6 } })) engineEffect (.libStore .canA (leBytes 2 0x30F)) = true := by decide +kernel

theorem witness_BoardWritesComplete_0 :
    ([Instr.powerUp .canA,
      .powerDown .canA,
      .wmSwap .canA 0,
      .wmTie .canA 23,
      .pkTestCmd .canA 31 [1],
      .tmStop .canA 15,
      .tmReset .canA 15,
      .tmGlobalStart .canA (leBytes 2 0xFFFF),
      .tmGlobalStop .canA (leBytes 2 0xFFFF),
      .tmPeriodWrite .canA 0 (leBytes 4 1),
      .tmCompareWrite .canA 15 (leBytes 4 0),
      .intAck .canA 0 (leBytes 4 1),
      .evTest .canA (leBytes 2 0)].all (accepts up boardEffect)) = true := by decide +kernel

theorem witness_BoardWritesComplete_1 :
    ([Instr.chgEnWrite .canA [1],
      .accRestart .canA,
      .logSeekEsn .canA (leBytes 4 1),
      .logTimeMark .canA (List.replicate 12 0),
      .logClear .canA (leBytes 4 0x65706977),
      .errorHistoryClear .canA,
      .opQueryOsn .canA (leBytes 4 1)].all (accepts up boardEffect)) = true := by decide +kernel

theorem witness_BoardWritesComplete_set :
    accepts ({ up with seqr := { up.seqr with prog := 1 } }) boardEffect (.abort .canA) = true ∧
    accepts (set up [(K.TM_PERIOD 15, 1)]) boardEffect (.tmStart .canA 15) = true ∧
    accepts (set up [(K.CHG_EN, 0)]) boardEffect (.chgChemWrite .canA [1]) = true ∧
    accepts ({ up with path := { up.path with st := .onBattery } }) boardEffect (.shipCmd .canA (leBytes 4 0x70696873)) = true := by decide +kernel

theorem witness_SystemWritesComplete_0 :
    ([Instr.domeCmd .canA (leBytes 4 0x656D6F64),
      .softReset .canA (leBytes 4 0x746F6F62),
      .storeParameters .canA (leBytes 4 0x65766173),
      .restoreDefaultParameters .canA (leBytes 4 0x64616F6C),
      .factorySettings .canA (leBytes 4 0x74636166),
      .fwErase .canA [1],
      .lbXfer .canA [127, 3, 1, 0, 0],
      .bulkWindowWrite .canA 1 (leBytes 2 0xFF00),
      .bulkObjectWrite .canA 2 (leBytes 4 (K.PROG_IMAGE 15)),
      .authClose .canA,
      .authPasswordWrite .canA 1 (List.replicate 8 1),
      .authKeyWrite .canA (List.replicate 32 1),
      .debugOpen .canA [1]].all (accepts up systemEffect)) = true := by decide +kernel

theorem witness_SystemWritesComplete_1 :
    ([Instr.objectWrite .canA 0x2910 18 [1]].all (accepts up systemEffect)) = true := by decide +kernel

theorem witness_SystemWritesComplete_set :
    accepts ({ up with fw := { up.fw with slots := #v[⟨4, [], true⟩, ⟨1, [], false⟩] } }) systemEffect (.fwWrite .canA (List.replicate 9 0)) = true ∧
    accepts ({ up with fw := { up.fw with slots := #v[⟨4, [], true⟩, ⟨1, [], false⟩] } }) systemEffect (.fwVerify .canA [1]) = true ∧
    accepts ({ up with fw := { up.fw with slots := #v[⟨4, [], true⟩, ⟨2, [], false⟩] } }) systemEffect (.fwSwitch .canA (leBytes 4 0x70617773)) = true ∧
    accepts ({ up with fw := { up.fw with slots := #v[⟨3, [], true⟩, ⟨4, [], false⟩] } }) systemEffect (.fwConfirm .canA [1]) = true ∧
    accepts (force up [(K.PMB_CONFIG, 3)]) systemEffect (.pmbXfer .canA [127, 3, 0, 32]) = true ∧
    accepts (up.setObj (K.AUTH_PASSWORD 1) (.bytes (List.replicate 8 1))) systemEffect (.authPasswordEntry .canA (3 :: List.replicate 8 1)) = true ∧
    accepts (up.setObj (K.AUTH_PASSWORD 1) (.bytes (List.replicate 8 1))) systemEffect (.lockStateWrite .canA [1]) = true := by decide +kernel

/-- BULK_LOAD of the SVC port names an image of engine 15 and holds 64 bytes. -/
def staged : Dev := (set up [(K.BULK_OBJECT 1, K.PROG_IMAGE 15)]).modTw .svc (fun t => { t with staging := List.replicate 64 0 })

theorem witness_SystemWritesComplete_bulk : let d := here staged;
    d.gateOf .svc = .open_ ∧ d.writeRule .svc 0x2E6302 (leBytes 2 64) = .none ∧
    d.writeRule .svc (d.nat (K.BULK_OBJECT 1)) (slice (d.tw .svc).staging 0 (ofLe (leBytes 2 64))) = .none := by decide +kernel

theorem witness_RefusedWritesAccount : let d := here up;
    (hostWriteOf (.unitEnable .svc 0)).map (fun w => d.writeRule w.port w.key w.bytes) = some .noEngine ∧ d.gateOf .svc = .open_ ∧
    actOf (K.UNIT_ON 0) ∉ [Act.voutCommand, .marginState, .profile, .schedAt, .tmCtrl, .tmPeriod, .fwWrite, .seqCmd, .response, .password] ∧
    d.writeRule .svc (K.TM_PERIOD 15) (leBytes 4 0) = .periodZero ∧ d.writeRule .svc (K.TM_CTRL 0) [1] = .periodZero ∧
    (here (set up [(K.VOUT_OWNER 7, 1)])).writeRule .svc (K.VOUT_COMMAND 7) (leBytes 2 819) = .notOwner ∧
    d.writeRule .svc (K.VOUT_COMMAND 7) (leBytes 2 818) = .range := by decide +kernel

/-- The hypotheses of an accepted read. -/
def reads (d : Dev) (c : Instr) : Bool :=
  match hostReadOf c with
  | some x => (here d).gateOf x.1 == .open_ && (here d).readRule x.1 x.2 == .none
  | none => false

theorem witness_HostReadsComplete_rows :
    reads up (.readIoutPeakRead .canA 7) = true ∧ reads up (.engStatusRead .canB 15) = true ∧ reads up (.engCyclesMaxRead .svc 15) = true ∧
    reads up (.phaseStatusRead .pmbus 31) = true ∧ reads up (.tmCaptureRead .canA 15) = true ∧ reads up (.tmStatusRead .canA 0) = true ∧
    reads up (.chgFaultRead .canA) = true ∧ reads up (.shipStatusRead .canA) = true ∧ reads up (.authNonceRead .canA) = true ∧
    reads up (.logWindowRead .svc false) = true := by decide +kernel

theorem witness_HostReadsComplete :
    (here up).readRule .canA K.SOFT_RESET ≠ .none ∧ up.obj (K.READ_IOUT_PEAK 7) = .num 0 ∧ up.obj (K.ENG_CYCLES_MAX 15) = .num 0 ∧
    up.obj (K.TM_CAPTURE 15) = .num 0 ∧ up.obj (K.TM_STATUS 15) = .num 0 ∧ up.obj K.CHG_FAULT = .num 0 ∧
    up.logCount ≤ up.nat (K.LOG_CURSOR 3) ∧ ({ up with log := { up.log with recs := [{}] } } : Dev).nat (K.LOG_CURSOR 3) < ({ up with log := { up.log with recs := [{}] } } : Dev).logCount := by
  decide +kernel

/-! Witnesses: PMBus. -/

/-- A PMBus target on page `p`. -/
def paged (p : Nat) : Dev := set up [(pageKey .pmb, (p : Int))]

/-- The hypotheses of a read. -/
def pmbReads (d : Dev) (c : Instr) : Bool :=
  match pmbReadOf (here d) c with
  | some r => (here d).gateOf r.x.port.src == .open_ && cmdOk r.code ((here d).pageOf r.x.port)
  | none => false

theorem witness_PmbusReadsComplete :
    ([Instr.pmbPage {} none, .pmbOperation {} none, .pmbOnOffConfig {}, .pmbWriteProtect {} none, .pmbCapability {}, .pmbVoutMode {}].all (pmbReads (paged 0))) = true ∧
    ([Instr.pmbVoutCommand {} none, .pmbVoutMax {} none, .pmbVoutMarginHigh {} none, .pmbVoutMarginLow {} none, .pmbVoutTransitionRate {} none,
      .pmbVoutMin {} none, .pmbVoutOvFaultLimit {} none, .pmbVoutUvFaultLimit {} none, .pmbIoutOcFaultLimit {} none].all (pmbReads (paged 7))) = true ∧
    ([Instr.pmbStatusByte {}, .pmbStatusWord {}, .pmbStatusVout {} none, .pmbStatusIout {} none, .pmbStatusInput {} none, .pmbStatusTemperature {} none,
      .pmbStatusCml {} none, .pmbStatusMfrSpecific {} none, .pmbReadVin {}, .pmbReadVout {}, .pmbReadIout {}, .pmbReadTemperature1 {}].all (pmbReads (paged 13))) = true ∧
    ([Instr.pmbRevision {}, .pmbMfrId {}, .pmbMfrModel {}, .pmbMfrRevision {}, .objSelect {} [], .objResult {}].all (pmbReads (paged 0xFF))) = true ∧
    ((pmbReadOf (here (paged 0xFF)) (.pmbVoutMode {})).map (fun r => r.paged)) = some true ∧ 64 ≤ (here (paged 0xFF)).pageOf .pmb ∧ pmbReads (paged 0xFF) (.pmbVoutMode {}) = true ∧
    (let d := here (up.modTw .pmb (fun t => { t with sel := K.LOCK_STATE }));
      d.gateOf .pmbus = .open_ ∧ cmdOk 0xD1 (d.pageOf .pmb) = true ∧ d.readRule .pmbus (d.tw .pmb).sel = .none ∧ (d.readObj (d.tw .pmb).sel).1.length ≤ 255) ∧
    (let d := here (up.modTw .pmb (fun t => { t with sel := K.SOFT_RESET }));
      d.readRule .pmbus (d.tw .pmb).sel ≠ .none) := by decide +kernel

/-- A port takes a write: as `Dev.takesWrite`. -/
def takesIt (d : Dev) (x : TwFrame) (code : Nat) (bs : List Byte) : Bool :=
  d.gateOf x.port.src == .open_ && cmdOk code (d.pageOf x.port) && !protects (d.nat K.PMB_WRITE_PROTECT) code && x.form == .whole &&
    (match x.pec with
      | some b => b.toNat == d.writePec x.port code bs
      | none => !bitAt (d.effNum K.PMB_CONFIG) 2)

/-- The hypotheses of a write of one object. -/
def pmbWrites (d : Dev) (c : Instr) : Bool :=
  match pmbObjectOf (here d) c, pmbWriteFrame c with
  | some (x, code, _), some (y, code', bs) => y == x && code' == code && takesIt (here d) x code bs
  | _, _ => false

/-- The rule that decides a write of one object. -/
def pmbRule (d : Dev) (c : Instr) : Option Reason := (pmbObjectOf (here d) c).map (fun x => (here d).writeRule x.2.2.port x.2.2.key x.2.2.bytes)

theorem witness_PmbusWritesComplete :
    ([Instr.pmbPage {} (some 0xFF), .pmbOperation {} (some 0x80), .pmbWriteProtect {} (some 0x80), .pmbStoreUserAll {}, .pmbRestoreUserAll {}].all
      (fun c => pmbWrites (paged 17) c && pmbRule (paged 17) c == some .none)) = true ∧
    ([Instr.pmbVoutCommand {} (some 2458)].all (fun c => pmbWrites (paged 13) c && pmbRule (paged 13) c == some .none)) = true ∧
    ([Instr.pmbVoutCommand {} (some 819), .pmbVoutMax {} (some 7373), .pmbVoutMarginHigh {} (some 819), .pmbVoutMarginLow {} (some 819),
      .pmbVoutTransitionRate {} (some 1), .pmbVoutMin {} (some 819), .pmbVoutOvFaultLimit {} (some 7373), .pmbVoutUvFaultLimit {} (some 819),
      .pmbIoutOcFaultLimit {} (some 1)].all (pmbWrites (paged 7))) = true ∧
    (pmbWrites (up.modTw .pmb (fun t => { t with sel := K.LOCK_STATE })) (.objData {} (some [0]))) = true ∧
    pmbWrites (paged 0) (.pmbOperationMargin {} 0x98) = false ∧ pmbRule (paged 17) (.pmbPage {} (some 0x80)) = some .range ∧
    ((pmbNumberOf (.pmbIoutOcFaultLimit {} (some 0x0FFF))).any (fun x => cmdOk x.2.1 7 && decide (x.2.2.2 < 0 ∨ 65535 < x.2.2.2))) = true ∧
    (match pmbWriteFrame (.pmbIoutOcFaultLimit {} (some 0x0FFF)) with
      | some (x, code, bs) => takesIt (here (paged 7)) x code bs
      | none => false) = true ∧
    takesIt (here up) { pec := some 0x39 } 0x21 [0xCD, 0x0C] = true ∧ takesIt (here up) { pec := some 0x38 } 0x21 [0xCD, 0x0C] = false := by decide +kernel

theorem witness_PmbusGroupWritesComplete :
    (let d := here (paged 0xFF);
      d.gateOf .pmbus = .open_ ∧ cmdOk 0x21 (d.pageOf .pmb) = true ∧ cmdOk 0x03 (d.pageOf .pmb) = true ∧ cmdOk 0x7A (d.pageOf .pmb) = true ∧ 64 ≤ d.pageOf .pmb ∧
        protects (d.nat K.PMB_WRITE_PROTECT) 0x21 = false ∧ protects (d.nat K.PMB_WRITE_PROTECT) 0x03 = false ∧ protects (d.nat K.PMB_WRITE_PROTECT) 0xD0 = false ∧ bitAt (d.effNum K.PMB_CONFIG) 2 = false ∧
        ((pmbNumberOf (.pmbVoutCommand {} (some 819))).map (fun x => x.2.1)) = some 0x21) ∧
    (let d := here (paged 7);
      cmdOk 0x01 (d.pageOf .pmb) = true ∧ d.pageOf .pmb < 8 ∧ cmdOk 0x7E (d.pageOf .pmb) = true ∧ cmdOk 0xD0 (d.pageOf .pmb) = true) ∧
    (let d := here (paged 17);
      cmdOk 0x03 (d.pageOf .pmb) = true ∧ d.pageOf .pmb < 18) ∧
    (let d := here (paged 0x20);
      cmdOk 0x03 (d.pageOf .pmb) = true ∧ 18 ≤ d.pageOf .pmb ∧ d.pageOf .pmb < 64) ∧
    (let d := here (paged 0xFF);
      cmdOk 0x01 (d.pageOf .pmb) = true ∧ protects (d.nat K.PMB_WRITE_PROTECT) 0x01 = false ∧ ([1, 2, 3, 4] : List Byte) ≠ [] ∧ ([1, 2, 3, 4] : List Byte).length ≠ 3) := by decide +kernel

theorem witness_PmbusTurnsAway :
    pmbWriteFrame (.pmbPage {} (some 0)) = some ({}, 0x00, [0]) ∧ ((0 : Byte).toNat ≠ pecOf (leBytes 1 ((here up).addrByte .pmb) ++ leBytes 1 0x00 ++ [0])) ∧
    ((pmbReadOf (here up) (.pmbPage { form := .long } none)).map (fun r => (r.x.form, r.code))) = some (.long, 0x00) ∧
    (here up).gateOf TwPort.pmb.src = .open_ ∧
    (here { up with power := .keep }).gateOf .pmbus = .silent ∧ (here { up with supAbsent := true }).gateOf .pmbus = .absent ∧ (here full).gateOf .pmbus = .full ∧
    (let d := here (paged 0x20);
      d.gateOf .pmbus = .open_ ∧ cmdOk 0x21 (d.pageOf .pmb) = false) ∧
    (let d := here up;
      d.gateOf .pmbus = .open_ ∧ cmdOk 0x00 (d.pageOf .pmb) = true ∧ protects (d.nat K.PMB_WRITE_PROTECT) 0x00 = false) ∧
    protects ((here (set up [(K.PMB_WRITE_PROTECT, 0x80)])).nat K.PMB_WRITE_PROTECT) 0x21 = true ∧
    bitAt ((here (force up [(K.PMB_CONFIG, 5)])).effNum K.PMB_CONFIG) 2 = true := by decide +kernel

/-! Witnesses: the operation table. -/

/-- A table with an entry of each state. -/
def tabled : Dev := { up with osnNext := 4, ops := [⟨1, .done, .svc, K.LOCK_STATE, .none, []⟩, ⟨2, .refused, .canA, K.LOCK_STATE, .access, []⟩,
  ⟨3, .running, .canA, K.STORE_PARAMETERS, .none, []⟩] }

theorem witness_OperationTableStaysSound : tableSound tabled.opTable ∧ (⟨tabled, [.storeDone false]⟩ : State).pending = [.storeDone false] := by
  refine ⟨⟨by decide, ?_⟩, rfl⟩
  intro e he
  simp only [opTable, tabled, List.mem_cons, List.not_mem_nil, or_false] at he
  rcases he with rfl | rfl | rfl <;> simp [OpEntry.sound]

/-! Witness: a challenge response, made with the code that the key gives. -/

/-- A device with a key, and a nonce pending for CANA. -/
def challenged : Dev := (up.setObj K.AUTH_KEY (.bytes (List.replicate 32 1))).modIface 3 (fun x => { x with nonce := some 5 })

/-- The response of level 2 to that nonce. -/
def response : List Byte := 2 :: (List.range 16).map (macByte (hmac (challenged.obj K.AUTH_KEY).bs (challenged.authMessage 5 2 3)))

theorem response_ok : challenged.attemptOk 3 true response = true := by
  have h : (challenged.iface 3).nonce = some 5 := by decide +kernel
  have hk : challenged.credSet K.AUTH_KEY = true := by decide +kernel
  unfold attemptOk
  simp [response, h, hk]

theorem witness_response : (here challenged).gateOf .canA = .open_ ∧ (here challenged).writeRule .canA (K.AUTH_RESPONSE 2) response = .none := by
  refine ⟨by decide +kernel, ?_⟩
  have hl : response.length = 17 := by simp [response]
  have hr : (here challenged).attemptRule .canA 3 true response = .none := by
    have h1 : (here challenged).attemptOk 3 true response = true := response_ok
    have h2 : (here challenged).num K.AUTH_BACKOFF = 0 := by decide +kernel
    have h3 : ((here challenged).iface 3).nonce = some 5 := by decide +kernel
    simp [attemptRule, h1, h2, h3, ownSub, Src.iface]
  have ha : actOf (K.AUTH_RESPONSE 2) = .response := by decide +kernel
  have hu : keyUnit (K.AUTH_RESPONSE 2) = 2 := by decide +kernel
  have h4 : (objRow (K.AUTH_RESPONSE 2)).all (fun r => decide (r.acc ≠ .ro ∧ r.ty = .domain ∧ r.range = .len 17 17 ∧
      ¬ (here challenged).level .canA < (here challenged).writeLevel r (K.AUTH_RESPONSE 2) ∧ (here challenged).busyOn (K.AUTH_RESPONSE 2) = false)) = true := by decide +kernel
  have h5 : (objRow (K.AUTH_RESPONSE 2)).isSome = true := by decide +kernel
  obtain ⟨r, hk⟩ := Option.isSome_iff_exists.1 h5
  rw [hk] at h4
  obtain ⟨h6, h7, h8, h9, h10⟩ := of_decide_eq_true h4
  unfold writeRule
  rw [hk]
  simp only [h6, h9, h10, if_false, Bool.false_eq_true]
  simp [lengthOk, h7, Ty.size, h8, hl, rangeOk, Ty.decode, chapterRule, ha, hu, railRule, engRule, boardRule, systemRule, Val.bs, hr]
/-! Effects, expected from the spec's worked examples and tables. -/

/-- The device after one command. -/
def after (c : Instr) (d : Dev) : Dev :=
  match exec c ⟨d, []⟩ with
  | .next t => t.dev
  | _ => d

/-- R184's example: the frame A0h 0Eh 10h 14h carries the CRC 39h. -/
theorem test_lil_crc : lilCrc 0xA00E101400 = 0x39 := by decide +kernel
/-- R346's example: 80h 21h CDh 0Ch carries the PEC 39h. -/
theorem test_pec : pecOf [0x80, 0x21, 0xCD, 0x0C] = 0x39 := by decide +kernel
/-- The standard check value of CRC-32 (R398): "123456789". -/
theorem test_crc32 : crc32 [0x31, 0x32, 0x33, 0x34, 0x35, 0x36, 0x37, 0x38, 0x39] = 0xCBF43926 := by decide +kernel
/-- SHA-256 of "abc" (FIPS 180-4). -/
theorem test_sha256 : sha256 [0x61, 0x62, 0x63] = 0xba7816bf8f01cfea414140de5dae2223b00361a396177a9cb410ff61f20015ad := by decide +kernel
/-- HMAC-SHA-256 of "what do ya want for nothing?" under "Jefe" (RFC 4231). -/
theorem test_hmac : hmac [0x4a, 0x65, 0x66, 0x65] [0x77, 0x68, 0x61, 0x74, 0x20, 0x64, 0x6f, 0x20, 0x79, 0x61, 0x20, 0x77, 0x61, 0x6e, 0x74, 0x20,
    0x66, 0x6f, 0x72, 0x20, 0x6e, 0x6f, 0x74, 0x68, 0x69, 0x6e, 0x67, 0x3f] =
    0x5bdcc146bf60754e6a042426089575c75a003f089d2739839dec58b964ec3843 := by decide +kernel
/-- R396's example: 393,216 bytes are 6,554 data frames. -/
theorem test_frameCount : frameCount 393216 = 6554 := by decide +kernel
/-- R26: 384 cycles at 2 MHz, 184 at 4 MHz, 784 at 1 MHz. -/
theorem test_budget : budgetAt 2 = 384 ∧ budgetAt 4 = 184 ∧ budgetAt 1 = 784 := by decide +kernel
/-- The codes of the worked blade's WM0 (R265): 225 and 222 over, 175 and 178 under. -/
theorem test_wmCodes :
    let d := set (up.modWm 0 (fun m => { m with div := 1 })) [(K.WM_UV_TH 0, 2867), (K.WM_OV_TH 0, 3686), (K.WM_HYST 0, 49), (K.WM_CONFIG 0, 0xDA00)];
    d.wmCodes 0 true = (225, 222) ∧ d.wmCodes 0 false = (175, 178) := by decide +kernel
/-- R225's example: 12.00 V, 0.750 V, 200 ns and 22.5 A give 100,000 pH. -/
theorem test_pulseL : (set up [(K.PHASE_RAIL 31, 0), (K.VREM 0, 49152), (K.VLOC 0, 49152)]).pulseL 31 { ip := 5760 } = 100000 := by decide +kernel
/-- R106, R107, and the words of the chapter's worked program: LOOP 8, 00Eh; MAC acc0, w3, 1[w0]; ACX w7, acc0, 12. -/
theorem test_words : nymrenWord (.nyLoop 0 8 0x00E) = some 0x1420000E ∧ nymrenWord (.nyMac 0 0 3 0 1) = some 0xC8030001 ∧
    nymrenWord (.nyAcx 0 7 0 12) = some 0xD4E03000 := by decide +kernel
/-- R106: an instruction whose word does not stand at the pc does nothing. -/
theorem test_other_word : after (.nyEnd 0) (meets (.nyNop 0)) = here (meets (.nyNop 0)) := by decide +kernel
/-- R107: ADD saturates at 7FFFFFFFh and sets the sticky flag; register 0 stays 0. -/
theorem test_add_saturates :
    let sum := fun rd => (after (.nyAdd 0 rd 1 2) (withRegs [(1, 2147483647), (2, 1)] (meets (.nyAdd 0 rd 1 2)))).engine 0;
    ((sum 3).reg 3, (sum 3).sat, (sum 0).reg 0) = (2147483647, true, 0) := by decide +kernel
/-- R107: SHR is arithmetic. -/
theorem test_shr : ((after (.nyShr 0 3 1 1) (withRegs [(1, -3)] (meets (.nyShr 0 3 1 1)))).engine 0).reg 3 = -2 := by decide +kernel
/-- R106: DIVQ by 0 gives the largest magnitude of the dividend's sign in 20 cycles. -/
theorem test_divq0 :
    let g := (after (.nyDivq 0 3 1 0 0) (withRegs [(1, -5)] (meets (.nyDivq 0 3 1 0 0)))).engine 0;
    (g.reg 3, g.div0, g.cycles) = (-2147483648, true, 20) := by decide +kernel
/-- R104: LDA then MAC with a coefficient of shift 0 adds in units of 2^−16. -/
theorem test_mac :
    let d := withRegs [(3, 25600), (4, 26214400)] ((running ([Instr.nyLda 0 0 4, .nyMac 0 0 3 0 1].map (fun i => (nymrenWord i).getD 0))).setObj
      (coefKey 0 false 1) (.coef 1 0));
    let d1 := after (.nyLda 0 0 4) d
    ((after (.nyMac 0 0 3 0 1) d1).engine 0).accs[0] = (26214400 + 25600) * 65536 := by decide +kernel
/-- R99: a drive word of another engine is not written; the sticky flag says so. -/
theorem test_outd_denied : let g := (after (.nyOutd 0 1 0 0xE0) (meets (.nyOutd 0 1 0 0xE0))).engine 0;
    g.driveDenied = true ∧ g.driveTick = [] := by decide +kernel
/-- The PMBus example of R346: MP0 to 0.800 V with PEC; the value waits for the edge, as one operation DONE. -/
theorem test_pmbus_vout :
    let d := after (.pmbVoutCommand { pec := some 0x39 } (some 3277)) up;
    d.answer = .ack ∧ d.pendT = [(K.VOUT_COMMAND 0, .num 3277)] ∧ d.ops.map (fun e => (e.osn, e.st, e.src)) = [(1, .done, .pmbus)] ∧ d.osnNext = 2 := by decide +kernel
/-- A wrong PEC byte: no operation, bit 5 of STATUS_CML and EV98 01h (R345). -/
theorem test_pmbus_bad_pec :
    let d := after (.pmbVoutCommand { pec := some 0x38 } (some 3277)) up;
    d.answer = .nack ∧ d.ops = [] ∧ d.pmb.cml = 32 ∧ d.ev.causes.map (fun c => (c.src, c.code)) = [(98, 0x01)] := by decide +kernel
/-- A refused write over SDO: its abort code, and EV103 41h (R378, R387). -/
theorem test_sdo_refused :
    let d := after (.unitEnable .canA 0) up;
    d.answer = .sdoAbort 0x06040047 ∧ d.ops.map (fun e => (e.st, e.reason)) = [(.refused, .noEngine)] ∧ d.unitOn 0 = false ∧
    d.ev.causes.any (fun c => c.src == 103 && c.code == 0x41 && c.osn == 1) = true := by decide +kernel
/-- The bulk example of R360: one entry of the inactive bank, mantissa 177h, shift 3; the pointer moves to 0808h. -/
theorem test_bulk_coef :
    let d := after (.bulkWrite 0x800 [0x77, 0x01, 0, 0, 3, 0, 0, 0]) (set up [(K.BULK_WINDOW 0, 0x200)]);
    d.answer = .ack ∧ d.coef 0 0 = up.coef 0 0 ∧ d.obj (coefKey 0 true 0) = .coef 0x177 3 ∧ d.pmb.ptr = 0x808 := by decide +kernel
/-- A read of PAGE answers its byte; of a paged command on FFh, FFh (R349). -/
theorem test_pmbus_reads : (after (.pmbPage {} none) (paged 7)).answer = .data [7] ∧ (after (.pmbVoutMode {}) (paged 0)).answer = .data [0x14] ∧
    (after (.pmbVoutMode {}) (paged 0xFF)).answer = .data [0xFF] ∧ (after (.pmbMfrId {}) up).answer = .data [6, 0x53, 0x4F, 0x52, 0x41, 0x45, 0x4C] := by decide +kernel
/-- RST# (R431, R433): kind 3, the OSN starts again, objects fall to their defaults but those kept. -/
theorem test_reset_pin :
    let d := after .resetPin { set up [(K.UNIT_ON 17, 1)] with osnNext := 9 };
    d.nvm.resetKind = 3 ∧ d.osnNext = 1 ∧ d.boot = .held ∧ (d.obj K.RESET_INFO).bs.take 2 = [3, 0] := by decide +kernel
/-- A device out of reset boots to ACTIVE with VIN valid, to KEEP without (R316, R424). -/
theorem test_boot : (after (.boot {}) State.reset.dev).power = .active ∧ (after (.boot { vinValid := false }) State.reset.dev).power = .keep := by decide +kernel
/-- The TAP instructions that drive pins fall back to BYPASS while a unit is on (R464). -/
theorem test_extest : (after .jtagExtest up).tapActs = .extest ∧ (after .jtagExtest (set up [(K.UNIT_ON 17, 1)])).tapActs = .bypass := by decide +kernel
/-- Commands run in their order, one a step (R376). -/
theorem test_queue : (match step ⟨up, [.jtagIdcode, .jtagBypass]⟩ with
    | .next t => (t.dev.acc.tap, t.pending.length)
    | _ => (.highz, 9)) = (Tap.idcode, 1) := by decide +kernel
/-- An ECC error at a read of the log: the position reads format FEh, its block is bad, EV121 03h, and recording goes on in the
spare region (R407, R418). -/
theorem test_log_ecc :
    let d := after (.logWindowRead .svc true) { up with log := { up.log with recs := [{ esn := 7 }], mainUsed := 1 } };
    d.answer = .data (0xFE :: List.replicate 31 0) ∧ d.log.badMain = [0] ∧ d.log.inSpare = true ∧ d.nat (K.LOG_CURSOR 1) = 1 ∧
    d.ev.causes.any (fun c => c.src == 121 && c.code == 3 && c.arg.take 8 == [0, 2, 0, 0, 7, 0, 0, 0]) = true := by decide +kernel
/-- A brown-out while a record is written: the boot finds it torn, counts it, and writes on after it (R414). -/
theorem test_log_torn :
    let d := after (.boot { torn := some [1] }) (after (.coreBrownOut true) { up with log := { up.log with wait := [anEvent] } });
    d.log.torn = 1 ∧ d.logCount = 1 ∧ d.log.mainUsed = 1 ∧ d.logAt 0 = padTo 32 [1] ∧ d.logLast = 0 ∧
    (after (.boot {}) (after (.coreBrownOut true) { up with log := { up.log with wait := [anEvent] } })).logCount = 0 := by decide +kernel
/-- A frame of a wrong length is counted and does nothing (R400). -/
theorem test_wrong_frame : let d := after (.nmtStart { bus := .a, wrong := true } 0) up;
    d.node.nmt = .preOperational ∧ vget d.canA.counts 4 = 1 := by decide +kernel
/-- Two RPDOs within the least interval: the second waits for it, a third replaces it and is counted (R390). -/
theorem test_rpdo_interval :
    let x : Dev := set up [(K.RPDO_COB_ID 0, 0x201), (K.RPDO_MAP_COUNT 0, 1), (K.RPDO_MAPPING 0 0, K.MARGIN_STATE 0 * 256 + 8)];
    let d := after (.rpdo { bus := .a } 0 [1]) { x with node := { up.node with nmt := .operational } };
    let e := after (.rpdo { bus := .a } 0 [2]) (after (.rpdo { bus := .b } 0 [0]) d);
    d.ops.length = 1 ∧ vget d.node.rpdoLeft 0 = 100000 ∧ e.ops.length = 1 ∧ vget e.node.rpdoHeld 0 = some (.a, [2]) ∧
    vget e.canB.counts 3 = 1 ∧ (e.rpdoEdge 99999 0).ops.length = 1 ∧ (e.rpdoEdge 100000 0).ops.length = 2 := by decide +kernel
/-- No tick in KEEP (R302). -/
theorem test_tick : (after (.tickEdge {}) { up with power := .keep }).num K.TICK_COUNT = 0 := by decide +kernel
/-- A password attempt of level 2 opens a session of that interface alone (R459). -/
theorem test_password :
    let d := after (.authPasswordEntry .svc (2 :: List.replicate 8 1)) keyed;
    (d.iface 2).level = 2 ∧ (d.iface 1).level = 0 ∧ d.num K.AUTH_FAIL_COUNT = 0 ∧
    (after (.authPasswordEntry .svc (3 :: List.replicate 8 1)) keyed).num K.AUTH_FAIL_COUNT = 1 := by decide +kernel
/-- The third failure waits 4 s, shown rounded up; in DOME an LF period passes a 32768th of a second (R462). -/
theorem test_backoff :
    let d := (set up [(K.AUTH_FAIL_COUNT, 2)]).attemptFail 1 false 0;
    d.num K.AUTH_BACKOFF = 4 ∧ (d.backoffPass 1).num K.AUTH_BACKOFF = 4 ∧ (d.backoffPass backoffSecond).num K.AUTH_BACKOFF = 3 ∧
    (d.backoffPass (4 * backoffSecond)).num K.AUTH_BACKOFF = 0 ∧ 32768 * 1953125 = backoffSecond ∧
    (after .lfTimerStep { d with power := .dome }).acc.wait = d.acc.wait - 1953125 := by decide +kernel
/-- A clear aborts a bulk read of the log with STATE, and of nothing else (R420). -/
theorem test_log_clear_bulk :
    let log : Log := { up.log with clearing := some {} };
    ((after .logClearDone { up with log := log, canB := { enabled := true, bxt := { st := 1, kind := 2 } } }).bxt .b).reason = .state ∧
    ((after .logClearDone { up with log := log, canB := { enabled := true, bxt := { st := 1, kind := 3 } } }).bxt .b).st = 1 := by decide +kernel
/-- A reset by the watchdog in a switch-over gap boots the confirmed slot and invalidates the trial; another reset boots the trial (R448). -/
theorem test_fw_rollback :
    let d := ({ up with fw := { up.fw with slots := #v[⟨4, [], true⟩, ⟨2, [], false⟩], switchDue := true } } : Dev).fwEdge;
    let w := d.fwBoot true false;
    (d.slot 1).st = 3 ∧ w.fw.runningB = false ∧ (w.slot 1).st = 5 ∧ w.fw.result = 6 ∧ (d.fwBoot false false).fw.runningB = true := by decide +kernel

end Sys2Proof.Tests
end

section
/-! PROOFS. The statements of 00_scope.md: commands and their queue, the operation table, the decision of a write, what a
refused write leaves behind, and the device at reset. -/

namespace Sys2Proof.Machine

open Dev

/-! Steps and the queue (R10, R374). -/

/-- A command is a change of the device alone: it answers a next state, and reads and changes no queue. -/
theorem exec_next (c : Instr) (s : State) : ∃ d, exec c s = .next { dev := d, pending := s.pending } ∧
    ∀ q, exec c { s with pending := q } = .next { dev := d, pending := q } := by
  cases c <;> exact ⟨_, rfl, fun _ => rfl⟩

theorem step_nil {s : State} (h : s.pending = []) : step s = .next s := by
  rw [step, h]

theorem step_cons {s : State} {c : Instr} {cs : List Instr} (h : s.pending = c :: cs) :
    step s = exec c { s with pending := cs } := by
  rw [step, h]

/-- One step more of a run is the front command, then the run from there. -/
theorem run_cons {k : Nat} {d e : Dev} {c : Instr} {cs : List Instr}
    (h : exec c { dev := d, pending := cs } = .next { dev := e, pending := cs }) :
    Host.Core.run core (k + 1) { dev := d, pending := c :: cs } = Host.Core.run core k { dev := e, pending := cs } := by
  have hs : core.step { dev := d, pending := c :: cs } = .next { dev := e, pending := cs } := h
  simp only [Host.Core.run, hs]

/-- A queue is carried out to its end in as many steps as it has commands, with one result whatever waits behind it. -/
theorem run_queue (cs : List Instr) (d : Dev) :
    ∃ e, ∀ rest, Host.Core.run core cs.length { dev := d, pending := cs ++ rest } = .next { dev := e, pending := rest } := by
  induction cs generalizing d with
  | nil => exact ⟨d, fun _ => rfl⟩
  | cons c cs ih =>
    obtain ⟨d', -, hc⟩ := exec_next c { dev := d, pending := [] }
    obtain ⟨e, he⟩ := ih d'
    exact ⟨e, fun rest => (run_cons (hc (cs ++ rest))).trans (he rest)⟩

/-- Settles O3: `exec_next` for one command, `run_queue` by induction on the queue. -/
theorem commandsRunToEnd : Obligations.CommandsRunToEnd := by
  unfold Obligations.CommandsRunToEnd
  refine ⟨exec_next, fun s _ rest => ?_⟩
  obtain ⟨e, he⟩ := run_queue s.pending s.dev
  refine ⟨{ dev := e, pending := [] }, ?_, rfl, e, he rest, rfl⟩
  simpa using he []

/-! The operation table in every step (R375, R376). -/

/-- Every command keeps a sound table. The operation of a row leaves the table (Laws/OpTable) or keeps it sound
(Laws/OpKept); where a frame, a flawed read or a page takes another operation in, the law is that of the outer one.
`opTable_mk` stays out of `simp`: the device as the command finds it is to stand as `h` has it. -/
theorem exec_keeps_tableSound (c : Instr) (s : State) (h : tableSound s.dev.heard.opTable) :
    ∃ d, exec c s = .next (s.withDev d) ∧ tableSound d.opTable := by
  unfold heard at h
  cases c <;> refine ⟨_, rfl, ?_⟩
  case pmbStoreUserAll | pmbRestoreUserAll => exact sound_pmbWrite _ _ _ _ _ (fun d hd => by simp [hd]) h
  case objData | bulkAccess | bulkRead | logWindowRead => exact sound_meeting _ _ _ (fun d hd => by simp [hd]) h
  case nmtStart | nmtStop | nmtEnterPreOperational | nmtResetNode | nmtResetCommunication | sdoAbortTransfer | rpdo |
      bxtWriteStart | bxtContinue | bxtCommit | bxtAbort =>
    exact sound_onCan _ _ _ (fun d hd => by simp [hd]) h
  case sdoInitiateDownload | sdoDownloadSegment | sdoUploadSegment => exact sound_onSdo _ _ _ (fun d hd => by simp [hd]) h
  case sdoInitiateUpload =>
    exact sound_meeting _ _ _ (fun d hd => sound_onSdo _ _ _ (fun d hd => by simp [hd]) hd) h
  case bxtReadStart =>
    exact sound_meeting _ _ _ (fun d hd => sound_onCan _ _ _ (fun d hd => by simp [hd]) hd) h
  all_goals simp [-opTable_mk, h]

/-- Settles O57: an empty queue changes nothing, and the front command keeps the table sound. -/
theorem operationTableStaysSound : Obligations.OperationTableStaysSound := by
  unfold Obligations.OperationTableStaysSound
  intro s t hs hstep
  cases hp : s.pending with
  | nil =>
    rw [step_nil hp] at hstep
    cases hstep
    exact hs
  | cons c cs =>
    obtain ⟨d, hd, hsound⟩ := exec_keeps_tableSound c { s with pending := cs } hs
    rw [step_cons hp, hd] at hstep
    cases hstep
    exact hsound

/-! The decision of a write (R373). -/

theorem busyOn_iff {d : Dev} {key : Nat} : d.busyOn key = true ↔ ∃ e ∈ d.ops, e.key = key ∧ e.st = .running := by
  simp [busyOn]

theorem busyOn_eq_false {d : Dev} {key : Nat} (h : ∀ e ∈ d.ops, e.key = key → e.st ≠ .running) : d.busyOn key = false := by
  rw [← Bool.not_eq_true, busyOn_iff]
  rintro ⟨e, he, hk, hr⟩
  exact h e he hk hr

/-- The decision of a write of an object that the dictionary does not have. -/
theorem writeRule_none {d : Dev} {p : Src} {key : Nat} {bs : List Byte} (h : objRow key = none) :
    d.writeRule p key bs = if !idxExists (key / 256) then .noObject else if key % 256 = 0 then .readOnly else .noSub := by
  rw [writeRule, h]

/-- The decision of a write of an object of the dictionary. -/
theorem writeRule_some {d : Dev} {p : Src} {key : Nat} {bs : List Byte} {r : ObjRow} (h : objRow key = some r) :
    d.writeRule p key bs =
      if r.acc = .ro then .readOnly
      else if d.level p < d.writeLevel r key then .access
      else if !lengthOk r bs then .length
      else if !rangeOk d r key (r.ty.decode bs) then .range
      else if d.busyOn key then .busy
      else d.chapterRule p key (r.ty.decode bs) := by
  rw [writeRule, h]

/-- Settles O46: each clause is one branch of the decision. -/
theorem writeDecisionOrder : Obligations.WriteDecisionOrder := by
  unfold Obligations.WriteDecisionOrder
  refine ⟨fun d p key bs h => ⟨fun hi => ?_, fun hi hs => ?_, fun hi hs => ?_⟩,
    fun d p key bs r h => ⟨fun ha => ?_, fun ha hl => ?_, fun ha hl => ?_⟩⟩
  · simp [writeRule_none h, hi]
  · simp [writeRule_none h, hi, hs]
  · simp [writeRule_none h, hi, hs]
  · simp [writeRule_some h, ha]
  · simp [writeRule_some h, ha, hl]
  · have hl : ¬ d.level p < d.writeLevel r key := Nat.not_lt.mpr hl
    refine ⟨fun hlen => ?_, fun hlen hr => ?_, fun hlen hr hb => ?_, fun hlen hr hb => ?_⟩
    · simp [writeRule_some h, ha, hl, hlen]
    · simp [writeRule_some h, ha, hl, hlen, hr]
    · simp [writeRule_some h, ha, hl, hlen, hr, busyOn_iff.mpr hb]
    · simp [writeRule_some h, ha, hl, hlen, hr, busyOn_eq_false hb]

/-! A refused write (R10, R374–R379). -/

/-- The answer to a refused write: a target acknowledges it and tells it, a CAN bus aborts. -/
theorem answerWrite_refused {d : Dev} {p : Src} {key osn : Nat} {r : Reason} (hr : r ≠ .none) :
    d.answerWrite p key r osn = match p.tw with
      | some t => ((d.modTw t (fun x => { x with cml := Machine.putBit x.cml 6 true })).twEvent t 6 osn).answering .ack
      | none => d.sdoAbort p (mapAbort key r) := by
  cases h : p.tw <;> simp [answerWrite, h, hr, twFault]

/-- A refusal does nothing beside its account for an object whose chapter names no effect. -/
theorem refusedAct_of_unnamed {d : Dev} {p : Src} {key osn : Nat} {v : Val} {r : Reason}
    (h : actOf key ∉ [Act.voutCommand, .marginState, .profile, .underlying, .schedAt, .tmCtrl, .tmPeriod, .fwWrite, .seqCmd,
      .response, .password]) : d.refusedAct p key v r osn = d := by
  simp only [List.mem_cons, List.not_mem_nil, or_false, not_or] at h
  simp [refusedAct, h]

theorem actOf_keyUnit_tmPeriod : ∀ t : Fin 16, actOf (K.TM_PERIOD t) = .tmPeriod ∧ keyUnit (K.TM_PERIOD t) = t := by decide

theorem actOf_keyUnit_tmCtrl : ∀ t : Fin 16, actOf (K.TM_CTRL t) = .tmCtrl ∧ keyUnit (K.TM_CTRL t) = t := by decide

theorem actOf_keyUnit_voutCommand : ∀ n : Fin 8, actOf (K.VOUT_COMMAND n) = .voutCommand ∧ keyUnit (K.VOUT_COMMAND n) = n := by decide

theorem actOf_keyUnit_marginState : ∀ n : Fin 8, actOf (K.MARGIN_STATE n) = .marginState ∧ keyUnit (K.MARGIN_STATE n) = n := by decide

/-- A timer refused for a period of 0 sets its status bit (R289, R293). -/
theorem refusedAct_timer {d : Dev} {p : Src} {key osn : Nat} {v : Val} (t : Fin 16) (h : key = K.TM_PERIOD t ∨ key = K.TM_CTRL t) :
    d.refusedAct p key v .periodZero osn = d.putBit (K.TM_STATUS t) 10 true := by
  rcases h with rfl | rfl
  · simp [refusedAct, actOf_keyUnit_tmPeriod]
  · simp [refusedAct, actOf_keyUnit_tmCtrl]

/-- A refused target is counted and shown where its owner or the sequencer refuses it (R169). -/
theorem refusedAct_target {d : Dev} {p : Src} {key osn : Nat} {v : Val} {r : Reason} (n : Fin 8)
    (h : key = K.VOUT_COMMAND n ∨ key = K.MARGIN_STATE n) :
    d.refusedAct p key v r osn = if r = .notOwner ∨ r = .seqActive then d.targetRefused p n else d := by
  rcases h with rfl | rfl
  · simp [refusedAct, actOf_keyUnit_voutCommand]
  · simp [refusedAct, actOf_keyUnit_marginState]

/-- Settles O51: `hostWrite_refused` and the answer, then what `refusedAct` is for the objects named. -/
theorem refusedWritesAccount : Obligations.RefusedWritesAccount := by
  unfold Obligations.RefusedWritesAccount
  intro s c w r d hw ho hrule hr first entered m answered
  subst hrule
  have account : exec c s = .next (s.withDev (answered (m.refusedAct w.port w.key (valueOf w.key w.bytes)
      (d.writeRule w.port w.key w.bytes) d.osnNext))) :=
    (exec_hostWrite s hw).trans (next_dev ((hostWrite_refused ho hr).trans (answerWrite_refused hr)))
  refine ⟨account, fun ha => ?_, fun t hk hz => ?_, fun n hk => ?_⟩
  · rw [account, refusedAct_of_unnamed ha]
  · rw [account, hz, refusedAct_timer t hk]
  · rw [account, refusedAct_target n hk]

/-! The device at reset (R431–R433). -/

/-- At reset every object reads its default but `RESET_INFO`. -/
theorem reset_obj {k : Nat} (h : k ≠ K.RESET_INFO) : State.reset.dev.obj k = objDefault k := by
  simp [obj, State.reset, Assoc.get, h.symm]

/-- A number at reset is that of the object's default. -/
theorem reset_num {k : Nat} (h : k ≠ K.RESET_INFO) : State.reset.dev.num k = (objDefault k).int := by
  rw [num, reset_obj h]

/-- A vector of like units reads the same at every index. -/
theorem vget_replicate {α : Type} [Inhabited α] {n i : Nat} {a : α} (h : default = a) : vget (Vector.replicate n a) i = a := by
  unfold vget
  split
  · simp
  · exact h

theorem unitOn_default : ∀ u : Fin 18, (objDefault (K.UNIT_ON u)).int = 0 := by decide

/-- No unit is on at reset. -/
theorem reset_unitOn {u : Nat} (h : u < 18) : State.reset.dev.unitOn u = false := by
  have hk : K.UNIT_ON u ≠ K.RESET_INFO := by simp only [K.UNIT_ON, K.RESET_INFO]; omega
  have hd : (objDefault (K.UNIT_ON u)).int = 0 := unitOn_default ⟨u, h⟩
  simp only [unitOn, flag, reset_num hk, hd, ne_eq, not_true_eq_false, decide_false]

/-- Settles O4: the fields of the reset state, and the defaults that it reads. -/
theorem resetState : Obligations.ResetState := by
  unfold Obligations.ResetState
  intro d
  have hpages : d.pageOf .pmb = 0 ∧ d.pageOf .svc = 0 := by decide
  refine ⟨rfl, fun k hk => reset_obj hk, rfl, rfl, rfl, rfl, fun u hu => reset_unitOn hu, by decide, by decide,
    hpages.1, hpages.2, fun i => vget_replicate rfl, rfl, rfl, rfl, rfl, by decide, by decide, rfl, rfl⟩

end Sys2Proof.Machine
end

section
/-! PROOFS. The statements of 01_device_overview.md: the commands that reset the device, and what a reset leaves of the objects. -/

namespace Sys2Proof.Machine

open Dev

/-! A sparse store cut down to some keys, or with the numbers of some objects changed. -/

/-- A read of the entries whose keys pass a test. -/
theorem Assoc.get_filter {α : Type} (dflt : Nat → α) (p : Nat → Bool) (s : Assoc α) (k : Nat) :
    Assoc.get dflt (s.filter (fun e => p e.1)) k = if p k then Assoc.get dflt s k else dflt k := by
  induction s with
  | nil => simp [Assoc.get]
  | cons e t ih =>
    obtain ⟨k', v⟩ := e
    by_cases hk : k' = k
    · subst hk
      cases hp : p k' <;> simp [Assoc.get, hp, ih]
    · cases hp : p k' <;> simp [Assoc.get, hp, hk, ih]

/-- The numbers of the objects `key i`, for `i` in a list, each changed by `g`: what a reset does to the fault status words
(`dropRetries_eq`) and to the status words of the timers (`objs_reset`). -/
def changeNums (key : Nat → Nat) (g : Int → Int) (l : List Nat) (m : Assoc Val) : Assoc Val :=
  l.foldl (fun m i => Assoc.set objDefault m (key i) (.num (g (Assoc.get objDefault m (key i)).int))) m

/-- An object that is none of those changed reads as before. -/
theorem get_changeNums_other {key : Nat → Nat} {g : Int → Int} {l : List Nat} {k : Nat} (h : ∀ i ∈ l, k ≠ key i) (m : Assoc Val) :
    Assoc.get objDefault (changeNums key g l m) k = Assoc.get objDefault m k := by
  induction l generalizing m with
  | nil => rfl
  | cons a t ih =>
    obtain ⟨ha, ht⟩ := List.forall_mem_cons.mp h
    exact (ih ht _).trans (Assoc.get_set_other _ _ _ ha)

/-- An object that is changed once reads as its number changed. -/
theorem get_changeNums_self {key : Nat → Nat} {g : Int → Int} {l : List Nat} {i : Nat} (hl : (l.map key).Nodup) (hi : i ∈ l)
    (m : Assoc Val) :
    Assoc.get objDefault (changeNums key g l m) (key i) = .num (g (Assoc.get objDefault m (key i)).int) := by
  induction l generalizing m with
  | nil => cases hi
  | cons a t ih =>
    obtain ⟨ha, ht⟩ := List.nodup_cons.mp hl
    have hat : ∀ j ∈ t, key a ≠ key j := fun j hj he => ha (he ▸ List.mem_map_of_mem hj)
    rcases List.mem_cons.mp hi with rfl | hi
    · exact (get_changeNums_other hat _).trans (Assoc.get_set_self ..)
    · refine (ih ht hi _).trans ?_
      rw [Assoc.get_set_other _ _ _ (hat i hi).symm]

/-! The objects of a reset (R235, R296, R432, R433, R435). -/

theorem nodup_faultKeys : ((List.range 18).map faultKey).Nodup := by decide

/-- Every fault status word is of class K, and 0 by default. -/
theorem faultKey_kept : ∀ u : Fin 18, keptKey (faultKey u) = true ∧ (objDefault (faultKey u)).int = 0 := by decide

theorem faultKey_ne_resetInfo {u : Nat} (h : u < 18) : faultKey u ≠ K.RESET_INFO := by
  simp only [faultKey, K.FAULT_STATUS, K.BK_FAULT_STATUS, K.LDO_FAULT_STATUS, K.RESET_INFO]
  split
  · omega
  · split <;> omega

theorem faultKey_ne_tmStatus {u : Nat} (h : u < 18) (i : Nat) : faultKey u ≠ K.TM_STATUS i := by
  simp only [faultKey, K.FAULT_STATUS, K.BK_FAULT_STATUS, K.LDO_FAULT_STATUS, K.TM_STATUS]
  split
  · omega
  · split <;> omega

theorem resetInfo_ne_tmStatus (i : Nat) : K.RESET_INFO ≠ K.TM_STATUS i := by
  simp only [K.RESET_INFO, K.TM_STATUS]
  omega

/-- Does a reset of the kind keep the objects of class K (R432, R435)? -/
def keepsK (kind : Nat) : Bool := decide (kind ≠ 1) && decide (kind ≠ 8) && decide (kind ≠ 9)

theorem keepsK_iff {kind : Nat} : keepsK kind = true ↔ kind ≠ 1 ∧ kind ≠ 8 ∧ kind ≠ 9 := by
  simp [keepsK, and_assoc]

namespace Dev

theorem dropRetries_eq (m : Assoc Val) : dropRetries m = changeNums faultKey (fun w => Machine.putBit w 14 false) (List.range 18) m := rfl

/-- What a reset leaves in the store before it writes `RESET_INFO` and stops the timers. -/
def keptObjs (d : Dev) (kind : Nat) : Assoc Val :=
  if keepsK kind then dropRetries (d.objs.filter (fun e => keptKey e.1)) else []

theorem objs_reset (d : Dev) (kind detail : Nat) :
    (d.reset kind detail).objs = changeNums K.TM_STATUS (fun w => Machine.putBit (Machine.putBit w 15 false) 14 false) (List.range 16)
      (Assoc.set objDefault (d.keptObjs kind) K.RESET_INFO (.bytes (d.resetInfo kind detail (keepsK kind)))) := rfl

/-- Any object but the fault status words: where the kind keeps class K, an object of that class stays. -/
theorem get_keptObjs (d : Dev) (kind : Nat) {k : Nat} (h : ∀ u < 18, k ≠ faultKey u) :
    Assoc.get objDefault (d.keptObjs kind) k = if keptKey k = true ∧ keepsK kind = true then d.obj k else objDefault k := by
  unfold keptObjs
  by_cases hk : keepsK kind = true
  · rw [if_pos hk, dropRetries_eq, get_changeNums_other (fun u hu => h u (List.mem_range.mp hu)), Assoc.get_filter]
    simp only [hk, and_true]
    rfl
  · rw [if_neg hk, if_neg (fun h => hk h.2)]
    rfl

/-- A fault status word: where the kind keeps class K it stays but for `retry_pending`. -/
theorem int_keptObjs_faultKey (d : Dev) (kind : Nat) {u : Nat} (h : u < 18) :
    (Assoc.get objDefault (d.keptObjs kind) (faultKey u)).int =
      if keepsK kind then Machine.putBit (d.num (faultKey u)) 14 false else 0 := by
  obtain ⟨hclass, hzero⟩ := faultKey_kept ⟨u, h⟩
  unfold keptObjs
  split
  · rw [dropRetries_eq, get_changeNums_self nodup_faultKeys (List.mem_range.mpr h), Assoc.get_filter, if_pos hclass]
    rfl
  · exact hzero

/-- A reset leaves an object but `RESET_INFO` and the timers' status words as `keptObjs` has it. -/
theorem obj_reset {k : Nat} (d : Dev) (kind detail : Nat) (hinfo : k ≠ K.RESET_INFO) (htm : ∀ i < 16, k ≠ K.TM_STATUS i) :
    (d.reset kind detail).obj k = Assoc.get objDefault (d.keptObjs kind) k := by
  rw [obj, objs_reset, get_changeNums_other (fun i hi => htm i (List.mem_range.mp hi)), Assoc.get_set_other _ _ _ hinfo]

theorem num_reset_faultKey (d : Dev) (kind detail : Nat) {u : Nat} (h : u < 18) :
    (d.reset kind detail).num (faultKey u) = if keepsK kind then Machine.putBit (d.num (faultKey u)) 14 false else 0 := by
  rw [num, obj_reset d kind detail (faultKey_ne_resetInfo h) (fun i _ => faultKey_ne_tmStatus h i), int_keptObjs_faultKey d kind h]

theorem obj_reset_resetInfo (d : Dev) (kind detail : Nat) :
    (d.reset kind detail).obj K.RESET_INFO = .bytes (d.resetInfo kind detail (keepsK kind)) := by
  rw [obj, objs_reset, get_changeNums_other (fun i _ => resetInfo_ne_tmStatus i), Assoc.get_set_self]

/-- `RESET_INFO` begins with the kind, the detail and two zero bytes (R433). -/
theorem take_resetInfo (d : Dev) (kind detail : Nat) (keep : Bool) :
    (d.resetInfo kind detail keep).take 4 = [BitVec.ofNat 8 kind, BitVec.ofNat 8 detail, 0, 0] := by
  simp [resetInfo, leBytes]

/-! The commands that reset, where they act (R22, R329, R331, R385, R431). -/

section
variable {d : Dev}

theorem powerOnReset_eq (h : d.power ≠ .ship) : d.powerOnReset = d.reset 1 0 := if_neg h

theorem coreBrownOut_eq (sys : Bool) (h : d.power ≠ .ship) : d.coreBrownOut sys = d.reset 2 (if sys then 1 else 2) := if_neg h

theorem resetPin_eq (h : d.power ≠ .ship) : d.resetPin = d.reset 3 0 := if_neg h

theorem supervisorWatchdog_eq {detail : Nat} (hdome : d.power ≠ .dome) (hship : d.power ≠ .ship) (hboot : d.boot ≠ .held)
    (hgap : detail = 0 → d.supAbsent = true ∨ d.supHalted = true) : d.supervisorWatchdog detail = d.reset 4 (detail + 1) := by
  refine if_neg ?_
  rintro (h | h | h | ⟨hzero, habsent, hhalted⟩)
  · exact hdome h
  · exact hship h
  · exact hboot h
  · exact absurd (hgap hzero) (by simp [habsent, hhalted])

theorem nmtResetNode_eq {bus : Bus} {node : BitVec 8} (h : d.nmtAddressed bus node = true)
    (hguard : d.flag K.NMT_GUARD = false ∨ d.anyUnitOn = false) : d.nmtResetNode bus node = d.reset 6 0 := by
  rcases hguard with hguard | hguard <;> simp [nmtResetNode, h, hguard]

theorem onCan_of_not_wrong {f : CanFrame} (go : Dev → Dev) (h : f.wrong = false) : d.onCan f go = go d := by simp [onCan, h]

theorem longPressReset_eq (hpressed : d.btn.pressed = true) (h : d.power ≠ .ship) : d.longPressReset = d.reset 8 0 := by
  simp [longPressReset, hpressed, h]

theorem shipExit_eq (h : d.power = .ship) : d.shipExit = d.reset 9 0 := if_pos h

end

end Dev

/-- Settles O31: each command, where it acts, is `Dev.reset` of its kind and detail, which gives the fields by definition and the
objects by `obj_reset`. -/
theorem resetsComplete : Obligations.ResetsComplete := by
  unfold Obligations.ResetsComplete
  intro s c kind detail d hact
  have hexec : exec c s = .next (s.withDev (d.reset kind detail)) := by
    rcases hact with ⟨h, rfl, rfl, rfl⟩ | ⟨h, rfl, rfl, rfl⟩ | ⟨h, rfl, rfl, rfl⟩ | ⟨h, rfl, rfl, rfl⟩ |
      ⟨x, rfl, rfl, rfl, hdome, hship, hboot, hgap⟩ | ⟨f, node, rfl, hf, rfl, rfl, haddr, hguard⟩ |
      ⟨rfl, hpressed, h, rfl, rfl⟩ | ⟨rfl, h, rfl, rfl⟩
    · exact next_dev (powerOnReset_eq h)
    · exact next_dev (coreBrownOut_eq true h)
    · exact next_dev (coreBrownOut_eq false h)
    · exact next_dev (resetPin_eq h)
    · exact next_dev (supervisorWatchdog_eq hdome hship hboot (fun hx => hgap (Fin.ext hx)))
    · exact next_dev ((onCan_of_not_wrong _ hf).trans (nmtResetNode_eq haddr hguard))
    · exact next_dev (longPressReset_eq hpressed h)
    · exact next_dev (shipExit_eq h)
  refine ⟨_, hexec, rfl, rfl, rfl, rfl, rfl, rfl, rfl, rfl, rfl, rfl, rfl, rfl, rfl, ?_, fun u hu => ?_, fun k hinfo htm hfault => ?_⟩
  · exact (congrArg (·.bs.take 4) (obj_reset_resetInfo d kind detail)).trans (take_resetInfo d kind detail (keepsK kind))
  · exact (num_reset_faultKey d kind detail hu).trans (by simp only [keepsK_iff])
  · refine (obj_reset d kind detail hinfo htm).trans ((get_keptObjs d kind hfault).trans ?_)
    simp only [keepsK_iff]

end Sys2Proof.Machine
end

section
/-! PROOFS. The statements of 02_control_tick_clocks_and_sensing.md on host operations: accepted writes of regulators and engines,
and reads with an effect. -/

namespace Sys2Proof.Machine

open Dev

/-! Accepted writes that are acknowledged at once (R345, R387). -/

/-- An accepted write of an object outside the system chapters is acknowledged at once: only a store or a restore defers its SDO
answer (R393). -/
theorem hostWrite_acknowledged {d : Dev} {w : HostWrite} (ho : d.gateOf w.port = .open_)
    (hr : d.writeRule w.port w.key w.bytes = .none) (hc : chapterOf (actOf w.key) < 4) :
    d.hostWrite w.port w.key w.bytes =
      ((d.admitted w).carryOut w.port w.key (valueOf w.key w.bytes) d.osnNext).reply w.port .ack := by
  have hbulk : actOf w.key ≠ .bulkLoad := fun h => by rw [h] at hc; exact absurd hc (by decide)
  have hstore : ¬ (w.key = K.STORE_PARAMETERS ∨ w.key = K.RESTORE_DEFAULT_PARAMETERS) := by
    rintro (h | h) <;> rw [h] at hc <;> exact absurd hc (by decide)
  rw [hostWrite_accepted ho hbulk hr]
  cases w.port <;> simp [answerWrite, Src.tw, hstore, reply, muted]

/-- A row whose entry in an effect table is what its object's chapter carries out. -/
theorem effect_eq {m e : Dev} {c : Instr} {w : HostWrite} {p : Src} {key osn : Nat} {bs : List Byte} {o : Option Dev} {a : Act}
    (hw : hostWriteOf c = some w) (hrow : hostWriteOf c = some ⟨p, key, bs⟩) (h : o = some (m.carryOut p key (valueOf key bs) osn))
    (ha : actOf key = a) (he : o = some e) (hc : chapterOf a < 4 := by decide) :
    e = m.carryOut w.port w.key (valueOf w.key w.bytes) osn ∧ chapterOf (actOf w.key) < 4 := by
  cases hw.symm.trans hrow
  exact ⟨Option.some.inj (he.symm.trans h), ha ▸ hc⟩

/-- An accepted write that an effect table describes: admitted, carried out and acknowledged. -/
theorem exec_write_acknowledged {s : State} {c : Instr} {w : HostWrite} {e : Dev} (hw : hostWriteOf c = some w)
    (ho : s.dev.heard.gateOf w.port = .open_) (hr : s.dev.heard.writeRule w.port w.key w.bytes = .none)
    (h : e = (s.dev.heard.admitted w).carryOut w.port w.key (valueOf w.key w.bytes) s.dev.heard.osnNext ∧
      chapterOf (actOf w.key) < 4) :
    exec c s = .next (s.withDev (e.reply w.port .ack)) := by
  obtain ⟨rfl, hc⟩ := h
  exact (exec_hostWrite s hw).trans (next_dev (hostWrite_acknowledged ho hr hc))

/-! Regulators, phases and policies. -/

theorem effect_policyEntryWrite (m : Dev) (osn : Nat) (port : Src) (n : Fin 8) (i : BitVec 16) (sub : BitVec 8) (data : List Byte)
    (ha : actOf (objKey i sub) = .policy) :
    regulatorEffect m osn (.policyEntryWrite port n i sub data) =
      some (m.carryOut port (objKey i sub) (valueOf (objKey i sub) data) osn) := by
  rw [carryOut_of ha, regulatorEffect, if_pos ha]
  rfl

/-- Only an entry of a policy has an effect as one. -/
theorem actOf_of_policyEntryWrite {m e : Dev} {osn : Nat} {port : Src} {n : Fin 8} {i : BitVec 16} {sub : BitVec 8} {data : List Byte}
    (he : regulatorEffect m osn (.policyEntryWrite port n i sub data) = some e) : actOf (objKey i sub) = .policy := by
  by_cases h : actOf (objKey i sub) = .policy
  · exact h
  · rw [regulatorEffect, if_neg h] at he
    cases he

/-- Each row of the regulators' effect table is what its object's chapter carries out. -/
theorem regulatorEffect_carryOut {m e : Dev} {osn : Nat} {c : Instr} {w : HostWrite} (hw : hostWriteOf c = some w)
    (he : regulatorEffect m osn c = some e) :
    e = m.carryOut w.port w.key (valueOf w.key w.bytes) osn ∧ chapterOf (actOf w.key) < 4 := by
  cases c
  case unitEnable p u => exact effect_eq hw rfl (effect_unitEnable m osn p u) (key_unitEnable u).1 he
  case unitDisable p u => exact effect_eq hw rfl (effect_unitDisable m osn p u) (key_unitEnable u).1 he
  case bkVoutCommandWrite p b bs => exact effect_eq hw rfl (effect_bkVoutCommandWrite m osn p b bs) (key_bkVoutCommandWrite b).1 he
  case voutCommandWrite p n bs => exact effect_eq hw rfl (effect_voutCommandWrite m osn p n bs) (key_voutCommandWrite n).1 he
  case marginStateWrite p n bs => exact effect_eq hw rfl (effect_marginStateWrite m osn p n bs) (key_marginStateWrite n).1 he
  case loopModeWrite p n bs => exact effect_eq hw rfl (effect_loopModeWrite m osn p n bs) (key_loopModeWrite n).1 he
  case policyHoldWrite p n bs => exact effect_eq hw rfl (effect_policyHoldWrite m osn p n bs) (key_policyHoldWrite n).1 he
  case policyEntryWrite p n i sub bs =>
    have ha := actOf_of_policyEntryWrite he
    exact effect_eq hw rfl (effect_policyEntryWrite m osn p n i sub bs ha) ha he
  case lilEnWrite p bs => exact effect_eq hw rfl (effect_lilEnWrite m osn p bs) key_lilEnWrite.1 he
  case intentResume p n => exact effect_eq hw rfl (effect_intentResume m osn p n) (key_intentResume n).1 he
  case phaseRailWrite q p bs => exact effect_eq hw rfl (effect_phaseRailWrite m osn q p bs) (key_phaseRailWrite p).1 he
  case realign q p => exact effect_eq hw rfl (effect_realign m osn q p) (key_realign p).1 he
  case forceMid q p => exact effect_eq hw rfl (effect_forceMid m osn q p) (key_realign p).1 he
  case release q p => exact effect_eq hw rfl (effect_release m osn q p) (key_realign p).1 he
  case singlePulse q p => exact effect_eq hw rfl (effect_singlePulse m osn q p) (key_realign p).1 he
  case drain q p => exact effect_eq hw rfl (effect_drain m osn q p) (key_drain p).1 he
  case drainForce q p => exact effect_eq hw rfl (effect_drainForce m osn q p) (key_drain p).1 he
  case admitPhase q p => exact effect_eq hw rfl (effect_admitPhase m osn q p) (key_drain p).1 he
  case groupDrain p g => exact effect_eq hw rfl (effect_groupDrain m osn p g) (key_groupDrain g).1 he
  case groupDrainForce p g => exact effect_eq hw rfl (effect_groupDrainForce m osn p g) (key_groupDrain g).1 he
  case groupAdmit p g => exact effect_eq hw rfl (effect_groupAdmit m osn p g) (key_groupDrain g).1 he
  case clearFaultsWrite p u => exact effect_eq hw rfl (effect_clearFaultsWrite m osn p u) (key_clearFaultsWrite u).1 he
  all_goals cases he

/-- Settles O47: each row of the effect table is what its object's chapter carries out, and is acknowledged at once. -/
theorem regulatorWritesComplete : Obligations.RegulatorWritesComplete := by
  unfold Obligations.RegulatorWritesComplete
  intro s c w e d hw ho hr he
  exact exec_write_acknowledged hw ho hr (regulatorEffect_carryOut hw he)

/-! Coefficients: where an entry of a bank stands (R122, R134). -/

/-- The row of an object, among the rows of its index. -/
theorem objRow_eq_find {idx sub : Nat} (h : sub < 256) :
    objRow (idx * 256 + sub) =
      ((objPage idx).filter (·.hasIdx idx)).find? (fun r => decide (r.lo ≤ sub) && decide (sub ≤ r.hi)) := by
  have hi : (idx * 256 + sub) / 256 = idx := by omega
  have hs : (idx * 256 + sub) % 256 = sub := by omega
  rw [objRow, hi, hs, List.find?_filter]
  simp [ObjRow.covers, Bool.and_assoc]

/-- Each of the four indices of an engine's banks has one row, of 128 coefficients. -/
theorem rows_of_coefIdx : ∀ (e : Fin 16) (q : Fin 4),
    (objPage (0x4000 + 0x100 * e + q)).filter (·.hasIdx (0x4000 + 0x100 * e + q)) =
      [⟨0x4000 + q, 16, 0x100, 1, 128, .coef, .rw, 2, .coef, .n, .b, .any⟩] := by decide +kernel

theorem actOf_coefIdx (e : Fin 16) (q : Fin 4) {sub : Nat} (h : sub < 256) :
    actOf ((0x4000 + 0x100 * e + q) * 256 + sub) = if q.val < 2 then .bankA else .bankB := by
  have he := e.isLt
  have hi : ((0x4000 + 0x100 * e.val + q) * 256 + sub) / 256 = 0x4000 + 0x100 * e.val + q := by omega
  have hc : canonIdx (0x4000 + 0x100 * e.val + q) = 0x4000 + q := by
    rw [canonIdx, if_neg (by omega), if_pos (by omega)]
    omega
  rw [actOf, hi, hc]
  clear hi hc
  match q with
  | 0 => rfl
  | 1 => rfl
  | 2 => rfl
  | 3 => rfl

/-- An entry of a bank stands under one of the four indices of its engine. -/
theorem coefKey_entry (e : Fin 16) (b : Bool) {c : Nat} (hc : c < 256) :
    ∃ q : Fin 4, coefKey e b c = (0x4000 + 0x100 * e + q) * 256 + (c % 128 + 1) := by
  have hentry : ¬ c ≥ 256 := by omega
  by_cases hl : c < 128 <;> cases b <;> simp only [coefKey, hentry, hl, if_true, if_false, Bool.false_eq_true]
  · exact ⟨⟨0, by decide⟩, by simp only [K.COEF_A_LO]; omega⟩
  · exact ⟨⟨2, by decide⟩, by simp only [K.COEF_B_LO]; omega⟩
  · exact ⟨⟨1, by decide⟩, by simp only [K.COEF_A_HI]; omega⟩
  · exact ⟨⟨3, by decide⟩, by simp only [K.COEF_B_HI]; omega⟩

/-- The tag of a bank is written as its coefficients are. -/
theorem key_bankTag : ∀ (e : Fin 16) (b : Bool), (actOf (coefKey e b 256) = .bankA ∨ actOf (coefKey e b 256) = .bankB) ∧
    (objRow (coefKey e b 256)).map (fun r => (r.ty, r.app)) = some (.u8, .b) := by decide +kernel

theorem key_coefWrite (e : Fin 16) (b : Bool) (c : Fin 257) :
    (actOf (coefKey e b c) = .bankA ∨ actOf (coefKey e b c) = .bankB) ∧
      ∃ t, (objRow (coefKey e b c)).map (fun r => (r.ty, r.app)) = some (t, .b) := by
  by_cases hc : c.val < 256
  · obtain ⟨q, hk⟩ := coefKey_entry e b hc
    have hsub : c.val % 128 + 1 < 256 := by omega
    have hcovers : (decide (1 ≤ c.val % 128 + 1) && decide (c.val % 128 + 1 ≤ 128)) = true := by
      rw [Bool.and_eq_true, decide_eq_true_eq, decide_eq_true_eq]
      omega
    rw [hk, actOf_coefIdx e q hsub, objRow_eq_find hsub, rows_of_coefIdx e q]
    refine ⟨?_, .coef, congrArg (Option.map fun r : ObjRow => (r.ty, r.app)) (List.find?_cons_of_pos hcovers)⟩
    split
    · exact .inl rfl
    · exact .inr rfl
  · have htag : c.val = 256 := by omega
    rw [htag]
    exact ⟨(key_bankTag e b).1, .u8, (key_bankTag e b).2⟩

/-! Profiles, capture, engines and their mailboxes. -/

theorem effect_coefWrite (m : Dev) (osn : Nat) (port : Src) (e : Fin 16) (b : Bool) (c : Fin 257) (data : List Byte) :
    engineEffect m osn (.coefWrite port e b c data) = some (m.carryOut port (coefKey e b c) (valueOf (coefKey e b c) data) osn) := by
  obtain ⟨ha, t, hv⟩ := key_coefWrite e b c
  have hcarry : m.carryOut port (coefKey e b c) (valueOf (coefKey e b c) data) osn = m.holdWrite (coefKey e b c) (valueOf (coefKey e b c) data) := by
    rcases ha with ha | ha <;> rw [carryOut_of ha] <;> rfl
  rw [hcarry, hold_b hv]
  rfl

/-- Each row of the engines' effect table is what its object's chapter carries out. -/
theorem engineEffect_carryOut {m d : Dev} {osn : Nat} {c : Instr} {w : HostWrite} (hw : hostWriteOf c = some w)
    (hd : engineEffect m osn c = some d) :
    d = m.carryOut w.port w.key (valueOf w.key w.bytes) osn ∧ chapterOf (actOf w.key) < 4 := by
  cases c
  case perfProfileWrite p bs => exact effect_eq hw rfl (effect_perfProfileWrite m osn p bs) key_perfProfileWrite.1 hd
  case tickRateWrite p bs => exact effect_eq hw rfl (effect_tickRateWrite m osn p bs) key_tickRateWrite.1 hd
  case profileSchedWrite p bs => exact effect_eq hw rfl (effect_profileSchedWrite m osn p bs) key_profileSchedWrite.1 hd
  case profileAtTickWrite p bs => exact effect_eq hw rfl (effect_profileAtTickWrite m osn p bs) key_profileAtTickWrite.1 hd
  case capArm p => exact effect_eq hw rfl (effect_capArm m osn p) key_capArm.1 hd
  case capForceTrigger p => exact effect_eq hw rfl (effect_capForceTrigger m osn p) key_capArm.1 hd
  case capAbort p => exact effect_eq hw rfl (effect_capAbort m osn p) key_capArm.1 hd
  case progShadowSel p e bs => exact effect_eq hw rfl (effect_progShadowSel m osn p e bs) (key_progShadowSel e).1 hd
  case progImage p e bs => exact effect_eq hw rfl (effect_progImage m osn p e bs) (key_progImage e).1 hd
  case progSwapReq p e bs => exact effect_eq hw rfl (effect_progSwapReq m osn p e bs) (key_progSwapReq e).1 hd
  case bankSwapReq p e => exact effect_eq hw rfl (effect_bankSwapReq m osn p e) (key_bankSwapReq e).1 hd
  case bankCopy p e => exact effect_eq hw rfl (effect_bankCopy m osn p e) (key_bankCopy e).1 hd
  case coefWrite p e b i bs =>
    rcases (key_coefWrite e b i).1 with ha | ha
    · exact effect_eq hw rfl (effect_coefWrite m osn p e b i bs) ha hd
    · exact effect_eq hw rfl (effect_coefWrite m osn p e b i bs) ha hd
  case libStore p bs => exact effect_eq hw rfl (effect_libStore m osn p bs) key_libStore.1 hd
  case mailboxPost p e => exact effect_eq hw rfl (effect_mailboxPost m osn p e) (key_mailboxPost e).1 hd
  all_goals cases hd

/-- Settles O48: each row of the effect table is what its object's chapter carries out, and is acknowledged at once. -/
theorem engineWritesComplete : Obligations.EngineWritesComplete := by
  unfold Obligations.EngineWritesComplete
  intro s c w e d hw ho hr he
  exact exec_write_acknowledged hw ho hr (engineEffect_carryOut hw he)

end Sys2Proof.Machine
end

section
/-! PROOFS. The statement of 02_control_tick_clocks_and_sensing.md on reads with an effect (R376). -/

namespace Sys2Proof.Machine

open Dev

namespace Dev

/-! What a read of an object returns, by where its value comes from. -/

/-- A read of a number that the device holds. -/
theorem readObj_held {d : Dev} {key : Nat} {v x : Int} {t : Ty} (hr : (objRow key).map (fun r => (r.ty, r.dflt)) = some (t, .c x))
    (hb : d.roBytes key = none) (hn : d.roNum key = none) (hv : d.obj key = .num v) :
    d.readObj key = (leBytes (t.size.getD 4) v, d.readClears key) := by
  cases ho : objRow key with
  | none => rw [ho] at hr; cases hr
  | some r =>
    rw [ho] at hr
    obtain ⟨rfl, hd⟩ := Prod.mk.inj (Option.some.inj hr)
    simp only [readObj, ho, hb, hn, hd, hv]
    rfl

/-- A read of a number that the state gives. -/
theorem readObj_given {d : Dev} {key : Nat} {n : Int} {t : Ty} (hr : (objRow key).map (·.ty) = some t)
    (hb : d.roBytes key = none) (hn : d.roNum key = some n) :
    d.readObj key = (leBytes (t.size.getD 4) n, d.readClears key) := by
  cases ho : objRow key with
  | none => rw [ho] at hr; cases hr
  | some r =>
    rw [ho] at hr
    cases hr
    simp only [readObj, ho, hb, hn]
    rfl

/-- A read of a block that the state gives. -/
theorem readObj_block {d : Dev} {key : Nat} {x : List Byte × Dev} (hr : (objRow key).isSome = true) (hb : d.roBytes key = some x) :
    d.readObj key = x := by
  obtain ⟨r, ho⟩ := Option.isSome_iff_exists.mp hr
  simp only [readObj, ho, hb]

end Dev

/-! The objects whose reads have an effect: index of unit 0, unit, and row. -/

theorem key_readIoutPeak : ∀ n : Fin 8, canonIdx (K.READ_IOUT_PEAK n / 256) = 0x2213 ∧
    (objRow (K.READ_IOUT_PEAK n)).map (fun r => (r.ty, r.dflt)) = some (.u16, .c 0) := by decide +kernel

theorem key_engCyclesMax : ∀ e : Fin 16, canonIdx (K.ENG_CYCLES_MAX e / 256) = 0x2405 ∧
    (objRow (K.ENG_CYCLES_MAX e)).map (fun r => (r.ty, r.dflt)) = some (.u16, .c 0) := by decide +kernel

theorem key_engStatus : ∀ e : Fin 16, canonIdx (K.ENG_STATUS e / 256) = 0x2402 ∧ keyUnit (K.ENG_STATUS e) = e ∧
    (objRow (K.ENG_STATUS e)).map (·.ty) = some .u16 := by decide +kernel

theorem key_phaseStatus : ∀ p : Fin 32, canonIdx (K.PHASE_STATUS p / 256) = 0x2315 ∧ keyUnit (K.PHASE_STATUS p) = p ∧
    (objRow (K.PHASE_STATUS p)).map (·.ty) = some .u16 := by decide +kernel

theorem key_tmCapture : ∀ t : Fin 16, canonIdx (K.TM_CAPTURE t / 256) = 0x2B07 ∧ keyUnit (K.TM_CAPTURE t) = t ∧
    (objRow (K.TM_CAPTURE t)).map (fun r => (r.ty, r.dflt)) = some (.u32, .c 0) := by decide +kernel

theorem key_tmStatus : ∀ t : Fin 16, canonIdx (K.TM_STATUS t / 256) = 0x2B09 ∧ keyUnit (K.TM_STATUS t) = t ∧
    (objRow (K.TM_STATUS t)).map (fun r => (r.ty, r.dflt)) = some (.u16, .c 0) := by decide +kernel

theorem key_chgFault : canonIdx (K.CHG_FAULT / 256) = 0x2D1F ∧
    (objRow K.CHG_FAULT).map (fun r => (r.ty, r.dflt)) = some (.u16, .c 0) := by decide +kernel

theorem key_shipStatus : canonIdx (K.SHIP_STATUS / 256) = 0x2D54 ∧ (objRow K.SHIP_STATUS).map (·.ty) = some .u8 := by decide +kernel

theorem key_authNonce : ∀ i : Fin 4, canonIdx (K.AUTH_NONCE i / 256) = 0x3205 ∧ keyUnit (K.AUTH_NONCE i) = i ∧
    (objRow (K.AUTH_NONCE i)).isSome = true := by decide +kernel

theorem key_logWindow : ∀ i : Fin 4, canonIdx (K.LOG_WINDOW i / 256) = 0x3002 ∧ keyUnit (K.LOG_WINDOW i) = i ∧
    (objRow (K.LOG_WINDOW i)).isSome = true := by decide +kernel

namespace Dev

/-! The bytes of each read and what it clears (R50, R88, R132, R292, R297, R310, R323, R335). -/

theorem readObj_readIoutPeak {d : Dev} (n : Fin 8) {v : Int} (hv : d.obj (K.READ_IOUT_PEAK n) = .num v) :
    d.readObj (K.READ_IOUT_PEAK n) = (leBytes 2 v, d.setNum (K.READ_IOUT_PEAK n) 0) := by
  obtain ⟨hc, hr⟩ := key_readIoutPeak n
  rw [readObj_held hr (by rw [roBytes, hc]; rfl) (by rw [roNum, hc]; rfl) hv, readClears, hc]
  rfl

theorem readObj_engCyclesMax {d : Dev} (e : Fin 16) {v : Int} (hv : d.obj (K.ENG_CYCLES_MAX e) = .num v) :
    d.readObj (K.ENG_CYCLES_MAX e) = (leBytes 2 v, d.setNum (K.ENG_CYCLES_MAX e) 0) := by
  obtain ⟨hc, hr⟩ := key_engCyclesMax e
  rw [readObj_held hr (by rw [roBytes, hc]; rfl) (by rw [roNum, hc]; rfl) hv, readClears, hc]
  rfl

theorem readObj_engStatus (d : Dev) (e : Fin 16) :
    d.readObj (K.ENG_STATUS e) = (leBytes 2 (d.engStatus e), d.engStatusClear e) := by
  obtain ⟨hc, hu, hr⟩ := key_engStatus e
  rw [readObj_given hr (by rw [roBytes, hc]; rfl) (by rw [roNum, hc, hu]; rfl), readClears, hc, hu]
  rfl

theorem readObj_phaseStatus (d : Dev) (p : Fin 32) :
    d.readObj (K.PHASE_STATUS p) =
      (leBytes 2 (d.phaseStatus p), (d.putBit (K.PHASE_STATUS p) 10 false).putBit (K.PHASE_STATUS p) 4 false) := by
  obtain ⟨hc, hu, hr⟩ := key_phaseStatus p
  rw [readObj_given hr (by rw [roBytes, hc]; rfl) (by rw [roNum, hc, hu]; rfl), readClears, hc]
  rfl

theorem readObj_tmCapture {d : Dev} (t : Fin 16) {v : Int} (hv : d.obj (K.TM_CAPTURE t) = .num v) :
    d.readObj (K.TM_CAPTURE t) = (leBytes 4 v, d.tmCaptureClear t) := by
  obtain ⟨hc, hu, hr⟩ := key_tmCapture t
  rw [readObj_held hr (by rw [roBytes, hc]; rfl) (by rw [roNum, hc]; rfl) hv, readClears, hc, hu]
  rfl

theorem readObj_tmStatus {d : Dev} (t : Fin 16) {v : Int} (hv : d.obj (K.TM_STATUS t) = .num v) :
    d.readObj (K.TM_STATUS t) = (leBytes 2 v, d.setNum (K.TM_STATUS t) (v - fieldAt v 7 6 * 128)) := by
  obtain ⟨hc, hu, hr⟩ := key_tmStatus t
  have hnum : d.num (K.TM_STATUS t) = v := by rw [num, hv]; rfl
  rw [readObj_held hr (by rw [roBytes, hc]; rfl) (by rw [roNum, hc]; rfl) hv, readClears, hc, hu, ← hnum]
  rfl

theorem readObj_chgFault {d : Dev} {v : Int} (hv : d.obj K.CHG_FAULT = .num v) :
    d.readObj K.CHG_FAULT = (leBytes 2 v, d.chgFaultClear) := by
  obtain ⟨hc, hr⟩ := key_chgFault
  rw [readObj_held hr (by rw [roBytes, hc]; rfl) (by rw [roNum, hc]; rfl) hv, readClears, hc]
  rfl

theorem readObj_shipStatus (d : Dev) :
    d.readObj K.SHIP_STATUS = (leBytes 1 d.shipStatus, { d with btn := { d.btn with shipCancelled := false } }) := by
  obtain ⟨hc, hr⟩ := key_shipStatus
  rw [readObj_given hr (by rw [roBytes, hc]; rfl) (by rw [roNum, hc]; rfl), readClears, hc]
  rfl

theorem readObj_authNonce (d : Dev) (i : Fin 4) : d.readObj (K.AUTH_NONCE i) = d.nonceDraw (i + 1) := by
  obtain ⟨hc, hu, hr⟩ := key_authNonce i
  exact readObj_block hr (by rw [roBytes, hc, hu]; rfl)

theorem readObj_logWindow (d : Dev) (i : Fin 4) : d.readObj (K.LOG_WINDOW i) = d.logWindow i := by
  obtain ⟨hc, hu, hr⟩ := key_logWindow i
  exact readObj_block hr (by rw [roBytes, hc, hu]; rfl)

/-- A read of the log that meets no ECC error. -/
theorem logWindow_of_noFlaws {d : Dev} (i : Nat) (h : d.log.flaws = []) :
    d.logWindow i = (d.logAt (d.nat (K.LOG_CURSOR i)),
      if d.nat (K.LOG_CURSOR i) < d.logCount then d.setNum (K.LOG_CURSOR i) (d.nat (K.LOG_CURSOR i) + 1 : Nat) else d) := by
  have hmeet : d.logMeet (d.nat (K.LOG_CURSOR i)) (· == 0) = d := by rw [logMeet, h]; rfl
  simp only [logWindow, hmeet]

/-- A refused read at a two-wire port. -/
theorem readRefused_tw (d : Dev) (t : TwPort) (key : Nat) (r : Reason) :
    d.readRefused t.src key r =
      (((((d.enter t.src key .refused r).recordOp t.src 0x41 d.osnNext key r []).modTw t
        (fun x => { x with cml := Machine.putBit x.cml 6 true })).twEvent t 6 d.osnNext).answering (.refused r)) := by
  cases t <;> rfl

/-- A refused read on a CAN bus. -/
theorem readRefused_can {d : Dev} {p : Src} {key : Nat} {r : Reason} (h : p = .canA ∨ p = .canB) :
    d.readRefused p key r = ((d.enter p key .refused r).recordOp p 0x41 d.osnNext key r []).sdoAbort p r.abort := by
  rcases h with rfl | rfl <;> rfl

end Dev

/-- Settles O52: `hostRead` is done or refused as a whole, and `readObj` is what each object says of its read. -/
theorem hostReadsComplete : Obligations.HostReadsComplete := by
  unfold Obligations.HostReadsComplete
  refine ⟨?_, fun d => ?_⟩
  · intro s c p key d hc ho
    refine ⟨fun hr => ?_, fun hr => ⟨?_, fun hp => ?_⟩⟩
    · exact (exec_hostRead s hc).trans (next_dev (hostRead_done ho hr))
    · rintro t rfl
      exact (exec_hostRead s hc).trans (next_dev ((hostRead_refused ho hr).trans (readRefused_tw ..)))
    · exact (exec_hostRead s hc).trans (next_dev ((hostRead_refused ho hr).trans (readRefused_can hp)))
  · refine ⟨fun n v hv => readObj_readIoutPeak n hv, fun e v hv => readObj_engCyclesMax e hv, fun e => readObj_engStatus d e,
      fun p => readObj_phaseStatus d p, fun t v hv => readObj_tmCapture t hv, fun t v hv => readObj_tmStatus t hv,
      fun v hv => readObj_chgFault hv, readObj_shipStatus d, fun i => readObj_authNonce d i, fun i hf hlt => ?_, fun i hf hle => ?_⟩
    · rw [readObj_logWindow, logWindow_of_noFlaws _ hf, if_pos hlt]
    · rw [readObj_logWindow, logWindow_of_noFlaws _ hf, if_neg (Nat.not_lt.mpr hle)]

end Sys2Proof.Machine
end

section
/-! PROOFS. The statement of 02_control_tick_clocks_and_sensing.md on the commit edges (R24, R25, R302). -/

namespace Sys2Proof.Machine

open Dev

/-- The supervisor has started once the device is not held (R23). -/
theorem one_le_rank_iff {b : BootPoint} : b.rank ≥ 1 ↔ b ≠ .held := by cases b <;> simp [BootPoint.rank]

namespace Dev

/-- The states with a tick (R424). -/
theorem ticking_iff {d : Dev} : d.ticking = true ↔ d.power = .active ∨ d.power = .economy := by simp [ticking]

/-! What comes before the core of an edge: aborted SDO transfers and a supervisor breakpoint. -/

theorem setSdo_idle_power_boot (d : Dev) (bus : Bus) : (d.setSdo bus .idle).power = d.power ∧ (d.setSdo bus .idle).boot = d.boot := by
  unfold setSdo
  dsimp only
  split <;> cases bus <;> exact ⟨rfl, rfl⟩

theorem addFrames_power_boot (d : Dev) (fs : List (Nat × List Byte)) :
    (d.addFrames fs).power = d.power ∧ (d.addFrames fs).boot = d.boot := by
  unfold addFrames
  split
  · exact ⟨rfl, rfl⟩
  · split <;> exact ⟨rfl, rfl⟩

theorem sdoBreak_power_boot (d : Dev) (code : Nat) (bus : Bus) :
    (d.sdoBreak code bus).power = d.power ∧ (d.sdoBreak code bus).boot = d.boot := by
  unfold sdoBreak
  split
  · dsimp only
    split <;> simp [addFrames_power_boot, setSdo_idle_power_boot]
  · exact ⟨rfl, rfl⟩

theorem fwAbort_power_boot (d : Dev) : d.fwAbort.power = d.power ∧ d.fwAbort.boot = d.boot := by
  unfold fwAbort
  split
  · simp [buses, sdoBreak_power_boot]
  · exact ⟨rfl, rfl⟩

theorem supBreak_power_boot (d : Dev) : d.supBreak.power = d.power ∧ d.supBreak.boot = d.boot := by
  unfold supBreak
  split <;> exact ⟨rfl, rfl⟩

/-- What comes before the core of an edge (R447) leaves the power state and the boot where they are. -/
theorem beforeEdge_power_boot (d : Dev) : d.fwAbort.supBreak.power = d.power ∧ d.fwAbort.supBreak.boot = d.boot := by
  simp only [supBreak_power_boot, fwAbort_power_boot, and_self]

/-! Where each edge acts (R24, R302). -/

theorem wholeTickEdge_of_ticking {d : Dev} (x : EdgeSamples) (ht : d.ticking = true) (hb : d.boot ≠ .held) :
    d.wholeTickEdge x = d.afterEdge (d.fwAbort.supBreak.tickEdge x) := by
  simp [wholeTickEdge, ht, one_le_rank_iff, hb]

theorem wholeTickEdge_of_idle {d : Dev} (x : EdgeSamples) (ht : ¬ d.ticking = true) : d.wholeTickEdge x = d := by
  simp [wholeTickEdge, ht]

/-- The core of a tick edge: release, latch, decide, commit, count; then the capture and the waiting timer commands. -/
theorem tickEdge_of_ticking {d : Dev} (x : EdgeSamples) (ht : d.ticking = true) (hb : d.boot ≠ .held) :
    d.tickEdge x =
      (let core := ((((d.edgeRelease d.nextTick).edgeLatch d.nextTick x d.rawSlots).edgeDecide d.nextTick).commitEvents false).setNum
        K.TICK_COUNT d.nextTick
       (core.capEdge core.anyNewIntent).tmWaiting) := by
  simp [tickEdge, ht, one_le_rank_iff, hb]

theorem wholeKeepEdge_of_keep {d : Dev} (hp : d.power = .keep) (hb : d.boot ≠ .held) :
    d.wholeKeepEdge = d.afterEdge d.fwAbort.supBreak.keepEdge := by
  rw [wholeKeepEdge, if_pos ⟨hp, one_le_rank_iff.mpr hb⟩]

theorem wholeKeepEdge_of_not_keep {d : Dev} (hp : d.power ≠ .keep) : d.wholeKeepEdge = d := if_neg fun h => hp h.1

/-- The core of an edge in KEEP. -/
theorem keepEdge_of_keep {d : Dev} (hp : d.power = .keep) (hb : d.boot ≠ .held) :
    d.keepEdge = ((forUnits 24 (fun w d => d.wmSync w)
      (forUnits 24 (fun w d => d.wmRefresh w) d.applyPending.rateFollow)).statusLatch.seqEdge.chargeEdge 10000).commitEvents true := by
  rw [keepEdge, if_pos ⟨hp, one_le_rank_iff.mpr hb⟩]

end Dev

/-- Settles O11: what comes before the core of an edge leaves power state and boot as the command finds them, so each edge is its
core where it acts, and nothing elsewhere. -/
theorem edgesComplete : Obligations.EdgesComplete := by
  unfold Obligations.EdgesComplete
  refine ⟨?_, fun s x ha he => ?_, ?_, fun s hp => ?_⟩
  · intro s x d hp hb b core last
    have hpb : b.ticking = true := by
      rw [ticking_iff, (beforeEdge_power_boot d).1]
      exact hp
    have hbb : b.boot ≠ .held := by rwa [(beforeEdge_power_boot d).2]
    refine ⟨(exec_tickEdge s x).trans (next_dev ?_), num_setNum_self ..⟩
    rw [wholeTickEdge_of_ticking x (ticking_iff.mpr hp) hb, tickEdge_of_ticking x hpb hbb]
  · exact (exec_tickEdge s x).trans (next_dev (wholeTickEdge_of_idle x fun h => (ticking_iff.mp h).elim ha he))
  · intro s d hp hb m
    have hpb : d.fwAbort.supBreak.power = .keep := by rwa [(beforeEdge_power_boot d).1]
    have hbb : d.fwAbort.supBreak.boot ≠ .held := by rwa [(beforeEdge_power_boot d).2]
    refine (exec_keepEdge s).trans (next_dev ?_)
    rw [wholeKeepEdge_of_keep hp hb, keepEdge_of_keep hpb hbb]
  · exact (exec_keepEdge s).trans (next_dev (wholeKeepEdge_of_not_keep hp))

end Sys2Proof.Machine
end

section
/-! PROOFS. The statement of 02_control_tick_clocks_and_sensing.md on measurements (R45, R46, R48, R49). -/

namespace Sys2Proof.Machine

open Dev

namespace Dev

/-! Housekeeping conversions (R46). -/

/-- A channel that is not due leaves the device as it was. -/
theorem hkConversion_of_not_due {d : Dev} {ch code : Nat} (h : d.hkNext ≠ ch) : d.hkConversion ch code = d := by
  simp [hkConversion, h.symm]

/-- The scan goes to channels that it visits. -/
theorem hkEnabled_of_hkNext {d : Dev} {ch : Nat} (h : d.hkNext = ch) (hch : ch ≠ 0) : d.hkEnabled ch = true := by
  unfold hkNext at h
  split at h
  · exact absurd h.symm hch
  · cases hf : ((List.range 31).drop d.hk.pos ++ List.range d.hk.pos).find? d.hkEnabled with
    | none => rw [hf] at h; exact absurd h.symm hch
    | some c =>
      rw [hf] at h
      exact h ▸ List.find?_some hf

/-- The die is judged at sensor B, or at A where the scan leaves B out (R493). -/
theorem eq_dieLast_iff {d : Dev} {ch : Nat} (hdue : d.hkNext = ch) (hch : ch = 5 ∨ ch = 6) :
    ch = d.dieLast ↔ ch = 6 ∨ d.hkEnabled 6 = false := by
  unfold dieLast
  rcases hch with rfl | rfl
  · cases d.hkEnabled 6 <;> simp
  · simp [hkEnabled_of_hkNext hdue (by decide)]

theorem sysFromBat_iff {d : Dev} :
    d.sysFromBat = true ↔ d.path.open_ = false ∧ (d.convOn = false ∨ (d.path.inIlim = true ∧ d.chg.iNow = 0)) := by
  simp [sysFromBat]

/-- The battery current: a free discharge where the switch carries SYS, else the charge current (R319, R334). -/
theorem batCurrent_eq (d : Dev) (carries : Prop) [Decidable carries] (h : d.sysFromBat = true ↔ carries) :
    d.batCurrent = (if carries then -(d.draw.1 % 32768) else d.chg.iNow, if carries then d.draw.2 else d) := by
  unfold batCurrent
  by_cases hc : carries
  · simp only [if_pos hc, if_pos (h.mpr hc)]
  · simp only [if_neg hc, if_neg (mt h.mp hc)]

/-- A conversion of the channel that is due is stored and goes to what its channel feeds. -/
theorem hkConversion_of_due {d : Dev} {ch code : Nat} (hb : d.boot ≠ .held) (hdome : d.power ≠ .dome) (hship : d.power ≠ .ship)
    (hdue : d.hkNext = ch) :
    d.hkConversion ch code =
      let e := (d.setNum (K.HK_RAW ch) code).hkStep ch
      let v := hkMeasured ch code
      let carries := e.path.open_ = false ∧ (e.convOn = false ∨ (e.path.inIlim = true ∧ e.chg.iNow = 0))
      if ch = 0 then e.vinConversion code
      else if ch = 2 then
        ((if carries then e.draw.2 else e).setNum K.BAT_VOLTAGE (clampI 0 65535 v)).setNum K.BAT_CURRENT
          (clampI (-32768) 32767 (if carries then -(e.draw.1 % 32768) else e.chg.iNow))
      else if ch = 3 then e.tsConversion v
      else if ch = 5 ∨ ch = 6 then
        let m := e.setNum (K.DIE_TEMP (ch - 5)) (clampI (-32768) 32767 v)
        if ch = 6 ∨ d.hkEnabled 6 = false then m.dieJudge else m
      else if 7 ≤ ch ∧ ch < 15 then e.sgScan (ch - 7) (if d.board.ioS then v else min v 199)
      else if 0x17 ≤ ch ∧ ch < 0x1B then e.ldoCount (ch - 0x17)
      else e := by
  have hacts : ¬ (decide (d.boot = .held) || decide (d.power = .dome) || decide (d.power = .ship) || decide (ch ≠ d.hkNext)) = true := by
    simp [hb, hdome, hship, hdue]
  rw [hkConversion, if_neg hacts]
  generalize (d.setNum (K.HK_RAW ch) code).hkStep ch = e
  refine ite_congr rfl (fun _ => rfl) fun _ => ite_congr rfl (fun _ => ?_) fun _ => ite_congr rfl (fun _ => rfl) fun _ =>
    ite_congr rfl (fun hdie => ?_) fun _ => rfl
  · rw [batCurrent_eq e _ sysFromBat_iff]
  · exact ite_congr (propext (eq_dieLast_iff hdue hdie)) (fun _ => rfl) fun _ => rfl

/-! Capture samples of the RAW mode (R48, R49). -/

/-- Raw slots are conversions: they leave the capture alone. -/
theorem rawTake_cap (d : Dev) (x : RawSlot) : (d.rawTake x).cap = d.cap :=
  forUnits_keeps (P := fun e : Dev => e.cap = d.cap) 8 _ (fun n e h => (modRl_cap e n _).trans h) d rfl

theorem foldl_rawTake_cap (d : Dev) (slots : List RawSlot) : (slots.foldl rawTake d).cap = d.cap :=
  foldl_keeps (P := fun e : Dev => e.cap = d.cap) rawTake (fun e x h => (rawTake_cap e x).trans h) slots d rfl

theorem rawSample_of_raw {d : Dev} (slots : List RawSlot) (hm : d.cap.mode = 1) (ht : d.ticking = true) :
    d.rawSample slots =
      let m := (slots.drop (slots.length - d.cap.div)).foldl rawTake d
      m.capRecord (d.cap.srcs.map m.rawValue) := by
  rw [rawSample, if_pos ⟨hm, ht⟩]
  simp only [foldl_rawTake_cap]

/-- After the trigger a sample is recorded while samples are left. -/
theorem capRecord_of_triggered {d : Dev} (row : List Int) (h : d.cap.st = .triggered) (hl : d.cap.left > 0) :
    d.capRecord row = { d with cap := { d.cap with samples := d.cap.samples ++ [row], left := d.cap.left - 1 } } := by
  simp [capRecord, h, hl]

/-- Before the trigger a sample is held in a ring; the one at which the level trigger is met is the trigger sample. -/
theorem capRecord_of_armed {d : Dev} (row : List Int) (h : d.cap.st = .armed) :
    d.capRecord row =
      let held : Dev := { d with cap := { d.cap with
        samples := (d.cap.samples ++ [row]).drop (if d.cap.samples.length ≥ d.cap.len then 1 else 0) } }
      if 0x0200 ≤ d.cap.trig ∧ d.cap.trig < 0x0208 ∧ d.cap.fresh = false ∧ capCrosses d.cap row = true
      then held.capTrigger 0 true else held := by
  unfold capRecord
  simp only [h, if_true, Bool.and_eq_true, decide_eq_true_eq, Bool.not_eq_true', and_assoc]

end Dev

/-- Settles O17: each command, where it acts, is its equation. -/
theorem measurementCommandsComplete : Obligations.MeasurementCommandsComplete := by
  unfold Obligations.MeasurementCommandsComplete
  refine ⟨?_, ?_, ?_, ?_⟩
  · intro s ch code d0 hb hdome hship
    refine ⟨fun hn => (exec_hkConversion s ch code).trans (next_dev (hkConversion_of_not_due hn)), fun hdue => ?_⟩
    exact (exec_hkConversion s ch code).trans (next_dev (hkConversion_of_due hb hdome hship hdue))
  · intro s n d h
    exact (exec_frozenAdc s n).trans (next_dev (if_pos h))
  · intro s slots d hm ht m row
    have hcap : m.cap = d.cap := foldl_rawTake_cap ..
    have hsample : exec (.rawCaptureSample slots) s = .next (s.withDev (m.capRecord row)) :=
      (exec_rawCaptureSample s slots).trans (next_dev (rawSample_of_raw slots hm ht))
    refine ⟨?_, ?_⟩
    · intro hst hl cap
      rw [hsample, capRecord_of_triggered row (hcap ▸ hst) (hcap ▸ hl), hcap]
    · intro hst kept held met
      rw [hsample, capRecord_of_armed row (hcap ▸ hst), hcap]
      exact ⟨fun hn => next_dev (if_neg hn), fun hy => next_dev (if_pos hy)⟩
  · intro s d hst hl
    exact (exec_captureDone s).trans (next_dev (if_pos ⟨hst, hl⟩))

end Sys2Proof.Machine
end

section
/-! PROOFS. The statement of 02_control_tick_clocks_and_sensing.md on clocks (R34–R36, R39, R40). -/

namespace Sys2Proof.Machine

open Dev

/-! Fields of status words. -/

/-- A word with a field replaced, as the bits below the field, the field, and the bits above. -/
theorem putField_eq (w : Int) (lo len v : Nat) :
    putField w lo len v = ((2 ^ lo * (2 ^ len * (w.toNat / 2 ^ lo / 2 ^ len) + v % 2 ^ len) + w.toNat % 2 ^ lo : Nat) : Int) := by
  have hn : 2 ^ lo * (w.toNat / 2 ^ lo) + w.toNat % 2 ^ lo = w.toNat := Nat.div_add_mod ..
  have hq : 2 ^ len * (w.toNat / 2 ^ lo / 2 ^ len) + w.toNat / 2 ^ lo % 2 ^ len = w.toNat / 2 ^ lo := Nat.div_add_mod ..
  have hsum : 2 ^ lo * (2 ^ len * (w.toNat / 2 ^ lo / 2 ^ len)) + 2 ^ lo * (w.toNat / 2 ^ lo % 2 ^ len) + w.toNat % 2 ^ lo = w.toNat := by
    rw [← Nat.mul_add, hq, hn]
  refine congrArg Int.ofNat ?_
  rw [Nat.mul_add, Nat.mul_comm (w.toNat / 2 ^ lo % 2 ^ len), Nat.mul_comm (v % 2 ^ len)]
  omega

/-- A bit below a field stays when the field is replaced. -/
theorem bitAt_putField_below (w : Int) {lo len v i : Nat} (h : i < lo) : bitAt (putField w lo len v) i = bitAt w i := by
  rw [bitAt, bitAt, putField_eq, Int.toNat_natCast, Nat.testBit_two_pow_mul_add _ (Nat.mod_lt _ (Nat.two_pow_pos lo)), if_pos h,
    Nat.testBit_mod_two_pow]
  simp [h]

/-- A bit of a field is that of the value put there. -/
theorem bitAt_putField_inside (w : Int) {lo len v i : Nat} (h : i < len) : bitAt (putField w lo len v) (lo + i) = v.testBit i := by
  rw [bitAt, putField_eq, Int.toNat_natCast, Nat.testBit_two_pow_mul_add _ (Nat.mod_lt _ (Nat.two_pow_pos lo)),
    if_neg (by omega), Nat.add_sub_cancel_left, Nat.testBit_two_pow_mul_add _ (Nat.mod_lt _ (Nat.two_pow_pos len)), if_pos h,
    Nat.testBit_mod_two_pow]
  simp [h]

/-- A bit of a field. -/
theorem testBit_fieldAt (w : Int) {lo len i : Nat} (h : i < len) : (fieldAt w lo len).testBit i = bitAt w (lo + i) := by
  simp [fieldAt, bitAt, Nat.testBit_mod_two_pow, Nat.testBit_div_two_pow, h, Nat.add_comm]

namespace Dev

/-! The synchroniser (R35, R36). -/

/-- An update of the clocks, the objects and the events alone. -/
def OnlyClocks (d e : Dev) : Prop := ∃ clk objs ev, e = { d with clk := clk, objs := objs, ev := ev }

theorem OnlyClocks.eq {d e : Dev} (h : OnlyClocks d e) : e = { d with clk := e.clk, objs := e.objs, ev := e.ev } := by
  obtain ⟨_, _, _, rfl⟩ := h
  rfl

theorem OnlyClocks.setClk (d : Dev) (c : Clk) : OnlyClocks d { d with clk := c } := ⟨c, d.objs, d.ev, rfl⟩

theorem OnlyClocks.setNum {d e : Dev} (h : OnlyClocks d e) (k : Nat) (v : Int) : OnlyClocks d (e.setNum k v) := by
  obtain ⟨clk, objs, ev, rfl⟩ := h
  exact ⟨clk, _, ev, rfl⟩

theorem OnlyClocks.putBit {d e : Dev} (h : OnlyClocks d e) (k i : Nat) (b : Bool) : OnlyClocks d (e.putBit k i b) := h.setNum ..

theorem OnlyClocks.cause {d e : Dev} (h : OnlyClocks d e) (src code : Nat) : OnlyClocks d (e.cause src code) := by
  obtain ⟨clk, objs, ev, rfl⟩ := h
  unfold Dev.cause causeArg
  split
  · split <;> exact ⟨clk, objs, _, rfl⟩
  · exact ⟨clk, objs, _, rfl⟩

/-- Sixteen ticks in a row set `locked` (R35). -/
def lockOnRun (d : Dev) : Dev :=
  if d.clk.syncRun = 16 ∧ d.bit K.SYNC_STATUS 3 = false then
    (((d.putBit K.SYNC_STATUS 3 true).putBit K.SYNC_STATUS 1 false).putBit K.SYNC_STATUS 0 false).cause 124 0x06
  else d

/-- Two words that fit set the tick count (R34). -/
def alignOn (d : Dev) (two : Bool) (word : Nat) : Dev :=
  if two then (d.setNum K.TICK_COUNT word).putBit K.SYNC_STATUS 2 true else d

/-- A synchronisation edge while it is followed: its judgement, then the lock, then the word. -/
theorem syncinEdge_eq {d : Dev} {period width : Nat} {offset : Int} (hm : d.effNum K.SYNC_MODE = 2) (ht : d.ticking = true) :
    let diff := if period ≥ d.tickPs then period - d.tickPs else d.tickPs - period
    let bad := decide (100 * diff > d.tickPs)
    ∃ c two word, d.syncinEdge period width offset = alignOn (lockOnRun { d with clk := c }) two word ∧
      c.syncRun = (if decide (offset ≤ 2500) && decide (offset ≥ -2500) && !bad then min 16 (d.clk.syncRun + 1) else 0) ∧
      c.syncBad = (if bad then d.clk.syncBad + 1 else 0) ∧ c.freeRun = (d.clk.freeRun && bad) := by
  intro diff bad
  have hfollows : ¬ (d.effNum K.SYNC_MODE ≠ 2 ∨ d.ticking = false) := by simp [hm, ht]
  rw [syncinEdge, if_neg hfollows]
  extract_lets c near run marker pos word whole two d1 d2
  exact ⟨d1.clk, two, (c.syncWord + 64) % 4294967296, rfl, rfl, rfl, rfl⟩

theorem lockOnRun_only {d e : Dev} (h : OnlyClocks d e) : OnlyClocks d e.lockOnRun := by
  unfold lockOnRun
  split
  · exact (((h.putBit ..).putBit ..).putBit ..).cause ..
  · exact h

theorem lockOnRun_clk (d : Dev) : d.lockOnRun.clk = d.clk := by
  unfold lockOnRun
  split <;> simp

/-- The lock shows in `SYNC_STATUS` and is told by EV124 06h (R35). -/
theorem lockOnRun_locks {d : Dev} (hrun : d.clk.syncRun = 16) (hbit : d.bit K.SYNC_STATUS 3 = false) (hp : d.power ≠ .dome) :
    d.lockOnRun.bit K.SYNC_STATUS 3 = true ∧ d.lockOnRun.posts 124 0x06 := by
  rw [lockOnRun, if_pos ⟨hrun, hbit⟩]
  obtain ⟨hobjs, hposts⟩ := causeArg_awake (((d.putBit K.SYNC_STATUS 3 true).putBit K.SYNC_STATUS 1 false).putBit K.SYNC_STATUS 0 false)
    124 0x06 0 [] hp
  refine ⟨?_, hposts⟩
  rw [bit, num, cause, obj_congr _ hobjs]
  change bit _ K.SYNC_STATUS 3 = true
  rw [bit_putBit_same _ _ _ (by decide), bit_putBit_same _ _ _ (by decide), bit_putBit_self]

theorem alignOn_only {d e : Dev} (h : OnlyClocks d e) (two : Bool) (word : Nat) : OnlyClocks d (e.alignOn two word) := by
  unfold alignOn
  split
  · exact (h.setNum ..).putBit ..
  · exact h

theorem alignOn_clk (d : Dev) (two : Bool) (word : Nat) : (d.alignOn two word).clk = d.clk := by
  unfold alignOn
  split <;> rfl

theorem alignOn_posts {d : Dev} {two : Bool} {word src code : Nat} : (d.alignOn two word).posts src code ↔ d.posts src code := by
  unfold alignOn
  split <;> rfl

/-- A tick count taken over leaves `locked`. -/
theorem alignOn_locked (d : Dev) (two : Bool) (word : Nat) : (d.alignOn two word).bit K.SYNC_STATUS 3 = d.bit K.SYNC_STATUS 3 := by
  unfold alignOn
  split
  · rw [bit_putBit_same _ _ _ (by decide), bit, num_setNum_other _ _ (by decide), bit]
  · rfl

theorem syncinEdge_only {d : Dev} (period width : Nat) (offset : Int) (hm : d.effNum K.SYNC_MODE = 2) (ht : d.ticking = true) :
    OnlyClocks d (d.syncinEdge period width offset) := by
  obtain ⟨c, two, word, he, -⟩ := syncinEdge_eq (period := period) (width := width) (offset := offset) hm ht
  rw [he]
  exact alignOn_only (lockOnRun_only (.setClk d c)) two word

/-- An edge at the own period and near the own edge counts a tick in a row (R35). -/
theorem syncinEdge_good {d : Dev} (width : Nat) {offset : Int} (hm : d.effNum K.SYNC_MODE = 2) (ht : d.ticking = true)
    (hlo : -2500 ≤ offset) (hhi : offset ≤ 2500) :
    ∃ c two word, d.syncinEdge d.tickPs width offset = alignOn (lockOnRun { d with clk := c }) two word ∧
      c.syncRun = min 16 (d.clk.syncRun + 1) ∧ c.syncBad = 0 ∧ c.freeRun = false := by
  obtain ⟨c, two, word, he, hrun, hbad, hfree⟩ := syncinEdge_eq (period := d.tickPs) (width := width) (offset := offset) hm ht
  exact ⟨c, two, word, he, by simpa [hlo, hhi] using hrun, by simpa using hbad, by simpa using hfree⟩

/-- An edge whose period is off by more than 1 % restarts the count (R36). -/
theorem syncinEdge_bad {d : Dev} {period : Nat} (width : Nat) (offset : Int) (hm : d.effNum K.SYNC_MODE = 2) (ht : d.ticking = true)
    (hp : 100 * period > 101 * d.tickPs) :
    (d.syncinEdge period width offset).clk.syncRun = 0 ∧ (d.syncinEdge period width offset).clk.syncBad = d.clk.syncBad + 1 := by
  obtain ⟨c, two, word, he, hrun, hbad, -⟩ := syncinEdge_eq (period := period) (width := width) (offset := offset) hm ht
  have hge : period ≥ d.tickPs := by omega
  have hoff : 100 * (period - d.tickPs) > d.tickPs := by omega
  rw [he, alignOn_clk, lockOnRun_clk]
  exact ⟨by simpa [hge, hoff] using hrun, by simpa [hge, hoff] using hbad⟩

/-! A clock fault (R39): what putting the outputs at mid-level and switching the units off leaves alone. -/

/-- No object changes where an event is caused, in DOME or outside. -/
theorem cause_objs (d : Dev) (src code : Nat) : (d.cause src code).objs = d.objs := by
  unfold cause causeArg
  split
  · split <;> rfl
  · rfl

theorem num_cause (d : Dev) (src code k : Nat) : (d.cause src code).num k = d.num k :=
  congrArg Val.int (obj_congr d (cause_objs ..) k)

theorem unitOn_congr {d e : Dev} {u : Nat} (h : e.num (K.UNIT_ON u) = d.num (K.UNIT_ON u)) : e.unitOn u = d.unitOn u := by
  rw [unitOn, flag, h, unitOn, flag]

/-- Phases and units stop, and nothing else changes: an output at mid-level stays there, a unit that is off stays off, and the
objects up to index 22FFh stay. -/
structure OnlyStops (d e : Dev) : Prop where
  ops : e.ops = d.ops
  acc : e.acc = d.acc
  ldos : e.ldos = d.ldos
  seqr : e.seqr = d.seqr
  power : e.power = d.power
  num : ∀ k < 0x230000, e.num k = d.num k
  mid : ∀ p, (d.ph p).out = .mid → (e.ph p).out = .mid
  off : ∀ u, d.unitOn u = false → e.unitOn u = false

theorem OnlyStops.refl (d : Dev) : OnlyStops d d := ⟨rfl, rfl, rfl, rfl, rfl, fun _ _ => rfl, fun _ h => h, fun _ h => h⟩

theorem OnlyStops.trans {a b c : Dev} (h : OnlyStops a b) (g : OnlyStops b c) : OnlyStops a c :=
  ⟨g.ops.trans h.ops, g.acc.trans h.acc, g.ldos.trans h.ldos, g.seqr.trans h.seqr, g.power.trans h.power,
    fun k hk => (g.num k hk).trans (h.num k hk), fun p hp => g.mid p (h.mid p hp), fun u hu => g.off u (h.off u hu)⟩

/-- Steps over a list, each of which only stops phases and units. -/
theorem OnlyStops.foldl {d : Dev} {β : Type} (f : Dev → β → Dev) (l : List β) (h : ∀ e, ∀ b ∈ l, OnlyStops e (f e b)) :
    OnlyStops d (l.foldl f d) :=
  List.foldlRecOn (motive := OnlyStops d) l f (.refl d) (fun e he b hb => he.trans (h e b hb))

/-- A change of a phase that keeps an output at mid-level. -/
theorem onlyStops_modPh (d : Dev) (p : Nat) (f : Phase → Phase) (hf : ∀ c : Phase, c.out = .mid → (f c).out = .mid) :
    OnlyStops d (d.modPh p f) := by
  refine ⟨rfl, rfl, rfl, rfl, rfl, fun _ _ => rfl, fun q hq => ?_, fun _ h => h⟩
  by_cases h : q = p
  · subst h
    by_cases hlt : q < 32
    · rw [ph_modPh_self _ _ hlt]
      exact hf _ hq
    · simpa [ph, modPh, vmod, vget, hlt] using hq
  · rw [ph_modPh_other _ _ h]
    exact hq

theorem onlyStops_cause (d : Dev) (src code : Nat) : OnlyStops d (d.cause src code) :=
  ⟨cause_ops .., cause_acc .., cause_ldos .., cause_seqr .., cause_power .., fun k _ => num_cause d src code k,
    fun p hp => by rwa [ph, cause_phases], fun u hu => (unitOn_congr (num_cause ..)).trans hu⟩

/-- A number that changes of a chapter from the phases on, but for `UNIT_ON`. -/
theorem onlyStops_setNum (d : Dev) {key : Nat} (v : Int) (hlo : 0x230000 ≤ key) (hhi : key < 0x290000) : OnlyStops d (d.setNum key v) :=
  ⟨rfl, rfl, rfl, rfl, rfl, fun _ hk => num_setNum_other _ _ (by omega), fun _ h => h,
    fun _ hu => (unitOn_congr (num_setNum_other _ _ (by simp only [K.UNIT_ON]; omega))).trans hu⟩

theorem onlyStops_cutOn (d : Dev) {p : Nat} (hp : p < 32) : OnlyStops d (d.cutOn p) := by
  unfold cutOn
  split
  · have hdraw : OnlyStops d d.draw.2 := ⟨rfl, rfl, rfl, rfl, rfl, fun _ _ => rfl, fun _ h => h, fun _ h => h⟩
    have hset : OnlyStops d.draw.2 (d.draw.2.setNum (K.TON_LAST p) d.draw.1) :=
      onlyStops_setNum _ _ (by simp only [K.TON_LAST]; omega) (by simp only [K.TON_LAST]; omega)
    exact (hdraw.trans hset).trans (onlyStops_modPh _ _ _ fun _ h => h)
  · exact .refl d

theorem onlyStops_toMid (d : Dev) {p : Nat} (hp : p < 32) : OnlyStops d (d.toMid p) :=
  (onlyStops_cutOn d hp).trans (onlyStops_modPh _ _ _ fun _ _ => rfl)

theorem onlyStops_parkPhase (d : Dev) {p : Nat} (hp : p < 32) : OnlyStops d (d.parkPhase p) :=
  (onlyStops_toMid d hp).trans (onlyStops_modPh _ _ _ fun _ h => h)

theorem onlyStops_gloveLeave (d : Dev) (n : Nat) : OnlyStops d (d.gloveLeave n) := by
  unfold gloveLeave
  split
  · exact OnlyStops.trans (b := d.modRl n _) ⟨rfl, rfl, rfl, rfl, rfl, fun _ _ => rfl, fun _ h => h, fun _ h => h⟩ (onlyStops_cause ..)
  · exact .refl d

theorem unitOn_setNum (d : Dev) (u v : Nat) : (d.setNum (K.UNIT_ON u) 0).unitOn v = if v = u then false else d.unitOn v := by
  split
  · next h => simp [unitOn, flag, h]
  · next h => exact unitOn_congr (num_setNum_other _ _ (by simp only [K.UNIT_ON]; omega))

/-- The write of `UNIT_ON` by which a unit goes off. -/
theorem onlyStops_setOff (d : Dev) (u : Nat) : OnlyStops d (d.setNum (K.UNIT_ON u) 0) := by
  refine ⟨rfl, rfl, rfl, rfl, rfl, fun _ hk => num_setNum_other _ _ (by simp only [K.UNIT_ON]; omega), fun _ h => h, fun v hv => ?_⟩
  rw [unitOn_setNum]
  split
  · rfl
  · exact hv

/-- A rail or a buck goes off by the write of its `UNIT_ON`; what follows stops phases and units alone. -/
theorem onlyStops_unitOff (d : Dev) {u : Nat} (hu : u < 14) : OnlyStops (d.setNum (K.UNIT_ON u) 0) (d.unitOff u) := by
  unfold unitOff
  by_cases h : u < 8
  · simp only [if_pos h]
    refine OnlyStops.trans (OnlyStops.trans (.foldl parkPhase _ fun e p hp => ?_) (onlyStops_gloveLeave _ u))
      ⟨rfl, rfl, rfl, rfl, rfl, fun _ _ => rfl, fun _ h => h, fun _ h => h⟩
    exact onlyStops_parkPhase e (List.mem_range.mp (List.mem_filter.mp hp).1)
  · simp only [if_neg h, if_pos hu]
    exact ⟨rfl, rfl, rfl, rfl, rfl, fun _ _ => rfl, fun _ h => h, fun _ h => h⟩

/-- What a clock fault does to a rail or a buck: it goes off, or a retry that waits is dropped. -/
def stopUnit (d : Dev) (u : Nat) : Dev := if d.unitOn u then d.unitOff u else d.putBit (faultKey u) 14 false

theorem faultKey_range {u : Nat} (hu : u < 14) : 0x230000 ≤ faultKey u ∧ faultKey u < 0x290000 := by
  simp only [faultKey, hu, if_true, K.FAULT_STATUS, K.BK_FAULT_STATUS]
  split <;> omega

theorem onlyStops_dropRetry (d : Dev) {u : Nat} (hu : u < 14) : OnlyStops d (d.putBit (faultKey u) 14 false) :=
  onlyStops_setNum d _ (faultKey_range hu).1 (faultKey_range hu).2

theorem onlyStops_stopUnit (d : Dev) {u : Nat} (hu : u < 14) : OnlyStops d (d.stopUnit u) := by
  unfold stopUnit
  split
  · exact (onlyStops_setOff d u).trans (onlyStops_unitOff d hu)
  · exact onlyStops_dropRetry d hu

theorem stopUnit_off (d : Dev) {u : Nat} (hu : u < 14) : (d.stopUnit u).unitOn u = false := by
  unfold stopUnit
  split
  · exact (onlyStops_unitOff d hu).off u (by rw [unitOn_setNum, if_pos rfl])
  · next hon => exact (onlyStops_dropRetry d hu).off u (by simpa using hon)

/-- What a clock fault leaves as it was, and what its count starts from. -/
structure SameRest (d e : Dev) : Prop where
  ops : e.ops = d.ops
  acc : e.acc = d.acc
  ldos : e.ldos = d.ldos
  seqr : e.seqr = d.seqr
  power : e.power = d.power
  count : e.num K.CLOCK_FAULT_COUNT = d.num K.CLOCK_FAULT_COUNT

theorem SameRest.trans {a b c : Dev} (h : SameRest a b) (g : SameRest b c) : SameRest a c :=
  ⟨g.ops.trans h.ops, g.acc.trans h.acc, g.ldos.trans h.ldos, g.seqr.trans h.seqr, g.power.trans h.power, g.count.trans h.count⟩

theorem OnlyStops.rest {d e : Dev} (h : OnlyStops d e) : SameRest d e :=
  ⟨h.ops, h.acc, h.ldos, h.seqr, h.power, h.num _ (by decide)⟩

theorem sameRest_putBit (d : Dev) (i : Nat) (b : Bool) : SameRest d (d.putBit K.CLOCK_STATUS i b) :=
  ⟨rfl, rfl, rfl, rfl, rfl, num_putBit_other _ _ _ (by decide)⟩

theorem sameRest_clockFollow (d : Dev) : SameRest d d.clockFollow :=
  ⟨rfl, rfl, rfl, rfl, rfl, num_modNum_other _ _ (by decide)⟩

/-! Every output and every unit. -/

theorem forUnits_succ {σ : Type} (n : Nat) (f : Nat → σ → σ) (s : σ) : forUnits (n + 1) f s = f n (forUnits n f s) := by
  simp [forUnits, List.range_succ]

/-- What a unit's step brings about and the steps of the others keep holds of each unit after all of them. -/
theorem forUnits_each {σ : Type} {P : Nat → σ → Prop} {f : Nat → σ → σ} {n : Nat} (hset : ∀ i < n, ∀ s, P i (f i s))
    (hkeep : ∀ i < n, ∀ j s, P j s → P j (f i s)) (s : σ) : ∀ j < n, P j (forUnits n f s) := by
  induction n with
  | zero => exact fun j hj => absurd hj (Nat.not_lt_zero j)
  | succ n ih =>
    intro j hj
    rw [forUnits_succ]
    rcases Nat.lt_succ_iff_lt_or_eq.mp hj with h | rfl
    · exact hkeep n (Nat.lt_succ_self n) j _ (ih (fun i hi => hset i (by omega)) (fun i hi => hkeep i (by omega)) j h)
    · exact hset j (Nat.lt_succ_self j) _

theorem onlyStops_allMid (d : Dev) : OnlyStops d d.allMid := .foldl _ _ fun e _ hp => onlyStops_toMid e (List.mem_range.mp hp)

theorem allMid_out (d : Dev) : ∀ p < 32, (d.allMid.ph p).out = .mid :=
  forUnits_each (P := fun p (e : Dev) => (e.ph p).out = .mid) (fun p hp e => by rw [toMid, ph_modPh_self _ _ hp])
    (fun _ hi j e h => (onlyStops_toMid e hi).mid j h) d

/-- Every rail and buck is stopped. -/
def stopUnits (d : Dev) : Dev := forUnits 14 (fun u d => d.stopUnit u) d

theorem onlyStops_stopUnits (d : Dev) : OnlyStops d d.stopUnits := .foldl _ _ fun e _ hu => onlyStops_stopUnit e (List.mem_range.mp hu)

theorem stopUnits_off (d : Dev) : ∀ u < 14, d.stopUnits.unitOn u = false :=
  forUnits_each (P := fun u (e : Dev) => e.unitOn u = false) (fun _ hu e => stopUnit_off e hu)
    (fun _ hi j e h => (onlyStops_stopUnit e hi).off j h) d

/-! `CLOCK_STATUS` (R39). -/

/-- The PLLs' and oscillators' bits, 7 to 4, follow the power state; the bits below stay. -/
theorem clockFollow_below (d : Dev) {i : Nat} (h : i < 4) : d.clockFollow.bit K.CLOCK_STATUS i = d.bit K.CLOCK_STATUS i := by
  rw [bit, clockFollow, num_modNum_self, bitAt_putField_below _ h, bit]

/-- While a fault stands, a bit that is clear stays clear. -/
theorem clockFollow_cleared {d : Dev} {i : Nat} (h : i < 4) (hf : d.xoFaulty = true) (hc : d.bit K.CLOCK_STATUS (4 + i) = false) :
    d.clockFollow.bit K.CLOCK_STATUS (4 + i) = false := by
  rw [bit, clockFollow, num_modNum_self, bitAt_putField_inside _ h, if_pos hf, Nat.testBit_and, testBit_fieldAt _ h]
  rw [bit] at hc
  rw [hc, Bool.and_false]

theorem bit_congr {d e : Dev} {k : Nat} (h : e.num k = d.num k) (i : Nat) : e.bit k i = d.bit k i := by rw [bit, h, bit]

/-- A clock fault shown in `CLOCK_STATUS`. -/
def faultShown (d : Dev) (code : Nat) : Dev := (d.putBit K.CLOCK_STATUS 3 true).putBit K.CLOCK_STATUS (7 - code) false

/-- What a clock fault switches: the bits of `CLOCK_STATUS`, every output, the clocks, every rail and buck. -/
def faultStop (d : Dev) (code : Nat) : Dev := (d.faultShown code).allMid.clockFollow.stopUnits

/-- The fault of a clock that is good (R39): what it switches, its count, its event and the request of the fault programs. -/
theorem xoFault_eq {d : Dev} {code : Nat} (hgood : d.bit K.CLOCK_STATUS (7 - code) = true) (hdome : d.power ≠ .dome)
    (hship : d.power ≠ .ship) (hboot : d.boot ≠ .held) :
    d.xoFault code =
      (((d.faultStop code).bump K.CLOCK_FAULT_COUNT 16).cause 124 (if code = 0 then 0x01 else 0x02)).faultRequest 15 := by
  have hacts : ¬ (!d.bit K.CLOCK_STATUS (7 - code) || decide (d.power = .dome) || decide (d.power = .ship) ||
      decide (d.boot = .held)) = true := by simp [hgood, hdome, hship, hboot]
  rw [xoFault, if_neg hacts]
  rfl

theorem faultStop_rest (d : Dev) (code : Nat) : SameRest d (d.faultStop code) := by
  have hshown : SameRest d (d.faultShown code) := (sameRest_putBit d 3 true).trans (sameRest_putBit _ _ false)
  have hmid : SameRest d (d.faultShown code).allMid := hshown.trans (onlyStops_allMid (d.faultShown code)).rest
  exact (hmid.trans (sameRest_clockFollow (d.faultShown code).allMid)).trans
    (onlyStops_stopUnits (d.faultShown code).allMid.clockFollow).rest

/-- A clock fault shows: `xo_fault` is set, and the bit of the clock is clear (R39). -/
theorem faultStop_status (d : Dev) {code : Nat} (hc : code < 4) :
    (d.faultStop code).bit K.CLOCK_STATUS 3 = true ∧ (d.faultStop code).bit K.CLOCK_STATUS (7 - code) = false := by
  have hmid := (onlyStops_allMid (d.faultShown code)).num K.CLOCK_STATUS (by decide)
  have hstop := (onlyStops_stopUnits (d.faultShown code).allMid.clockFollow).num K.CLOCK_STATUS (by decide)
  have hset : (d.faultShown code).allMid.bit K.CLOCK_STATUS 3 = true := by
    rw [bit_congr hmid, faultShown, bit_putBit_same _ _ _ (by omega), bit_putBit_self]
  have hclear : (d.faultShown code).allMid.bit K.CLOCK_STATUS (7 - code) = false := by
    rw [bit_congr hmid, faultShown, bit_putBit_self]
  obtain ⟨i, hi, hcode⟩ : ∃ i < 4, 7 - code = 4 + i := ⟨3 - code, by omega, by omega⟩
  refine ⟨?_, ?_⟩
  · rw [faultStop, bit_congr hstop, clockFollow_below _ (by decide), hset]
  · rw [faultStop, bit_congr hstop, hcode]
    exact clockFollow_cleared hi hset (hcode ▸ hclear)

theorem clockFollow_ph (d : Dev) (p : Nat) : d.clockFollow.ph p = d.ph p := rfl

theorem faultStop_out (d : Dev) (code : Nat) : ∀ p < 32, ((d.faultStop code).ph p).out = .mid := by
  intro p hp
  rw [faultStop]
  refine (onlyStops_stopUnits _).mid p ?_
  rw [clockFollow_ph]
  exact allMid_out _ p hp

theorem faultStop_off (d : Dev) (code : Nat) : ∀ u < 14, (d.faultStop code).unitOn u = false := by
  rw [faultStop]
  exact stopUnits_off _

/-- What a clock fault does, read off the next device (R39). -/
theorem xoFault_reads {d : Dev} {code : Nat} (hc : code < 4) (hgood : d.bit K.CLOCK_STATUS (7 - code) = true) (hdome : d.power ≠ .dome)
    (hship : d.power ≠ .ship) (hboot : d.boot ≠ .held) :
    (d.xoFault code).bit K.CLOCK_STATUS 3 = true ∧ (d.xoFault code).bit K.CLOCK_STATUS (7 - code) = false ∧
      (∀ p < 32, ((d.xoFault code).ph p).out = .mid) ∧ (∀ u < 14, (d.xoFault code).unitOn u = false) ∧
      (d.xoFault code).num K.CLOCK_FAULT_COUNT = satU 16 (d.num K.CLOCK_FAULT_COUNT + 1) ∧
      (d.xoFault code).posts 124 (if code = 0 then 0x01 else 0x02) ∧
      (d.xoFault code).seqr = { d.seqr with reqFault := d.seqr.reqFault ||| 15 } ∧
      (d.xoFault code).ops = d.ops ∧ (d.xoFault code).acc = d.acc ∧ (d.xoFault code).ldos = d.ldos := by
  obtain ⟨hops, hacc, hldos, hseqr, hpower, hcount⟩ := faultStop_rest d code
  obtain ⟨hset, hclear⟩ := faultStop_status d hc
  have hout := faultStop_out d code
  have hoff := faultStop_off d code
  rw [xoFault_eq hgood hdome hship hboot]
  generalize d.faultStop code = e at *
  generalize (if code = 0 then 0x01 else 0x02) = ev
  have hnum : ∀ k, k ≠ K.CLOCK_FAULT_COUNT → (((e.bump K.CLOCK_FAULT_COUNT 16).cause 124 ev).faultRequest 15).num k = e.num k :=
    fun k hk => (num_cause ..).trans (num_bump_other _ _ hk)
  refine ⟨?_, ?_, ?_, ?_, ?_, ?_, ?_, ?_, ?_, ?_⟩
  · rw [bit_congr (hnum _ (by decide)), hset]
  · rw [bit_congr (hnum _ (by decide)), hclear]
  · intro p hp
    refine Eq.trans ?_ (hout p hp)
    rw [ph, ph]
    exact congrArg (fun v => (vget v p).out) (cause_phases ..)
  · intro u hu
    rw [unitOn_congr (hnum _ (by simp only [K.UNIT_ON, K.CLOCK_FAULT_COUNT]; omega)), hoff u hu]
  · exact (num_cause ..).trans (by rw [num_bump_self, hcount])
  · exact (causeArg_awake _ _ _ _ _ (hpower ▸ hdome)).2
  · rw [faultRequest, cause_seqr]
    exact hseqr ▸ rfl
  · exact (cause_ops ..).trans hops
  · exact (cause_acc ..).trans hacc
  · exact (cause_ldos ..).trans hldos

/-- Clearing `xo_fault` ends the fault (R39). -/
theorem clockFollow_not_xoFaulty (d : Dev) : (d.putBit K.CLOCK_STATUS 3 false).clockFollow.xoFaulty = false := by
  rw [xoFaulty, clockFollow_below _ (by decide), bit_putBit_self]

theorem syncLost_eq {d : Dev} (hm : d.effNum K.SYNC_MODE = 2) (ht : d.ticking = true) (hf : d.clk.freeRun = false) :
    d.syncLost =
      let c : Clk := { d.clk with freeRun := true, syncRun := 0, syncPos := 0, syncWord := 0, syncLast := none, syncMatch := false, syncBad := 0 }
      ((((({ d with clk := c }.putBit K.SYNC_STATUS 3 false).putBit K.SYNC_STATUS 2 false).putBit
        K.SYNC_STATUS (if d.clk.syncBad ≥ 8 then 0 else 1) true).bump K.SYNC_LOST_COUNT 16).cause 124 (if d.clk.syncBad ≥ 8 then 0x05 else 0x04)) := by
  have hacts : ¬ (d.effNum K.SYNC_MODE ≠ 2 ∨ d.ticking = false ∨ d.clk.freeRun = true) := by simp [hm, ht, hf]
  rw [syncLost, if_neg hacts]
  simp only [decide_eq_true_eq]

end Dev

/-- Settles O16: a synchronisation edge by `syncinEdge_eq`, a clock fault by `faultStop`, the others by their equations. -/
theorem clockCommandsComplete : Obligations.ClockCommandsComplete := by
  unfold Obligations.ClockCommandsComplete
  refine ⟨?_, ?_, ?_, ?_, ?_, ?_, ?_⟩
  · intro s width offset d hm ht hlo hhi
    obtain ⟨c, two, word, he, hrun, hbad, hfree⟩ := syncinEdge_good width hm ht hlo hhi
    have hclk : (d.syncinEdge d.tickPs width offset).clk = c := by rw [he, alignOn_clk, lockOnRun_clk]
    refine ⟨s.withDev (d.syncinEdge d.tickPs width offset), exec_syncinEdge .., congrArg s.withDev (syncinEdge_only _ width offset hm ht).eq,
      (congrArg (·.syncRun) hclk).trans hrun, (congrArg (·.syncBad) hclk).trans hbad, (congrArg (·.freeRun) hclk).trans hfree, ?_⟩
    intro hcount hbit
    have hawake : d.power ≠ .dome := by rcases ticking_iff.mp ht with h | h <;> simp [h]
    have hsixteen : c.syncRun = 16 := by omega
    obtain ⟨hlocked, hposts⟩ := lockOnRun_locks (d := { d with clk := c }) hsixteen hbit hawake
    change (d.syncinEdge d.tickPs width offset).bit K.SYNC_STATUS 3 = true ∧ (d.syncinEdge d.tickPs width offset).posts 124 0x06
    rw [he, alignOn_locked, alignOn_posts]
    exact ⟨hlocked, hposts⟩
  · intro s period width offset d hm ht hp
    exact ⟨s.withDev (d.syncinEdge period width offset), exec_syncinEdge .., congrArg s.withDev (syncinEdge_only period width offset hm ht).eq,
      syncinEdge_bad width offset hm ht hp⟩
  · intro s d hm ht hf c
    exact (exec_syncLost s).trans (next_dev (syncLost_eq hm ht hf))
  · intro s code d hgood hdome hship hboot
    exact ⟨s.withDev (d.xoFault code), exec_xoFault s code, rfl, xoFault_reads code.isLt hgood hdome hship hboot⟩
  · intro s d hf
    exact ⟨(exec_xoFaultClear s).trans (next_dev (if_pos hf)), clockFollow_not_xoFaulty d⟩
  · intro s d hsrc hrank hbit
    exact (exec_lfXtalFail s).trans (next_dev (if_pos ⟨hsrc, hrank, hbit⟩))
  · intro s e d hrank hdome hship hbit
    exact (exec_lfCalibration s e).trans (next_dev (if_pos ⟨hrank, hdome, hship, hbit⟩))

end Sys2Proof.Machine
end

section
/-! PROOFS. The statement of 03_phase_channels_and_modulation.md on the phase channels (R52–R87). -/

namespace Sys2Proof.Machine

open Dev

namespace Dev

variable {d : Dev} {p : Nat}

/-! Turn-ons (R60, R61, R63). -/

theorem slotTurnOn_of_due {n : Nat} (hfire : d.mayFire p = true) (hrail : d.railOf p = some n) (hslot : (d.rl n).slot ≤ d.slotOf n p) :
    d.slotTurnOn p = d.fireSlot n p (d.slotOf n p) := by
  simp [slotTurnOn, hrail, hfire, hslot]

/-- A turn-on in its slot is put off while the phase drains or `TOFF_MIN` lasts. -/
theorem fireSlot_of_wait {n s : Nat} (h : d.drains p = true ∨ d.slotAt n s < d.freeAt p) :
    d.fireSlot n p s =
      (d.modRl n (fun r => { r with slot := s + 1 })).modPh p (fun c => { c with deferred := true, onAt := d.slotAt n s }) :=
  if_pos (by simpa using h)

theorem fireSlot_of_free {n s : Nat} (hdrain : d.drains p = false) (hfree : d.freeAt p ≤ d.slotAt n s) :
    d.fireSlot n p s = (d.modRl n (fun r => { r with slot := s + 1 })).turnOn p (d.slotAt n s) :=
  if_neg (by simpa [hdrain] using hfree)

theorem deferredTurnOn_of_due (hfire : d.mayFire p = true) (hput : (d.ph p).deferred = true) (hdrain : d.drains p = false) :
    d.deferredTurnOn p = (d.turnOn p (max (d.ph p).onAt (d.freeAt p))).bump (K.DEFER_COUNT p) 16 :=
  if_pos (by simp [hfire, hput, hdrain])

/-! Ends of an on-time (R66, R67). -/

/-- The comparator ends an on-time from `comparatorFrom` on, and before that its output is only noted. -/
theorem peakTrip_of_on (steps imon : Nat) (hout : (d.ph p).out = .high) (hpeak : (d.ph p).timed = false) (hpulse : (d.ph p).pulse = .none) :
    d.peakTrip p steps imon =
      if d.dacLevel p steps ≤ imon then
        if d.comparatorFrom p ≤ steps then d.endOn p steps else d.modPh p (fun c => { c with early := true })
      else d := by
  simp [peakTrip, hout, hpeak, hpulse]

theorem blankingEnd_of_early (hout : (d.ph p).out = .high) (hpeak : (d.ph p).timed = false) (hpulse : (d.ph p).pulse = .none)
    (hearly : (d.ph p).early = true) : d.blankingEnd p = d.endOn p (d.comparatorFrom p) :=
  if_pos ⟨hout, hpeak, hpulse, hearly⟩

theorem tonMaxExpiry_of_on (hout : (d.ph p).out = .high) (hpeak : (d.ph p).timed = false) (hpulse : (d.ph p).pulse = .none) :
    d.tonMaxExpiry p = (((d.endOn p (d.tonMaxAt p)).putBit (K.PHASE_STATUS p) 10 true).bump (K.TONMAX_COUNT p) 16).causeIf
      (!d.bit (K.PHASE_STATUS p) 10) p 0x04 :=
  if_pos ⟨hout, hpeak, hpulse⟩

theorem timedTurnOff_of_on (hout : (d.ph p).out = .high) (htimed : (d.ph p).timed = true) (hpulse : (d.ph p).pulse = .none) :
    d.timedTurnOff p = d.endOn p (d.ph p).tonCmd :=
  if_pos ⟨hout, htimed, hpulse⟩

/-! Zero crossings (R69, R87). -/

theorem zeroCrossing_of_low {steps : Nat} (hout : (d.ph p).out = .low) (hde : d.diode p = true)
    (hmode : (d.ph p).timed = false ∨ (d.ph p).pulse = .drain) : d.zeroCrossing p steps = d.zeroCross p steps :=
  if_pos ⟨hout, hde, hmode⟩

theorem timedZeroCrossing_of_low (hout : (d.ph p).out = .low) (hde : d.diode p = true) (htimed : (d.ph p).timed = true)
    (hpulse : (d.ph p).pulse = .none) : d.timedZeroCrossing p = d.draw.2.zeroCross p d.draw.1 :=
  if_pos ⟨hout, hde, htimed, hpulse⟩

/-- What a zero crossing gives a single pulse: its result where its IMON is converted, else the time to the crossing (R87). -/
def pulseCrossed (d : Dev) (p : Nat) (steps : Int) : Dev :=
  if (d.ph p).pulse = .drain then
    match (d.ph p).pulseI with
    | some i => d.pulseResult p i steps
    | none => d.modPh p (fun c => { c with pulseZero := some steps })
  else d

theorem pulseCrossed_of_no_pulse (steps : Int) (h : (d.ph p).pulse ≠ .drain) : d.pulseCrossed p steps = d := if_neg h

theorem pulseCrossed_of_imon {i : Int} (steps : Int) (h : (d.ph p).pulse = .drain) (hi : (d.ph p).pulseI = some i) :
    d.pulseCrossed p steps = d.pulseResult p i steps := by
  rw [pulseCrossed, if_pos h, hi]

theorem pulseCrossed_of_no_imon (steps : Int) (h : (d.ph p).pulse = .drain) (hi : (d.ph p).pulseI = none) :
    d.pulseCrossed p steps = d.modPh p (fun c => { c with pulseZero := some steps }) := by
  rw [pulseCrossed, if_pos h, hi]

/-- The drain of the pulse is still to be ended. -/
theorem pulseCrossed_draining (steps : Int) (hp : p < 32) : ((d.pulseCrossed p steps).ph p).draining = (d.ph p).draining := by
  unfold pulseCrossed
  split
  · split
    · rw [pulseResult, ph_modPh_self _ _ hp]
      rfl
    · rw [ph_modPh_self _ _ hp]
  · rfl

/-- From a zero crossing on the phase rests at MID; where the crossing ends a drain, `restAt` is its moment (R69). -/
theorem zeroCross_eq (steps : Int) (hp : p < 32) :
    d.zeroCross p steps = (d.pulseCrossed p steps).modPh p (fun c =>
      { c with out := .mid, draining := false, pulse := .none, restAt := if (d.ph p).draining then c.offAt + steps else c.restAt }) := by
  rw [← pulseCrossed_draining (d := d) steps hp]
  exact modPh_congr _ p rfl

/-! The converters (R70–R72, R87). -/

theorem hrpRuns_iff : d.hrpRuns = true ↔ d.power = .active ∧ d.boot ≠ .held := by simp [hrpRuns]

theorem imonConversion_of_stopped (code : Int) (h : ¬ d.hrpRuns = true) : d.imonConversion p code = d :=
  if_pos (by simpa using h)

/-- A conversion as `ISENSE` has it, with the count of conversions in a row at an end of the range. -/
def sensed (d : Dev) (p code : Nat) : Dev :=
  (d.setNum (K.ISENSE p) (d.imonCurrent p code)).modPh p (fun c =>
    { c with placed := false, imonCode := code, rangeN := if code ≤ 1 ∨ 4094 ≤ code then c.rangeN + 1 else 0 })

/-- A conversion sets `ISENSE`, and that of a placed hold goes to `ISENSE_PLACED` and to the pulse. -/
theorem imonConversion_of_running (code : Nat) (h : d.hrpRuns = true) :
    d.imonConversion p code =
      if (d.ph p).placed then
        ((d.sensed p code).setNum (K.ISENSE_PLACED p) (d.imonCurrent p code)).pulseImon p (d.imonCurrent p code)
      else d.sensed p code := by
  have hends : ((code : Int) ≤ 1 ∨ (code : Int) ≥ 4094) = (code ≤ 1 ∨ 4094 ≤ code) := propext (by omega)
  simp only [imonConversion, h, Bool.not_true, Bool.false_eq_true, if_false, hends, Int.toNat_natCast, sensed]

/-- A conversion leaves the pulse in progress as it is. -/
theorem sensed_pulse (code : Nat) (hp : p < 32) :
    ((d.sensed p code).ph p).pulseZero = (d.ph p).pulseZero ∧ ((d.sensed p code).ph p).pulse = (d.ph p).pulse := by
  rw [sensed, ph_modPh_self _ _ hp]
  exact ⟨rfl, rfl⟩

theorem pulseImon_of_crossed {z : Int} (i : Int) (h : (d.ph p).pulseZero = some z) : d.pulseImon p i = d.pulseResult p i z := by
  simp only [pulseImon, h]

theorem pulseImon_of_not_crossed (i : Int) (h : (d.ph p).pulseZero = none) :
    d.pulseImon p i = if (d.ph p).pulse = .drain then d.modPh p (fun c => { c with pulseI := some i }) else d := by
  simp only [pulseImon, h]

theorem obj_pulseResult (d : Dev) (p : Nat) (i zero : Int) :
    (d.pulseResult p i zero).obj (K.PULSE_RESULT p) =
      .bytes (leBytes 4 (d.num (K.TON_LAST p)) ++ leBytes 4 i ++ leBytes 4 zero ++ leBytes 4 (d.ph p).pulseVin) := by
  rw [pulseResult, obj_modPh, obj_setObj_self]

/-- A placed hold is taken where the converters run and holds are asked for, and dropped where it is late (R71, R86). -/
theorem placedHold_eq (d : Dev) (p : Nat) (late : Bool) :
    d.placedHold p late =
      if d.num (K.ISAMPLE_MODE p) = 0 ∨ ¬ (d.power = .active ∧ d.boot ≠ .held) then d
      else if late = true ∨ (d.ph p).placed = true then
        ((d.putBit (K.PHASE_STATUS p) 4 true).bump (K.ISAMPLE_LATE_COUNT p) 16).cause p 0x05
      else d.modPh p (fun c => { c with placed := true }) := by
  refine ite_congr (propext ?_) (fun _ => rfl) fun _ => ite_congr (propext ?_) (fun _ => rfl) fun _ => rfl
  · rw [← hrpRuns_iff]
    simp [or_comm]
  · simp

theorem singlePulseTurnOff_of_on (h : (d.ph p).pulse = .on) :
    d.singlePulseTurnOff p = (d.draw.2.setNum (K.TON_LAST p) ((d.ph p).pulseTon * 50)).modPh p (fun c =>
      { c with
        out := .low, pulse := .drain, draining := true, placed := true, dacPeak := d.zcCode p, dacSlope := 0
        slew := d.num (K.EDGE_RATE p), offAt := d.draw.1 }) :=
  if_pos h

/-! The rail period (R55, R79). -/

/-- A drive word of zero leaves the period to `RAIL_FSW` (R55). -/
theorem basePeriod_eq (d : Dev) (n : Nat) :
    d.basePeriod n =
      if d.driveWord (0x90 + n) % 4294967296 = 0 then roundDiv 50000000 (d.num (K.RAIL_FSW n)) else d.driveWord (0x90 + n) % 4294967296 :=
  ite_not ..

end Dev

/-- Settles O23: each command, where it acts, is its equation. -/
theorem phaseSwitchingComplete : Obligations.PhaseSwitchingComplete := by
  unfold Obligations.PhaseSwitchingComplete
  refine ⟨?_, ?_, ?_, ?_, fun d p => obj_pulseResult d p, ?_, ?_, ?_⟩
  · intro s p d on free hfire
    refine ⟨fun n hrail hslot => ?_, fun hput hdrain => ?_⟩
    · intro m start
      have hexec := (exec_slotTurnOn s p).trans (next_dev (slotTurnOn_of_due hfire hrail hslot))
      exact ⟨fun hwait => hexec.trans (next_dev (fireSlot_of_wait hwait)),
        fun hdrain hfree => hexec.trans (next_dev (fireSlot_of_free hdrain hfree))⟩
    · exact (exec_deferredTurnOn s p).trans (next_dev (deferredTurnOn_of_due hfire hput hdrain))
  · intro s p d hout hpulse
    refine ⟨fun hpeak => ⟨fun steps imon => ?_, fun hearly => ?_, ?_⟩, fun htimed => ?_⟩
    · intro level from_
      have hexec := (exec_peakComparatorTrip s p ⟨steps, imon⟩).trans (next_dev (peakTrip_of_on steps imon.toNat hout hpeak hpulse))
      refine ⟨fun hreach hlate => ?_, fun hreach hblank => ?_, fun hbelow => ?_⟩
      · exact hexec.trans (next_dev ((if_pos hreach).trans (if_pos hlate)))
      · exact hexec.trans (next_dev ((if_pos hreach).trans (if_neg (Int.not_le.mpr hblank))))
      · exact hexec.trans (next_dev (if_neg (Int.not_le.mpr hbelow)))
    · exact (exec_blankingEnd s p).trans (next_dev (blankingEnd_of_early hout hpeak hpulse hearly))
    · exact (exec_tonMaxExpiry s p).trans (next_dev (tonMaxExpiry_of_on hout hpeak hpulse))
    · exact (exec_timedTurnOff s p).trans (next_dev (timedTurnOff_of_on hout htimed hpulse))
  · intro s p steps d hout hde off
    have hexec := fun hmode => (exec_zeroCrossing s p steps).trans
      (next_dev ((zeroCrossing_of_low hout hde hmode).trans (zeroCross_eq steps p.isLt)))
    refine ⟨fun hpeak hpulse => ?_, fun i hpulse hi => ?_, fun hpulse hi => ?_, fun htimed hpulse => ?_⟩
    · exact (hexec (.inl hpeak)).trans (next_dev (congrArg (off · steps) (pulseCrossed_of_no_pulse steps hpulse)))
    · exact (hexec (.inr hpulse)).trans (next_dev (congrArg (off · steps) (pulseCrossed_of_imon steps hpulse hi)))
    · exact (hexec (.inr hpulse)).trans (next_dev (congrArg (off · steps) (pulseCrossed_of_no_imon steps hpulse hi)))
    · have hdrawn : (d.draw.2.ph p).pulse ≠ .drain := fun h => Pulse.noConfusion (hpulse.symm.trans h)
      have hcross := (timedZeroCrossing_of_low hout hde htimed hpulse).trans (zeroCross_eq d.draw.1 p.isLt)
      exact (exec_timedZeroCrossing s p).trans
        (next_dev (hcross.trans (congrArg (off · d.draw.1) (pulseCrossed_of_no_pulse _ hdrawn))))
  · intro s p code d i sensed held
    refine ⟨fun hstopped => ?_, fun hactive hheld => ?_⟩
    · exact (exec_imonConversion s p code).trans (next_dev (imonConversion_of_stopped _ (mt hrpRuns_iff.mp hstopped)))
    · have hexec := (exec_imonConversion s p code).trans
        (next_dev (imonConversion_of_running code.toNat (hrpRuns_iff.mpr ⟨hactive, hheld⟩)))
      obtain ⟨hzero, hpulse⟩ := sensed_pulse (d := d) code.toNat p.isLt
      refine ⟨fun hfree => hexec.trans (next_dev (if_neg (Bool.eq_false_iff.mp hfree))), fun hplaced => ?_⟩
      refine (hexec.trans (next_dev (if_pos hplaced))).trans (next_dev ?_)
      cases hz : (d.ph p).pulseZero with
      | some z => exact pulseImon_of_crossed i (hzero.trans hz)
      | none =>
        exact (pulseImon_of_not_crossed (d := held) i (hzero.trans hz)).trans
          (ite_congr (congrArg (· = Pulse.drain) hpulse) (fun _ => rfl) fun _ => rfl)
  · intro s p late d
    exact (exec_placedHold s p late).trans (next_dev (placedHold_eq d p late))
  · intro s p d hpulse
    exact (exec_singlePulseTurnOff s p).trans (next_dev (singlePulseTurnOff_of_on hpulse))
  · intro s n d hactive hboot m t
    have ht : t = m.basePeriod n := (basePeriod_eq m n).symm
    clear_value t
    subst ht
    exact (exec_railPeriodStart s n).trans (next_dev (if_pos ⟨hactive, hboot⟩))

end Sys2Proof.Machine
end

section
/-! PROOFS. The statement of 09_comparators_and_window_monitors.md on comparators, trips and tests, with the SG faults of
03_phase_channels_and_modulation.md (R68, R84, R85, R267–R283). -/

namespace Sys2Proof.Machine

open Dev

/-- A flag in its place of a word. -/
theorem mul_b2i (k : Int) (b : Bool) : k * b2i b = if b then k else 0 := by cases b <;> simp [b2i]

namespace Dev

variable {d : Dev} {w : Nat} {upper : Bool} {uv : Int}

/-! Comparators (R267, R269, R272). -/

theorem wmAssert_of_crossing (hon : (d.wmSide w upper).on = true) (hset : (d.wmSide w upper).settling = false) (htest : (d.wm w).test = 0)
    (hcont : d.wmSampled w = false) (hrel : (d.wmSide w upper).asserted = false) (hin : d.crossesIn w upper uv = true) :
    d.wmAssert w upper uv = d.wmAssertNow w upper :=
  if_pos (by simp [hon, hset, htest, hcont, hrel, hin])

theorem wmRelease_of_crossing (hon : (d.wmSide w upper).on = true) (hset : (d.wmSide w upper).settling = false) (htest : (d.wm w).test = 0)
    (hcont : d.wmSampled w = false) (hass : (d.wmSide w upper).asserted = true) (hout : d.crossesOut w upper uv = true) :
    d.wmRelease w upper uv = d.wmReleaseNow w upper :=
  if_pos (by simp [hon, hset, htest, hcont, hass, hout])

theorem wmSettled_of_settling (hset : (d.wmSide w upper).settling = true) (htest : (d.wm w).test = 0) (hcont : d.wmSampled w = false) :
    d.wmSettled w upper uv = (d.modSide w upper (fun c => { c with settling := false })).wmDecide w upper uv :=
  if_pos (by simp [hset, htest, hcont])

theorem wmWindow_of_sampled (hsamp : d.wmSampled w = true) (hruns : d.wmRuns w = true) (htest : (d.wm w).test = 0) :
    d.wmWindow w uv = (d.wmDecide w false uv).wmDecide w true uv :=
  if_pos (by simp [hsamp, hruns, htest])

/-! Trips (R68, R274, R275). -/

theorem asyncTrip_of_asserted {p : Nat} (hon : (d.wmSide w upper).on = true) (htest : (d.wm w).test = 0)
    (hass : (d.wmSide w upper).asserted = true) (hroute : (d.routePhases w upper).contains p = true) :
    d.asyncTrip w upper p = d.wmTripPhase w upper p :=
  if_pos (by simp only [hon, hass, htest, hroute, decide_true, Bool.and_true])

theorem wmTripPhase_of_terminate (p : Nat) (h : routeKind (d.wmRoute w upper) = 1) :
    d.wmTripPhase w upper p = d.terminatePhase p (cmpId w upper) := by
  simp only [wmTripPhase, h]

theorem wmTripPhase_of_disable (p : Nat) (h : routeKind (d.wmRoute w upper) = 2) : d.wmTripPhase w upper p = d.disablePhase p 0x01 := by
  simp only [wmTripPhase, h]

/-- An input that nothing holds any more leaves the phase. -/
theorem tripRelease_of_not_held {p : Nat}
    (h : (d.wmSide w upper).asserted = false ∨ d.wmAsync w upper = false ∨ (d.routePhases w upper).contains p = false) :
    d.tripRelease w upper p = d.releaseTerm p (cmpId w upper) :=
  if_neg (by rcases h with h | h | h <;> simp only [h, Bool.and_false, Bool.false_and, Bool.false_eq_true, not_false_eq_true])

/-! Tests (R280–R283). -/

/-- A self-test ends: its result is stored and told, and the trip inputs follow the comparators again. -/
def testEnded (d : Dev) (w : Nat) (result : Int) (pass : Prop) [Decidable pass] : Dev :=
  (((d.modWm w (fun m => { m with test := 0 })).setNum (K.WM_TEST_RESULT w) result).cause (50 + w) (if pass then 0x07 else 0x08)).trimTerms

/-- SWAP with the input between the release levels: bit 15 for done, kind 1, the two checks. -/
theorem wmTestDone_of_swap (checks : Nat) (hk : (d.wm w).test = 1) (habove : d.aboveCode w (d.wm w).under.rel uv = true)
    (hbelow : d.belowCode w (d.wm w).upper.rel uv = true) :
    d.wmTestDone w uv checks = d.testEnded w (0x9000 + checks % 4) (checks % 4 = 3) := by
  simp [wmTestDone, testEnded, hk, habove, hbelow, b2i]

/-- SWAP with the input outside the release levels does not apply: bit 14 beside bit 15, and a failure (log 16). -/
theorem wmTestDone_of_swap_outside (checks : Nat) (hk : (d.wm w).test = 1)
    (hout : ¬ (d.aboveCode w (d.wm w).under.rel uv = true ∧ d.belowCode w (d.wm w).upper.rel uv = true)) :
    d.wmTestDone w uv checks = d.testEnded w 0xD000 False := by
  have hinside : (d.aboveCode w (d.wm w).under.rel uv && d.belowCode w (d.wm w).upper.rel uv) = false := by
    rw [← Bool.and_eq_true] at hout
    exact Bool.eq_false_iff.mpr hout
  simp [wmTestDone, testEnded, hk, hinside, b2i]

/-- TIE: bit 15 for done, kind 2, the twelve checks. -/
theorem wmTestDone_of_tie {checks : Nat} (hk : (d.wm w).test = 2) (hc : checks < 4096) :
    d.wmTestDone w uv checks = d.testEnded w (0xA000 + checks) (checks = 4095) := by
  simp [wmTestDone, testEnded, hk, b2i, Nat.mod_eq_of_lt hc]

theorem pkTestDone_of_test {p : Nat} (high low slope : Bool) (time : Nat) (h : (d.ph p).pkTest = true) :
    d.pkTestDone p high low slope time = (d.modPh p (fun c => { c with pkTest := false })).setNum (K.PK_TEST_RESULT p)
      (0x80000000 + (if high then 0x40000000 else 0) + (if low then 0x20000000 else 0) + (if slope then 0x10000000 else 0) + time) := by
  rw [pkTestDone, if_pos h]
  simp only [mul_b2i]

/-! SG faults (R84, R85). -/

/-- In a line already judged FAULT nothing faults once more while no phase of the group is active. -/
theorem sgComparator_eq (d : Dev) (g : Nat) :
    d.sgComparator g =
      let m := d.modSg g (fun l => { l with st := .fault, cand := .fault, run := 0 })
      if (d.sg g).st = .fault ∧ ∀ p ∈ groupPhases g, (d.ph p).inSet = false then m else m.sgFault g := by
  refine ite_congr (propext ?_) (fun _ => rfl) fun _ => rfl
  rw [List.all_eq_true]
  simp only [ph, Bool.not_eq_true']

end Dev

/-- Settles O24: each command, where it acts, is its equation. -/
theorem monitorCommandsComplete : Obligations.MonitorCommandsComplete := by
  unfold Obligations.MonitorCommandsComplete
  refine ⟨?_, ?_, ?_, ?_, ?_, ?_, ?_⟩
  · intro s w upper uv d c hon hset htest
    refine ⟨fun hcont hrel hin => ?_, fun hcont hass hout => ?_, fun hass p hroute => ?_⟩
    · exact (exec_wmComparatorAssert s w upper uv).trans (next_dev (wmAssert_of_crossing hon hset htest hcont hrel hin))
    · exact (exec_wmComparatorRelease s w upper uv).trans (next_dev (wmRelease_of_crossing hon hset htest hcont hass hout))
    · have hexec := (exec_asyncTrip s w upper p).trans (next_dev (asyncTrip_of_asserted hon htest hass hroute))
      exact ⟨fun hkind => hexec.trans (next_dev (wmTripPhase_of_terminate p hkind)),
        fun hkind => hexec.trans (next_dev (wmTripPhase_of_disable p hkind))⟩
  · intro s w upper p d hleft
    exact (exec_tripRelease s w upper p).trans (next_dev (tripRelease_of_not_held hleft))
  · intro s w upper uv d hset htest hcont
    exact (exec_dacSettleEnd s w upper uv).trans (next_dev (wmSettled_of_settling hset htest hcont))
  · intro s w uv d hsamp hruns htest
    exact (exec_wmSampleWindow s w uv).trans (next_dev (wmWindow_of_sampled hsamp hruns htest))
  · intro s w uv checks d k inside ended
    have hexec := exec_wmTestDone s w uv checks
    refine ⟨fun hk hin => ?_, fun hk hout => ?_, fun hk => ?_⟩
    · exact hexec.trans (next_dev (wmTestDone_of_swap checks.toNat hk hin.1 hin.2))
    · exact hexec.trans (next_dev (wmTestDone_of_swap_outside checks.toNat hk hout))
    · exact hexec.trans (next_dev (wmTestDone_of_tie hk checks.isLt))
  · intro s p high low slope time d htest
    exact (exec_pkTestDone s p high low slope time).trans (next_dev (pkTestDone_of_test high low slope time.toNat htest))
  · intro s g d m quiet
    have hexec := (exec_sgFaultComparator s g).trans (next_dev (sgComparator_eq d g))
    exact ⟨fun hquiet => hexec.trans (next_dev (if_pos hquiet)), fun hactive => hexec.trans (next_dev (if_neg hactive))⟩

end Sys2Proof.Machine
end

section
/-! PROOFS. The statements of 04_spire_engines.md on the Nymren instructions: registers, accumulators, data memory, ports, and the
engines that carry nothing out. -/

namespace Sys2Proof.Machine

open Dev

/-! When a Nymren row acts (R92, R106, R464). -/

namespace Dev

variable {d : Dev} {e : Nat} {i : Instr}

theorem nyExec_of_carriesOut (f : Engine → Engine) (h : d.carriesOut e i) : d.nyExec e i f = d.modEng e f := by
  obtain ⟨hfetch, hbreak⟩ := h
  simp [nyExec, hfetch, hbreak]

theorem nyExec_of_not_fetches (f : Engine → Engine) (h : d.fetches e i = false) : d.nyExec e i f = d := by
  simp [nyExec, h]

theorem nyExec_of_breakpoint (f : Engine → Engine) (hfetch : d.fetches e i = true) (hbreak : d.breaksAt e = true) :
    d.nyExec e i f = d.modEng e (fun g => { g with st := .halted }) := by
  simp [nyExec, hfetch, hbreak]

/-- An END that is not carried out raises no SIG. -/
theorem nyEndAt_of_not_carried {e : Fin 16} (h : (d.fetches e (.nyEnd e) && !d.breaksAt e) = false) :
    d.nyEndAt e = d.nyExec e (.nyEnd e) Engine.nyEnd := by
  simp [nyEndAt, h]

/-- What an instruction does to its engine is told by what it makes of the engine as it stands. -/
theorem nyExec_eq {f f' : Engine → Engine} (h : d.carriesOut e i) (hf : f (d.engine e) = f' (d.engine e)) :
    d.nyExec e i f = d.modEng e f' :=
  (nyExec_of_carriesOut f h).trans (modEng_congr d e hf)

theorem owns_iff {w : Nat} : d.owns e w = true ↔ d.ownerOf w = some e := by simp [owns]

end Dev

/-- Every Nymren row but END is an operation on its engine alone. -/
theorem exec_nymren {i : Instr} {e : Fin 16} (h : nymrenOf i = some e) :
    i = .nyEnd e ∨ ∀ s : State, ∃ f, exec i s = .next (s.withDev (s.dev.heard.nyExec e i f)) := by
  cases i <;> cases h
  case nyEnd => exact .inl rfl
  all_goals exact .inr fun _ => ⟨_, rfl⟩

/-! Register rows: the value goes to its register, and the engine goes on (R103, R107, R109). -/

/-- The engine after a row that writes a register. -/
def RegWrite.carried (x : RegWrite) (g : Engine) : Engine :=
  let v := if x.saturates then sat32 x.value else x.value
  let after := Engine.afterLoops g.pc g.loops
  { g with
    regs := if x.rd = 0 then g.regs else g.regs.set x.rd v, sat := g.sat || (v != x.value), pc := after.1, loops := after.2,
    cycles := g.cycles + x.cycles }

theorem setSat_next (g : Engine) (e : Fin 16) (rd : Fin 32) (v : Int) (n : Nat) :
    (g.setSat rd v).next n = RegWrite.carried ⟨e, rd, v, true, n⟩ g := by
  by_cases h : rd = 0 <;> simp [Engine.setSat, Engine.setReg, Engine.next, RegWrite.carried, h]

theorem setReg_next (g : Engine) (e : Fin 16) (rd : Fin 32) (v : Int) (n : Nat) :
    (g.setReg rd v).next n = RegWrite.carried ⟨e, rd, v, false, n⟩ g := by
  by_cases h : rd = 0 <;> simp [Engine.setReg, Engine.next, RegWrite.carried, h]

/-- A register row whose value is written another way. -/
theorem setReg_next_of_eq (g : Engine) (e : Fin 16) (rd : Fin 32) {v v' : Int} (n : Nat) (h : v = v') :
    (g.setReg rd v).next n = RegWrite.carried ⟨e, rd, v', false, n⟩ g :=
  h ▸ setReg_next g e rd v n

/-! Values of the register rows as words of 32 bits (R103). -/

theorem unsigned_eq_toNat (v : Int) : Engine.unsigned v = (BitVec.ofInt 32 v).toNat := by
  rw [Engine.unsigned, BitVec.toNat_ofInt]
  rfl

theorem wrap32_eq_bmod (v : Int) : wrap32 v = v.bmod (2 ^ 32) := by
  simp only [wrap32, Int.bmod_def]
  split <;> omega

theorem signed_toNat (x : BitVec 32) : Engine.signed x.toNat = x.toInt := by
  rw [Engine.signed, wrap32_eq_bmod, BitVec.toInt_eq_toNat_bmod]

theorem bitwise_and (a b : Int) : Engine.bitwise (· &&& ·) a b = (BitVec.ofInt 32 a &&& BitVec.ofInt 32 b).toInt := by
  rw [← signed_toNat, BitVec.toNat_and, Engine.bitwise, unsigned_eq_toNat, unsigned_eq_toNat]

theorem bitwise_or (a b : Int) : Engine.bitwise (· ||| ·) a b = (BitVec.ofInt 32 a ||| BitVec.ofInt 32 b).toInt := by
  rw [← signed_toNat, BitVec.toNat_or, Engine.bitwise, unsigned_eq_toNat, unsigned_eq_toNat]

theorem bitwise_xor (a b : Int) : Engine.bitwise (· ^^^ ·) a b = (BitVec.ofInt 32 a ^^^ BitVec.ofInt 32 b).toInt := by
  rw [← signed_toNat, BitVec.toNat_xor, Engine.bitwise, unsigned_eq_toNat, unsigned_eq_toNat]

theorem ofInt_toNat_imm (imm : BitVec 16) : BitVec.ofInt 32 (imm.toNat : Int) = imm.setWidth 32 := by
  rw [BitVec.ofInt_natCast, BitVec.ofNat_toNat]

theorem bitwise_and_imm (a : Int) (imm : BitVec 16) :
    Engine.bitwise (· &&& ·) a imm.toNat = (BitVec.ofInt 32 a &&& imm.setWidth 32).toInt := by
  rw [bitwise_and, ofInt_toNat_imm]

theorem shiftRight_eq_fdiv (a : Int) (n : Nat) : a / 2 ^ n = Int.fdiv a (2 ^ n) :=
  (Int.fdiv_eq_ediv_of_nonneg a (Int.pow_nonneg (by decide))).symm

theorem unsigned_mod_32 (b : Int) : Engine.unsigned b % 32 = (b % 32).toNat := by
  unfold Engine.unsigned
  omega

/-- A row that `regWrite` lists makes of its engine what its entry says. -/
theorem regWrite_carried {s : State} {i : Instr} {x : RegWrite} (hx : regWrite s.dev.heard i = some x) :
    ∃ f, exec i s = .next (s.withDev (s.dev.heard.nyExec x.e i f)) ∧
      f (s.dev.heard.engine x.e) = x.carried (s.dev.heard.engine x.e) := by
  cases i <;> cases hx
  case nyAnd => exact ⟨_, rfl, setReg_next_of_eq _ _ _ _ (bitwise_and ..)⟩
  case nyOr => exact ⟨_, rfl, setReg_next_of_eq _ _ _ _ (bitwise_or ..)⟩
  case nyXor => exact ⟨_, rfl, setReg_next_of_eq _ _ _ _ (bitwise_xor ..)⟩
  case nyAndi => exact ⟨_, rfl, setReg_next_of_eq _ _ _ _ (bitwise_and_imm ..)⟩
  case nyShr => exact ⟨_, rfl, setReg_next_of_eq _ _ _ _ (shiftRight_eq_fdiv ..)⟩
  case nyShlv => exact ⟨_, rfl, setReg_next_of_eq _ _ _ _ (by rw [unsigned_mod_32])⟩
  case nyAddw | nyMin | nyMax | nyClamp | nySlt | nySel | nyMov | nyMovi | nyMovhi | nyLdcm | nyIn => exact ⟨_, rfl, setReg_next ..⟩
  all_goals exact ⟨_, rfl, setSat_next ..⟩

/-- Settles O12: the row is an operation on its engine (`regWrite_carried`), and it acts where the engine carries it out. -/
theorem nymrenRegisterResults : Obligations.NymrenRegisterResults := by
  unfold Obligations.NymrenRegisterResults
  intro s i x hx hc v
  obtain ⟨f, hexec, hf⟩ := regWrite_carried hx
  exact hexec.trans (next_dev (nyExec_eq hc hf))

/-! Accumulator rows (R103–R105). -/

/-- The engine after a row that writes an accumulator. -/
def AccWrite.carried (x : AccWrite) (g : Engine) : Engine :=
  let v := if x.saturates then max (-(2 ^ 71)) (min (2 ^ 71 - 1) x.value) else x.value
  { g.next 1 with accs := g.accs.set x.a v, sat := g.sat || (v != x.value), accSat := g.accSat || (v != x.value) }

theorem setAcc72_next (g : Engine) (e : Fin 16) (a : Fin 4) (v : Int) :
    (g.setAcc72 a v).next 1 = AccWrite.carried ⟨e, a, v, true⟩ g := rfl

theorem setAcc_next (g : Engine) (e : Fin 16) (a : Fin 4) (v : Int) :
    { g.next 1 with accs := g.accs.set a v } = AccWrite.carried ⟨e, a, v, false⟩ g := by
  simp [AccWrite.carried, Engine.next]

/-- A row that `accWrite` lists makes of its engine what its entry says. -/
theorem accWrite_carried {s : State} {i : Instr} {x : AccWrite} (hx : accWrite s.dev.heard i = some x) :
    ∃ f, exec i s = .next (s.withDev (s.dev.heard.nyExec x.e i f)) ∧
      f (s.dev.heard.engine x.e) = x.carried (s.dev.heard.engine x.e) := by
  cases i <;> cases hx
  case nyClra | nyLda => exact ⟨_, rfl, setAcc_next ..⟩
  all_goals exact ⟨_, rfl, setAcc72_next ..⟩

/-! Words of the present tick (R94). -/

theorem Assoc.find_erase_other {α : Type} (s : Assoc α) {k j : Nat} (h : j ≠ k) : (Assoc.erase k s).find j = s.find j := by
  induction s with
  | nil => rfl
  | cons x t ih =>
    obtain ⟨k', v⟩ := x
    by_cases hk : k' = k
    · subst hk
      simp [Assoc.erase, Assoc.find, ih, Ne.symm h]
    · by_cases hj : k' = j <;> simp [Assoc.erase, Assoc.find, hk, hj, ih, h]

theorem Assoc.find_insert_other {α : Type} (s : Assoc α) {k j : Nat} (v : α) (h : j ≠ k) : (Assoc.insert k v s).find j = s.find j := by
  induction s with
  | nil => simp [Assoc.insert, Assoc.find, Ne.symm h]
  | cons x t ih =>
    obtain ⟨k', v'⟩ := x
    simp only [Assoc.insert]
    split
    · simp [Assoc.find, Ne.symm h]
    · by_cases hj : k' = j <;> simp [Assoc.find, hj, ih]

theorem Assoc.find_insert_fresh {α : Type} {s : Assoc α} {k : Nat} (v : α) (h : Assoc.fresh k s) : (Assoc.insert k v s).find k = some v := by
  induction s with
  | nil => simp [Assoc.insert, Assoc.find]
  | cons x t ih =>
    obtain ⟨k', v'⟩ := x
    obtain ⟨hk, ht⟩ := List.forall_mem_cons.mp h
    simp only [Assoc.insert]
    split
    · simp [Assoc.find]
    · simpa [Assoc.find, hk] using ih ht

@[simp] theorem Assoc.find_put_self {α : Type} (s : Assoc α) (k : Nat) (v : α) : (s.put k v).find k = some v :=
  Assoc.find_insert_fresh v (Assoc.fresh_erase k s)

theorem Assoc.find_put_other {α : Type} (s : Assoc α) {k j : Nat} (v : α) (h : j ≠ k) : (s.put k v).find j = s.find j :=
  (Assoc.find_insert_other _ v h).trans (Assoc.find_erase_other s h)

/-! Data memory (R93, R94). -/

namespace Engine

theorem store_next (g : Engine) (a : Nat) (v : Int) (n : Nat) :
    (g.store a v).next n =
      if a < 0x200 then { g.next n with dirty := g.dirty.put a v }
      else if a < 0x600 then { g.next n with scratch := g.scratch.set zeroAt a v }
      else { g.next n with addrErr := true } := by
  unfold store
  split
  · rfl
  · split <;> rfl

theorem load_next (g : Engine) (n a : Nat) : (g.next n).load a = g.load a := rfl

theorem load_store_self (g : Engine) {a : Nat} (v : Int) (h : a < 0x600) : (g.store a v).load a = v := by
  by_cases ha : a < 0x200 <;> simp [store, load, ha, h]

theorem load_store_other (g : Engine) {a b : Nat} (v : Int) (h : b ≠ a) : (g.store a v).load b = g.load b := by
  unfold store
  split
  · simp [load, Assoc.find_put_other _ v h]
  · split
    · simp [load, Assoc.get_set_other _ _ v h]
    · rfl

/-- ST leaves every other address as it reads. -/
theorem load_nySt_other (g : Engine) (rd ra : Fin 32) (imm : BitVec 16) {b : Nat} (h : b ≠ g.memAddr ra imm) :
    (g.nySt rd ra imm).load b = g.load b :=
  load_store_other g _ h

/-- What ST stores inside the memory, LD reads. -/
theorem load_nySt_self (g : Engine) (rd ra : Fin 32) (imm : BitVec 16) (h : g.memAddr ra imm < 0x600) :
    (g.nySt rd ra imm).load (g.memAddr ra imm) = g.reg rd :=
  load_store_self g _ h

theorem nyDivq_of_ne_zero {g : Engine} (rd ra : Fin 32) {rb : Fin 32} (sh : Fin 32) (h : g.reg rb ≠ 0) :
    g.nyDivq rd ra rb sh = (g.setSat rd ((g.reg ra * 2 ^ sh.val).tdiv (g.reg rb))).next 20 := if_pos h

theorem nyDivq_of_zero {g : Engine} (rd ra : Fin 32) {rb : Fin 32} (sh : Fin 32) (h : g.reg rb = 0) :
    g.nyDivq rd ra rb sh =
      { (g.setReg rd (if g.reg ra > 0 then maxI32 else if g.reg ra < 0 then minI32 else 0)).next 20 with div0 := true } :=
  if_neg (not_not_intro h)

end Engine

/-- Settles O13: `accWrite_carried` for the accumulators, and what DIVQ, LD and ST make of the engine as it stands. -/
theorem nymrenAccumulatorsAndMemory : Obligations.NymrenAccumulatorsAndMemory := by
  unfold Obligations.NymrenAccumulatorsAndMemory
  refine ⟨?_, ?_, ?_, ?_, ?_⟩
  · intro s i x hx hc v
    obtain ⟨f, hexec, hf⟩ := accWrite_carried hx
    exact hexec.trans (next_dev (nyExec_eq hc hf))
  · intro s e rd ra rb sh d hc a b
    have hexec := exec_nyDivq s e rd ra rb sh
    exact ⟨fun hb => hexec.trans (next_dev (nyExec_eq hc (Engine.nyDivq_of_ne_zero rd ra sh hb))),
      fun hb => hexec.trans (next_dev (nyExec_eq hc (Engine.nyDivq_of_zero rd ra sh hb)))⟩
  · intro s e rd ra imm d hc at_ word
    exact (exec_nyLd s e rd ra imm).trans (next_dev (nyExec_eq hc rfl))
  · intro s e rd ra imm d hc at_ v
    exact (exec_nySt s e rd ra imm).trans (next_dev (nyExec_eq hc (Engine.store_next ..)))
  · intro s e rd ra imm d hc at_
    have hengine : (d.nyExec e (.nySt e rd ra imm) (Engine.nySt rd ra imm)).engine e = (d.engine e).nySt rd ra imm := by
      rw [nyExec_of_carriesOut _ hc, engine_modEng_self d _ e.isLt]
    refine ⟨_, exec_nySt s e rd ra imm, fun a ha => ?_, fun hin => ?_⟩
    · exact (congrArg (·.load a) hengine).trans (Engine.load_nySt_other _ rd ra imm ha)
    · exact (congrArg (·.load at_) hengine).trans (Engine.load_nySt_self _ rd ra imm hin)

/-! Port and drive words (R97, R100). -/

namespace Engine

theorem nyOutd_of_owned {g : Engine} {owns : Nat → Bool} (rd : Fin 32) {ra : Fin 32} {w : BitVec 9}
    (h : owns (g.indexed ra w.toNat 512) = true) :
    g.nyOutd owns rd ra w = { g.next 1 with driveTick := g.driveTick.put (g.indexed ra w.toNat 512) (g.reg rd) } := if_pos h

theorem nyOutd_of_not_owned {g : Engine} {owns : Nat → Bool} (rd : Fin 32) {ra : Fin 32} {w : BitVec 9}
    (h : ¬ owns (g.indexed ra w.toNat 512) = true) :
    g.nyOutd owns rd ra w = { g.next 1 with driveDenied := true } := if_neg h

end Engine

/-- Settles O15: OUT and OUTD as their engine stands; every other row by `exec_nymren` and `nyExec` where it does not act. -/
theorem nymrenPortsAndIdleEngines : Obligations.NymrenPortsAndIdleEngines := by
  unfold Obligations.NymrenPortsAndIdleEngines
  refine ⟨?_, ?_, fun s i e hi => ⟨fun hfetch => ?_, fun hfetch hbreak => ?_⟩⟩
  · intro s e rd ra q d hc word
    exact (exec_nyOut s e rd ra q).trans (next_dev (nyExec_eq hc rfl))
  · intro s e rd ra w d hc word
    have hexec := exec_nyOutd s e rd ra w
    exact ⟨fun ho => hexec.trans (next_dev (nyExec_eq hc (Engine.nyOutd_of_owned rd (owns_iff.mpr ho)))),
      fun ho => hexec.trans (next_dev (nyExec_eq hc (Engine.nyOutd_of_not_owned rd (fun h => ho (owns_iff.mp h)))))⟩
  · rcases exec_nymren hi with rfl | h
    · refine (exec_nyEnd s e).trans (next_dev ?_)
      rw [nyEndAt_of_not_carried (by rw [hfetch, Bool.false_and]), nyExec_of_not_fetches _ hfetch]
    · obtain ⟨f, hexec⟩ := h s
      exact hexec.trans (next_dev (nyExec_of_not_fetches f hfetch))
  · rcases exec_nymren hi with rfl | h
    · refine (exec_nyEnd s e).trans (next_dev ?_)
      rw [nyEndAt_of_not_carried (by rw [hbreak, Bool.not_true, Bool.and_false]), nyExec_of_breakpoint _ hfetch hbreak]
    · obtain ⟨f, hexec⟩ := h s
      exact hexec.trans (next_dev (nyExec_of_breakpoint f hfetch hbreak))

/-! A debug instruction in the TAP of a device whose debug is closed (R464–R466). -/

/-- A locked device whose debug is closed, with the debug instruction that was loaded before still in the TAP and engine 0 at a BRK. -/
def brkDebugClosed : State where
  dev :=
    { objs := [(K.LOCK_STATE, .num 1)]
      boot := .complete
      acc := { tap := .debug }
      eng := Vector.replicate 16
        { Engine.init with st := .running, ended := false, prog := { Image.none with id := 6, code := [0x24000000] }, words := [0x24000000] } }

theorem brkDebugClosed_carriesOut :
    brkDebugClosed.dev.heard.carriesOut (0 : Fin 16) (.nyBrk 0) ∧ brkDebugClosed.dev.heard.acc.tap = .debug ∧
      brkDebugClosed.dev.heard.debugging = false ∧ (brkDebugClosed.dev.heard.engine 0).st = .running := by
  unfold carriesOut
  decide +kernel

/-- Refutes O14: in `brkDebugClosed` the TAP holds the debug instruction, but debug is closed and no debugger is attached, so BRK is
carried out as NOP (R107, R464) and the engine goes on running; the statement has it halted. -/
theorem not_nymrenControlFlow : ¬ Obligations.NymrenControlFlow := by
  unfold Obligations.NymrenControlFlow
  intro h
  obtain ⟨hc, htap, hclosed, hrun⟩ := brkDebugClosed_carriesOut
  obtain ⟨-, -, -, -, -, -, -, -, -, hbrk, -⟩ := h brkDebugClosed 0
  have hhalts := hbrk htap hc
  rw [exec_nyBrk, nyExec_of_carriesOut _ hc, hclosed] at hhalts
  have hst := congrArg (fun t : State => (t.dev.engine (0 : Fin 16)).st) (Host.Outcome.next.inj hhalts)
  simp [State.withDev, Engine.nyBrk, Engine.next, hrun] at hst

end Sys2Proof.Machine
end

section
/-! PROOFS. The statements of 04_spire_engines.md on the engines as the supervisor and the edge treat them: overruns, checks, library
stores, memory errors and reloads. -/

namespace Sys2Proof.Machine

open Dev

namespace Dev

/-! The stop point and the release window (R94, R125, R126). -/

/-- The device after the tick of an engine is dropped, before its limit is judged. -/
def tickDropped (d : Dev) (e : Nat) : Dev :=
  (((d.modEng e (fun g => { g with portTick := [], driveTick := [], dirty := [], overrunFlag := true })).bump (K.OVERRUN_COUNT e) 32).bump
    (K.OVERRUN_CONSEC e) 8).putBit K.ENG_OVERRUN_MASK e true

theorem tickDropped_count (d : Dev) {e : Nat} (h : e < 16) :
    (d.tickDropped e).num (K.OVERRUN_COUNT e) = satU 32 (d.num (K.OVERRUN_COUNT e) + 1) := by
  rw [tickDropped, num_putBit_other _ _ _ (by simp only [K.OVERRUN_COUNT, K.ENG_OVERRUN_MASK]; omega),
    num_bump_other _ _ (by simp only [K.OVERRUN_COUNT, K.OVERRUN_CONSEC]; omega), num_bump_self, num_modEng]

theorem tickDropped_consec (d : Dev) {e : Nat} (h : e < 16) :
    (d.tickDropped e).num (K.OVERRUN_CONSEC e) = satU 8 (d.num (K.OVERRUN_CONSEC e) + 1) := by
  rw [tickDropped, num_putBit_other _ _ _ (by simp only [K.OVERRUN_CONSEC, K.ENG_OVERRUN_MASK]; omega), num_bump_self,
    num_bump_other _ _ (by simp only [K.OVERRUN_COUNT, K.OVERRUN_CONSEC]; omega), num_modEng]

theorem tickDropped_limit (d : Dev) {e : Nat} (h : e < 16) : (d.tickDropped e).num (K.OVERRUN_LIMIT e) = d.num (K.OVERRUN_LIMIT e) := by
  rw [tickDropped, num_putBit_other _ _ _ (by simp only [K.OVERRUN_LIMIT, K.ENG_OVERRUN_MASK]; omega),
    num_bump_other _ _ (by simp only [K.OVERRUN_LIMIT, K.OVERRUN_CONSEC]; omega),
    num_bump_other _ _ (by simp only [K.OVERRUN_LIMIT, K.OVERRUN_COUNT]; omega), num_modEng]

theorem tickDropped_mask (d : Dev) (e : Nat) : (d.tickDropped e).bit K.ENG_OVERRUN_MASK e = true := bit_putBit_self ..

theorem tickDropped_engine (d : Dev) {e : Nat} (h : e < 16) :
    (d.tickDropped e).engine e = { d.engine e with portTick := [], driveTick := [], dirty := [], overrunFlag := true } :=
  engine_modEng_self d _ h

/-- A change of rails is none of engines, drive words or objects. -/
theorem forUnits_modRl_frame (n : Nat) (f : Rail → Rail) (d : Dev) :
    (forUnits n (fun i x => x.modRl i f) d).eng = d.eng ∧ (forUnits n (fun i x => x.modRl i f) d).drive = d.drive ∧
      (forUnits n (fun i x => x.modRl i f) d).objs = d.objs :=
  forUnits_keeps (P := fun x : Dev => x.eng = d.eng ∧ x.drive = d.drive ∧ x.objs = d.objs) n (fun i x => x.modRl i f)
    (fun _ _ h => h) d ⟨rfl, rfl, rfl⟩

/-- The device after the tick is dropped, with the tests that a dropped tick of RM-PLAUS drops (R210). -/
def testsDropped (d : Dev) (e : Nat) : Dev :=
  if (d.engine e).prog.kind = 5 then
    forUnits 8 (fun n d => d.modRl n (fun r => { r with plaus := { r.plaus with test := 0 } })) (d.tickDropped e)
  else d.tickDropped e

/-- The tests stand in the rails: engines, drive words and objects are as the dropped tick leaves them. -/
theorem testsDropped_frame (d : Dev) (e : Nat) :
    (d.testsDropped e).eng = (d.tickDropped e).eng ∧ (d.testsDropped e).drive = (d.tickDropped e).drive ∧
      (d.testsDropped e).objs = (d.tickDropped e).objs := by
  unfold testsDropped
  split
  · exact forUnits_modRl_frame ..
  · exact ⟨rfl, rfl, rfl⟩

theorem testsDropped_engine (d : Dev) (e : Nat) : (d.testsDropped e).engine e = (d.tickDropped e).engine e :=
  congrArg (vget · e) (testsDropped_frame d e).1

theorem testsDropped_drive (d : Dev) (e : Nat) : (d.testsDropped e).drive = d.drive := (testsDropped_frame d e).2.1

theorem testsDropped_num (d : Dev) (e k : Nat) : (d.testsDropped e).num k = (d.tickDropped e).num k :=
  congrArg Val.int (obj_congr _ (testsDropped_frame d e).2.2 k)

/-- What an overrun does beyond the dropped tick, it does at the limit (R126). -/
theorem engOverrun_cases (d : Dev) (e : Nat) :
    ∃ limited, d.engOverrun e =
      if (d.testsDropped e).num (K.OVERRUN_CONSEC e) ≥ (d.testsDropped e).num (K.OVERRUN_LIMIT e) then limited else d.testsDropped e :=
  ⟨_, rfl⟩

theorem engOverrun_below_limit {d : Dev} {e : Nat} (h : e < 16)
    (hlimit : satU 8 (d.num (K.OVERRUN_CONSEC e) + 1) < d.num (K.OVERRUN_LIMIT e)) : d.engOverrun e = d.testsDropped e := by
  obtain ⟨limited, heq⟩ := engOverrun_cases d e
  rw [heq, testsDropped_num, testsDropped_num, tickDropped_consec d h, tickDropped_limit d h]
  exact if_neg (Int.not_le.mpr hlimit)

/-- The device once the drive words of an ended tick that the engine owns are released (R97, R99). -/
def drivesReleased (d : Dev) (e : Nat) : Dev := (d.engine e).driveTick.foldl (fun d x => if d.owns e x.1 then d.setDrive x.1 x.2 else d) d

theorem drivesReleased_eng (d : Dev) (e : Nat) : (d.drivesReleased e).eng = d.eng :=
  foldl_keeps (P := fun x : Dev => x.eng = d.eng) _ (fun x w h => by split <;> exact h) _ d rfl

/-- The engine once its ended tick is released. -/
def tickReleased (g : Engine) (stamp : Int) : Engine :=
  { g.flip with
    port := g.portTick.foldl (fun m x => Assoc.set zeroAt m x.1 x.2) g.port, portTick := [], driveTick := [], stampAt := stamp,
    overrunLimit := false }

theorem engRelease_engine (d : Dev) {e : Nat} (stamp : Int) (h : e < 16) : (d.engRelease e stamp).engine e = tickReleased (d.engine e) stamp :=
  (engine_modEng_self (d.drivesReleased e) (tickReleased · stamp) h).trans
    (congrArg (fun v => tickReleased (vget v e) stamp) (drivesReleased_eng d e))

/-- The objects that a released tick writes, over what it makes of the engine. -/
theorem engRelease_objects (d : Dev) (e : Nat) (stamp : Int) :
    d.engRelease e stamp =
      (((((d.drivesReleased e).modEng e (tickReleased · stamp)).setNum (K.ENG_CYCLES_LAST e) (d.engine e).cycles).modNum
        (K.ENG_CYCLES_MAX e) (fun m => max m (d.engine e).cycles)).setNum (K.OVERRUN_CONSEC e) 0).putBit K.ENG_OVERRUN_MASK e false := rfl

theorem engRelease_consec (d : Dev) {e : Nat} (stamp : Int) (h : e < 16) : (d.engRelease e stamp).num (K.OVERRUN_CONSEC e) = 0 := by
  rw [engRelease_objects, num_putBit_other _ _ _ (by simp only [K.OVERRUN_CONSEC, K.ENG_OVERRUN_MASK]; omega), num_setNum_self]

theorem engRelease_cycles (d : Dev) {e : Nat} (stamp : Int) (h : e < 16) :
    (d.engRelease e stamp).num (K.ENG_CYCLES_LAST e) = (d.engine e).cycles := by
  rw [engRelease_objects, num_putBit_other _ _ _ (by simp only [K.ENG_CYCLES_LAST, K.ENG_OVERRUN_MASK]; omega),
    num_setNum_other _ _ (by simp only [K.ENG_CYCLES_LAST, K.OVERRUN_CONSEC]; omega),
    num_modNum_other _ _ (by simp only [K.ENG_CYCLES_LAST, K.ENG_CYCLES_MAX]; omega), num_setNum_self]

theorem engRelease_mask (d : Dev) (e : Nat) (stamp : Int) : (d.engRelease e stamp).bit K.ENG_OVERRUN_MASK e = false := by
  rw [engRelease_objects, bit_putBit_self]

end Dev

/-- Settles O10: below its limit an overrun is the dropped tick (`engOverrun_below_limit`), and a release is that of the engine
(`tickReleased`) with the objects of its counts. -/
theorem overrunDiscards : Obligations.OverrunDiscards := by
  unfold Obligations.OverrunDiscards
  refine ⟨fun d e hlimit => ?_, fun d e stamp => ?_⟩
  · have hengine := (testsDropped_engine d e).trans (tickDropped_engine d e.isLt)
    simp only [engOverrun_below_limit e.isLt hlimit, hengine, testsDropped_drive, testsDropped_num, bit, true_and]
    exact ⟨tickDropped_count d e.isLt, tickDropped_consec d e.isLt, tickDropped_mask d e⟩
  · have hengine := engRelease_engine d stamp e.isLt
    simp only [hengine]
    exact ⟨rfl, rfl, rfl, engRelease_consec d stamp e.isLt, engRelease_cycles d stamp e.isLt, engRelease_mask d e stamp, rfl, rfl⟩

/-! Checks, library stores and the stop point (R110, R113, R118, R125). -/

namespace Dev

variable {d : Dev} {e : Nat}

/-- A check that completes ends the load and judges the shadow. -/
theorem checkDone_of_loading (hst : (d.engine e).shadowSt = .loading) (hrun : d.supRuns = true) :
    d.checkDone e =
      (let c := (d.endOp (K.PROG_SHADOW_SEL e) .none).endOp (K.PROG_IMAGE e) .none
       match if (d.engine e).shadow.id = 0xFFFF then some (1, 0) else
          c.checkImage e (d.engine e).shadow c.budget (d.engine e).shadow.unchecked with
        | none => (c.modEng e (fun g => { g with shadowSt := .checked })).setNum (K.PROG_CHECK_RESULT e) 0
        | some (reason, at_) =>
          (c.modEng e (fun g => { g with shadowSt := .refused })).setNum (K.PROG_CHECK_RESULT e) ((reason : Int) * 16777216 + at_)) := by
  rw [checkDone, if_pos ⟨hst, hrun⟩]
  dsimp only
  generalize (if (d.engine e).shadow.id = 0xFFFF then some (1, 0) else _) = result
  cases result <;> rfl

theorem checkDone_of_not_loading (h : (d.engine e).shadowSt ≠ .loading ∨ d.supRuns = false) : d.checkDone e = d :=
  if_neg fun ⟨hst, hrun⟩ => h.elim (· hst) (fun hf => by rw [hf] at hrun; cases hrun)

theorem libStoreDone_of_running {x : Nat × Nat} (ok : Bool) (h : d.nvm.libRun = some x) :
    d.libStoreDone ok =
      ({ d with nvm := { d.nvm with
          libRun := none, libImage := Image.none,
          lib := if ok then vset d.nvm.lib x.2 { d.nvm.libImage with unchecked := false } else d.nvm.lib } } : Dev).endOp
        K.LIB_STORE (if ok then .none else .nvm) := by
  rw [libStoreDone, h]

theorem libStoreDone_of_idle (ok : Bool) (h : d.nvm.libRun = none) : d.libStoreDone ok = d := by
  rw [libStoreDone, h]

theorem overrunAt_of_late (hrun : d.engRuns e = true) (hend : (d.engine e).ended = false) (hover : (d.engine e).overran = false) :
    d.overrunAt e =
      d.modEng e (fun g => { g with overran := true, overrunCause := if (d.engine e).prog.unchecked then 0 else 1 }) := by
  have hstop : (d.engRuns e && !(d.engine e).ended && !(d.engine e).overran) = true := by rw [hrun, hend, hover]; rfl
  exact (if_pos hstop).trans (modEng_congr d e rfl)

theorem overrunAt_of_not_late (h : d.engRuns e = false ∨ (d.engine e).ended = true ∨ (d.engine e).overran = true) : d.overrunAt e = d := by
  refine if_neg ?_
  rcases h with h | h | h <;> simp [h]

/-- An engine that was stopped executes nothing (R92). -/
theorem engExecutes_of_overran (h : (d.engine e).overran = true) : d.engExecutes e = false := by
  simp [engExecutes, Engine.executes, h]

end Dev

/-- Settles O8: each command by its operation where it completes something, and where it does not. -/
theorem engineCommandsComplete : Obligations.EngineCommandsComplete := by
  unfold Obligations.EngineCommandsComplete
  refine ⟨?_, fun s e h => ?_, ?_, fun s ok h => ?_, fun s e => ⟨?_, fun h => ?_⟩⟩
  · intro s e d hst hrun c result
    exact (exec_programCheckDone s e).trans (next_dev (checkDone_of_loading hst hrun))
  · exact (exec_programCheckDone s e).trans (next_dev (checkDone_of_not_loading h))
  · intro s ok e slot d h kept v
    exact (exec_libStoreDone s ok).trans (next_dev (libStoreDone_of_running ok h))
  · exact (exec_libStoreDone s ok).trans (next_dev (libStoreDone_of_idle ok h))
  · intro hrun hend hover t
    refine ⟨(exec_overrun s e).trans (next_dev (overrunAt_of_late hrun hend hover)), engExecutes_of_overran ?_⟩
    exact congrArg Engine.overran (engine_modEng_self _ _ e.isLt)
  · exact (exec_overrun s e).trans (next_dev (overrunAt_of_not_late h))

/-! Memory errors and reloads (R128–R130). -/

namespace Dev

variable {d : Dev} {e : Nat}

theorem eccScrub_of_found {stall : Bool}
    (h : d.supRuns = true ∨ (stall && d.engRuns e && (d.engine e).executes) = true) :
    d.eccScrub e true stall =
      (d.modEng e (fun g => { g with
        eccCorrected := true, cycles := if stall && d.engRuns e && (d.engine e).executes then g.cycles + 2 else g.cycles })).bump
          (K.ENG_ECC_COUNT e) 16 := by
  refine if_pos ?_
  rw [Bool.true_and, Bool.or_eq_true]
  exact h

theorem eccScrub_of_no_reader {stall : Bool} (hsup : d.supRuns = false)
    (hread : (stall && d.engRuns e && (d.engine e).executes) = false) : d.eccScrub e true stall = d := by
  refine if_neg ?_
  rw [hsup, hread]
  decide

theorem eccScrub_of_clean (stall : Bool) : d.eccScrub e false stall = d := rfl

/-- A word of a bank that reads 0 (R129). -/
theorem fillCoef_zero (d : Dev) (e : Nat) (b : Bool) {c : Nat} (h : c < 256) :
    d.fillCoef e b c 0 (.coef 0 0) = d.setObj (coefKey e b c) (d.heldCoef (coefKey e b c) (0, 0)) :=
  if_neg (Nat.not_le.mpr h)

theorem reloadDone_of_absent (stored : Nat → Val) (h : d.supRuns = false) : d.reloadDone e stored = d :=
  if_neg (by rw [h]; decide)

/-- What a reload that the supervisor completes does: first the bank, then the program. -/
theorem reloadDone_of_running (stored : Nat → Val) (h : d.supRuns = true) :
    d.reloadDone e stored =
      (let m := if (d.engine e).badBank then d.bankReload e stored else d
       if (d.engine e).badProg then m.progReload e else m) := if_pos h

theorem progReload_of_passed {new : Image} (hlib : d.libraryCopy (d.engine e).prog = some new)
    (hcheck : d.checkImage e new d.budget (d.flag (K.CHECK_BYPASS e)) = none) :
    d.progReload e =
      d.modEng e (fun g => { g with shadow := { new with unchecked := d.flag (K.CHECK_BYPASS e) }, shadowSt := .pending, swapProg := 1 }) := by
  simp only [progReload, hlib, hcheck]

theorem progReload_of_refused {new : Image} {reason at_ : Nat} (hlib : d.libraryCopy (d.engine e).prog = some new)
    (hcheck : d.checkImage e new d.budget (d.flag (K.CHECK_BYPASS e)) = some (reason, at_)) :
    d.progReload e = d.reloadRefused e reason at_ := by
  simp only [progReload, hlib, hcheck]

theorem progReload_of_missing (hlib : d.libraryCopy (d.engine e).prog = none) : d.progReload e = d.reloadRefused e 1 0 := by
  simp only [progReload, hlib]

end Dev

/-- Settles O9: each command by its operation, the places of an error one by one. -/
theorem eccCommandsComplete : Obligations.EccCommandsComplete := by
  unfold Obligations.EccCommandsComplete
  refine ⟨fun s e stall => ⟨fun h => ?_, fun hsup hread => ?_, ?_⟩, ?_, ?_, fun s e h => ?_⟩
  · exact (exec_eccScrub s e _).trans (next_dev (eccScrub_of_found h))
  · exact (exec_eccScrub s e _).trans (next_dev (eccScrub_of_no_reader hsup hread))
  · exact (exec_eccScrub s e _).trans (next_dev (eccScrub_of_clean stall))
  · intro s e loc d m stop
    refine (exec_eccUncorrectable s e loc).trans (next_dev ?_)
    cases loc with
    | code a => rfl
    | activeBank c => rfl
    | inactiveBank c => exact fillCoef_zero m e _ c.isLt
    | state a => rfl
    | scratch a => rfl
    | shadow a => rfl
  · intro s e d hrun filled m
    have hexec := (exec_engineReloadDone s e).trans (next_dev (reloadDone_of_running _ hrun))
    refine ⟨fun hprog => ?_, fun hprog => ⟨fun new hlib => ⟨fun hcheck => ?_, fun reason at_ hcheck => ?_⟩, fun hlib => ?_⟩⟩
    · exact hexec.trans (next_dev (if_neg (by rw [hprog]; decide)))
    · exact hexec.trans (next_dev ((if_pos hprog).trans (progReload_of_passed hlib hcheck)))
    · exact hexec.trans (next_dev ((if_pos hprog).trans (progReload_of_refused hlib hcheck)))
    · exact hexec.trans (next_dev ((if_pos hprog).trans (progReload_of_missing hlib)))
  · exact (exec_engineReloadDone s e).trans (next_dev (reloadDone_of_absent _ h))

end Sys2Proof.Machine
end

section
/-! PROOFS. The statement of 05_control_laws.md and 06_load_interface.md on the load-intent link, the intents, the handshake pins and
the posted policy entries (R162, R174, R185–R190). -/

namespace Sys2Proof.Machine

open Dev

namespace Dev

variable {d : Dev} {n : Nat}

/-! The link (R185, R186): it is brought up only while it trains, and counts and receives only in UP. -/

theorem lilUp_of_training (h : d.lil.st = .training) :
    d.lilUp = Dev.cause { d with lil := { d.lil with st := .up, trainFail := false } } 102 0x01 := if_pos h

theorem lilUp_of_not_training (h : d.lil.st ≠ .training) : d.lilUp = d := if_neg h

theorem lilTrainTimeout_of_training (h : d.lil.st = .training) :
    d.lilTrainTimeout = { d with lil := { d.lil with trainFail := true } } := if_pos h

theorem lilTrainTimeout_of_not_training (h : d.lil.st ≠ .training) : d.lilTrainTimeout = d := if_neg h

theorem lilWordError_of_up (h : d.lil.st = .up) : d.lilWordError = d.bump (K.LIL_ERR_COUNT 1) 32 := if_pos h

theorem lilWordError_of_not_up (h : d.lil.st ≠ .up) : d.lilWordError = d := if_neg h

theorem lilLinkDrop_of_up (h : d.lil.st = .up) :
    d.lilLinkDrop = (Dev.bump { d with lil := { d.lil with st := .training } } (K.LIL_ERR_COUNT 2) 32).cause 102 0x02 := if_pos h

theorem lilLinkDrop_of_not_up (h : d.lil.st ≠ .up) : d.lilLinkDrop = d := if_neg h

theorem lilFrame_of_up (w : BitVec 40) (h : d.lil.st = .up) :
    d.lilFrame w = { d with lil := { d.lil with frames := d.lil.frames ++ [w] } } := if_pos h

theorem lilFrame_of_not_up (w : BitVec 40) (h : d.lil.st ≠ .up) : d.lilFrame w = d := if_neg h

/-! Retraction (R187, R188). -/

/-- The device after the intent of entry `j` is retracted and counted, before the retractions in a row are judged. -/
def intentGone (d : Dev) (n j : Nat) : Dev :=
  ((d.bump (K.INTENT_RETRACT_COUNT n) 32).dropIntents n (2 ^ j)).modRl n (fun r => { r with retractRun := (d.rl n).retractRun + 1 })

theorem intentRetract_of_due {j : Nat} {x : Intent} (hx : vget (d.rl n).intents j = some x) (hdue : x.deadline ≤ x.age) :
    d.intentRetract n j =
      if d.num (K.INTENT_DISTRUST n) ≤ ((d.rl n).retractRun + 1 : Nat) ∧ d.num (K.INTENT_STATE n) = 0 then
        ((d.intentGone n j).setNum (K.INTENT_STATE n) 1).cause (32 + n) 0x13
      else d.intentGone n j := by
  rw [intentRetract, hx]
  exact if_pos hdue

theorem intentRetract_of_not_due {j : Nat} (h : ∀ x, vget (d.rl n).intents j = some x → x.age < x.deadline) :
    d.intentRetract n j = d := by
  unfold intentRetract
  split
  next x hx => exact if_neg (Nat.not_le.mpr (h x hx))
  next => rfl

/-! THROTTLE# (R189). -/

theorem throttleGrace_of_due (h : (d.rl n).due.testBit 4 = true) :
    d.throttleGrace n = (d.modRl n (fun r => { r with due := 0 })).tripKinds n (d.rl n).due := if_pos h

theorem throttleGrace_of_not_due (h : (d.rl n).due.testBit 4 = false) : d.throttleGrace n = d := if_neg (Bool.eq_false_iff.mp h)

/-- The pin is released where it is asserted, no cause stands and its hold has run. -/
theorem throttleRelease_eq (d : Dev) :
    d.throttleRelease =
      if d.load.throttle = true ∧ d.throttleCause = false ∧ d.num K.THROTTLE_HOLD * 1000 ≤ (d.load.throttleN - 1) * d.tickNs then
        { d with load := { d.load with throttle := false } }
      else d :=
  ite_congr (propext (by simp [and_assoc])) (fun _ => rfl) fun _ => rfl

/-! PFW# (R190). -/

/-- The device whose cause VIN has ended: PFW# is still to follow. -/
def vinEnded (d : Dev) : Dev := { d with load := { d.load with pfwVin := false, pfwOk := true } }

theorem pfwRelease_of_high (h : d.num K.PFW_VIN_TH + d.num K.PFW_HYST ≤ d.num (K.HK_RAW 0) * 5) :
    d.pfwRelease = d.vinEnded.pfwFollow := if_pos h

theorem pfwRelease_of_low (h : ¬ d.num K.PFW_VIN_TH + d.num K.PFW_HYST ≤ d.num (K.HK_RAW 0) * 5) : d.pfwRelease = d := if_neg h

/-- With the cause VIN ended, PFW# is caused by what is left of R190. -/
theorem pfwCaused_vinEnded_iff :
    d.vinEnded.pfwCaused = true ↔ d.path.st ≠ .onInput ∨ d.load.pfwProg = true ∨ d.flag K.PFW_FORCE = true := by
  have hcaused : d.vinEnded.pfwCaused = (decide (d.path.st ≠ .onInput) || d.load.pfwProg || d.flag K.PFW_FORCE) := rfl
  simp [hcaused, or_assoc]

theorem pfwFollow_of_caused (h : d.pfwCaused = true) : d.pfwFollow = { d with load := { d.load with pfw := true } } := if_pos h

theorem pfwFollow_of_released (h : ¬ d.pfwCaused = true) (hok : d.load.pfwOk = true) (ht : d.ticking = true) :
    d.pfwFollow = { d with load := { d.load with pfw := false } } :=
  (if_neg h).trans (if_pos (by simp [hok, ht]))

theorem pfwFollow_of_idle (h : ¬ d.pfwCaused = true) (ht : d.ticking = false) : d.pfwFollow = d :=
  (if_neg h).trans (if_neg (by simp [ht]))

/-! RDYn (R174). -/

/-- READY is set of a rail outside Glove whose ready condition stands and whose delay has run. -/
theorem rdyAssert_eq (d : Dev) (n : Nat) :
    d.rdyAssert n =
      if (d.rl n).glove = false ∧ 1 ≤ (d.rl n).rdyN ∧ d.num (K.RDY_DELAY n) * 1000 ≤ ((d.rl n).rdyN - 1) * d.tickNs ∧
          d.readyCond n = true then
        d.modRl n (fun r => { r with rdy := true })
      else d := rfl

end Dev

/-- Settles O43: each command by its equation, where its condition holds and where it does not. -/
theorem loadInterfaceComplete : Obligations.LoadInterfaceComplete := by
  unfold Obligations.LoadInterfaceComplete
  intro s d
  refine ⟨fun h => ⟨?_, ?_⟩, fun h => ⟨?_, ?_, fun w => ?_⟩, fun n slot x hx hdue => ?_, fun h => ?_, fun h w => ?_, fun n slot h => ?_,
    fun n => ⟨fun h => ?_, fun h => ?_⟩, ?_, ?_, fun n => ?_, fun h => ?_, fun h => ?_⟩
  · exact (exec_lilUp s).trans (next_dev (lilUp_of_training h))
  · exact (exec_lilTrainTimeout s).trans (next_dev (lilTrainTimeout_of_training h))
  · exact (exec_lilWordError s).trans (next_dev (lilWordError_of_up h))
  · exact (exec_lilLinkDrop s).trans (next_dev (lilLinkDrop_of_up h))
  · exact (exec_lilFrame s w).trans (next_dev (lilFrame_of_up w h))
  · exact (exec_intentRetract s n slot).trans (next_dev (intentRetract_of_due hx hdue))
  · rw [List.forall_mem_cons, List.forall_mem_singleton]
    exact ⟨(exec_lilUp s).trans (next_dev (lilUp_of_not_training h)),
      (exec_lilTrainTimeout s).trans (next_dev (lilTrainTimeout_of_not_training h))⟩
  · rw [List.forall_mem_cons, List.forall_mem_cons, List.forall_mem_singleton]
    exact ⟨(exec_lilWordError s).trans (next_dev (lilWordError_of_not_up h)),
      (exec_lilLinkDrop s).trans (next_dev (lilLinkDrop_of_not_up h)),
      (exec_lilFrame s w).trans (next_dev (lilFrame_of_not_up w h))⟩
  · exact (exec_intentRetract s n slot).trans (next_dev (intentRetract_of_not_due h))
  · exact (exec_throttleGraceExpiry s n).trans (next_dev (throttleGrace_of_due h))
  · exact (exec_throttleGraceExpiry s n).trans (next_dev (throttleGrace_of_not_due h))
  · have hexec := (exec_throttleRelease s).trans (next_dev (throttleRelease_eq d))
    exact ⟨fun h => hexec.trans (next_dev (if_pos h)), fun h => hexec.trans (next_dev (if_neg h))⟩
  · intro high other
    have hexec := fun h : high => (exec_pfwRelease s).trans (next_dev (pfwRelease_of_high h))
    refine ⟨fun h hother => ?_, fun h hother ht => ?_, fun h hother ht => ?_, fun h => ?_⟩
    · exact (hexec h).trans (next_dev (pfwFollow_of_caused (pfwCaused_vinEnded_iff.mpr hother)))
    · exact (hexec h).trans (next_dev (pfwFollow_of_released (mt pfwCaused_vinEnded_iff.mp hother) rfl ht))
    · exact (hexec h).trans (next_dev (pfwFollow_of_idle (mt pfwCaused_vinEnded_iff.mp hother) ht))
    · exact (exec_pfwRelease s).trans (next_dev (pfwRelease_of_low h))
  · have hexec := (exec_rdyAssert s n).trans (next_dev (rdyAssert_eq d n))
    exact ⟨fun h => hexec.trans (next_dev (if_pos h)), fun h => hexec.trans (next_dev (if_neg h))⟩
  · exact (exec_policyEntryPost s).trans (next_dev (if_pos h))
  · exact (exec_policyEntryPost s).trans (next_dev (if_neg (Bool.eq_false_iff.mp h)))

end Sys2Proof.Machine
end

section
/-! PROOFS. The statement of 06_load_interface.md on AVSBus frames (R175–R179, R192). -/

namespace Sys2Proof.Machine

open Dev

namespace Dev

variable {d : Dev} {cmd sel type : Nat}

/-! Which AVSBus frames count, and what they are (R175–R177, R192). -/

theorem avsFrame_of_not_live (cmd sel type data : Nat) (h : d.avsLive = false) : d.avsFrame cmd sel type data = d :=
  if_neg (Bool.eq_false_iff.mp h)

/-- A live port counts a write and answers code 0 before the write is decided. -/
theorem avsFrame_write (hold : Bool) (sel type data : Nat) (h : d.avsLive = true) :
    d.avsFrame (b2n hold) sel type data =
      (d.avsCount.avsWrite hold { sel := sel, type := type, data := data }).answering (.avs 0 d.avsCount.avsAlert 0) := by
  cases hold <;> exact (if_pos h).trans (if_neg (by decide))

/-- A live port counts a read, or command 10b. -/
theorem avsFrame_read (sel type data : Nat) (h : d.avsLive = true) (hc : 2 ≤ cmd) :
    d.avsFrame cmd sel type data = d.avsCount.avsRead cmd sel type :=
  (if_pos h).trans (if_pos hc)

theorem avsBadCrc_of_live (h : d.avsLive = true) : d.avsBadCrc = (d.avsCount.bump K.AVS_CRC_ERR_COUNT 16).avsAnswer 3 0 := if_pos h

theorem avsBadCrc_of_not_live (h : d.avsLive = false) : d.avsBadCrc = d := if_neg (Bool.eq_false_iff.mp h)

/-! Frames where the operation table is open, and where they wait (R176, R177, R179). -/

theorem avsOpen_iff : d.avsOpen = true ↔ d.opsOpen = true ∧ d.hasEntry .avs = true := Bool.and_eq_true_iff

theorem avsOpen_eq_false (h : d.opsOpen = false ∨ d.hasEntry .avs = false) : d.avsOpen = false := Bool.and_eq_false_iff.mpr h

theorem avsWrite_hold (d : Dev) (w : AvsWrite) : d.avsWrite true w = { d with load := { d.load with held := d.load.held ++ [w] } } := rfl

theorem avsWrite_commit (d : Dev) (w : AvsWrite) :
    d.avsWrite false w = if d.opsOpen = true ∧ d.hasEntry .avs = true then d.avsEnter w else d.avsWait w :=
  (if_neg Bool.false_ne_true).trans (ite_congr (propext avsOpen_iff) (fun _ => rfl) fun _ => rfl)

/-- A frame that reads and answers by `f`: one operation decided by `r` where the table is open; else it is answered and waits. -/
def avsTaken (d : Dev) (r : Reason) (cmd sel type : Nat) (f : Dev → Dev) : Dev :=
  if d.opsOpen = true ∧ d.hasEntry .avs = true then
    d.operate .avs (d.avsReadKey sel type) [] 0 false r (fun _ m => f m) (fun _ m => f m)
  else (f d).avsWait { sel := sel, type := type, cmd := cmd }

/-- A read that cannot be served answers code 2 (R177). -/
theorem avsRead_refused (h : d.avsReadRule cmd sel type = .range) :
    d.avsRead cmd sel type = d.avsTaken .range cmd sel type (fun m => m.avsAnswer 2 0) := by
  simp only [avsRead, h]
  exact ite_congr (propext avsOpen_iff) (fun _ => rfl) fun _ => rfl

/-- An accepted operation of level 0 is entered and noted, and not recorded (R378). -/
theorem operate_unrecorded (d : Dev) (p : Src) (key : Nat) (first : List Byte) (run : Bool) (go no : Nat → Dev → Dev) :
    d.operate p key first 0 run .none go no =
      go d.osnNext ((d.enterWith p key (if run then .running else .done) .none first).noteLast p d.osnNext .none) := by
  simp [operate, recordsWrite]

/-- The rails of a select rest on `AVS_SELECT` alone. -/
theorem avsRails_congr {m : Dev} (h : ∀ n, m.num (K.AVS_SELECT n) = d.num (K.AVS_SELECT n)) (sel : Nat) : m.avsRails sel = d.avsRails sel := by
  simp only [avsRails, h]

/-- An operation that is entered leaves the rails of a select as they are: it writes `OP_LAST` alone. -/
theorem avsRails_entered (d : Dev) (key : Nat) (st : OpState) (r : Reason) (first : List Byte) (sel : Nat) :
    ((d.enterWith .avs key st r first).noteLast .avs d.osnNext r).avsRails sel = d.avsRails sel :=
  avsRails_congr (fun n => num_setNum_other (d.enterWith .avs key st r first) (k := K.OP_LAST 4) d.osnNext
    (by simp only [K.AVS_SELECT, K.OP_LAST]; omega)) sel

/-- A read of a rail answers code 0 with the value of its type (R176). -/
theorem avsReply_of_rail {r : Nat} {rest : List Nat} {x : Int × Dev} (hsel : sel ≠ 15) (hrails : d.avsRails sel = r :: rest)
    (hv : d.avsValue r type = some x) : d.avsReply sel type = x.2.avsAnswer 0 x.1 := by
  simp only [avsReply, if_neg hsel, hrails, List.head?_cons, Option.bind_some, hv]

/-- A read that can be served answers by its rail's value at the moment of its operation. -/
theorem avsRead_served {r : Nat} {rest : List Nat} {v : Dev → Int × Dev} (hsel : sel ≠ 15) (hrails : d.avsRails sel = r :: rest)
    (ht : type ∈ [0, 1, 2, 3, 14]) (hv : ∀ m : Dev, m.avsValue r type = some (v m)) :
    d.avsRead 3 sel type = d.avsTaken .none 3 sel type (fun m => (v m).2.avsAnswer 0 (v m).1) := by
  have hrule : d.avsReadRule 3 sel type = .none := if_pos ⟨rfl, hsel, by rw [hrails]; rfl, List.contains_iff_mem.mpr ht⟩
  simp only [avsRead, hrule]
  refine ite_congr (propext avsOpen_iff) (fun _ => ?_) fun _ => ?_
  · rw [operate_unrecorded, operate_unrecorded]
    exact avsReply_of_rail hsel ((avsRails_entered ..).trans hrails) (hv _)
  · exact congrArg (avsWait · _) (avsReply_of_rail hsel hrails (hv d))

/-! The reasons for which a read is refused (R177). -/

theorem avsReadRule_of_no_rail (cmd type : Nat) (h : sel = 15 ∨ d.avsRails sel = []) : d.avsReadRule cmd sel type = .range := by
  refine if_neg ?_
  rintro ⟨-, hsel, hrails, -⟩
  rcases h with h | h
  · exact hsel h
  · rw [h] at hrails; cases hrails

theorem avsReadRule_of_other_command (sel type : Nat) (h : cmd ≠ 3) : d.avsReadRule cmd sel type = .range := if_neg fun hr => h hr.1

theorem avsReadRule_of_other_type (cmd sel : Nat) (h : type ∉ [0, 1, 2, 3, 14]) : d.avsReadRule cmd sel type = .range :=
  if_neg fun hr => h (List.contains_iff_mem.mp hr.2.2.2)

/-! The frame that waits for a select (R179). -/

theorem avsHeldEntry_of_open {w : AvsWrite} (hw : d.load.waiting.find? (fun x => x.sel == sel) = some w) (h : d.avsOpen = true) :
    d.avsHeldEntry sel = ({ d with load := { d.load with waiting := d.load.waiting.filter (fun x => x.sel ≠ sel) } } : Dev).avsLate w := by
  simp only [avsHeldEntry, hw]
  exact if_pos h

theorem avsHeldEntry_of_none (h : d.load.waiting.find? (fun x => x.sel == sel) = none) : d.avsHeldEntry sel = d := by
  simp only [avsHeldEntry, h]

theorem avsHeldEntry_of_closed (sel : Nat) (h : d.avsOpen = false) : d.avsHeldEntry sel = d := by
  cases hw : d.load.waiting.find? (fun x => x.sel == sel) with
  | none => exact avsHeldEntry_of_none hw
  | some w =>
    simp only [avsHeldEntry, hw]
    exact if_neg (Bool.eq_false_iff.mp h)

end Dev

/-- Settles O44: a write is `avsFrame_write`, a read `avsRead_served` or `avsRead_refused`, a frame that waits `avsHeldEntry`. -/
theorem avsFramesComplete : Obligations.AvsFramesComplete := by
  unfold Obligations.AvsFramesComplete
  refine ⟨?_, ?_, ?_⟩
  · intro s d hl n no keep taken write
    have writes : ∀ (hold : Bool) (sel type v : Nat), d.avsFrame (b2n hold) sel type v = write hold sel type v := by
      intro hold sel type v
      refine (avsFrame_write hold sel type v hl).trans (congrArg (answering · _) ?_)
      cases hold
      · exact avsWrite_commit ..
      · exact avsWrite_hold ..
    have refused : ∀ cmd sel type : Nat, 2 ≤ cmd → n.avsReadRule cmd sel type = .range →
        d.avsFrame cmd sel type 0 = taken false cmd sel type no := fun cmd sel type hc hr =>
      (avsFrame_read sel type 0 hl hc).trans (avsRead_refused hr)
    refine ⟨fun sel type v => ⟨?_, ?_⟩, fun sel hold v => ⟨?_, ?_, ?_, ?_⟩, fun sel => ⟨fun hnone => ?_, fun r rest hsel hrails => ?_⟩,
      fun sel type => ?_, ?_⟩
    · exact (exec_avsWriteAndCommit ..).trans (next_dev (writes false ..))
    · exact (exec_avsWriteAndHold ..).trans (next_dev (writes true ..))
    · exact (exec_avsTargetVoltage ..).trans (next_dev (writes ..))
    · exact (exec_avsTransitionRate ..).trans (next_dev (writes ..))
    · exact (exec_avsResetVoltage ..).trans (next_dev (writes ..))
    · exact (exec_avsStatusWrite ..).trans (next_dev (writes ..))
    · have hnone : sel.val = 15 ∨ n.avsRails sel = [] := hnone.imp_left (congrArg Fin.val)
      have hread : ∀ type, d.avsFrame 3 sel type 0 = taken false 3 sel type no := fun type =>
        refused 3 sel type (by decide) (avsReadRule_of_no_rail 3 type hnone)
      exact ⟨(exec_avsReadVoltage ..).trans (next_dev (hread 0)), (exec_avsReadRate ..).trans (next_dev (hread 1)),
        (exec_avsReadCurrent ..).trans (next_dev (hread 2)), (exec_avsReadTemperature ..).trans (next_dev (hread 3)),
        (exec_avsReadStatus ..).trans (next_dev (hread 14))⟩
    · intro answers
      have hsel : sel.val ≠ 15 := fun h => hsel (Fin.ext h)
      have served : ∀ (type : Nat) (v : Dev → Int × Dev), type ∈ [0, 1, 2, 3, 14] → (∀ m : Dev, m.avsValue r type = some (v m)) →
          d.avsFrame 3 sel type 0 = taken true 3 sel type (fun m => (v m).2.avsAnswer 0 (v m).1) := fun type v ht hv =>
        (avsFrame_read sel type 0 hl (by decide)).trans (avsRead_served hsel hrails ht hv)
      exact ⟨(exec_avsReadVoltage ..).trans (next_dev (served 0 _ (by decide) fun _ => rfl)),
        (exec_avsReadRate ..).trans (next_dev (served 1 _ (by decide) fun _ => rfl)),
        (exec_avsReadCurrent ..).trans (next_dev (served 2 _ (by decide) fun _ => rfl)),
        (exec_avsReadTemperature ..).trans (next_dev (served 3 _ (by decide) fun _ => rfl)),
        (exec_avsReadStatus ..).trans (next_dev (served 14 _ (by decide) fun _ => rfl))⟩
    · have hexec := fun cmd : Fin 8 => exec_avsUnsupported s cmd sel type
      refine ⟨?_, fun ht => ?_, ?_, ?_, ?_, ?_, ?_, ?_⟩
      · exact (hexec 2).trans (next_dev (refused 2 _ _ (by decide) (avsReadRule_of_other_command _ _ (by decide))))
      · have ht : type.val ∉ [0, 1, 2, 3, 14] := fun hm => by
          obtain ⟨t, hmem, heq⟩ := List.mem_map.mp (show type.val ∈ ([0, 1, 2, 3, 14] : List (Fin 16)).map Fin.val from hm)
          exact ht (Fin.ext heq ▸ hmem)
        exact (hexec 3).trans (next_dev (refused 3 _ _ (by decide) (avsReadRule_of_other_type _ _ ht)))
      · exact (hexec 0).trans (next_dev (writes false ..))
      · exact (hexec 1).trans (next_dev (writes true ..))
      · exact (hexec 4).trans (next_dev (writes false ..))
      · exact (hexec 5).trans (next_dev (writes true ..))
      · exact (hexec 6).trans (next_dev (refused 2 _ _ (by decide) (avsReadRule_of_other_command _ _ (by decide))))
      · exact (hexec 7).trans (next_dev (refused 3 _ 16 (by decide) (avsReadRule_of_other_type _ _ (by decide))))
    · exact (exec_avsBadCrc s).trans (next_dev (avsBadCrc_of_live hl))
  · intro s sel d
    refine ⟨fun w hw hops hentry => ?_, fun h => ?_⟩
    · intro m
      have hexec := (exec_avsHeldEntry s sel).trans (next_dev (avsHeldEntry_of_open hw (avsOpen_iff.mpr ⟨hops, hentry⟩)))
      exact ⟨fun hwrite => hexec.trans (next_dev (if_pos hwrite)), fun hread => hexec.trans (next_dev (if_neg (Nat.not_lt.mpr hread)))⟩
    · refine (exec_avsHeldEntry s sel).trans (next_dev ?_)
      rcases h with hnone | hclosed
      · exact avsHeldEntry_of_none hnone
      · exact avsHeldEntry_of_closed _ (avsOpen_eq_false hclosed)
  · intro s cmd sel type hold v hdead
    have still : ∀ cmd sel type data : Nat, Host.Outcome.next (s.withDev (s.dev.heard.avsFrame cmd sel type data)) =
        (Host.Outcome.next (s.withDev s.dev.heard) : Host.Outcome State Fault Refusal) := fun cmd sel type data =>
      next_dev (avsFrame_of_not_live cmd sel type data hdead)
    simp only [List.forall_mem_cons]
    exact ⟨still .., still .., still .., still .., still .., still .., still .., still .., still .., still .., still .., still ..,
      next_dev (avsBadCrc_of_not_live hdead), fun _ h => absurd h List.not_mem_nil⟩

end Sys2Proof.Machine
end

section
/-! PROOFS. The statements of 06_load_interface.md on the write commands of PMBus: of one object, of several objects and of status
(R180, R344–R357). -/

namespace Sys2Proof.Machine

open Dev

theorem pageKind_eq_ff_iff {pg : Nat} : pageKind pg = .ff ↔ 64 ≤ pg := by
  unfold pageKind
  split
  · exact iff_of_false (by decide) (by omega)
  split
  · exact iff_of_false (by decide) (by omega)
  split
  · exact iff_of_false (by decide) (by omega)
  split
  · exact iff_of_false (by decide) (by omega)
  · exact iff_of_true rfl (by omega)

theorem pageKind_of_rail {pg : Nat} (h : pg < 8) : pageKind pg = .mp := if_pos h

theorem actOf_unitOn : ∀ u : Fin 64, actOf (K.UNIT_ON u) ≠ .bulkLoad := by decide

theorem actOf_pageKey (t : TwPort) : actOf (pageKey t) ≠ .bulkLoad := by cases t <;> decide

namespace Dev

variable {d : Dev} {x : TwFrame} {code key : Nat} {bs : List Byte} {r : Reason} {v : Int} {b : Byte}

/-- A write that its port takes is carried out (R345, R346). -/
theorem pmbWrite_taken (f : Dev → Dev) (h : d.takesWrite x code bs) : d.pmbWrite x code bs f = f d := by
  obtain ⟨⟨hgate, hcmd⟩, hprot, hform, hpec, hnone⟩ := h
  have hopen : ∀ g : Dev → Dev, d.pmbOpen x.port code g = g d := fun g => (if_pos hgate).trans (if_pos hcmd)
  rw [pmbWrite, hopen, hprot, hform]
  cases hx : x.pec with
  | none => simp [hnone hx]
  | some b => simp [hpec b hx]

theorem gate_of_takesWrite (h : d.takesWrite x code bs) : d.gateOf x.port.src = .open_ := by
  obtain ⟨⟨hgate, -⟩, -⟩ := h
  exact hgate

/-! A write of one object, decided and answered (R345, R348, R373–R378). -/

/-- One write of one object at a target, decided by `r`: the operation and its answer. -/
def pmbDecided (d : Dev) (t : TwPort) (key : Nat) (bs : List Byte) (r : Reason) : Dev :=
  (d.writeAs t.src key bs r).answerWrite t.src key r d.osnNext

/-- A write that its own rule decides is the host write of the object at the port. -/
theorem pmbSet_eq_decided {t : TwPort} (hgate : d.gateOf t.src = .open_) (hkey : actOf key ≠ .bulkLoad) :
    d.pmbSet t.src key bs = d.pmbDecided t key bs (d.writeRule t.src key bs) :=
  (if_pos hgate : d.hostWrite t.src key bs = d.pmbSet t.src key bs).symm.trans (hostWrite_open hgate (.inl hkey))

/-- An accepted write is admitted and carried out, and acknowledged. -/
theorem pmbDecided_accepted (d : Dev) (t : TwPort) (key : Nat) (bs : List Byte) :
    d.pmbDecided t key bs .none =
      ((d.admitted ⟨t.src, key, bs⟩).carryOut t.src key (valueOf key bs) d.osnNext).answering .ack := by
  have hwrite : d.writeAs t.src key bs .none = (d.admitted ⟨t.src, key, bs⟩).carryOut t.src key (valueOf key bs) d.osnNext := by
    simp only [writeAs, operate, if_pos, ne_eq, not_true_eq_false, if_false]
    rfl
  rw [pmbDecided, hwrite]
  cases t <;> rfl

/-- A refused write has its entry and its record, does what its chapter names, sets `invalid_data`, and is acknowledged. -/
theorem pmbDecided_refused (d : Dev) (t : TwPort) (key : Nat) (bs : List Byte) (hr : r ≠ .none) :
    d.pmbDecided t key bs r =
      ((((((d.enterWith t.src key .refused r (recordFirst key bs)).noteLast t.src d.osnNext r).recordOp
        t.src 0x41 d.osnNext key r (recordFirst key bs)).refusedAct t.src key (valueOf key bs) r d.osnNext).modTw t
          (fun y => { y with cml := Machine.putBit y.cml 6 true })).twEvent t 6 d.osnNext).answering .ack := by
  rw [pmbDecided, answerWrite_refused hr, writeAs]
  simp only [operate, if_pos hr, if_neg hr]
  cases t <;> rfl

/-! Numbers (R180, R350, R351). -/

theorem numRule_of_word {p : Src} (h : ¬ (v < 0 ∨ 65535 < v)) : d.numRule p key v = d.writeRule p key (leBytes 2 v) :=
  if_pos (by omega)

theorem numRule_of_wide {p : Src} (h : v < 0 ∨ 65535 < v) :
    d.numRule p key v = if d.writeRule p key (leBytes 2 0) = .access then .access else .range :=
  if_neg (by omega)

theorem pmbNumber_of_unit {ix : Nat → Nat} {w : BitVec 16} (h : d.takesWrite x code (leBytes 2 w.toNat)) (hpg : d.pageOf x.port < 64) :
    d.pmbNumber x code ix w v =
      d.pmbDecided x.port (ix (d.pageOf x.port)) (leBytes 2 v) (d.numRule x.port.src (ix (d.pageOf x.port)) v) :=
  (pmbWrite_taken _ h).trans (if_neg fun hff => Nat.not_lt.mpr (pageKind_eq_ff_iff.mp hff) hpg)

theorem pmbNumber_of_all {ix : Nat → Nat} {w : BitVec 16} (h : d.takesWrite x code (leBytes 2 w.toNat)) (hpg : 64 ≤ d.pageOf x.port) :
    d.pmbNumber x code ix w v =
      d.pmbParts x.port (ix 0) (leBytes 2 v)
        ((List.range 8).map (fun n => d.writePart x.port.src (ix n) (leBytes 2 v) (d.numRule x.port.src (ix n) v))) :=
  (pmbWrite_taken _ h).trans (if_pos (pageKind_eq_ff_iff.mpr hpg))

/-! OPERATION, by the kind of its page (R180, R350). -/

theorem pmbOperate_of_all (h : d.takesWrite x 0x01 [b]) (hpg : 64 ≤ d.pageOf x.port) :
    d.pmbOperate x b =
      (let seq := [BitVec.ofNat 8 (2 - b.toNat / 128)]
       let mg := leBytes 1 (b.toNat / 16 % 4 : Nat)
       d.pmbParts x.port K.SEQ_CMD [b] (d.writePart x.port.src K.SEQ_CMD seq (d.writeRule x.port.src K.SEQ_CMD seq) ::
         (List.range 8).map (fun n =>
           d.writePart x.port.src (K.MARGIN_STATE n) mg (d.writeRule x.port.src (K.MARGIN_STATE n) mg)))) := by
  rw [pmbOperate, pmbWrite_taken _ h]
  simp only [pageKind_eq_ff_iff.mpr hpg]

theorem pmbOperate_of_rail (h : d.takesWrite x 0x01 [b]) (hpg : d.pageOf x.port < 8) :
    d.pmbOperate x b =
      (let on := [BitVec.ofNat 8 (b.toNat / 128)]
       let mg := leBytes 1 (b.toNat / 16 % 4 : Nat)
       let pg := d.pageOf x.port
       d.pmbParts x.port (K.UNIT_ON pg) [b] [d.writePart x.port.src (K.UNIT_ON pg) on (d.writeRule x.port.src (K.UNIT_ON pg) on),
         d.writePart x.port.src (K.MARGIN_STATE pg) mg (d.writeRule x.port.src (K.MARGIN_STATE pg) mg)]) := by
  have hunit : pageUnit (d.pageOf x.port) = d.pageOf x.port := if_pos hpg
  rw [pmbOperate, pmbWrite_taken _ h]
  simp only [pageKind_of_rail hpg, hunit]

theorem pmbOperate_of_unit (h : d.takesWrite x 0x01 [b]) (hff : pageKind (d.pageOf x.port) ≠ .ff)
    (hmp : pageKind (d.pageOf x.port) ≠ .mp) :
    d.pmbOperate x b = d.pmbSet x.port.src (K.UNIT_ON (d.pageOf x.port)) [BitVec.ofNat 8 (b.toNat / 128)] := by
  rw [pmbOperate, pmbWrite_taken _ h]
  cases hk : pageKind (d.pageOf x.port) with
  | ff => exact absurd hk hff
  | mp => exact absurd hk hmp
  | bk | ldo | ph => simp only [hk]

/-! Commands that no rule refuses: entered, noted, and recorded where `OP_RECORD` asks for it (R376, R378). -/

/-- The device with an operation of level 1 entered as done and accounted for. -/
def noted (d : Dev) (p : Src) (key : Nat) (first : List Byte) : Dev :=
  let m := (d.enterWith p key .done .none first).noteLast p d.osnNext .none
  if d.flag K.OP_RECORD = true then m.recordOp p 0x40 d.osnNext key .none first else m

theorem operate_done (d : Dev) (p : Src) (key : Nat) (first : List Byte) (go no : Nat → Dev → Dev) :
    d.operate p key first 1 false .none go no = go d.osnNext (d.noted p key first) := by
  simp [operate, recordsWrite, noted]

theorem noteLast_pages (d : Dev) (p : Src) (osn : Nat) (r : Reason) : (d.noteLast p osn r).pages = d.pages := by cases p <;> rfl

theorem recordOp_pages (d : Dev) (p : Src) (code osn key : Nat) (r : Reason) (first : List Byte) :
    (d.recordOp p code osn key r first).pages = d.pages := by
  unfold recordOp
  split
  · rfl
  · exact causeArg_pages ..

theorem noted_pages (d : Dev) (p : Src) (key : Nat) (first : List Byte) : (d.noted p key first).pages = d.pages := by
  unfold noted
  split
  · exact (recordOp_pages ..).trans (noteLast_pages ..)
  · exact noteLast_pages ..

/-! CLEAR_FAULTS and the writes of status (R352–R354). -/

theorem clearPage_of_unit {m : Dev} {pg : Nat} (t : TwPort) (hm : m.pages = d.pages) (h : pg < 18) :
    m.clearPage t pg =
      (({ m with pages := vmod d.pages (pageIx pg) (fun _ => {}) } : Dev).modTw t (fun y => { y with cml := 0 })).atEdge
        (clearKey pg) (.num 1) := by
  rw [← hm]
  exact if_pos h

theorem clearPage_of_phase {m : Dev} {pg : Nat} (t : TwPort) (hm : m.pages = d.pages) (h : 18 ≤ pg) :
    m.clearPage t pg = ({ m with pages := vmod d.pages (pageIx pg) (fun _ => {}) } : Dev).modTw t (fun y => { y with cml := 0 }) := by
  rw [← hm]
  exact if_neg (Nat.not_lt.mpr h)

theorem pmbClearFaults_taken (h : d.takesWrite x 0x03 []) :
    d.pmbClearFaults x =
      (((if pageKind (d.pageOf x.port) = .ff then allPages else [d.pageOf x.port]).foldl (fun e g => e.clearPage x.port g)
        (d.noted x.port.src (if d.pageOf x.port < 18 then clearKey (d.pageOf x.port) else pageKey x.port) [])).alertRelease).answering
          .ack :=
  (pmbWrite_taken _ h).trans (congrArg (answering · .ack) (operate_done ..))

theorem pmbClearFaults_of_unit (h : d.takesWrite x 0x03 []) (hpg : d.pageOf x.port < 18) :
    d.pmbClearFaults x =
      (((d.noted x.port.src (clearKey (d.pageOf x.port)) []).clearPage x.port (d.pageOf x.port)).alertRelease).answering .ack := by
  have hff : pageKind (d.pageOf x.port) ≠ .ff := mt pageKind_eq_ff_iff.mp (by omega)
  rw [pmbClearFaults_taken h, if_neg hff, if_pos hpg]
  rfl

theorem pmbClearFaults_of_phase (h : d.takesWrite x 0x03 []) (hunit : 18 ≤ d.pageOf x.port) (hpg : d.pageOf x.port < 64) :
    d.pmbClearFaults x =
      (((d.noted x.port.src (pageKey x.port) []).clearPage x.port (d.pageOf x.port)).alertRelease).answering .ack := by
  have hff : pageKind (d.pageOf x.port) ≠ .ff := mt pageKind_eq_ff_iff.mp (by omega)
  rw [pmbClearFaults_taken h, if_neg hff, if_neg (Nat.not_lt.mpr hunit)]
  rfl

theorem pmbClearFaults_of_all (h : d.takesWrite x 0x03 []) (hpg : 64 ≤ d.pageOf x.port) :
    d.pmbClearFaults x =
      ((allPages.foldl (fun e g => e.clearPage x.port g) (d.noted x.port.src (pageKey x.port) [])).alertRelease).answering .ack := by
  rw [pmbClearFaults_taken h, if_pos (pageKind_eq_ff_iff.mpr hpg), if_neg (by omega)]

theorem pmbStatus_write {reg : StReg} (h : d.takesWrite x code [b]) :
    d.pmbStatus x code reg (some b) =
      ((d.noted x.port.src (pageKey x.port) [b]).statusClear (d.pageOf x.port) reg b).answering .ack :=
  (pmbWrite_taken _ h).trans (congrArg (answering · .ack) (operate_done ..))

theorem pmbStatusCml_write (h : d.takesWrite x 0x7E [b]) :
    d.pmbStatusCml x (some b) =
      ((d.noted x.port.src (pageKey x.port) [b]).modTw x.port
        (fun t => { t with cml := Int.ofNat (t.cml.toNat - (t.cml.toNat &&& b.toNat)) })).answering .ack :=
  (pmbWrite_taken _ h).trans (congrArg (answering · .ack) (operate_done ..))

/-! OBJ_SELECT (R357). -/

theorem objSelect_of_key {i j k : Byte} (h : d.takesWrite x 0xD0 [3, i, j, k]) :
    d.objSelect x [i, j, k] =
      ((d.enter x.port.src (pageKey x.port) .done .none).modTw x.port
        (fun t => { t with sel := (i.toNat + 256 * j.toNat) * 256 + k.toNat })).answering .ack :=
  pmbWrite_taken _ h

theorem objSelect_of_other_length (h : d.takesWrite x 0xD0 (leBytes 1 bs.length ++ bs)) (hsome : bs ≠ []) (hlen : bs.length ≠ 3) :
    d.objSelect x bs = d.pmbBad x.port 6 6 (if bs.length < 3 then .ack else .nack) := by
  have hwrite : d.objSelect x bs =
      d.pmbWrite x 0xD0 (block bs) (fun e => e.pmbBad x.port 6 6 (if bs.length < 3 then .ack else .nack)) := by
    unfold objSelect
    split
    · exact absurd rfl hsome
    · exact absurd rfl hlen
    · rfl
  exact hwrite.trans (pmbWrite_taken _ h)

end Dev

/-! The commands as the operations they are. -/

theorem exec_pmbNumber {c : Instr} {x : TwFrame} {code : Nat} {key : Nat → Nat} {v : Int} (s : State)
    (h : pmbNumberOf c = some (x, code, key, v)) :
    ∃ w : BitVec 16, pmbWriteFrame c = some (x, code, leBytes 2 w.toNat) ∧
      exec c s = .next (s.withDev (s.dev.heard.pmbNumber x code key w v)) := by
  unfold pmbNumberOf at h
  split at h <;> cases h <;> exact ⟨_, rfl, rfl⟩

theorem exec_pmbOperate {c : Instr} {x : TwFrame} {b : Byte} (s : State) (h : c = .pmbOperation x (some b) ∨ c = .pmbOperationMargin x b) :
    exec c s = .next (s.withDev (s.dev.heard.pmbOperate x b)) := by
  rcases h with rfl | rfl
  · exact exec_pmbOperation ..
  · exact exec_pmbOperationMargin ..

/-- A write of OBJ_DATA reads no log, and meets no error of it. -/
theorem exec_objData_write (s : State) (x : TwFrame) (bs : List Byte) :
    exec (.objData x (some bs)) s = .next (s.withDev (s.dev.heard.pmbWrite x 0xD1 (block bs) (fun d => d.pmbSet x.port.src (d.tw x.port).sel bs))) :=
  (exec_objData s x (some bs)).trans (next_dev (if_pos rfl))

/-- A number whose frame the port takes, as the port takes it. -/
theorem exec_pmbNumber_taken {c : Instr} {x : TwFrame} {code : Nat} {key : Nat → Nat} {v : Int} {s : State}
    (h : pmbNumberOf c = some (x, code, key, v))
    (hframe : ∃ bs, pmbWriteFrame c = some (x, code, bs) ∧ s.dev.heard.takesWrite x code bs) :
    ∃ w : BitVec 16, s.dev.heard.takesWrite x code (leBytes 2 w.toNat) ∧
      exec c s = .next (s.withDev (s.dev.heard.pmbNumber x code key w v)) := by
  obtain ⟨w, hw, hexec⟩ := exec_pmbNumber s h
  obtain ⟨bs, hbs, htake⟩ := hframe
  cases hw.symm.trans hbs
  exact ⟨w, htake, hexec⟩

/-- A command that its own rule decides, at a port that takes it. -/
theorem pmbWrite_set {d : Dev} {x : TwFrame} {code key : Nat} {bs cs : List Byte} {f : Dev → Dev} (h : d.takesWrite x code bs)
    (hset : f d = d.pmbSet x.port.src key cs) (hkey : actOf key ≠ .bulkLoad) :
    d.pmbWrite x code bs f = d.pmbDecided x.port key cs (d.writeRule x.port.src key cs) :=
  (pmbWrite_taken f h).trans (hset.trans (pmbSet_eq_decided (gate_of_takesWrite h) hkey))

/-- OPERATION makes one write on the pages of one unit: that of `UNIT_ON` (R350). -/
theorem pmbObjectOf_operation {d : Dev} {x y : TwFrame} {b : Byte} {code : Nat} {w : HostWrite}
    (h : pmbObjectOf d (.pmbOperation y (some b)) = some (x, code, w)) :
    pageKind (d.pageOf y.port) ≠ .ff ∧ pageKind (d.pageOf y.port) ≠ .mp ∧ x = y ∧
      w = ⟨y.port.src, K.UNIT_ON (d.pageOf y.port), [BitVec.ofNat 8 (b.toNat / 128)]⟩ := by
  unfold pmbObjectOf at h
  dsimp only at h
  split at h
  · cases h
  · cases h
  next hff hmp => cases h; exact ⟨hff, hmp, rfl, rfl⟩

/-- OPERATION on a page of one unit is the write of `UNIT_ON` of the unit. -/
theorem exec_pmbOperation_unit {c : Instr} {x y : TwFrame} {code : Nat} {w : HostWrite} {b : Byte} {s : State}
    (hc : c = .pmbOperation y (some b) ∨ c = .pmbOperationMargin y b)
    (hobj : pmbObjectOf s.dev.heard (.pmbOperation y (some b)) = some (x, code, w)) (h : s.dev.heard.takesWrite y 0x01 [b]) :
    w.port = x.port.src ∧
      exec c s = .next (s.withDev (s.dev.heard.pmbDecided x.port w.key w.bytes (s.dev.heard.writeRule x.port.src w.key w.bytes))) := by
  obtain ⟨hff, hmp, rfl, rfl⟩ := pmbObjectOf_operation hobj
  have hpage : s.dev.heard.pageOf x.port < 64 := Nat.lt_of_not_le (mt pageKind_eq_ff_iff.mpr hff)
  exact ⟨rfl, (exec_pmbOperate s hc).trans (next_dev ((pmbOperate_of_unit h hff hmp).trans
    (pmbSet_eq_decided (gate_of_takesWrite h) (actOf_unitOn ⟨_, hpage⟩))))⟩

/-- A command that writes one object, at a port that takes it, is the write of that object as its rule decides. -/
theorem exec_pmbObject {c : Instr} {x : TwFrame} {code : Nat} {w : HostWrite} {s : State}
    (hobj : pmbObjectOf s.dev.heard c = some (x, code, w))
    (hframe : ∃ bs, pmbWriteFrame c = some (x, code, bs) ∧ s.dev.heard.takesWrite x code bs) :
    w.port = x.port.src ∧
      exec c s = .next (s.withDev (s.dev.heard.pmbDecided x.port w.key w.bytes (s.dev.heard.writeRule x.port.src w.key w.bytes))) := by
  obtain ⟨bs, hbs, htake⟩ := hframe
  have hrow := hobj
  unfold pmbObjectOf at hobj
  dsimp only at hobj
  split at hobj
  next =>
    cases hobj; cases hbs
    exact ⟨rfl, (exec_pmbPage ..).trans (next_dev (pmbWrite_set htake rfl (actOf_pageKey _)))⟩
  next y b =>
    cases hbs
    exact exec_pmbOperation_unit (.inl rfl) hrow htake
  next y b =>
    cases hbs
    exact exec_pmbOperation_unit (.inr rfl) hrow htake
  next =>
    cases hobj; cases hbs
    exact ⟨rfl, (exec_pmbWriteProtect ..).trans (next_dev (pmbWrite_set (key := K.PMB_WRITE_PROTECT) htake rfl (by decide)))⟩
  next =>
    cases hobj; cases hbs
    exact ⟨rfl, (exec_pmbStoreUserAll ..).trans (next_dev (pmbWrite_set (key := K.STORE_PARAMETERS) htake rfl (by decide)))⟩
  next =>
    cases hobj; cases hbs
    exact ⟨rfl, (exec_pmbRestoreUserAll ..).trans (next_dev (pmbWrite_set (key := K.RESTORE_DEFAULT_PARAMETERS) htake rfl (by decide)))⟩
  next =>
    split at hobj
    · cases hobj
    next hkey =>
      cases hobj; cases hbs
      exact ⟨rfl, (exec_objData_write ..).trans (next_dev (pmbWrite_set htake rfl hkey))⟩
  next =>
    split at hobj
    next y code' key v hnum =>
      split at hobj
      · cases hobj
      next hv =>
        cases hobj
        obtain ⟨hpage, hword⟩ := not_or.mp hv
        obtain ⟨u, htake, hexec⟩ := exec_pmbNumber_taken hnum ⟨bs, hbs, htake⟩
        exact ⟨rfl, hexec.trans (next_dev ((pmbNumber_of_unit htake (Nat.lt_of_not_le (mt pageKind_eq_ff_iff.mpr hpage))).trans
          (congrArg _ (numRule_of_word hword))))⟩
    · cases hobj

/-- Settles O54: a write of one object is `pmbDecided` by its rule, a number outside 16 bits by `numRule`. -/
theorem pmbusWritesComplete : Obligations.PmbusWritesComplete := by
  unfold Obligations.PmbusWritesComplete
  refine ⟨fun s c x code w => ?_, fun s c x code key v => ?_⟩
  · intro d r first entered m hobj hframe
    obtain ⟨p, k, bs⟩ := w
    obtain ⟨rfl, hexec⟩ := exec_pmbObject hobj hframe
    refine ⟨fun hr => hexec.trans (next_dev ?_), fun hr => hexec.trans (next_dev (pmbDecided_refused _ _ _ _ hr))⟩
    exact (congrArg _ hr).trans (pmbDecided_accepted ..)
  · intro d k r m hnum hframe hpage hv
    obtain ⟨u, htake, hexec⟩ := exec_pmbNumber_taken hnum hframe
    have hr : r ≠ .none := by
      intro h
      have hrange : (if d.writeRule x.port.src k (leBytes 2 0) = .access then Reason.access else .range) = .none := h
      split at hrange <;> cases hrange
    refine hexec.trans (next_dev ?_)
    rw [pmbNumber_of_unit htake hpage, numRule_of_wide hv]
    exact pmbDecided_refused _ _ _ _ hr

/-- Settles O55: a number and OPERATION are their parts (`pmbNumber_of_all`, `pmbOperate_of_rail`, `pmbOperate_of_all`), the other
commands the operation that they enter as done (`noted`), and OBJ_SELECT of a wrong length none. -/
theorem pmbusGroupWritesComplete : Obligations.PmbusGroupWritesComplete := by
  unfold Obligations.PmbusGroupWritesComplete
  intro s x d p pg noted
  have kept : ∀ (key : Nat) (first : List Byte), (noted key first).pages = d.pages := fun key first => noted_pages d p key first
  refine ⟨fun c code key v hnum hframe hpg => ?_, fun c b hc htake hpg => ?_, fun c b hc htake hpg => ?_, fun htake hpg => ?_,
    fun htake hunit hpg => ?_, fun htake hpg => ?_, fun c code r b hc htake => ?_, fun b htake => ?_, fun i j k htake => ?_,
    fun bs hsome hlen htake => ?_⟩
  · obtain ⟨u, htake, hexec⟩ := exec_pmbNumber_taken hnum hframe
    exact hexec.trans (next_dev (pmbNumber_of_all htake hpg))
  · exact (exec_pmbOperate s hc).trans (next_dev (pmbOperate_of_rail htake hpg))
  · exact (exec_pmbOperate s hc).trans (next_dev (pmbOperate_of_all htake hpg))
  · exact (exec_pmbClearFaults s x).trans (next_dev ((pmbClearFaults_of_unit htake hpg).trans
      (congrArg (fun e => e.alertRelease.answering .ack) (clearPage_of_unit _ (kept ..) hpg))))
  · exact (exec_pmbClearFaults s x).trans (next_dev ((pmbClearFaults_of_phase htake hunit hpg).trans
      (congrArg (fun e => e.alertRelease.answering .ack) (clearPage_of_phase _ (kept ..) hunit))))
  · exact (exec_pmbClearFaults s x).trans (next_dev (pmbClearFaults_of_all htake hpg))
  · have hexec : exec c s = .next (s.withDev (d.pmbStatus x code r (some b))) := by
      simp only [List.mem_cons, Prod.mk.injEq, List.not_mem_nil, or_false] at hc
      rcases hc with ⟨rfl, rfl, rfl⟩ | ⟨rfl, rfl, rfl⟩ | ⟨rfl, rfl, rfl⟩ | ⟨rfl, rfl, rfl⟩ | ⟨rfl, rfl, rfl⟩
      · exact exec_pmbStatusVout ..
      · exact exec_pmbStatusIout ..
      · exact exec_pmbStatusInput ..
      · exact exec_pmbStatusTemperature ..
      · exact exec_pmbStatusMfrSpecific ..
    exact hexec.trans (next_dev (pmbStatus_write htake))
  · exact (exec_pmbStatusCml ..).trans (next_dev (pmbStatusCml_write htake))
  · exact (exec_objSelect ..).trans (next_dev (objSelect_of_key htake))
  · exact (exec_objSelect ..).trans (next_dev (objSelect_of_other_length htake hsome hlen))

end Sys2Proof.Machine
end

section
/-! PROOFS. The statement of 07_supervision_and_fault_handling.md on the responses to a fault (R220–R222, R241, R245). -/

namespace Sys2Proof.Machine

open Dev

namespace Dev

/-! What the turning off of a unit leaves alone. -/

/-- Beside `OnlyStops`, for the fault status and the events: the power state, the sequencer and the objects from index 2400h on stay,
and the causes that wait go on waiting. Below that index an output that stops writes its `TON_LAST`. -/
structure Quiets (d e : Dev) : Prop where
  power : e.power = d.power
  seqr : e.seqr = d.seqr
  num : ∀ k, 0x240000 ≤ k → e.num k = d.num k
  posts : ∀ src code, d.posts src code → e.posts src code

theorem Quiets.refl (d : Dev) : Quiets d d := ⟨rfl, rfl, fun _ _ => rfl, fun _ _ h => h⟩

theorem Quiets.trans {a b c : Dev} (h : Quiets a b) (g : Quiets b c) : Quiets a c :=
  ⟨g.power.trans h.power, g.seqr.trans h.seqr, fun k hk => (g.num k hk).trans (h.num k hk),
    fun src code hp => g.posts src code (h.posts src code hp)⟩

/-- Steps over a list, each of which only stops outputs. -/
theorem Quiets.foldl {d : Dev} {β : Type} (f : Dev → β → Dev) (l : List β) (h : ∀ e, ∀ b ∈ l, Quiets e (f e b)) :
    Quiets d (l.foldl f d) :=
  List.foldlRecOn (motive := Quiets d) l f (.refl d) fun e he b hb => he.trans (h e b hb)

theorem quiets_modPh (d : Dev) (p : Nat) (f : Phase → Phase) : Quiets d (d.modPh p f) := ⟨rfl, rfl, fun _ _ => rfl, fun _ _ h => h⟩
theorem quiets_modRl (d : Dev) (n : Nat) (f : Rail → Rail) : Quiets d (d.modRl n f) := ⟨rfl, rfl, fun _ _ => rfl, fun _ _ h => h⟩
theorem quiets_modBk (d : Dev) (b : Nat) (f : Buck → Buck) : Quiets d (d.modBk b f) := ⟨rfl, rfl, fun _ _ => rfl, fun _ _ h => h⟩
theorem quiets_modLd (d : Dev) (l : Nat) (f : Ldo → Ldo) : Quiets d (d.modLd l f) := ⟨rfl, rfl, fun _ _ => rfl, fun _ _ h => h⟩

theorem quiets_cause (d : Dev) (src code : Nat) : Quiets d (d.cause src code) :=
  ⟨cause_power .., cause_seqr .., fun k _ => num_cause d src code k, fun _ _ h => causeArg_keeps d src code 0 [] h⟩

theorem quiets_cutOn (d : Dev) {p : Nat} (hp : p < 32) : Quiets d (d.cutOn p) := by
  unfold cutOn
  split
  · exact ⟨rfl, rfl, fun k hk => num_setNum_other _ _ (by simp only [K.TON_LAST]; omega), fun _ _ h => h⟩
  · exact .refl d

theorem quiets_toMid (d : Dev) {p : Nat} (hp : p < 32) : Quiets d (d.toMid p) := (quiets_cutOn d hp).trans (quiets_modPh ..)

theorem quiets_parkPhase (d : Dev) {p : Nat} (hp : p < 32) : Quiets d (d.parkPhase p) := (quiets_toMid d hp).trans (quiets_modPh ..)

theorem quiets_disablePhase (d : Dev) {p : Nat} (code : Nat) (hp : p < 32) : Quiets d (d.disablePhase p code) :=
  ((quiets_toMid d hp).trans (quiets_modPh ..)).trans (quiets_cause ..)

theorem quiets_gloveLeave (d : Dev) (n : Nat) : Quiets d (d.gloveLeave n) := by
  unfold gloveLeave
  split
  · exact (quiets_modRl ..).trans (quiets_cause ..)
  · exact .refl d

theorem lt_of_mem_railPhases {d : Dev} {n p : Nat} (h : p ∈ d.railPhases n) : p < 32 := List.mem_range.mp (List.mem_filter.mp h).1

theorem quiets_railMid (d : Dev) (n : Nat) : Quiets d (d.railMid n) := by
  refine .foldl _ _ fun e p hp => ?_
  split
  · exact .refl e
  · exact quiets_disablePhase e 1 (lt_of_mem_railPhases hp)

theorem quiets_hardStop (d : Dev) (u : Nat) : Quiets d (d.hardStop u) := by
  unfold hardStop
  split
  · exact quiets_railMid d u
  · split
    · exact quiets_modBk ..
    · exact quiets_modLd ..

/-- A unit goes off by the write of its `UNIT_ON`; what follows only stops outputs. -/
theorem quiets_unitOff (d : Dev) (u : Nat) : Quiets (d.setNum (K.UNIT_ON u) 0) (d.unitOff u) := by
  unfold unitOff
  dsimp only
  split
  · refine ((Quiets.foldl parkPhase _ fun e p hp => ?_).trans (quiets_gloveLeave _ u)).trans (quiets_modRl ..)
    exact quiets_parkPhase e (lt_of_mem_railPhases hp)
  · split
    · exact quiets_modBk ..
    · exact quiets_modLd ..

/-! Where the fault status of a unit stands. -/

theorem faultKey_bounds {u : Nat} (hu : u < 18) : 0x240000 ≤ faultKey u ∧ faultKey u < K.UNIT_ON 0 := by
  unfold faultKey
  simp only [K.FAULT_STATUS, K.BK_FAULT_STATUS, K.LDO_FAULT_STATUS, K.UNIT_ON]
  split
  · omega
  · split <;> omega

theorem unitOn_above (u : Nat) : 0x240000 ≤ K.UNIT_ON u := by simp only [K.UNIT_ON]; omega

theorem faultKey_ne_unitOn {u : Nat} (hu : u < 18) : faultKey u ≠ K.UNIT_ON u := by
  have := (faultKey_bounds hu).2
  simp only [K.UNIT_ON] at this ⊢
  omega

theorem faultKey_ne_faultGroup {u : Nat} (hu : u < 18) : faultKey u ≠ K.FAULT_GROUP u := by
  have := (faultKey_bounds hu).2
  simp only [K.UNIT_ON, K.FAULT_GROUP] at this ⊢
  omega

/-! A unit that goes off. -/

variable {d : Dev} {u : Nat}

theorem unitOff_unitOn (d : Dev) (u : Nat) : (d.unitOff u).unitOn u = false := by
  have hnum : (d.unitOff u).num (K.UNIT_ON u) = 0 :=
    ((quiets_unitOff d u).num _ (unitOn_above u)).trans (num_setNum_self ..)
  simp [unitOn, flag, hnum]

theorem unitOff_num_other {k : Nat} (hk : 0x240000 ≤ k) (h : k ≠ K.UNIT_ON u) : (d.unitOff u).num k = d.num k :=
  ((quiets_unitOff d u).num k hk).trans (num_setNum_other _ _ h)

theorem unitOff_faultBit (hu : u < 18) (i : Nat) : (d.unitOff u).bit (faultKey u) i = d.bit (faultKey u) i :=
  congrArg (bitAt · i) (unitOff_num_other (faultKey_bounds hu).1 (faultKey_ne_unitOn hu))

theorem unitOff_seqr (d : Dev) (u : Nat) : (d.unitOff u).seqr = d.seqr := (quiets_unitOff d u).seqr

theorem unitOff_posts {src code : Nat} (h : d.posts src code) : (d.unitOff u).posts src code := (quiets_unitOff d u).posts src code h

theorem unitOn_putFault (hu : u < 18) (i : Nat) (b : Bool) : (d.putBit (faultKey u) i b).unitOn u = d.unitOn u :=
  unitOn_congr (num_putBit_other _ _ _ (faultKey_ne_unitOn hu).symm)

/-! The record of a fault kind. -/

theorem quiets_markKind (d : Dev) (u k : Nat) (b : Bool) : Quiets d (d.markKind u k b) := by
  unfold markKind
  dsimp only
  split
  · exact quiets_modRl ..
  · split
    · exact quiets_modBk ..
    · exact quiets_modLd ..

/-- A kind is recorded with its event, and no response has run (R220). -/
def recorded (d : Dev) (u k : Nat) : Dev := ((d.putBit (faultKey u) (k - 1) true).markKind u k true).cause (unitSrc u) k

theorem quiets_recorded (d : Dev) (u k : Nat) : Quiets (d.putBit (faultKey u) (k - 1) true) (d.recorded u k) :=
  (quiets_markKind ..).trans (quiets_cause ..)

theorem recorded_num_other {k key : Nat} (hkey : 0x240000 ≤ key) (h : key ≠ faultKey u) : (d.recorded u k).num key = d.num key :=
  ((quiets_recorded d u k).num key hkey).trans (num_putBit_other _ _ _ h)

theorem recorded_faultNum (d : Dev) (k : Nat) (hu : u < 18) :
    (d.recorded u k).num (faultKey u) = Machine.putBit (d.num (faultKey u)) (k - 1) true :=
  ((quiets_recorded d u k).num _ (faultKey_bounds hu).1).trans (num_putBit_self ..)

theorem recorded_faultBit_self (d : Dev) (k : Nat) (hu : u < 18) : (d.recorded u k).bit (faultKey u) (k - 1) = true := by
  rw [bit, recorded_faultNum d k hu, bitAt_putBit_self]

theorem recorded_faultBit_other {k i : Nat} (hu : u < 18) (h : i ≠ k - 1) :
    (d.recorded u k).bit (faultKey u) i = d.bit (faultKey u) i := by
  rw [bit, recorded_faultNum d k hu, bitAt_putBit_other _ _ h, bit]

theorem recorded_power (d : Dev) (u k : Nat) : (d.recorded u k).power = d.power := (quiets_recorded d u k).power

theorem recorded_seqr (d : Dev) (u k : Nat) : (d.recorded u k).seqr = d.seqr := (quiets_recorded d u k).seqr

theorem cause_posts (src code : Nat) (h : d.power ≠ .dome) : (d.cause src code).posts src code := (causeArg_awake d src code 0 [] h).2

theorem recorded_posts (k : Nat) (h : d.power ≠ .dome) : (d.recorded u k).posts (unitSrc u) k :=
  cause_posts _ _ (by rwa [(quiets_markKind ..).power])

/-! What a trip comes to (R221, R222). -/

/-- No latch, no pending retry and no response that waits for the supervisor holds the unit. -/
theorem rankNow_of_free (hlate : ∀ e ∈ d.lateResp, e.1 ≠ u) (h15 : d.bit (faultKey u) 15 = false)
    (h14 : d.bit (faultKey u) 14 = false) : d.rankNow u = 0 := by
  have hnone : d.lateResp.filter (fun e => e.1 == u) = [] := List.filter_eq_nil_iff.mpr fun e he => by simpa using hlate e he
  simp [rankNow, retrying, hnone, h15, h14]

theorem persists_iff {k : Nat} : d.persists u k = true ↔ d.response u k = 0 ∧ (d.presentKinds u).testBit (k - 1) = true := by
  simp [persists]

theorem topResponse_of_rank {k : Nat} (h : 0 < respRank (d.response u k)) : d.topResponse u [k] = d.response u k := if_pos h

theorem trip_of_persists {k : Nat} (h : d.response u k = 0 ∧ (d.presentKinds u).testBit (k - 1) = true) : d.trip u k = d := by
  simp [trip, tripList, persists_iff.mpr h]

theorem trip_of_record {k : Nat} (hr : d.response u k = 0) (hnew : (d.presentKinds u).testBit (k - 1) = false) :
    d.trip u k = (d.recorded u k).cause (unitSrc u) 0x20 := by
  have hp : d.persists u k = false := by simp [persists, hnew]
  simp [trip, tripList, hp, topResponse, hr, recorded]

/-- A kind that is not only recorded stops a free unit and runs its response. -/
theorem trip_of_response {k : Nat} (hrank : 0 < respRank (d.response u k)) (hfree : d.rankNow u = 0) (hsup : d.supRuns = true) :
    d.trip u k = ((d.recorded u k).hardStop u).respond u (d.response u k) := by
  have hne : d.response u k ≠ 0 := fun h => by rw [h] at hrank; exact absurd hrank (by decide)
  have hp : d.persists u k = false := by simp [persists, hne]
  have htop := topResponse_of_rank hrank
  have hlt : ¬ respRank (d.response u k) = 0 := Nat.ne_of_gt hrank
  simp [trip, tripList, hp, htop, hne, hfree, hsup, hlt, recorded]

/-! The record, once the unit is stopped and the response's event waits. -/

/-- The device as a response of a code finds it before the enable goes off: the kind recorded, the outputs stopped, the event
committed. -/
def stopped (d : Dev) (u k code : Nat) : Dev := ((d.recorded u k).hardStop u).cause (unitSrc u) (0x20 + code)

theorem quiets_stopped (d : Dev) (u k code : Nat) : Quiets (d.recorded u k) (d.stopped u k code) :=
  (quiets_hardStop ..).trans (quiets_cause ..)

theorem stopped_posts_kind {k : Nat} (code : Nat) (h : d.power ≠ .dome) : (d.stopped u k code).posts (unitSrc u) k :=
  (quiets_stopped ..).posts _ _ (recorded_posts k h)

theorem stopped_posts_response (k code : Nat) (h : d.power ≠ .dome) : (d.stopped u k code).posts (unitSrc u) (0x20 + code) :=
  cause_posts _ _ (by rwa [(quiets_hardStop ..).power, recorded_power])

theorem stopped_seqr (d : Dev) (u k code : Nat) : (d.stopped u k code).seqr = d.seqr := (quiets_stopped ..).seqr.trans (recorded_seqr ..)

theorem stopped_faultBit (hu : u < 18) (k code i : Nat) : (d.stopped u k code).bit (faultKey u) i = (d.recorded u k).bit (faultKey u) i :=
  congrArg (bitAt · i) ((quiets_stopped ..).num _ (faultKey_bounds hu).1)

/-- The unit is off after a kind with a response: the kind's bit is set, and both events wait. -/
structure OffFor (u k code : Nat) (e : Dev) : Prop where
  kind : e.bit (faultKey u) (k - 1) = true
  off : e.unitOn u = false
  event : e.posts (unitSrc u) k
  response : e.posts (unitSrc u) (0x20 + code)

theorem offFor_stopped {k : Nat} (code : Nat) (hu : u < 18) (h : d.power ≠ .dome) : OffFor u k code ((d.stopped u k code).unitOff u) where
  kind := by rw [unitOff_faultBit hu, stopped_faultBit hu, recorded_faultBit_self d k hu]
  off := unitOff_unitOn ..
  event := unitOff_posts (stopped_posts_kind code h)
  response := unitOff_posts (stopped_posts_response k code h)

/-- Latches and retries stand above the kinds in the fault status. -/
theorem OffFor.putBit {k code i : Nat} {e : Dev} (h : OffFor u k code e) (hu : u < 18) (hi : k ≤ i) (hk : 1 ≤ k) (b : Bool) :
    OffFor u k code (e.putBit (faultKey u) i b) where
  kind := (bit_putBit_same e _ b (by omega)).trans h.kind
  off := (unitOn_putFault hu i b).trans h.off
  event := h.event
  response := h.response

theorem stoppedOff_faultBit {k i : Nat} (code : Nat) (hu : u < 18) (hk : 1 ≤ k) (hi : k ≤ i) :
    ((d.stopped u k code).unitOff u).bit (faultKey u) i = d.bit (faultKey u) i := by
  rw [unitOff_faultBit hu, stopped_faultBit hu, recorded_faultBit_other hu (by omega)]

theorem stoppedOff_seqr (d : Dev) (u k code : Nat) : ((d.stopped u k code).unitOff u).seqr = d.seqr :=
  (unitOff_seqr ..).trans (stopped_seqr ..)

/-- A unit is latched off, with no retry pending. -/
def latchOff (d : Dev) (u : Nat) : Dev := (d.putBit (faultKey u) 15 true).putBit (faultKey u) 14 false

theorem latchOff_latched (d : Dev) (u : Nat) : (d.latchOff u).bit (faultKey u) 15 = true :=
  (bit_putBit_same _ _ false (by decide)).trans (bit_putBit_self ..)

theorem latchOff_retrying (d : Dev) (u : Nat) : (d.latchOff u).bit (faultKey u) 14 = false := bit_putBit_self ..

theorem offFor_latchOff {k : Nat} (code : Nat) (hu : u < 18) (hk : 1 ≤ k) (hk9 : k ≤ 9) (h : d.power ≠ .dome) :
    OffFor u k code (((d.stopped u k code).unitOff u).latchOff u) :=
  ((offFor_stopped code hu h).putBit hu (by omega) hk true).putBit hu (by omega) hk false

theorem latchOff_seqr (d : Dev) (u : Nat) : (d.latchOff u).seqr = d.seqr := rfl

/-- A request of the fault program is one to the sequencer alone. -/
theorem OffFor.faultRequest {k code : Nat} {e : Dev} (h : OffFor u k code e) (groups : Nat) : OffFor u k code (e.faultRequest groups) :=
  ⟨h.kind, h.off, h.event, h.response⟩

theorem faultRequest_reqFault (d : Dev) (groups : Nat) : (d.faultRequest groups).seqr.reqFault = d.seqr.reqFault ||| groups := rfl

/-! The responses (R221). -/

theorem trip_of_latch {k : Nat} (hr : d.response u k = 1) (hfree : d.rankNow u = 0) (hsup : d.supRuns = true) :
    d.trip u k = ((d.stopped u k 1).unitOff u).latchOff u := by
  rw [trip_of_response (by rw [hr]; decide) hfree hsup, hr]
  rfl

theorem trip_of_retry {k : Nat} (hr : d.response u k = 2) (hfree : d.rankNow u = 0) (hsup : d.supRuns = true) :
    d.trip u k = ((d.stopped u k 2).unitOff u).putBit (faultKey u) 14 true := by
  rw [trip_of_response (by rw [hr]; decide) hfree hsup, hr]
  rfl

theorem trip_of_program {k : Nat} (hu : u < 18) (hr : d.response u k = 3) (hfree : d.rankNow u = 0) (hsup : d.supRuns = true) :
    d.trip u k = (((d.stopped u k 3).unitOff u).latchOff u).faultRequest (d.groupMask u) := by
  have hkey : 0x240000 ≤ K.FAULT_GROUP u := by simp only [K.FAULT_GROUP]; omega
  have hnum : ((d.recorded u k).hardStop u).num (K.FAULT_GROUP u) = d.num (K.FAULT_GROUP u) :=
    ((quiets_hardStop ..).num _ hkey).trans (recorded_num_other hkey (faultKey_ne_faultGroup hu).symm)
  have hmask : ((d.recorded u k).hardStop u).groupMask u = d.groupMask u := by rw [groupMask, nat, hnum, groupMask, nat]
  rw [trip_of_response (by rw [hr]; decide) hfree hsup, hr, ← hmask]
  rfl

end Dev

/-- Settles O19: a trip is the record of its kind (`recorded`), or that and its response on the stopped unit (`stopped`, `latchOff`). -/
theorem faultResponsesHold : Obligations.FaultResponsesHold := by
  unfold Obligations.FaultResponsesHold
  intro d u k hu hk hk9 hpower hsup hlate
  refine ⟨trip_of_persists, fun h15 h14 => ?_⟩
  have hfree : d.rankNow u = 0 := rankNow_of_free hlate h15 h14
  refine ⟨fun ⟨hr, hnew⟩ => ?_, fun hr => ?_, fun hr => ?_, fun hr => ?_⟩
  · have hawake : (d.recorded u k).power ≠ .dome := by rwa [recorded_power]
    rw [trip_of_record hr hnew]
    exact ⟨(congrArg (bitAt · _) (num_cause ..)).trans (recorded_faultBit_self d k hu),
      (quiets_cause ..).posts _ _ (recorded_posts k hpower), cause_posts _ _ hawake,
      (num_cause ..).trans (recorded_num_other (unitOn_above u) (faultKey_ne_unitOn hu).symm)⟩
  · have h := offFor_latchOff 1 hu hk hk9 hpower
    rw [trip_of_latch hr hfree hsup]
    exact ⟨h.kind, latchOff_latched .., latchOff_retrying .., h.off, h.event, h.response, (latchOff_seqr ..).trans (stoppedOff_seqr ..)⟩
  · have h := (offFor_stopped 2 hu hpower).putBit hu (i := 14) (by omega) hk true
    rw [trip_of_retry hr hfree hsup]
    have hlatch := (stoppedOff_faultBit 2 hu hk (i := 15) (by omega)).trans h15
    exact ⟨h.kind, (bit_putBit_same _ _ true (by decide)).trans hlatch, bit_putBit_self .., h.off, h.event, h.response,
      (putBit_seqr ..).trans (stoppedOff_seqr ..)⟩
  · have h := (offFor_latchOff 3 hu hk hk9 hpower).faultRequest (d.groupMask u)
    rw [trip_of_program hu hr hfree hsup]
    refine ⟨h.kind, (bit_faultRequest ..).trans (latchOff_latched ..), h.off, h.event, h.response, ?_⟩
    rw [faultRequest_reqFault, latchOff_seqr, stoppedOff_seqr]
    rfl

end Sys2Proof.Machine
end

section
/-! PROOFS. The statement of 07_supervision_and_fault_handling.md on the temperature histogram (R230). -/

namespace Sys2Proof.Machine

open Dev

/-! Bytes at an offset, and numbers as bytes (R372). -/

theorem slice_length (bs : List Byte) (off len : Nat) : (slice bs off len).length = len := by
  simp only [slice, List.length_append, List.length_take, List.length_drop, List.length_replicate]
  omega

theorem getElem_slice (bs : List Byte) (off : Nat) {len i : Nat} (h : i < len) : (slice bs off len)[i]?.getD 0 = bs[off + i]?.getD 0 := by
  have htaken : ((bs.drop off).take len).length = min len (bs.length - off) := by rw [List.length_take, List.length_drop]
  by_cases hi : off + i < bs.length
  · rw [slice, List.getElem?_append_left (by omega), List.getElem?_take_of_lt h, List.getElem?_drop]
  · rw [slice, List.getElem?_append_right (by omega), List.getElem?_replicate, if_pos (by omega), List.getElem?_eq_none (by omega)]
    rfl

/-- A slice is decided by the bytes it reads. -/
theorem slice_congr {bs cs : List Byte} {off off' len : Nat} (h : ∀ i < len, bs[off + i]?.getD 0 = cs[off' + i]?.getD 0) :
    slice bs off len = slice cs off' len := by
  refine List.ext_getElem (by rw [slice_length, slice_length]) fun i hi hi' => ?_
  have hlen : i < len := by rwa [slice_length] at hi
  have hread := ((getElem_slice bs off hlen).trans (h i hlen)).trans (getElem_slice cs off' hlen).symm
  rwa [List.getElem?_eq_getElem hi, List.getElem?_eq_getElem hi'] at hread

theorem slice_self (bs : List Byte) : slice bs 0 bs.length = bs := by
  rw [slice, List.drop_zero, List.take_length, Nat.sub_self, List.replicate_zero, List.append_nil]

theorem getElem_patch_inside (bs new : List Byte) (off : Nat) {i : Nat} (h : i < new.length) :
    (patch bs off new)[off + i]?.getD 0 = new[i]?.getD 0 := by
  have hl := slice_length bs 0 off
  have hi : off + i - (slice bs 0 off).length = i := by omega
  rw [patch, List.append_assoc, List.getElem?_append_right (by omega), hi, List.getElem?_append_left h]

theorem getElem_patch_outside (bs new : List Byte) {off i : Nat} (h : i < off ∨ off + new.length ≤ i) :
    (patch bs off new)[i]?.getD 0 = bs[i]?.getD 0 := by
  have hl := slice_length bs 0 off
  rw [patch]
  rcases h with h | h
  · rw [List.append_assoc, List.getElem?_append_left (by omega), getElem_slice _ _ h, Nat.zero_add]
  · have hlen : (slice bs 0 off ++ new).length = off + new.length := by rw [List.length_append, hl]
    rw [List.getElem?_append_right (by omega), hlen, List.getElem?_drop, Nat.add_sub_cancel' h]

/-- The bytes put at an offset read back from it. -/
theorem slice_patch_self (bs new : List Byte) (off : Nat) : slice (patch bs off new) off new.length = new :=
  (slice_congr fun i hi => (getElem_patch_inside bs new off hi).trans (by rw [Nat.zero_add])).trans (slice_self new)

/-- Bytes beside those that are put stay. -/
theorem slice_patch_other (bs new : List Byte) {off at_ len : Nat} (h : at_ + len ≤ off ∨ off + new.length ≤ at_) :
    slice (patch bs off new) at_ len = slice bs at_ len :=
  slice_congr fun _ hi => getElem_patch_outside bs new (by omega)

/-- A slice of a slice. -/
theorem slice_slice (bs : List Byte) {at_ len total : Nat} (h : at_ + len ≤ total) :
    slice (slice bs 0 total) at_ len = slice bs at_ len :=
  slice_congr fun i hi => (getElem_slice bs 0 (by omega)).trans (by rw [Nat.zero_add])

theorem leBytes_length (n : Nat) (v : Int) : (leBytes n v).length = n := by
  induction n generalizing v with
  | zero => rfl
  | succ n ih => simp [leBytes, ih]

/-- A number reads back from the bytes that have room for it. -/
theorem ofLe_leBytes (n : Nat) {v : Nat} (h : v < 256 ^ n) : ofLe (leBytes n v) = v := by
  induction n generalizing v with
  | zero =>
    have hzero : v = 0 := by simpa using h
    rw [hzero]
    rfl
  | succ n ih =>
    have hdiv : ((v : Int) / 256) = ((v / 256 : Nat) : Int) := by simp
    have hlow : (BitVec.ofInt 8 (v : Int)).toNat = v % 256 := by simp
    rw [leBytes, ofLe, hdiv, ih (by rw [Nat.pow_succ] at h; omega), hlow]
    omega

namespace Dev

/-! One minute of a group (R230). -/

/-- `TEMP_HIST` of a group with one more minute in the bin of its temperature. -/
def histCounted (d : Dev) (g : Nat) : Val :=
  let b := tempBinOf (d.num (K.SG_TEMP g))
  .bytes (patch (slice (d.obj (K.TEMP_HIST g)).bs 0 24) (4 * b) (leBytes 4 (satU 32 (d.tempBin g b + 1))))

theorem histCounted_bs (d : Dev) (g : Nat) :
    (d.histCounted g).bs = patch (slice (d.obj (K.TEMP_HIST g)).bs 0 24) (4 * tempBinOf (d.num (K.SG_TEMP g)))
      (leBytes 4 (satU 32 (d.tempBin g (tempBinOf (d.num (K.SG_TEMP g))) + 1))) := rfl

/-- The minute of one group: nothing, where it is not judged PRESENT. -/
def histMinute (d : Dev) (g : Nat) : Dev := if d.groupPresent g then d.setObj (K.TEMP_HIST g) (d.histCounted g) else d

theorem tempHistMinute_eq {d : Dev} (h : d.supRuns = true) : d.tempHistMinute = forUnits 8 (fun g e => e.histMinute g) d := if_pos h

/-- The groups below `n` have had their minute, and nothing else has changed. -/
structure Minuted (d : Dev) (n : Nat) (e : Dev) : Prop where
  rest : e = { d with objs := e.objs }
  counted : ∀ g < n, d.groupPresent g = true → e.obj (K.TEMP_HIST g) = d.histCounted g
  others : ∀ k, (∀ g < n, d.groupPresent g = true → k ≠ K.TEMP_HIST g) → e.obj k = d.obj k

variable {d e : Dev} {n g b : Nat}

theorem Minuted.present (h : Minuted d n e) (g : Nat) : e.groupPresent g = d.groupPresent g := by rw [h.rest]; rfl

/-- The minute of a group reads and writes what those before it have left alone. -/
theorem Minuted.histCounted_next (h : Minuted d n e) (hn : n < 8) : e.histCounted n = d.histCounted n := by
  have htemp : e.num (K.SG_TEMP n) = d.num (K.SG_TEMP n) :=
    congrArg Val.int (h.others _ fun g hg _ => by simp only [K.SG_TEMP, K.TEMP_HIST]; omega)
  have hhist : e.obj (K.TEMP_HIST n) = d.obj (K.TEMP_HIST n) := h.others _ fun g hg _ => by simp only [K.TEMP_HIST]; omega
  simp only [histCounted, tempBin, htemp, hhist]

theorem Minuted.succ (h : Minuted d n e) (hn : n < 8) : Minuted d (n + 1) (e.histMinute n) := by
  by_cases hp : d.groupPresent n = true
  · have hstep : e.histMinute n = e.setObj (K.TEMP_HIST n) (d.histCounted n) := by
      rw [histMinute, h.present, if_pos hp, h.histCounted_next hn]
    rw [hstep]
    refine ⟨?_, fun g hg hgp => ?_, fun k hk => ?_⟩
    · exact congrArg (fun x : Dev => x.setObj (K.TEMP_HIST n) (d.histCounted n)) h.rest
    · rcases Nat.lt_succ_iff_lt_or_eq.mp hg with hlt | rfl
      · rw [obj_setObj_other _ _ (by simp only [K.TEMP_HIST]; omega), h.counted g hlt hgp]
      · exact obj_setObj_self ..
    · rw [obj_setObj_other _ _ (hk n (by omega) hp)]
      exact h.others k fun g hg => hk g (by omega)
  · have hstep : e.histMinute n = e := by rw [histMinute, h.present, if_neg hp]
    rw [hstep]
    refine ⟨h.rest, fun g hg hgp => ?_, fun k hk => h.others k fun g hg => hk g (by omega)⟩
    rcases Nat.lt_succ_iff_lt_or_eq.mp hg with hlt | rfl
    · exact h.counted g hlt hgp
    · exact absurd hgp hp

theorem minuted_forUnits (d : Dev) : ∀ n ≤ 8, Minuted d n (forUnits n (fun g e => e.histMinute g) d)
  | 0, _ => ⟨rfl, fun _ hg => absurd hg (Nat.not_lt_zero _), fun _ _ => rfl⟩
  | n + 1, hn => by
    rw [forUnits_succ]
    exact (minuted_forUnits d n (by omega)).succ hn

theorem tempBin_of_counted (h : e.obj (K.TEMP_HIST g) = d.histCounted g) (hb : b < 5) (hmax : d.tempBin g b < 4294967295) :
    e.tempBin g b = d.tempBin g b + if b = tempBinOf (d.num (K.SG_TEMP g)) then 1 else 0 := by
  rw [tempBin, h, histCounted_bs]
  generalize tempBinOf (d.num (K.SG_TEMP g)) = c
  split
  · next hc =>
    subst hc
    have hsat : satU 32 ((d.tempBin g b : Int) + 1) = ((d.tempBin g b + 1 : Nat) : Int) := by
      simp only [satU, clampI]
      omega
    have hself := slice_patch_self (slice (d.obj (K.TEMP_HIST g)).bs 0 24) (leBytes 4 (satU 32 ((d.tempBin g b : Int) + 1))) (4 * b)
    rw [leBytes_length] at hself
    rw [hself, hsat, ofLe_leBytes 4 (by omega)]
  · next hc =>
    rw [slice_patch_other _ _ (by rw [leBytes_length]; omega), slice_slice _ (by omega)]
    rfl

end Dev

/-- Settles O22, by induction over the groups (`minuted_forUnits`). -/
theorem tempHistogramCounts : Obligations.TempHistogramCounts := by
  unfold Obligations.TempHistogramCounts
  intro s d hsup
  have h : Minuted d 8 d.tempHistMinute := tempHistMinute_eq hsup ▸ minuted_forUnits d 8 (Nat.le_refl 8)
  refine ⟨s.withDev d.tempHistMinute, exec_tempHistMinute s, congrArg s.withDev h.rest, fun g hg hp b hb hmax => ?_, h.others⟩
  exact tempBin_of_counted (h.counted g hg hp) hb hmax

end Sys2Proof.Machine
end

section
/-! PROOFS. The statement of 07_supervision_and_fault_handling.md on the trips of rails, bucks and LDOs (R210, R216–R218, R241, R245). -/

namespace Sys2Proof.Machine

open Dev

/-- The mask of the counted kinds of a rail has a place for each kind: OV, UV, OC, and the expiry that the Glove mode's cause names. -/
theorem railMask_bits (ov uv oc thr expired fb : Bool) :
    let m := 2 * b2n ov + 4 * b2n uv + 8 * b2n oc + 16 * b2n thr + 32 * b2n (expired && fb) + 64 * b2n (expired && !fb);
    m.testBit 1 = ov ∧ m.testBit 2 = uv ∧ m.testBit 3 = oc ∧ m.testBit (if fb then 5 else 6) = expired := by
  revert ov uv oc thr expired fb
  decide

/-- The mask of the counted kinds of a buck: OC, OV and UV, below the place of the thermal kind. -/
theorem buckMask_bits (oc ov uv : Bool) :
    let m := b2n oc + 2 * b2n ov + 4 * b2n uv;
    m.testBit 0 = oc ∧ m.testBit 1 = ov ∧ m.testBit 2 = uv ∧ 2 ^ 3 ||| m = 8 + m := by
  revert oc ov uv
  decide

/-- A flag in its place of a mask. -/
theorem mul_b2n (k : Nat) (b : Bool) : k * b2n b = if b then k else 0 := by
  cases b with
  | true => exact Nat.mul_one k
  | false => rfl

/-- A mask holds the bits it has. -/
theorem two_pow_or_of_testBit {m i : Nat} (h : m.testBit i = true) : 2 ^ i ||| m = m := by
  refine Nat.eq_of_testBit_eq fun j => ?_
  rw [Nat.testBit_or, Nat.testBit_two_pow]
  by_cases hj : i = j
  · rw [← hj, h, Bool.or_true]
  · simp [hj]

namespace Dev

variable {d : Dev} {n b l : Nat}

/-! The kinds that are due (R218, R217). -/

theorem countedKinds_bits (d : Dev) (n : Nat) :
    (d.countedKinds n).testBit 1 = (decide ((d.rl n).ovN ≥ d.num (K.OV_COUNT n)) && decide ((d.rl n).ovN > 0)) ∧
    (d.countedKinds n).testBit 2 = (decide ((d.rl n).uvN ≥ d.num (K.UV_COUNT n)) && decide ((d.rl n).uvN > 0)) ∧
    (d.countedKinds n).testBit 3 = (decide ((d.rl n).ocN ≥ d.num (K.OC_COUNT n)) && decide ((d.rl n).ocN > 0)) ∧
    (d.countedKinds n).testBit (if (d.rl n).gloveFb then 5 else 6) = ((d.rl n).glove && decide ((d.rl n).gloveLeft = 0)) :=
  railMask_bits ..

/-! The trips of a rail. -/

theorem tripDue_of_due {sub : Nat} (h : (d.rl n).due.testBit (sub - 1) = true) :
    d.tripDue n sub = (d.modRl n (fun r => { r with due := 0 })).tripKinds n (d.rl n).due := if_pos h

theorem tripDue_of_not_due {sub : Nat} (h : (d.rl n).due.testBit (sub - 1) = false) : d.tripDue n sub = d :=
  if_neg (ne_true_of_eq_false h)

/-- The expiry is that of the kind that holds the rail in Glove mode. -/
theorem gloveExpiry_of_glove (h : (d.rl n).glove = true) : d.gloveExpiry n = d.tripDue n ((if (d.rl n).gloveFb then 5 else 6) + 1) := by
  rw [gloveExpiry, if_pos h]
  cases (d.rl n).gloveFb <;> rfl

theorem gloveExpiry_of_not_due (h : (d.rl n).glove = false ∨ (d.rl n).due.testBit (if (d.rl n).gloveFb then 5 else 6) = false) :
    d.gloveExpiry n = d := by
  by_cases hg : (d.rl n).glove = true
  · rw [gloveExpiry_of_glove hg]
    exact tripDue_of_not_due (h.resolve_left (by simp [hg]))
  · exact if_neg hg

theorem gloveExit_of_stay (h : (d.rl n).glove = false ∨ (d.rl n).gloveClear < d.num (K.GLOVE_RECOVER n)) : d.gloveExit n = d := by
  unfold gloveExit
  split
  · next hclear =>
    have hge : d.num (K.GLOVE_RECOVER n) ≤ (d.rl n).gloveClear := of_decide_eq_true hclear
    exact if_neg (by simpa using h.resolve_right (by omega))
  · rfl

theorem gloveExit_of_clear (hg : (d.rl n).glove = true) (h : d.nat (K.GLOVE_RECOVER n) ≤ (d.rl n).gloveClear) :
    d.gloveExit n =
      (d.modRl n (fun r => { r with glove := false, gloveLeft := 0, gloveFb := false, gloveClear := 0, due := r.due &&& 0x19F })).cause
        (32 + n) 0x12 := by
  have hge : d.num (K.GLOVE_RECOVER n) ≤ (d.rl n).gloveClear := by
    rw [nat] at h
    omega
  rw [gloveExit, if_pos (decide_eq_true hge), gloveLeave, if_pos hg]

theorem senseTestDue_of_not_sensed (h : d.unitOn n = false ∨ d.verdict n = 2 ∨ d.supRuns = false ∨ d.ticking = false) :
    d.senseTestDue n = d :=
  if_neg (by rcases h with h | h | h | h <;> simp [h])

theorem senseTestDue_of_sensed (hon : d.unitOn n = true) (hv : d.verdict n ≠ 2) (hsup : d.supRuns = true) (ht : d.ticking = true) :
    d.senseTestDue n = d.modRl n (fun r => { r with testDue := true }) :=
  if_pos (by simp [hon, hv, hsup, ht])

/-! The trips of a buck (R241). -/

theorem buckDue_bits (d : Dev) (b : Nat) :
    (d.buckDue b).testBit 0 = (decide ((d.bk b).ocN > 0) && decide (((d.bk b).ocN : Int) ≥ d.num (K.BK_OC_COUNT b))) ∧
    (d.buckDue b).testBit 1 = decide ((d.bk b).ovN ≥ 2) ∧ (d.buckDue b).testBit 2 = decide ((d.bk b).uvN ≥ 8) ∧
    2 ^ 3 ||| d.buckDue b = 8 + d.buckDue b := buckMask_bits ..

theorem buckDue_eq (d : Dev) (b : Nat) :
    d.buckDue b = (if 0 < (d.bk b).ocN ∧ d.num (K.BK_OC_COUNT b) ≤ (d.bk b).ocN then 1 else 0) + (if 2 ≤ (d.bk b).ovN then 2 else 0) +
      (if 8 ≤ (d.bk b).uvN then 4 else 0) := by
  rw [buckDue, ← Nat.one_mul (b2n (decide ((d.bk b).ocN > 0) && _))]
  simp only [mul_b2n, ← Bool.decide_and, decide_eq_true_eq, gt_iff_lt, ge_iff_le]

/-- A buck that is on or in its retry delay takes a kind that is due with all the others. -/
theorem buckTrip_of_due {i : Nat} (hlive : (d.bk b).on = true ∨ d.retrying (8 + b) = true) (h : (d.buckDue b).testBit i = true) :
    d.buckTrip b (i + 1) ((d.buckDue b).testBit i) = d.tripKinds (8 + b) (d.buckDue b) := by
  rw [buckTrip, if_pos (by simpa [h] using hlive), Nat.add_sub_cancel, two_pow_or_of_testBit h]

theorem buckTrip_of_not_due {ok : Bool} (sub : Nat) (h : ok = false) : d.buckTrip b sub ok = d := if_neg (by simp [h])

theorem buckTrip_of_off (sub : Nat) (ok : Bool) (hon : (d.bk b).on = false) (hr : d.retrying (8 + b) = false) : d.buckTrip b sub ok = d :=
  if_neg (by simp [hon, hr])

theorem bkThermalTrip_of_hot (hlive : (d.bk b).on = true ∨ d.retrying (8 + b) = true) (h : 3 ≤ d.die.run150) :
    d.bkThermalTrip b = d.tripKinds (8 + b) (8 + d.buckDue b) := by
  obtain ⟨-, -, -, hor⟩ := buckDue_bits d b
  rw [bkThermalTrip, buckTrip, if_pos (by simpa [h] using hlive), ← hor]

theorem bkThermalTrip_of_cool (h : d.die.run150 < 3) : d.bkThermalTrip b = d := buckTrip_of_not_due 4 (by simpa using h)

/-! The trips of an LDO (R245). -/

theorem ldoTrip_of_live {sub : Nat} {ok : Bool} (hlive : (d.ld l).on = true ∨ d.retrying (14 + l) = true) (h : ok = true) :
    d.ldoTrip l sub ok = d.trip (14 + l) sub := if_pos (by simpa [h] using hlive)

theorem ldoTrip_of_not_due {ok : Bool} (sub : Nat) (h : ok = false) : d.ldoTrip l sub ok = d := if_neg (by simp [h])

theorem ldoTrip_of_off (sub : Nat) (ok : Bool) (hon : (d.ld l).on = false) (hr : d.retrying (14 + l) = false) : d.ldoTrip l sub ok = d :=
  if_neg (by simp [hon, hr])

theorem ldoUvTrip_of_low (hlive : (d.ld l).on = true ∨ d.retrying (14 + l) = true) (huv : 3 ≤ (d.ld l).uvN)
    (hramp : (d.ld l).ramping = false) : d.ldoUvTrip l = d.trip (14 + l) 2 := ldoTrip_of_live hlive (by simp [huv, hramp])

theorem ldoUvTrip_of_not_low (h : (d.ld l).uvN < 3 ∨ (d.ld l).ramping = true) : d.ldoUvTrip l = d := by
  refine ldoTrip_of_not_due 2 ?_
  rcases h with h | h
  · rw [decide_eq_false (Nat.not_le.mpr h), Bool.false_and]
  · rw [h, Bool.not_true, Bool.and_false]

theorem ldoThermalTrip_of_hot (hlive : (d.ld l).on = true ∨ d.retrying (14 + l) = true) (h : 3 ≤ d.die.run150) :
    d.ldoThermalTrip l = d.trip (14 + l) 3 := ldoTrip_of_live hlive (by simpa using h)

theorem ldoThermalTrip_of_cool (h : d.die.run150 < 3) : d.ldoThermalTrip l = d := ldoTrip_of_not_due 3 (by simpa using h)

/-- The current limit that the command notes is that of an LDO that is on. -/
theorem ldoOcTrip_of_on (hl : l < 4) (h : (d.ld l).on = true) :
    d.ldoOcTrip l = (d.modLd l (fun x => { x with ilim := true })).trip (14 + l) 1 := by
  have hlim : d.modLd l (fun x => { x with ilim := x.on }) = d.modLd l (fun x => { x with ilim := true }) :=
    modLd_congr d l (by simp only [h])
  rw [ldoOcTrip, hlim]
  exact ldoTrip_of_live (.inl (by rw [ld_modLd_self _ _ hl]; exact h)) h

theorem ldoOcTrip_of_off (h : (d.ld l).on = false) : d.ldoOcTrip l = d.modLd l (fun x => { x with ilim := false }) :=
  (ldoTrip_of_not_due 1 h).trans (modLd_congr d l (by simp only [h]))

end Dev

/-- Settles O18: each command is its operation (`tripDue`, `buckTrip`, `ldoTrip`), which acts where its kind is due. -/
theorem tripsComplete : Obligations.TripsComplete := by
  unfold Obligations.TripsComplete
  intro s d
  refine ⟨fun n => ?_, fun b hlive => ?_, fun b hon hr c hc => ?_, fun l => ?_⟩
  · obtain ⟨hov, huv, hoc, hexp⟩ := countedKinds_bits d n
    refine ⟨?_, ?_, ?_, ?_, fun h => ?_, fun h => ?_, fun h => ?_, fun hg h => ?_, fun h => ?_, fun h => ?_, fun h => ?_, fun h => ?_,
      fun h => ?_, fun h => ?_, fun hon hv hsup ht => ?_, fun hg h => ?_⟩
    · rw [hov]; simp
    · rw [huv]; simp
    · rw [hoc]; simp
    · rw [hexp]; simp
    · exact (exec_ovTrip s n).trans (next_dev (tripDue_of_due h))
    · exact (exec_uvTrip s n).trans (next_dev (tripDue_of_due h))
    · exact (exec_ocTrip s n).trans (next_dev (tripDue_of_due h))
    · exact (exec_gloveTimerExpiry s n).trans (next_dev ((gloveExpiry_of_glove hg).trans (tripDue_of_due h)))
    · exact (exec_ovTrip s n).trans (next_dev (tripDue_of_not_due h))
    · exact (exec_uvTrip s n).trans (next_dev (tripDue_of_not_due h))
    · exact (exec_ocTrip s n).trans (next_dev (tripDue_of_not_due h))
    · exact (exec_gloveTimerExpiry s n).trans (next_dev (gloveExpiry_of_not_due h))
    · exact (exec_gloveExit s n).trans (next_dev (gloveExit_of_stay h))
    · exact (exec_senseTestDue s n).trans (next_dev (senseTestDue_of_not_sensed h))
    · exact (exec_senseTestDue s n).trans (next_dev (senseTestDue_of_sensed hon hv hsup ht))
    · exact (exec_gloveExit s n).trans (next_dev (gloveExit_of_clear hg h))
  · intro k counted
    obtain ⟨hoc, hov, huv, -⟩ := buckDue_bits d b
    have hcounted : d.buckDue b = counted := buckDue_eq d b
    refine hcounted ▸ ⟨fun h0 h => ?_, fun h => ?_, fun h => ?_, fun h => ?_, fun h => ?_, fun h => ?_, fun h => ?_, fun h => ?_⟩
    · exact (exec_bkOcTrip s b).trans (next_dev (buckTrip_of_due hlive (by rw [hoc]; simpa using ⟨h0, h⟩)))
    · exact (exec_bkOvTrip s b).trans (next_dev (buckTrip_of_due hlive (by rw [hov]; simpa using h)))
    · exact (exec_bkUvTrip s b).trans (next_dev (buckTrip_of_due hlive (by rw [huv]; simpa using h)))
    · exact (exec_bkThermalTrip s b).trans (next_dev (bkThermalTrip_of_hot hlive h))
    · exact (exec_bkOcTrip s b).trans (next_dev (buckTrip_of_not_due 1 (by rw [hoc]; rcases h with h | h <;> simp [k, h])))
    · exact (exec_bkOvTrip s b).trans (next_dev (buckTrip_of_not_due 2 (by rw [hov]; simpa using h)))
    · exact (exec_bkUvTrip s b).trans (next_dev (buckTrip_of_not_due 3 (by rw [huv]; simpa using h)))
    · exact (exec_bkThermalTrip s b).trans (next_dev (bkThermalTrip_of_cool h))
  · simp only [List.mem_cons, List.not_mem_nil, or_false] at hc
    rcases hc with rfl | rfl | rfl | rfl
    · exact (exec_bkOcTrip s b).trans (next_dev (buckTrip_of_off _ _ hon hr))
    · exact (exec_bkOvTrip s b).trans (next_dev (buckTrip_of_off _ _ hon hr))
    · exact (exec_bkUvTrip s b).trans (next_dev (buckTrip_of_off _ _ hon hr))
    · exact (exec_bkThermalTrip s b).trans (next_dev (buckTrip_of_off _ _ hon hr))
  · refine ⟨fun hon => ?_, fun hlive => ⟨fun huv hramp => ?_, fun h => ?_, fun h => ?_, fun h => ?_⟩, fun hoff => ?_,
      fun hon hr c hc => ?_⟩
    · exact (exec_ldoOcTrip s l).trans (next_dev (ldoOcTrip_of_on l.isLt hon))
    · exact (exec_ldoUvTrip s l).trans (next_dev (ldoUvTrip_of_low hlive huv hramp))
    · exact (exec_ldoThermalTrip s l).trans (next_dev (ldoThermalTrip_of_hot hlive h))
    · exact (exec_ldoUvTrip s l).trans (next_dev (ldoUvTrip_of_not_low h))
    · exact (exec_ldoThermalTrip s l).trans (next_dev (ldoThermalTrip_of_cool h))
    · exact (exec_ldoOcTrip s l).trans (next_dev (ldoOcTrip_of_off hoff))
    · simp only [List.mem_cons, List.not_mem_nil, or_false] at hc
      rcases hc with rfl | rfl
      · exact (exec_ldoUvTrip s l).trans (next_dev (ldoTrip_of_off _ _ hon hr))
      · exact (exec_ldoThermalTrip s l).trans (next_dev (ldoTrip_of_off _ _ hon hr))

end Sys2Proof.Machine
end

section
/-! PROOFS. The statement of 07_supervision_and_fault_handling.md on phase service, retries and wear (R218, R219, R221, R223–R230). -/

namespace Sys2Proof.Machine

open Dev

namespace Dev

variable {d : Dev} {p u : Nat} {r : QualResult}

/-! Qualification (R225, R363, R364). -/

theorem qualReady_iff : d.qualReady p = true ↔ d.stageListed p = false ∨ (d.ph p).qualStage.isSome = true := by simp [qualReady]

/-- A request on LB neither answers a qualification nor needs one. -/
theorem lbAsk_qualReady (d : Dev) (j : LbJob) (p : Nat) : (d.lbAsk j).qualReady p = d.qualReady p := by
  unfold lbAsk
  split <;> rfl

theorem qualRead_qualReady (d : Dev) (w : Option (BitVec 16)) (hp : p < 32) : (d.qualRead p w).qualReady p = true :=
  qualReady_iff.mpr (.inr (by rw [qualRead, ph_modPh_self _ _ hp]; rfl))

/-- A qualification that does not fail before step 3 has a present group, a quiet line and an offset within its limits. -/
theorem beforeStage_of_not_early (h : ¬ (1 ≤ d.qualCode p r ∧ d.qualCode p r ≤ 4)) :
    d.groupPresent (p / 4) = true ∧ r.sgDip = false ∧ r.offMean.natAbs ≤ d.nat K.QUAL_OFFSET_MAX ∧ r.offSpread ≤ 8 := by
  have hgroup : d.groupPresent (p / 4) = true := Classical.byContradiction fun hc => h (by simp [qualCode, hc])
  have hdip : r.sgDip = false := Bool.eq_false_iff.mpr fun hc => h (by simp [qualCode, hgroup, hc])
  have hmean : r.offMean.natAbs ≤ d.nat K.QUAL_OFFSET_MAX :=
    Nat.le_of_not_lt fun hc => h (by simp [qualCode, hgroup, hdip, hc])
  have hspread : r.offSpread ≤ 8 :=
    Nat.le_of_not_lt fun hc => h (by simp [qualCode, hgroup, hdip, Nat.not_lt.mpr hmean, hc])
  exact ⟨hgroup, hdip, hmean, hspread⟩

/-- A listed stage whose read has failed fails the qualification at step 3, where no step before does. -/
theorem qualCode_of_unread (hp : p < 32) (hlisted : d.stageListed p = true) (h : ¬ (1 ≤ d.qualCode p r ∧ d.qualCode p r ≤ 4)) :
    (d.qualRead p none).qualCode p r = 5 := by
  obtain ⟨hgroup, hdip, hmean, hspread⟩ := beforeStage_of_not_early h
  have hgroup' : (d.qualRead p none).groupPresent (p / 4) = true := hgroup
  have hlisted' : (d.qualRead p none).stageListed p = true := hlisted
  have hmean' : ¬ r.offMean.natAbs > (d.qualRead p none).nat K.QUAL_OFFSET_MAX := Nat.not_lt.mpr hmean
  have hstage : ((d.qualRead p none).ph p).qualStage = some none := by rw [qualRead, ph_modPh_self _ _ hp]
  simp [qualCode, hgroup', hlisted', hstage, hdip, hmean', Nat.not_lt.mpr hspread]

section

variable (hsvc : d.svcOf p = 2) (hsup : d.supRuns = true) (hboot : 3 ≤ d.boot.rank)

include hsvc hsup hboot

/-- The first three steps and the stage's answer decide the qualification with what is known. -/
theorem qualifyPhase_of_known
    (h : (1 ≤ d.qualCode p r ∧ d.qualCode p r ≤ 4) ∨ d.stageListed p = false ∨ (d.ph p).qualStage.isSome = true) :
    d.qualifyPhase p r = d.qualEnd p r (d.qualCode p r) := by
  rw [qualifyPhase, if_pos ⟨hsvc, hsup, hboot⟩]
  by_cases hearly : 1 ≤ d.qualCode p r ∧ d.qualCode p r ≤ 4
  · exact if_pos hearly
  · have hready : d.qualReady p = true := qualReady_iff.mpr (h.resolve_left hearly)
    simp [hearly, hready]

/-- Where the stage's answer is not known, it is asked for before anything else. -/
theorem qualifyPhase_of_unknown (hearly : ¬ (1 ≤ d.qualCode p r ∧ d.qualCode p r ≤ 4)) (hready : d.qualReady p = false) :
    d.qualifyPhase p r =
      if (d.lbAskQual p).qualReady p then (d.lbAskQual p).qualEnd p r ((d.lbAskQual p).qualCode p r) else d.lbAskQual p := by
  rw [qualifyPhase, if_pos ⟨hsvc, hsup, hboot⟩]
  simp [hearly, hready]

theorem qualifyPhase_of_asked (hearly : ¬ (1 ≤ d.qualCode p r ∧ d.qualCode p r ≤ 4)) (hready : d.qualReady p = false)
    (hlb : d.lbLive = true) : d.qualifyPhase p r = d.lbAsk (.qualRead p) := by
  have hask : d.lbAskQual p = d.lbAsk (.qualRead p) := if_pos hlb
  rw [qualifyPhase_of_unknown hsvc hsup hboot hearly hready, hask, lbAsk_qualReady, hready]
  rfl

theorem qualifyPhase_of_dead_bus (hp : p < 32) (hearly : ¬ (1 ≤ d.qualCode p r ∧ d.qualCode p r ≤ 4))
    (hready : d.qualReady p = false) (hlb : d.lbLive = false) : d.qualifyPhase p r = (d.qualRead p none).qualEnd p r 5 := by
  have hask : d.lbAskQual p = d.qualRead p none := if_neg (by simp [hlb])
  have hlisted : d.stageListed p = true :=
    Classical.byContradiction fun hc => ne_true_of_eq_false hready (qualReady_iff.mpr (.inl (Bool.eq_false_iff.mpr hc)))
  rw [qualifyPhase_of_unknown hsvc hsup hboot hearly hready, hask, qualRead_qualReady d none hp, qualCode_of_unread hp hlisted hearly]
  rfl

end

/-- What a qualification that fails records (R225): the offset from step 3 on, the pulse from step 4 on. -/
theorem qualEnd_of_failed {code : Nat} (h : code ≠ 0) :
    d.qualEnd p r code =
      (let m := d.lbDrop (.qualRead p)
       let coded := m.setNum (K.QUAL_RESULT p) code
       let offset := if 4 < code then coded.setNum (K.IMON_OFFSET_MEAS p) r.offMean else coded
       let pulse := leBytes 4 (m.num (K.PULSE_TON p) * 50) ++ leBytes 4 r.ip ++ leBytes 4 (r.zero : Nat) ++ leBytes 4 r.vin
       (if 5 < code then offset.setObj (K.PULSE_RESULT p) (.bytes pulse) else offset).failPhase p) := by
  simp only [qualEnd, h, false_or, if_false]
  rfl

/-! Hot groups and automatic admission (R218, R219, R223). -/

theorem stageOtTrip_of_hot {g : Nat} (hsup : d.supRuns = true) (h : 3 ≤ (d.sg g).otRun) :
    d.stageOtTrip g = (d.assignedOf g).foldl (fun d p =>
      if d.svcOf p = 3 ∨ d.svcOf p = 4 then ((d.modPh p (fun c => { c with afterOt := true })).cause p 0x21).setSvc p 5 else d) d :=
  if_pos ⟨hsup, h⟩

theorem sgOtWarning_of_warm {g : Nat} (hsup : d.supRuns = true) (h : 3 ≤ (d.sg g).warnRun) (hwarn : (d.sg g).warn = false) :
    d.sgOtWarning g = forUnits 8 (fun n d =>
      if (groupPhases g).any (d.assigned n) then d.modRl n (fun r => { r with avsAlerts := r.avsAlerts ||| 4096 }) else d)
      ((d.modSg g (fun l => { l with warn := true })).cause (4 * g) 0x20) :=
  if_pos ⟨hsup, h, hwarn⟩

theorem setSvc_num_other (d : Dev) {s key : Nat} (h : key ≠ K.PHASE_SVC_STATE p) : (d.setSvc p s).num key = d.num key := by
  unfold setSvc
  split
  · rfl
  · exact (num_cause ..).trans (num_setNum_other _ _ h)

/-- A phase that enters QUALIFYING, its latch released and its earlier stops forgotten. -/
def qualifying (d : Dev) (p : Nat) : Dev :=
  ((d.releaseLatch p).modPh p (fun c => { c with afterSg := false, afterOt := false, qualStage := none })).setSvc p 2

theorem qualifying_stageListed (d : Dev) (p : Nat) : (d.qualifying p).stageListed p = d.stageListed p := by
  have hkey : K.LB_STAGE_ADDR p ≠ K.PHASE_SVC_STATE p := by simp only [K.LB_STAGE_ADDR, K.PHASE_SVC_STATE]; omega
  have hnum : (d.qualifying p).num (K.LB_STAGE_ADDR p) = d.num (K.LB_STAGE_ADDR p) := setSvc_num_other _ hkey
  rw [stageListed, hnum, stageListed]

theorem requalify_eq (d : Dev) (p : Nat) :
    d.requalify p =
      if (d.qualifying p).stageListed p then ((d.qualifying p).lbAskQual p).lbDrop (.sgRead p) else d.qualifying p := by
  rw [qualifying_stageListed d p]
  rfl

theorem autoReadmit_of_cool (hsup : d.supRuns = true) (hsvc : d.svcOf p = 6) (hot : (d.ph p).afterOt = true)
    (hauto : d.flag (K.AUTO_ADMIT (p / 4)) = true) (hgroup : d.groupPresent (p / 4) = true)
    (hcool : d.num (K.SG_TEMP (p / 4)) < d.num (K.SG_OT_WARN (p / 4))) : d.autoReadmit p = d.requalify p :=
  if_pos ⟨hsup, hsvc, hot, hauto, hgroup, hcool⟩

/-! Retries (R221, R241, R245, R39). -/

/-- The retries that a unit has made, as its fault status counts them. -/
def retriesMade (d : Dev) (u : Nat) : Nat := fieldAt (d.num (faultKey u)) 10 4

/-- The retry delay is over, and the unit still off. -/
def delayOver (d : Dev) (u : Nat) : Dev := d.putBit (faultKey u) 14 false

/-- The retry delay is over, with one more retry made. -/
def retryCounted (d : Dev) (u : Nat) : Dev := (d.delayOver u).modNum (faultKey u) (fun w => putField w 10 4 (d.retriesMade u + 1))

theorem not_keep (h : 14 ≤ u → d.keepRail (u - 14) = false) : ¬ (decide (u ≥ 14) && d.keepRail (u - 14)) = true := by
  simpa using h

section

variable (hr : d.retrying u = true) (hsup : d.supRuns = true)

include hr hsup

/-- A retry delay that ends, as what stands in the way of the unit decides. -/
theorem retryEnable_eq :
    d.retryEnable u =
      if d.xoFaulty && decide (u < 14) then d.delayOver u
      else if d.retriesMade u < d.retryMax u then
        if decide (u ≥ 14) && (d.delayOver u).keepRail (u - 14) then
          (((d.retryCounted u).unitEnable u).markRetried u true).cause (unitSrc u) 0x24
        else if (d.delayOver u).enableRule .seq u ≠ .none then
          (d.delayOver u).enter .seq (K.UNIT_ON u) .refused ((d.delayOver u).enableRule .seq u)
        else ((((d.retryCounted u).enter .seq (K.UNIT_ON u) .done .none).unitBack u).markRetried u true).cause (unitSrc u) 0x24
      else (d.delayOver u).putBit (faultKey u) 15 true :=
  if_pos (by rw [hr, hsup]; rfl)

theorem retryEnable_of_xoFault (hu : u < 14) (hxo : d.xoFaulty = true) : d.retryEnable u = d.delayOver u := by
  rw [retryEnable_eq hr hsup]
  exact if_pos (by simp [hu, hxo])

variable (hxo : u < 14 → d.xoFaulty = false)

include hxo

theorem retryEnable_of_spent (hn : d.retryMax u ≤ d.retriesMade u) : d.retryEnable u = (d.delayOver u).putBit (faultKey u) 15 true := by
  rw [retryEnable_eq hr hsup, if_neg (by simpa using mt hxo), if_neg (Nat.not_lt.mpr hn)]

variable (hn : d.retriesMade u < d.retryMax u)

include hn

/-- A unit with a retry left that no clock fault keeps off. -/
theorem retryEnable_of_left :
    d.retryEnable u =
      if decide (u ≥ 14) && (d.delayOver u).keepRail (u - 14) then
        (((d.retryCounted u).unitEnable u).markRetried u true).cause (unitSrc u) 0x24
      else if (d.delayOver u).enableRule .seq u ≠ .none then
        (d.delayOver u).enter .seq (K.UNIT_ON u) .refused ((d.delayOver u).enableRule .seq u)
      else ((((d.retryCounted u).enter .seq (K.UNIT_ON u) .done .none).unitBack u).markRetried u true).cause (unitSrc u) 0x24 := by
  rw [retryEnable_eq hr hsup, if_neg (by simpa using mt hxo), if_pos hn]

theorem retryEnable_of_keep (hu : 14 ≤ u) (hkeep : (d.delayOver u).keepRail (u - 14) = true) :
    d.retryEnable u = (((d.retryCounted u).unitEnable u).markRetried u true).cause (unitSrc u) 0x24 := by
  rw [retryEnable_of_left hr hsup hxo hn]
  exact if_pos (by simp [hu, hkeep])

variable (hkeep : 14 ≤ u → (d.delayOver u).keepRail (u - 14) = false)

include hkeep

theorem retryEnable_of_refused (hrule : (d.delayOver u).enableRule .seq u ≠ .none) :
    d.retryEnable u = (d.delayOver u).enter .seq (K.UNIT_ON u) .refused ((d.delayOver u).enableRule .seq u) := by
  rw [retryEnable_of_left hr hsup hxo hn, if_neg (not_keep hkeep), if_pos hrule]

theorem retryEnable_of_enabled (hrule : (d.delayOver u).enableRule .seq u = .none) :
    d.retryEnable u =
      ((((d.retryCounted u).enter .seq (K.UNIT_ON u) .done .none).unitBack u).markRetried u true).cause (unitSrc u) 0x24 := by
  rw [retryEnable_of_left hr hsup hxo hn, if_neg (not_keep hkeep), if_neg (not_not_intro hrule)]

end

theorem retryCountReset_of_kept (hrail : u < 8 → (d.rl u).retried = true ∧ (d.rl u).done = true)
    (hbuck : 8 ≤ u → u < 14 → (d.bk (u - 8)).retried = true ∧ d.unitReady u = true)
    (hldo : 14 ≤ u → (d.ld (u - 14)).retried = true ∧ d.unitReady u = true) : d.retryCountReset u = d.retriesClear u := by
  refine if_pos ?_
  split
  · next h => simpa using hrail h
  · next h =>
    split
    · next h' => simpa using hbuck (Nat.le_of_not_lt h) h'
    · next h' => simpa using hldo (Nat.le_of_not_lt h')

/-! Wear (R229, R230, R411). -/

theorem wearBitSet_of_drift (hsup : d.supRuns = true)
    (h : d.num K.WEAR_L_TOL * d.num (K.L_QUAL p) < 100 * (d.num (K.L_EST p) - d.num (K.L_QUAL p)).natAbs)
    (hclear : d.bit (K.PHASE_WEAR p) 0 = false) : d.wearBitSet p 0 = (d.putBit (K.PHASE_WEAR p) 0 true).cause p 0x22 := by
  rw [Int.mul_comm 100] at h
  exact if_pos (by simp only [gt_iff_lt, decide_eq_true h, hclear, hsup]; rfl)

theorem wearBitSet_of_resistance (hsup : d.supRuns = true)
    (h : d.coefInt (obEngine p) 6 * (100 + d.num K.WEAR_R_TOL) < d.num (K.R_EST p) * 100)
    (hclear : d.bit (K.PHASE_WEAR p) 1 = false) : d.wearBitSet p 1 = (d.putBit (K.PHASE_WEAR p) 1 true).cause p 0x22 :=
  if_pos (by simp only [gt_iff_lt, decide_eq_true h, hclear, hsup]; rfl)

theorem wearBitSet_of_heat (hsup : d.supRuns = true) (h : d.num K.WEAR_HOT_LIMIT < d.tempBin (p / 4) 4)
    (hclear : d.bit (K.PHASE_WEAR p) 2 = false) : d.wearBitSet p 2 = (d.putBit (K.PHASE_WEAR p) 2 true).cause p 0x22 :=
  if_pos (by simp only [gt_iff_lt, decide_eq_true h, hclear, hsup]; rfl)

theorem wearSnapshot_of_running (h : d.supRuns = true) :
    d.wearSnapshot =
      forUnits 16 (fun m d => d.causeArg 121 (0x60 + m) 0 (d.wearPhase (2 * m) ++ d.wearPhase (2 * m + 1)))
        (forUnits 8 (fun g d => d.causeArg 121 (0x50 + g) 0 ((List.range 5).flatMap (fun b => leBytes 2 (d.binHours g b)) ++
          slice (d.obj (K.TEMP_HIST g)).bs 20 2 ++ leBytes 1 g ++ leBytes 1 (d.sg g).st.code ++ [0, 0])) d) := if_pos h

end Dev

/-- The end of a retry delay is one operation for rails, bucks and LDOs. -/
theorem exec_retry {u : Nat} {c : Instr} (s : State)
    (h : (∃ n : Fin 8, c = .retryEnable n ∧ u = n) ∨ (∃ b : Fin 6, c = .bkRetryEnable b ∧ u = 8 + b) ∨
      (∃ l : Fin 4, c = .ldoRetryEnable l ∧ u = 14 + l)) : exec c s = .next (s.withDev (s.dev.heard.retryEnable u)) := by
  rcases h with ⟨n, rfl, rfl⟩ | ⟨b, rfl, rfl⟩ | ⟨l, rfl, rfl⟩
  · exact exec_retryEnable s n
  · exact exec_bkRetryEnable s b
  · exact exec_ldoRetryEnable s l

/-- Settles O20: each command, where it acts, is its equation. -/
theorem serviceComplete : Obligations.ServiceComplete := by
  unfold Obligations.ServiceComplete
  intro s d
  refine ⟨fun p r => ?_, fun g hsup hrun => ?_, fun g hsup hrun hwarn => ?_, fun p hsup hsvc hot hauto hgroup hcool => ?_,
    fun u c hc hr hsup => ?_, fun u hrail hbuck hldo => ?_, fun p hsup => ⟨fun h hclear => ?_, fun h hclear => ?_, fun h hclear => ?_⟩,
    fun hsup => ?_⟩
  · intro d0 m code known hsvc hsup hboot
    have hexec := exec_qualifyPhase s p r
    refine ⟨fun hknown hcode => ?_, fun hknown hcode => ?_, fun hknown hlb => ?_, fun hknown hlb => ?_⟩
    · refine hexec.trans (next_dev ((qualifyPhase_of_known hsvc hsup hboot hknown).trans ?_))
      exact congrArg (qualEnd d0 p r) hcode
    · exact hexec.trans (next_dev ((qualifyPhase_of_known hsvc hsup hboot hknown).trans (qualEnd_of_failed hcode)))
    · obtain ⟨hearly, hstage⟩ := not_or.mp hknown
      exact hexec.trans (next_dev (qualifyPhase_of_asked hsvc hsup hboot hearly (Bool.eq_false_iff.mpr (mt qualReady_iff.mp hstage)) hlb))
    · obtain ⟨hearly, hstage⟩ := not_or.mp hknown
      have hready : d0.qualReady p = false := Bool.eq_false_iff.mpr (mt qualReady_iff.mp hstage)
      exact hexec.trans (next_dev ((qualifyPhase_of_dead_bus hsvc hsup hboot p.isLt hearly hready hlb).trans
        (qualEnd_of_failed (by decide))))
  · exact (exec_stageOtTrip s g).trans (next_dev (stageOtTrip_of_hot hsup hrun))
  · exact (exec_sgOtWarning s g).trans (next_dev (sgOtWarning_of_warm hsup hrun hwarn))
  · have hexec := (exec_autoReadmit s p).trans (next_dev ((autoReadmit_of_cool hsup hsvc hot hauto hgroup hcool).trans
      (requalify_eq d p)))
    exact ⟨fun hlisted => hexec.trans (next_dev (if_neg (ne_true_of_eq_false hlisted))),
      fun hlisted => hexec.trans (next_dev (if_pos hlisted))⟩
  · have hexec := exec_retry s hc
    refine ⟨fun hu hxo => ?_, fun hxo => ⟨fun hn => ?_, fun hn hu hkeep => ?_, fun hn hkeep hrule => ?_, fun hn hkeep hrule => ?_⟩⟩
    · exact hexec.trans (next_dev (retryEnable_of_xoFault hr hsup hu hxo))
    · exact hexec.trans (next_dev (retryEnable_of_spent hr hsup hxo hn))
    · exact hexec.trans (next_dev (retryEnable_of_keep hr hsup hxo hn hu hkeep))
    · exact hexec.trans (next_dev (retryEnable_of_refused hr hsup hxo hn hkeep hrule))
    · exact hexec.trans (next_dev (retryEnable_of_enabled hr hsup hxo hn hkeep hrule))
  · exact (exec_retryCountReset s u).trans (next_dev (retryCountReset_of_kept hrail hbuck hldo))
  · exact (exec_wearBitSet s p 0).trans (next_dev (wearBitSet_of_drift hsup h hclear))
  · exact (exec_wearBitSet s p 1).trans (next_dev (wearBitSet_of_resistance hsup h hclear))
  · exact (exec_wearBitSet s p 2).trans (next_dev (wearBitSet_of_heat hsup h hclear))
  · exact (exec_wearSnapshot s).trans (next_dev (wearSnapshot_of_running hsup))

end Sys2Proof.Machine
end

section
/-! PROOFS. The statement of 08_rails_and_power_sequencing.md on accepted writes of sequencer, monitors, timers, events, battery and
log (R257, R280, R289, R303, R311, R333, R415). -/

namespace Sys2Proof.Machine

open Dev

/-! Accepted writes of any chapter that are acknowledged at once (R345, R387, R393). -/

/-- The objects whose accepted write is not a write of their own, acknowledged at once: `BULK_LOAD` writes another object, and a store
or a restore defers its SDO answer (R360, R393). -/
def lateActs : List Act := [.bulkLoad, .store, .restore]

/-- An accepted write of any other object is acknowledged at once, whatever its chapter. -/
theorem hostWrite_acknowledged_of_act {d : Dev} {w : HostWrite} (ho : d.gateOf w.port = .open_)
    (hr : d.writeRule w.port w.key w.bytes = .none) (ha : actOf w.key ∉ lateActs) :
    d.hostWrite w.port w.key w.bytes =
      ((d.admitted w).carryOut w.port w.key (valueOf w.key w.bytes) d.osnNext).reply w.port .ack := by
  have hbulk : actOf w.key ≠ .bulkLoad := fun h => ha (h ▸ by decide)
  have hstore : ¬ (w.key = K.STORE_PARAMETERS ∨ w.key = K.RESTORE_DEFAULT_PARAMETERS) := by
    rintro (h | h)
    · exact ha (h ▸ by decide)
    · exact ha (h ▸ by decide)
  rw [hostWrite_accepted ho hbulk hr]
  cases w.port <;> simp [answerWrite, Src.tw, hstore, reply, muted]

/-- A row of an effect table that is what its object's chapter carries out, for an object acknowledged at once. -/
theorem effect_eq_of_act {m e : Dev} {c : Instr} {w : HostWrite} {p : Src} {key osn : Nat} {bs : List Byte} {o : Option Dev} {a : Act}
    (hw : hostWriteOf c = some w) (hrow : hostWriteOf c = some ⟨p, key, bs⟩) (h : o = some (m.carryOut p key (valueOf key bs) osn))
    (ha : actOf key = a) (he : o = some e) (hlate : a ∉ lateActs := by decide) :
    e = m.carryOut w.port w.key (valueOf w.key w.bytes) osn ∧ actOf w.key ∉ lateActs := by
  cases hw.symm.trans hrow
  exact ⟨Option.some.inj (he.symm.trans h), ha ▸ hlate⟩

/-! Sequencer, monitors, timers, events, battery and log. -/

/-- Each row of the board's effect table is what its object's chapter carries out. -/
theorem boardEffect_carryOut {m e : Dev} {osn : Nat} {c : Instr} {w : HostWrite} (hw : hostWriteOf c = some w)
    (he : boardEffect m osn c = some e) :
    e = m.carryOut w.port w.key (valueOf w.key w.bytes) osn ∧ actOf w.key ∉ lateActs := by
  cases c
  case powerUp p => exact effect_eq_of_act hw rfl (effect_powerUp m osn p) key_powerUp.1 he
  case powerDown p => exact effect_eq_of_act hw rfl (effect_powerDown m osn p) key_powerUp.1 he
  case abort p => exact effect_eq_of_act hw rfl (effect_abort m osn p) key_powerUp.1 he
  case wmSwap p i => exact effect_eq_of_act hw rfl (effect_wmSwap m osn p i) (key_wmSwap i).1 he
  case wmTie p i => exact effect_eq_of_act hw rfl (effect_wmTie m osn p i) (key_wmSwap i).1 he
  case pkTestCmd q p bs => exact effect_eq_of_act hw rfl (effect_pkTestCmd m osn q p bs) (key_pkTestCmd p).1 he
  case tmStart p t => exact effect_eq_of_act hw rfl (effect_tmStart m osn p t) (key_tmStart t).1 he
  case tmStop p t => exact effect_eq_of_act hw rfl (effect_tmStop m osn p t) (key_tmStart t).1 he
  case tmReset p t => exact effect_eq_of_act hw rfl (effect_tmReset m osn p t) (key_tmStart t).1 he
  case tmGlobalStart p bs => exact effect_eq_of_act hw rfl (effect_tmGlobalStart m osn p bs) key_tmGlobalStart.1 he
  case tmGlobalStop p bs => exact effect_eq_of_act hw rfl (effect_tmGlobalStop m osn p bs) key_tmGlobalStop.1 he
  case tmPeriodWrite p t bs => exact effect_eq_of_act hw rfl (effect_tmPeriodWrite m osn p t bs) (key_tmPeriodWrite t).1 he
  case tmCompareWrite p t bs => exact effect_eq_of_act hw rfl (effect_tmCompareWrite m osn p t bs) (key_tmCompareWrite t).1 he
  case intAck p l bs => exact effect_eq_of_act hw rfl (effect_intAck m osn p l bs) (key_intAck l).1 he
  case evTest p bs => exact effect_eq_of_act hw rfl (effect_evTest m osn p bs) key_evTest.1 he
  case chgEnWrite p bs => exact effect_eq_of_act hw rfl (effect_chgEnWrite m osn p bs) key_chgEnWrite.1 he
  case chgChemWrite p bs => exact effect_eq_of_act hw rfl (effect_chgChemWrite m osn p bs) key_chgChemWrite.1 he
  case accRestart p => exact effect_eq_of_act hw rfl (effect_accRestart m osn p) key_accRestart.1 he
  case shipCmd p bs => exact effect_eq_of_act hw rfl (effect_shipCmd m osn p bs) key_shipCmd.1 he
  case logSeekEsn p bs => exact effect_eq_of_act hw rfl (effect_logSeekEsn m osn p bs) (key_logSeekEsn p).1 he
  case logTimeMark p bs => exact effect_eq_of_act hw rfl (effect_logTimeMark m osn p bs) key_logTimeMark.1 he
  case logClear p bs => exact effect_eq_of_act hw rfl (effect_logClear m osn p bs) key_logClear.1 he
  case errorHistoryClear p => exact effect_eq_of_act hw rfl (effect_errorHistoryClear m osn p) key_errorHistoryClear.1 he
  case opQueryOsn p bs => exact effect_eq_of_act hw rfl (effect_opQueryOsn m osn p bs) key_opQueryOsn.1 he
  all_goals cases he

/-- Settles O49: each row of the effect table is what its object's chapter carries out, and is acknowledged at once. -/
theorem boardWritesComplete : Obligations.BoardWritesComplete := by
  unfold Obligations.BoardWritesComplete
  intro s c w e d hw ho hr he
  obtain ⟨rfl, ha⟩ := boardEffect_carryOut hw he
  exact (exec_hostWrite s hw).trans (next_dev (hostWrite_acknowledged_of_act ho hr ha))

end Sys2Proof.Machine
end

section
/-! PROOFS. The statement of 08_rails_and_power_sequencing.md on bucks, LDOs and keep rails (R237–R244). -/

namespace Sys2Proof.Machine

open Dev

namespace Dev

variable {d : Dev} {b l : Nat}

/-! Bucks (R237, R238, R240, R241). -/

/-- A buck at its period start: waiting limits and spread settled, the feedback converted, the period's length taken. -/
def buckStarted (d : Dev) (b : Nat) (code : Int) : Dev :=
  let m := d.applyS (buckS b)
  m.modBk b (fun k => { k with fb := buckVolts code, period := spreadPeriod (m.buckBase b) (vget m.clk.spread 1), limited := false })

theorem buckPeriodStart_of_fires {code : Int} (ht : d.ticking = true) (hsw : (d.buckStarted b code).buckSwitches b = true)
    (hon : 2500 ≤ (d.buckStarted b code).buckOnTime b) :
    d.buckPeriodStart b code = (d.buckStarted b code).modBk b (fun k => { k with out := .high }) := by
  have hfires : ((d.buckStarted b code).buckSwitches b && decide ((d.buckStarted b code).buckOnTime b ≥ 2500)) = true := by
    rw [hsw, decide_eq_true hon, Bool.and_true]
  exact (if_pos ht).trans (modBk_congr _ _ (if_pos hfires))

/-- A period without an on-time breaks the run of limited ones (log 38). -/
theorem buckPeriodStart_of_skipped {code : Int} (ht : d.ticking = true)
    (h : (d.buckStarted b code).buckSwitches b = false ∨ (d.buckStarted b code).buckOnTime b < 2500) :
    d.buckPeriodStart b code = (d.buckStarted b code).modBk b (fun k => { k with out := .mid, ocN := 0 }) := by
  have hskips : ((d.buckStarted b code).buckSwitches b && decide ((d.buckStarted b code).buckOnTime b ≥ 2500)) = false := by
    rcases h with hsw | hon
    · rw [hsw, Bool.false_and]
    · rw [decide_eq_false (Int.not_le.mpr hon), Bool.and_false]
  exact (if_pos ht).trans (modBk_congr _ _ (if_neg (ne_true_of_eq_false hskips)))

/-- A count is saturated at 16 bits from above alone. -/
theorem satU_16_natCast (n : Nat) : satU 16 (n : Int) = min 65535 (n : Int) := by
  simp only [satU, clampI]
  omega

theorem buckTurnOff_of_limit (mA : Nat) (h : (d.bk b).out = .high) :
    d.buckTurnOff b true mA = (d.modBk b (fun k => { k with out := .low, limited := true, ocN := k.ocN + 1 })).setNum
      (K.BK_READ_IOUT b) (min 65535 mA) := by
  rw [buckTurnOff, if_pos h, satU_16_natCast]
  rfl

theorem buckTurnOff_of_duty (mA : Nat) (h : (d.bk b).out = .high) :
    d.buckTurnOff b false mA = ((d.modBk b (fun k => { k with out := .low, limited := false, ocN := 0 })).setNum
      (K.BK_READ_IOUT b) (min 65535 mA)).markKind (8 + b) 1 false := by
  rw [buckTurnOff, if_pos h, satU_16_natCast]
  rfl

/-! Keep rails (R244). -/

theorem keepRailStart_of_off (hkeep : d.keepNow l = true) (hoff : (d.ld l).on = false) (hship : d.power ≠ .ship)
    (hlatch : d.bit (faultKey (14 + l)) 15 = false) (hretry : d.bit (faultKey (14 + l)) 14 = false) :
    d.keepRailStart l = d.modLd l (fun x => { x with on := true, ramping := true, uvN := 0, discharge := false }) :=
  if_pos (by simp [hkeep, hoff, hship, hlatch, retrying, hretry])

theorem keepRailStop_of_keep (hkeep : d.keepNow l = true) :
    d.keepRailStop l = d.modLd l (fun x => { x with on := false, ramping := false }) := if_pos hkeep

end Dev

/-- Settles O21: each command, where it acts, is its equation. -/
theorem regulatorCommandsComplete : Obligations.RegulatorCommandsComplete := by
  unfold Obligations.RegulatorCommandsComplete
  intro s d
  refine ⟨fun b code ht => ⟨fun ⟨hsw, hon⟩ => ?_, fun h => ?_⟩, fun b mA h => ⟨?_, ?_⟩, exec_buckVinUv s, exec_buckVinResume s,
    exec_ldoRampDone s, fun l hkeep => ⟨fun hoff hship hlatch hretry => ?_, ?_⟩⟩
  · exact (exec_buckPeriodStart s b code).trans (next_dev (buckPeriodStart_of_fires ht hsw hon))
  · exact (exec_buckPeriodStart s b code).trans (next_dev (buckPeriodStart_of_skipped ht h))
  · exact (exec_buckTurnOff s b true mA).trans (next_dev (buckTurnOff_of_limit mA h))
  · exact (exec_buckTurnOff s b false mA).trans (next_dev (buckTurnOff_of_duty mA h))
  · exact (exec_keepRailStart s l).trans (next_dev (keepRailStart_of_off hkeep hoff hship hlatch hretry))
  · exact (exec_keepRailStop s l).trans (next_dev (keepRailStop_of_keep hkeep))

end Sys2Proof.Machine
end

section
/-! PROOFS. The statement of 08_rails_and_power_sequencing.md on the sequencer's steps, programs and inputs (R246–R260). -/

namespace Sys2Proof.Machine

open Dev

namespace Dev

variable {d : Dev} {kind : Nat} {v : Int}

/-! Actions of a step that is due (R246, R247, R251, R253, R254). -/

/-- The unit that the step in progress names. -/
def stepUnit (d : Dev) : Nat := actUnit (d.stepAction d.seqr.step)

/-- The target that a SET_VOUT in progress names. -/
def stepVout (d : Dev) : Int := d.stepAction d.seqr.step % 65536

theorem seqSwitch_of_accepted (hdue : d.stepDue kind = true) (hrule : d.unitRule .seq d.stepUnit v = .none) :
    d.seqSwitch kind v = ((d.enter .seq (K.UNIT_ON d.stepUnit) .done .none).atEdge (K.UNIT_ON d.stepUnit) (.num v)).toWait :=
  (if_pos hdue).trans (if_pos hrule)

theorem seqSwitch_of_refused (hdue : d.stepDue kind = true) (hrule : d.unitRule .seq d.stepUnit v ≠ .none) :
    d.seqSwitch kind v = d.stepRefused (K.UNIT_ON d.stepUnit) (d.unitRule .seq d.stepUnit v) :=
  (if_pos hdue).trans (if_neg hrule)

theorem seqSetVout_of_rail (hdue : d.stepDue 3 = true) (hu : d.stepUnit < 8) :
    d.seqSetVout = ((d.enter .seq (K.VOUT_COMMAND d.stepUnit) .done .none).acceptTarget .seq d.stepUnit
      d.stepVout d.osnNext).toWait := (if_pos hdue).trans (if_pos hu)

theorem seqSetVout_of_buck (hdue : d.stepDue 3 = true) (hu : 8 ≤ d.stepUnit) (hlow : 2458 ≤ d.stepVout)
    (hhigh : d.stepVout ≤ 20480) :
    d.seqSetVout = ((d.enter .seq (K.BK_VOUT_COMMAND (d.stepUnit - 8)) .done .none).postBuck (d.stepUnit - 8)
      d.stepVout 5 d.osnNext).toWait :=
  (if_pos hdue).trans ((if_neg (Nat.not_lt.mpr hu)).trans (if_pos ⟨hlow, hhigh⟩))

theorem seqSetVout_of_buck_range (hdue : d.stepDue 3 = true) (hu : 8 ≤ d.stepUnit) (h : d.stepVout < 2458 ∨ 20480 < d.stepVout) :
    d.seqSetVout = d.stepRefused (K.BK_VOUT_COMMAND (d.stepUnit - 8)) .range :=
  (if_pos hdue).trans ((if_neg (Nat.not_lt.mpr hu)).trans (if_neg fun ⟨hlow, hhigh⟩ => h.elim (Int.not_lt.mpr hlow) (Int.not_lt.mpr hhigh)))

theorem seqStepTimeout_of_waited (hsup : d.supRuns = true) (hprog : d.seqr.prog ≠ 0) (hphase : d.seqr.phase = 1)
    (hwait : d.stepTimeout + 1 ≤ d.seqr.waitN) :
    d.seqStepTimeout =
      (let m := (d.seqEvent 115 d.seqr.step 0 []).bump K.SEQ_TIMEOUT_COUNT 16
       ({ m with seqr := { m.seqr with timeoutNow := true } } : Dev).onTimeout) := if_pos (by simp [hsup, hprog, hphase, hwait])

/-! The end of a program (R257, R315). -/

/-- The device in KEEP at the end of keep-entry: it runs on its battery. -/
def keepEntered (d : Dev) : Dev := ({ d.enterKeep with path := { d.enterKeep.path with st := .onBattery } } : Dev).cause 90 0x03

theorem seqProgramEnd_eq (hover : d.progOver = true) :
    d.seqProgramEnd = (if d.seqr.prog = 4 then d.faultClose else if d.seqr.prog = 3 then d.keepEntered else d).progDone := if_pos hover

theorem seqProgramEnd_of_fault (hover : d.progOver = true) (hp : d.seqr.prog = 4) : d.seqProgramEnd = d.faultClose.progDone := by
  rw [seqProgramEnd_eq hover, if_pos hp]

theorem seqProgramEnd_of_keep (hover : d.progOver = true) (hp : d.seqr.prog = 3) : d.seqProgramEnd = d.keepEntered.progDone := by
  rw [seqProgramEnd_eq hover, if_neg (by omega), if_pos hp]

theorem seqProgramEnd_of_other (hover : d.progOver = true) (hfault : d.seqr.prog ≠ 4) (hkeep : d.seqr.prog ≠ 3) :
    d.seqProgramEnd = d.progDone := by
  rw [seqProgramEnd_eq hover, if_neg hfault, if_neg hkeep]

/-! The sequencer's inputs (R259). -/

/-- An input has changed at a tick: its pin and its sample noted, and event 118. -/
def sqiChanged (d : Dev) (i : Nat) (level : Bool) : Dev :=
  ({ d with seqr := { d.seqr with
      sqiPin := (Machine.putBit d.seqr.sqiPin i level).toNat, sqi := (Machine.putBit d.seqr.sqi i level).toNat } } : Dev).cause
    118 (2 * i + b2n level)

/-- Ask for the power-up program where `ask` holds. -/
def upAsked (d : Dev) (ask : Prop) [Decidable ask] : Dev := { d with seqr := { d.seqr with reqUp := d.seqr.reqUp || decide ask } }

/-- Ask for the power-down program where `ask` holds. -/
def downAsked (d : Dev) (ask : Prop) [Decidable ask] : Dev := { d with seqr := { d.seqr with reqDown := d.seqr.reqDown || decide ask } }

theorem upAsked_eq (d : Dev) (ask : Prop) [Decidable ask] :
    d.upAsked ask = if ask then { d with seqr := { d.seqr with reqUp := true } } else d := by
  by_cases h : ask
  · simp [upAsked, h]
  · simp [upAsked, h]

theorem downAsked_eq (d : Dev) (ask : Prop) [Decidable ask] :
    d.downAsked ask = if ask then { d with seqr := { d.seqr with reqDown := true } } else d := by
  by_cases h : ask
  · simp [downAsked, h]
  · simp [downAsked, h]

variable {i : Nat} {level : Bool}

theorem sqi_changed (hseen : d.seqr.sqiSeen = true) (hlevel : d.seqr.sqi.testBit i ≠ level) (ht : d.ticking = true) :
    (d.seqr.sqiSeen && (d.seqr.sqi.testBit i != level) && d.ticking) = true := by
  rw [hseen, ht, bne_iff_ne.mpr hlevel]
  rfl

theorem sqiEdge_of_rise (hseen : d.seqr.sqiSeen = true) (hlevel : d.seqr.sqi.testBit i ≠ true) (ht : d.ticking = true) :
    d.sqiEdge i true = (d.sqiChanged i true).upAsked (d.effNum (K.SQI_FUNC i) = 1 ∨ d.effNum (K.SQI_FUNC i) = 3) := by
  rw [sqiEdge, if_pos (sqi_changed hseen hlevel ht), upAsked_eq]
  simp only [true_and, Bool.true_eq_false, false_and, if_false]
  rfl

theorem sqiEdge_of_fall (hseen : d.seqr.sqiSeen = true) (hlevel : d.seqr.sqi.testBit i ≠ false) (ht : d.ticking = true) :
    d.sqiEdge i false =
      (let m := (d.sqiChanged i false).downAsked (d.effNum (K.SQI_FUNC i) = 2 ∨ d.effNum (K.SQI_FUNC i) = 3)
       if d.effNum (K.SQI_FUNC i) = 4 then m.faultRequest 15 else m) := by
  rw [sqiEdge, if_pos (sqi_changed hseen hlevel ht), downAsked_eq]
  simp only [true_and, Bool.false_eq_true, false_and, if_false]
  rfl

/-- Where nothing is sampled, or the level is the one sampled, the pin alone is noted. -/
theorem sqiEdge_of_unsampled (h : d.seqr.sqiSeen = false ∨ d.seqr.sqi.testBit i = level ∨ d.ticking = false) :
    d.sqiEdge i level = { d with seqr := { d.seqr with sqiPin := (Machine.putBit d.seqr.sqiPin i level).toNat } } :=
  if_neg (by rcases h with h | h | h <;> simp [h])

end Dev

/-- Settles O34: each command, where it acts, is its equation. -/
theorem sequencerComplete : Obligations.SequencerComplete := by
  unfold Obligations.SequencerComplete
  intro s d w u osn waits refuse
  refine ⟨fun hdue => ?_, fun hdue => ⟨fun hrule => ?_, fun hrule => ?_⟩, fun hdue => ⟨fun hrule => ?_, fun hrule => ?_⟩,
    fun hdue => ⟨fun hu => ?_, fun hu hlow hhigh => ?_, fun hu hrange => ?_⟩, fun hdue => ?_, fun hdue => ?_,
    fun hsup hprog hphase hwait => ?_, fun hover => ⟨fun hp => ?_, fun hp => ?_, fun hfault hkeep => ?_⟩,
    fun i level hseen hlevel ht => ⟨fun hl => ?_, fun hl => ?_⟩, fun i level h => ?_⟩
  · exact (exec_seqNop s).trans (next_dev (if_pos hdue))
  · exact (exec_seqEnable s).trans (next_dev (seqSwitch_of_accepted hdue hrule))
  · exact (exec_seqEnable s).trans (next_dev (seqSwitch_of_refused hdue hrule))
  · exact (exec_seqDisable s).trans (next_dev (seqSwitch_of_accepted hdue hrule))
  · exact (exec_seqDisable s).trans (next_dev (seqSwitch_of_refused hdue hrule))
  · exact (exec_seqSetVout s).trans (next_dev (seqSetVout_of_rail hdue hu))
  · exact (exec_seqSetVout s).trans (next_dev (seqSetVout_of_buck hdue hu hlow hhigh))
  · exact (exec_seqSetVout s).trans (next_dev (seqSetVout_of_buck_range hdue hu hrange))
  · exact (exec_seqOut s).trans (next_dev (if_pos hdue))
  · exact (exec_seqSignal s).trans (next_dev (if_pos hdue))
  · exact (exec_seqStepTimeout s).trans (next_dev (seqStepTimeout_of_waited hsup hprog hphase hwait))
  · exact (exec_seqProgramEnd s).trans (next_dev (seqProgramEnd_of_fault hover hp))
  · exact (exec_seqProgramEnd s).trans (next_dev (seqProgramEnd_of_keep hover hp))
  · exact (exec_seqProgramEnd s).trans (next_dev (seqProgramEnd_of_other hover hfault hkeep))
  · subst hl
    exact (exec_sqiEdge s i true).trans (next_dev (sqiEdge_of_rise hseen hlevel ht))
  · subst hl
    exact (exec_sqiEdge s i false).trans (next_dev (sqiEdge_of_fall hseen hlevel ht))
  · exact (exec_sqiEdge s i level).trans (next_dev (sqiEdge_of_unsampled h))

end Sys2Proof.Machine
end

section
/-! PROOFS. The statement of 09_comparators_and_window_monitors.md on the assertion of a comparator (R68, R267, R274–R277). -/

namespace Sys2Proof.Machine

open Dev

namespace Dev

variable {d : Dev} {w p : Nat} {upper : Bool}

/-! What a trip does to the phase that it acts on, and what it leaves alone. -/

/-- Beside `Quiets`: the monitors stay, and so does every phase but `p`. -/
structure ActsOn (p : Nat) (d e : Dev) : Prop extends Quiets d e where
  wms : e.wms = d.wms
  other : ∀ q, q ≠ p → e.ph q = d.ph q

theorem ActsOn.refl (p : Nat) (d : Dev) : ActsOn p d d := ⟨.refl d, rfl, fun _ _ => rfl⟩

theorem ActsOn.trans {a b c : Dev} (h : ActsOn p a b) (g : ActsOn p b c) : ActsOn p a c :=
  ⟨h.toQuiets.trans g.toQuiets, g.wms.trans h.wms, fun q hq => (g.other q hq).trans (h.other q hq)⟩

theorem actsOn_draw (d : Dev) (p : Nat) : ActsOn p d d.draw.2 := ⟨⟨rfl, rfl, fun _ _ => rfl, fun _ _ h => h⟩, rfl, fun _ _ => rfl⟩

theorem actsOn_modPh (d : Dev) (p : Nat) (f : Phase → Phase) : ActsOn p d (d.modPh p f) :=
  ⟨quiets_modPh .., rfl, fun _ hq => ph_modPh_other _ _ hq⟩

theorem actsOn_tonLast (d : Dev) {p : Nat} (v : Int) (hp : p < 32) : ActsOn p d (d.setNum (K.TON_LAST p) v) :=
  ⟨⟨rfl, rfl, fun k hk => num_setNum_other _ _ (by simp only [K.TON_LAST]; omega), fun _ _ h => h⟩, rfl, fun _ _ => rfl⟩

theorem ph_cause (d : Dev) (src code q : Nat) : (d.cause src code).ph q = d.ph q := by rw [ph, cause_phases, ph]

theorem actsOn_cause (d : Dev) (p src code : Nat) : ActsOn p d (d.cause src code) :=
  ⟨quiets_cause .., cause_wms .., fun q _ => ph_cause d src code q⟩

theorem actsOn_cutOn (d : Dev) (hp : p < 32) : ActsOn p d (d.cutOn p) := by
  unfold cutOn
  split
  · exact ((actsOn_draw d p).trans (actsOn_tonLast _ _ hp)).trans (actsOn_modPh ..)
  · exact .refl p d

theorem actsOn_disablePhase (d : Dev) (code : Nat) (hp : p < 32) : ActsOn p d (d.disablePhase p code) :=
  (((actsOn_cutOn d hp).trans (actsOn_modPh ..)).trans (actsOn_modPh ..)).trans (actsOn_cause ..)

/-- A forced phase is at MID with its latch (R68). -/
theorem disablePhase_ph (d : Dev) (code : Nat) (hp : p < 32) :
    ((d.disablePhase p code).ph p).latch = true ∧ ((d.disablePhase p code).ph p).out = .mid := by
  rw [disablePhase, ph_cause, ph_modPh_self _ _ hp, toMid, ph_modPh_self _ _ hp]
  exact ⟨rfl, rfl⟩

theorem actsOn_endOn (d : Dev) (steps : Int) (hp : p < 32) : ActsOn p d (d.endOn p steps) :=
  (actsOn_tonLast d steps hp).trans (actsOn_modPh ..)

theorem endOn_out (d : Dev) (steps : Int) (hp : p < 32) : ((d.endOn p steps).ph p).out = .low := by
  rw [endOn, ph_modPh_self _ _ hp]

/-- A single pulse that is on goes over to its drain (R87). -/
def pulseDrained (d : Dev) (p : Nat) : Dev :=
  let i := d.draw
  if (d.ph p).pulse = .on then i.2.modPh p (fun c => { c with pulse := .drain, draining := true, pulseI := some i.1 }) else d

/-- The on-time of a phase ends, its length a free value (R68). -/
def onEnded (d : Dev) (p : Nat) : Dev :=
  if (d.ph p).out = .high then (d.pulseDrained p).draw.2.endOn p (d.pulseDrained p).draw.1 else d.pulseDrained p

/-- The input is put among those of the phase once the on-time has ended. -/
theorem terminatePhase_eq (d : Dev) (p id : Nat) :
    d.terminatePhase p id =
      (d.onEnded p).modPh p (fun c => { c with terms := if c.terms.contains id then c.terms else id :: c.terms, deferred := false }) := rfl

theorem actsOn_pulseDrained (d : Dev) (p : Nat) : ActsOn p d (d.pulseDrained p) := by
  unfold pulseDrained
  dsimp only
  split
  · exact (actsOn_draw d p).trans (actsOn_modPh ..)
  · exact .refl p d

theorem pulseDrained_out (d : Dev) (hp : p < 32) : ((d.pulseDrained p).ph p).out = (d.ph p).out := by
  unfold pulseDrained
  dsimp only
  split
  · rw [ph_modPh_self _ _ hp]
    rfl
  · rfl

theorem actsOn_onEnded (d : Dev) (hp : p < 32) : ActsOn p d (d.onEnded p) := by
  unfold onEnded
  split
  · exact ((actsOn_pulseDrained d p).trans (actsOn_draw ..)).trans (actsOn_endOn _ _ hp)
  · exact actsOn_pulseDrained d p

theorem onEnded_out (d : Dev) (hp : p < 32) : ((d.onEnded p).ph p).out ≠ .high := by
  unfold onEnded
  split
  · rw [endOn_out _ _ hp]
    decide
  · next hlow => rwa [pulseDrained_out d hp]

theorem actsOn_terminatePhase (d : Dev) (id : Nat) (hp : p < 32) : ActsOn p d (d.terminatePhase p id) :=
  (actsOn_onEnded d hp).trans (actsOn_modPh ..)

/-- A terminated phase holds the input, and its on-time has ended (R68). -/
theorem terminatePhase_ph (d : Dev) (id : Nat) (hp : p < 32) :
    id ∈ ((d.terminatePhase p id).ph p).terms ∧ ((d.terminatePhase p id).ph p).out ≠ .high := by
  rw [terminatePhase_eq, ph_modPh_self _ _ hp]
  refine ⟨?_, onEnded_out d hp⟩
  dsimp only
  split
  · next h => exact List.contains_iff_mem.mp h
  · exact List.mem_cons_self

theorem actsOn_wmTripPhase (d : Dev) (w : Nat) (upper : Bool) (hp : p < 32) : ActsOn p d (d.wmTripPhase w upper p) := by
  unfold wmTripPhase
  split
  · exact actsOn_terminatePhase d _ hp
  · exact actsOn_disablePhase d _ hp
  · exact .refl p d

/-! The phases of a route. -/

theorem lt_of_mem_routePhases (h : p ∈ d.routePhases w upper) : p < 32 := by
  unfold routePhases at h
  dsimp only at h
  split at h
  · exact lt_of_mem_railPhases h
  · exact List.mem_range.mp (List.mem_filter.mp h).1

theorem wmRoute_congr {e : Dev} (upper : Bool) (h : e.num (K.WM_ROUTE w) = d.num (K.WM_ROUTE w)) : e.wmRoute w upper = d.wmRoute w upper := by
  rw [wmRoute, h, wmRoute]

/-- A trip writes no object of a monitor. -/
theorem wmRoute_of_quiets {e : Dev} (h : Quiets d e) (w : Nat) (upper : Bool) : e.wmRoute w upper = d.wmRoute w upper :=
  wmRoute_congr upper (h.num _ (by simp only [K.WM_ROUTE]; omega))

/-- The side's route acts on its phases, one after the other (R275). -/
def tripPhases (d : Dev) (w : Nat) (upper : Bool) (l : List Nat) : Dev := l.foldl (fun e p => e.wmTripPhase w upper p) d

theorem quiets_tripPhases (d : Dev) (w : Nat) (upper : Bool) {l : List Nat} (hl : ∀ p ∈ l, p < 32) : Quiets d (d.tripPhases w upper l) :=
  .foldl _ _ fun e p hp => (actsOn_wmTripPhase e w upper (hl p hp)).toQuiets

theorem tripPhases_wms (d : Dev) (w : Nat) (upper : Bool) {l : List Nat} (hl : ∀ p ∈ l, p < 32) : (d.tripPhases w upper l).wms = d.wms :=
  List.foldlRecOn (motive := fun e : Dev => e.wms = d.wms) l _ rfl
    fun e he p hp => (actsOn_wmTripPhase e w upper (hl p hp)).wms.trans he

/-- A phase that is not on the route stays as it is. -/
theorem tripPhases_other {l : List Nat} (hl : ∀ q ∈ l, q < 32) (h : p ∉ l) : (d.tripPhases w upper l).ph p = d.ph p :=
  List.foldlRecOn (motive := fun e : Dev => e.ph p = d.ph p) l _ rfl
    fun e he q hq => ((actsOn_wmTripPhase e w upper (hl q hq)).other p fun hpq => h (hpq ▸ hq)).trans he

/-- What the route brings about on a phase holds of each of its phases: the later trips leave that phase alone, or act on it
again. -/
theorem tripPhases_each {P : Phase → Prop} {l : List Nat} (hl : ∀ p ∈ l, p < 32)
    (hact : ∀ e : Dev, e.wmRoute w upper = d.wmRoute w upper → ∀ p < 32, P ((e.wmTripPhase w upper p).ph p)) :
    ∀ p ∈ l, P ((d.tripPhases w upper l).ph p) := by
  induction l generalizing d with
  | nil => exact fun p hp => absurd hp List.not_mem_nil
  | cons q l ih =>
    have hq : q < 32 := hl q List.mem_cons_self
    have htail : ∀ p ∈ l, p < 32 := fun p hp => hl p (List.mem_cons_of_mem q hp)
    have hroute : (d.wmTripPhase w upper q).wmRoute w upper = d.wmRoute w upper :=
      wmRoute_of_quiets (actsOn_wmTripPhase d w upper hq).toQuiets w upper
    intro p hp
    change P (((d.wmTripPhase w upper q).tripPhases w upper l).ph p)
    by_cases hlater : p ∈ l
    · exact ih htail (fun e he => hact e (he.trans hroute)) p hlater
    · obtain rfl : p = q := (List.mem_cons.mp hp).resolve_right hlater
      rw [tripPhases_other htail hlater]
      exact hact d rfl p hq

theorem tripPhases_of_terminate (hkind : routeKind (d.wmRoute w upper) = 1) {l : List Nat} (hl : ∀ p ∈ l, p < 32) (hp : p ∈ l) :
    cmpId w upper ∈ ((d.tripPhases w upper l).ph p).terms ∧ ((d.tripPhases w upper l).ph p).out ≠ .high := by
  refine tripPhases_each (P := fun c => cmpId w upper ∈ c.terms ∧ c.out ≠ .high) hl (fun e he q hq => ?_) p hp
  rw [wmTripPhase_of_terminate q (he ▸ hkind)]
  exact terminatePhase_ph e _ hq

theorem tripPhases_of_disable (hkind : routeKind (d.wmRoute w upper) = 2) {l : List Nat} (hl : ∀ p ∈ l, p < 32) (hp : p ∈ l) :
    ((d.tripPhases w upper l).ph p).latch = true ∧ ((d.tripPhases w upper l).ph p).out = .mid := by
  refine tripPhases_each (P := fun c => c.latch = true ∧ c.out = .mid) hl (fun e he q hq => ?_) p hp
  rw [wmTripPhase_of_disable q (he ▸ hkind)]
  exact disablePhase_ph e _ hq

/-! The assertion. -/

/-- The side is held ASSERTED with its hit, and counted (R267, R271). -/
def assertNoted (d : Dev) (w : Nat) (upper : Bool) : Dev :=
  (d.modSide w upper (fun c => { c with asserted := true, hit := true, settling := decide (c.thr ≠ c.rel) })).bump (K.WM_ASSERT_COUNT w) 16

theorem wmSide_congr {e : Dev} (h : e.wms = d.wms) (w : Nat) (upper : Bool) : e.wmSide w upper = d.wmSide w upper := by
  rw [wmSide, wm, h, wmSide, wm]

theorem wmSide_modSide (f : Cmp → Cmp) (hw : w < 24) : (d.modSide w upper f).wmSide w upper = f (d.wmSide w upper) := by
  rw [wmSide, modSide, wm_modWm_self _ _ hw]
  cases upper <;> rfl

theorem assertNoted_side (hw : w < 24) :
    ((d.assertNoted w upper).wmSide w upper).asserted = true ∧ ((d.assertNoted w upper).wmSide w upper).hit = true := by
  rw [assertNoted, wmSide_congr (bump_wms ..), wmSide_modSide _ hw]
  exact ⟨rfl, rfl⟩

theorem assertNoted_num_other {k : Nat} (h : k ≠ K.WM_ASSERT_COUNT w) : (d.assertNoted w upper).num k = d.num k := num_bump_other _ _ h

theorem assertNoted_count : (d.assertNoted w upper).num (K.WM_ASSERT_COUNT w) = satU 16 (d.num (K.WM_ASSERT_COUNT w) + 1) := num_bump_self ..

theorem assertNoted_route (d : Dev) (w : Nat) (upper : Bool) : (d.assertNoted w upper).wmRoute w upper = d.wmRoute w upper :=
  wmRoute_congr upper (assertNoted_num_other (by simp only [K.WM_ROUTE, K.WM_ASSERT_COUNT]; omega))

theorem railPhases_congr {e : Dev} (h : ∀ p < 32, e.num (K.PHASE_RAIL p) = d.num (K.PHASE_RAIL p)) (n : Nat) :
    e.railPhases n = d.railPhases n :=
  List.filter_congr fun p hp => by rw [assigned, railOf, nat, h p (List.mem_range.mp hp), assigned, railOf, nat]

theorem assertNoted_routePhases (d : Dev) (w : Nat) (upper : Bool) : (d.assertNoted w upper).routePhases w upper = d.routePhases w upper := by
  have hmask : (d.assertNoted w upper).num (K.WM_TRIP_MASK w) = d.num (K.WM_TRIP_MASK w) :=
    assertNoted_num_other (by simp only [K.WM_TRIP_MASK, K.WM_ASSERT_COUNT]; omega)
  have hrail : ∀ p < 32, (d.assertNoted w upper).num (K.PHASE_RAIL p) = d.num (K.PHASE_RAIL p) := fun p hp =>
    assertNoted_num_other (by simp only [K.PHASE_RAIL, K.WM_ASSERT_COUNT]; omega)
  simp only [routePhases, assertNoted_route, railPhases_congr hrail, nat, hmask]

/-- A capture is a timer's alone. -/
theorem wmCapture_eq (d : Dev) (w : Nat) (upper asserted : Bool) : ∃ tms, d.wmCapture w upper asserted = { d with tms := tms } := by
  unfold wmCapture
  dsimp only
  split
  · split <;> exact ⟨_, rfl⟩
  · exact ⟨_, rfl⟩

/-- On a SYNC route an assertion is noted, and at most captured (R277). -/
theorem wmAssertNow_of_sync (h : routeKind (d.wmRoute w upper) = 0) :
    ∃ tms, d.wmAssertNow w upper = { d.assertNoted w upper with tms := tms } := by
  have hcapture : d.wmAssertNow w upper = (d.assertNoted w upper).wmCapture w upper true :=
    if_pos (by rwa [← assertNoted_route d w upper] at h)
  rw [hcapture]
  exact wmCapture_eq ..

/-- The state after the trips of an asynchronous assertion and its event (R275). -/
def assertTripped (d : Dev) (w : Nat) (upper : Bool) : Dev :=
  ((d.assertNoted w upper).tripPhases w upper (d.routePhases w upper)).cause (50 + w) (if upper then 0x06 else 0x05)

/-- On an asynchronous route the trips and the event follow, and what may come after changes a rail alone (R276). -/
theorem wmAssertNow_of_async (h : routeKind (d.wmRoute w upper) ≠ 0) :
    ∃ rails, d.wmAssertNow w upper = { d.assertTripped w upper with rails := rails } := by
  have hroute := assertNoted_route d w upper
  have htrip : d.wmAssertNow w upper =
      if upper && decide (routeKind (d.wmRoute w upper) = 2) && decide (routeTarget (d.wmRoute w upper) < 8) then
        (d.assertTripped w upper).raiseKind (routeTarget (d.wmRoute w upper)) 1
      else d.assertTripped w upper := by
    rw [assertTripped, ← assertNoted_routePhases d w upper, ← hroute]
    exact if_neg (by rwa [← hroute] at h)
  rw [htrip]
  split <;> exact ⟨_, rfl⟩

theorem assertTripped_wms (d : Dev) (w : Nat) (upper : Bool) : (d.assertTripped w upper).wms = (d.assertNoted w upper).wms :=
  (cause_wms ..).trans (tripPhases_wms _ w upper fun _ => lt_of_mem_routePhases)

theorem assertTripped_posts (h : d.power ≠ .dome) : (d.assertTripped w upper).posts (50 + w) (if upper then 0x06 else 0x05) :=
  cause_posts _ _ (by
    rw [(quiets_tripPhases (d.assertNoted w upper) w upper fun _ => lt_of_mem_routePhases).power]
    exact h)

theorem assertTripped_of_terminate (hkind : routeKind (d.wmRoute w upper) = 1) (hp : p ∈ d.routePhases w upper) :
    cmpId w upper ∈ ((d.assertTripped w upper).ph p).terms ∧ ((d.assertTripped w upper).ph p).out ≠ .high := by
  rw [assertTripped, ph_cause]
  exact tripPhases_of_terminate ((congrArg routeKind (assertNoted_route d w upper)).trans hkind) (fun _ => lt_of_mem_routePhases) hp

theorem assertTripped_of_disable (hkind : routeKind (d.wmRoute w upper) = 2) (hp : p ∈ d.routePhases w upper) :
    ((d.assertTripped w upper).ph p).latch = true ∧ ((d.assertTripped w upper).ph p).out = .mid := by
  rw [assertTripped, ph_cause]
  exact tripPhases_of_disable ((congrArg routeKind (assertNoted_route d w upper)).trans hkind) (fun _ => lt_of_mem_routePhases) hp

end Dev

/-- Settles O25: a SYNC assertion is `wmAssertNow_of_sync`, any other `wmAssertNow_of_async`, whose trips meet each phase of the
route. -/
theorem comparatorRouteActs : Obligations.ComparatorRouteActs := by
  unfold Obligations.ComparatorRouteActs
  intro d w upper hw hawake t
  obtain ⟨hasserted, hhit⟩ := assertNoted_side (d := d) (upper := upper) hw
  by_cases hsync : routeKind (d.wmRoute w upper) = 0
  · obtain ⟨tms, ht⟩ : ∃ tms, t = { d.assertNoted w upper with tms := tms } := wmAssertNow_of_sync hsync
    rw [ht]
    exact ⟨hasserted, hhit, fun _ => ⟨rfl, rfl, assertNoted_count⟩, fun h => absurd (hsync.symm.trans h) (by decide),
      fun h => absurd (hsync.symm.trans h) (by decide)⟩
  · obtain ⟨rails, ht⟩ : ∃ rails, t = { d.assertTripped w upper with rails := rails } := wmAssertNow_of_async hsync
    have hside := wmSide_congr (assertTripped_wms d w upper) w upper
    rw [← hside] at hasserted hhit
    rw [ht]
    exact ⟨hasserted, hhit, fun h => absurd h hsync,
      fun h => ⟨assertTripped_posts hawake, fun p hp _ => assertTripped_of_terminate h hp⟩,
      fun h => ⟨assertTripped_posts hawake, fun p hp _ => assertTripped_of_disable h hp⟩⟩

end Sys2Proof.Machine
end

section
/-! PROOFS. The statement of 10_timers_and_event_controller.md on the timers' clocks, the dispatch and the loss of events (R286–R306). -/

namespace Sys2Proof.Machine

open Dev

namespace Dev

variable {d : Dev} {clocks k : Nat}

theorem maskTimers_all : maskTimers 65535 = List.range 16 := by decide

/-! Base clocks up to the nearest timer clock edge (R286, R291). -/

/-- Base clocks pass for every running timer: the prescalers and synchronisers advance (R286, R292). -/
def clocksPassed (d : Dev) (k : Nat) : Dev := d.runningTimers.foldl (tmPass k) d

/-- The running timers whose next edge falls within `k` base clocks. -/
def edgesWithin (d : Dev) (k : Nat) : List Nat := d.runningTimers.filter (fun t => decide (d.tmDue t ≤ k))

/-- The actions of one base clock are applied together, each timer in its turn (R294). -/
def actTogether (r : Dev × List (Nat × Nat)) : Dev := (List.range 16).foldl (fun e t => e.tmApply r.2 t) r.1

theorem tmApply_nil (d : Dev) (t : Nat) : d.tmApply [] t = d := rfl

theorem actTogether_nil (d : Dev) : actTogether (d, []) = d :=
  List.foldlRecOn (motive := fun e => e = d) (List.range 16) _ rfl fun e he t _ => (tmApply_nil e t).trans he

theorem tmNearest_le {l : List Nat} {t : Nat} (ht : t ∈ l) : d.tmNearest l ≤ d.tmDue t := by
  fun_induction tmNearest d l with
  | case1 => exact absurd ht List.not_mem_nil
  | case2 a => rw [List.mem_singleton.mp ht]
  | case3 a l _ ih =>
    rcases List.mem_cons.mp ht with rfl | htail
    · exact Nat.min_le_left ..
    · exact (Nat.min_le_right ..).trans (ih htail)

theorem le_tmNearest {l : List Nat} (hl : l ≠ []) (hle : ∀ t ∈ l, k ≤ d.tmDue t) : k ≤ d.tmNearest l := by
  fun_induction tmNearest d l with
  | case1 => exact absurd rfl hl
  | case2 a => exact hle a List.mem_cons_self
  | case3 a l hmore ih => exact le_min (hle a List.mem_cons_self) (ih hmore fun t ht => hle t (List.mem_cons_of_mem a ht))

/-- The nearest edge of a list is the lower bound that one of its timers meets. -/
theorem tmNearest_eq {l : List Nat} (hle : ∀ t ∈ l, k ≤ d.tmDue t) (hmet : ∃ t ∈ l, d.tmDue t = k) : d.tmNearest l = k := by
  obtain ⟨t, ht, hk⟩ := hmet
  exact le_antisymm (hk ▸ tmNearest_le ht) (le_tmNearest (List.ne_nil_of_mem ht) hle)

theorem baseClock_of_clocked (hxo : d.xoFaulty = false) (hlf : d.clk.lfMode = false) (hship : d.power ≠ .ship) (hboot : d.boot ≠ .held) :
    d.baseClock = true := by
  simp [baseClock, hxo, hlf, hship, hboot]

theorem timerClockEdge_of_clocked (h : d.baseClock = true) :
    d.timerClockEdge clocks =
      actTogether (tmSteps tmClock (d.clocksPassed (min clocks (d.tmNearest d.runningTimers)))
        (d.edgesWithin (min clocks (d.tmNearest d.runningTimers)))) := by
  rw [actTogether, ← maskTimers_all]
  exact if_pos h

theorem timerClockEdge_of_reached (h : d.baseClock = true) (hnear : d.tmNearest d.runningTimers = k) (hk : k ≤ clocks) :
    d.timerClockEdge clocks = actTogether (tmSteps tmClock (d.clocksPassed k) (d.edgesWithin k)) := by
  rw [timerClockEdge_of_clocked h, hnear, Nat.min_eq_right hk]

theorem edgesWithin_of_short (hle : ∀ t ∈ d.runningTimers, k ≤ d.tmDue t) (hk : clocks < k) : d.edgesWithin clocks = [] :=
  List.filter_eq_nil_iff.mpr fun t ht => by
    have := hle t ht
    simp only [decide_eq_true_eq]
    omega

theorem timerClockEdge_of_short (h : d.baseClock = true) (hnear : d.tmNearest d.runningTimers = k)
    (hle : ∀ t ∈ d.runningTimers, k ≤ d.tmDue t) (hk : clocks < k) : d.timerClockEdge clocks = d.clocksPassed clocks := by
  rw [timerClockEdge_of_clocked h, hnear, Nat.min_eq_left hk.le, edgesWithin_of_short hle hk]
  exact actTogether_nil _

theorem timerClockEdge_of_stopped (h : d.runningTimers = []) : d.timerClockEdge clocks = d := by
  cases hb : d.baseClock with
  | false => exact if_neg (ne_true_of_eq_false hb)
  | true =>
    rw [timerClockEdge_of_clocked hb]
    simp only [edgesWithin, clocksPassed, h]
    exact actTogether_nil d

/-! LF edges (R287). -/

/-- An LF edge is counted; in DOME the back-off passes with it (R302, R462). -/
def lfCounted (d : Dev) : Dev := { d.lfPass with clk := { d.clk with lfCount := d.clk.lfCount + 1 } }

theorem lfStep_eq (d : Dev) : d.lfStep = actTogether (tmSteps tmLf d (List.range 16)) := by
  rw [lfStep, maskTimers_all, actTogether]

theorem lfAsked_iff : d.lfAsked = true ↔ d.power = .dome ∨ d.supHalted = true := by simp [lfAsked]

theorem lfAsked_of_gone (hpower : d.power ≠ .dome) (hsup : d.supHalted = false) : d.lfAsked = false := by simp [lfAsked, hpower, hsup]

theorem lfTimerStep_of_lfMode (h : d.clk.lfMode = true) :
    d.lfTimerStep = if d.lfAsked then d.lfCounted.lfStep else d.lfCounted.lfStep.lfSet false := if_pos h

theorem lfTimerStep_of_clockMode (h : d.clk.lfMode = false) :
    d.lfTimerStep = if d.lfAsked then d.lfCounted.lfSet true else d.lfCounted := if_neg (ne_true_of_eq_false h)

theorem lfTimerStep_stays (hask : d.lfAsked = true) (hlf : d.clk.lfMode = true) :
    d.lfTimerStep = actTogether (tmSteps tmLf d.lfCounted (List.range 16)) := by
  rw [lfTimerStep_of_lfMode hlf, hask, if_pos rfl, lfStep_eq]

theorem lfTimerStep_enters (hask : d.lfAsked = true) (hlf : d.clk.lfMode = false) : d.lfTimerStep = d.lfCounted.lfSet true := by
  rw [lfTimerStep_of_clockMode hlf, hask, if_pos rfl]

theorem lfTimerStep_leaves (hgone : d.lfAsked = false) (hlf : d.clk.lfMode = true) :
    d.lfTimerStep = (actTogether (tmSteps tmLf d.lfCounted (List.range 16))).lfSet false := by
  rw [lfTimerStep_of_lfMode hlf, hgone, if_neg Bool.false_ne_true, lfStep_eq]

theorem lfTimerStep_counts (hgone : d.lfAsked = false) (hlf : d.clk.lfMode = false) : d.lfTimerStep = d.lfCounted := by
  rw [lfTimerStep_of_clockMode hlf, hgone, if_neg Bool.false_ne_true]

/-! The wake by a timer (R308). -/

theorem timerWake_of_find {t : Fin 16} (h : (List.finRange 16).find? (fun t => d.wakes (.timer t)) = some t) :
    d.timerWake = d.domeWake (.timer t) := by
  rw [timerWake, h]

theorem timerWake_of_none (h : ∀ t : Fin 16, d.wakes (.timer t) = false) : d.timerWake = d := by
  have hnone : (List.finRange 16).find? (fun t => d.wakes (.timer t)) = none :=
    List.find?_eq_none.mpr fun t _ => ne_true_of_eq_false (h t)
  rw [timerWake, hnone]

theorem domeWake_of_awake (c : WakeCause) (h : d.power ≠ .dome) : d.domeWake c = d := if_neg fun hd => h hd.1

theorem timerWake_of_awake (h : d.power ≠ .dome) : d.timerWake = d := by
  cases hfind : (List.finRange 16).find? (fun t => d.wakes (.timer t)) with
  | none => rw [timerWake, hfind]
  | some t => exact (timerWake_of_find hfind).trans (domeWake_of_awake _ h)

theorem timerWake_of_first {t : Fin 16} (ht : d.wakes (.timer t) = true) (hfirst : ∀ i : Fin 16, i < t → d.wakes (.timer i) = false) :
    d.timerWake = d.domeWake (.timer t) := by
  refine timerWake_of_find ?_
  rw [← Fin.find?_eq_find?_finRange, Fin.find?_eq_some_iff]
  exact ⟨ht, hfirst⟩

/-! The supervisor queue (R303, R306). -/

theorem eventDispatch_of_cons {e : Event} {rest : List Event} (hq : d.ev.queue = e :: rest) (hsup : d.supRuns = true) (hpower : d.power ≠ .dome) :
    d.eventDispatch =
      (let m : Dev := { d with ev := { d.ev with queue := rest } }
       ((if m.logTakes e then { m with log := { m.log with wait := m.log.wait ++ [e] } } else m).statusTake e).emcyTake e) := by
  unfold eventDispatch
  rw [hq]
  exact if_pos (by rw [hsup, decide_eq_true hpower, Bool.and_self])

/-- The lost events are named once: the span is forgotten, and a place of the queue kept. -/
def lossNamed (d : Dev) : Dev := { d with ev := { d.ev with lost := none, lostN := 0, lossDue := true } }

theorem eventLoss_of_room {a b : Nat} (hlost : d.ev.lost = some (a, b)) (hroom : d.ev.queue.length < 1024) (hdue : d.ev.lossDue = false) :
    d.eventLoss = (d.lossNamed.setNum K.EV_LOSS_COUNT (satU 32 (d.num K.EV_LOSS_COUNT + d.ev.lostN))).causeArg 126 0x01 0
      (leBytes 4 a ++ leBytes 4 b) := by
  unfold eventLoss
  rw [hlost]
  exact if_pos ⟨hroom, hdue⟩

end Dev

/-- Settles O35: each command, where it acts, is its equation. -/
theorem timersAndEventsComplete : Obligations.TimersAndEventsComplete := by
  unfold Obligations.TimersAndEventsComplete
  refine ⟨?_, ?_, ?_, fun d => ⟨timerWake_of_awake, timerWake_of_none, fun t => timerWake_of_first⟩, ?_, ?_⟩
  · intro s d hxo hlf hship hboot k hle hmet
    have hclock : d.baseClock = true := baseClock_of_clocked hxo hlf hship hboot
    have hnear : d.tmNearest d.runningTimers = k := tmNearest_eq hle hmet
    exact ⟨fun clocks hk => (exec_timerClockEdge s clocks).trans (next_dev (timerClockEdge_of_reached hclock hnear hk)),
      fun clocks hk => (exec_timerClockEdge s clocks).trans (next_dev (timerClockEdge_of_short hclock hnear hle hk))⟩
  · intro s d hnone clocks
    exact (exec_timerClockEdge s clocks).trans (next_dev (timerClockEdge_of_stopped hnone))
  · intro s d c m r stepped
    constructor
    · intro hask
      have hasked : d.lfAsked = true := lfAsked_iff.mpr hask
      exact ⟨fun hlf => (exec_lfTimerStep s).trans (next_dev (congrArg timerWake (lfTimerStep_stays hasked hlf))),
        fun hlf => (exec_lfTimerStep s).trans (next_dev (congrArg timerWake (lfTimerStep_enters hasked hlf)))⟩
    · intro hpower hsup
      have hgone : d.lfAsked = false := lfAsked_of_gone hpower hsup
      exact ⟨fun hlf => (exec_lfTimerStep s).trans (next_dev (congrArg timerWake (lfTimerStep_leaves hgone hlf))),
        fun hlf => (exec_lfTimerStep s).trans (next_dev (congrArg timerWake (lfTimerStep_counts hgone hlf)))⟩
  · intro s e rest d hq hsup hpower
    exact (exec_eventDispatch s).trans (next_dev (eventDispatch_of_cons hq hsup hpower))
  · intro s a b d hlost hroom hdue
    exact (exec_eventLoss s).trans (next_dev (eventLoss_of_room hlost hroom hdue))

end Sys2Proof.Machine
end

section
/-! PROOFS. The statements of 00_scope.md on the step and on the operation table at reset. -/

namespace Sys2Proof.Machine

open Dev

/-- Settles O1: `step_cons`. -/
theorem stepRunsFrontCommand : Obligations.StepRunsFrontCommand := by
  unfold Obligations.StepRunsFrontCommand
  exact fun s c rest h => step_cons h

/-- Settles O2: `step_nil`. -/
theorem emptyQueueIdles : Obligations.EmptyQueueIdles := by
  unfold Obligations.EmptyQueueIdles
  exact fun s h => step_nil h

/-- A table without entries is sound where its next OSN counts from 1. -/
theorem tableSound_nil {n : Nat} (hlo : 1 ≤ n) (hhi : n ≤ 4294967295) : tableSound ([], n) := ⟨⟨hlo, hhi⟩, by simp⟩

theorem opTable_reset : State.reset.dev.opTable = ([], 1) := rfl

/-- Settles O58: the table at reset has no entry (`opTable_reset`), so it is sound (`tableSound_nil`). -/
theorem operationTableAtReset : Obligations.OperationTableAtReset := by
  unfold Obligations.OperationTableAtReset
  exact ⟨opTable_reset ▸ tableSound_nil (by decide) (by decide), opTable_reset⟩

end Sys2Proof.Machine
end

section
/-! PROOFS. The statements of 11_battery_charger_and_power_path.md: the charger's faults, the charger and the boost, the power path. -/

namespace Sys2Proof.Machine

open Dev

namespace Dev

variable {d : Dev}

/-! What one evaluation of the charger machine changes (R319, R320). -/

/-- Nothing but the charger, `CHG_TIMER` and the causes that wait is changed, and no cause is taken back. -/
def OnlyCharger (d e : Dev) : Prop :=
  (∀ k, k ≠ K.CHG_TIMER → e.num k = d.num k) ∧ ∀ src code, d.posts src code → e.posts src code

theorem OnlyCharger.refl (d : Dev) : OnlyCharger d d := ⟨fun _ _ => rfl, fun _ _ h => h⟩

theorem OnlyCharger.trans {a b c : Dev} (h : OnlyCharger a b) (g : OnlyCharger b c) : OnlyCharger a c :=
  ⟨fun k hk => (g.1 k hk).trans (h.1 k hk), fun src code hp => g.2 src code (h.2 src code hp)⟩

theorem onlyCharger_chg (d : Dev) (c : Charger) : OnlyCharger d { d with chg := c } := ⟨fun _ _ => rfl, fun _ _ h => h⟩

theorem onlyCharger_cause (d : Dev) (src code : Nat) : OnlyCharger d (d.cause src code) :=
  ⟨fun k _ => num_cause d src code k, fun _ _ h => causeArg_keeps _ _ _ _ _ h⟩

theorem onlyCharger_safetyZero (d : Dev) : OnlyCharger d d.safetyZero := ⟨fun _ hk => num_setNum_other _ _ hk, fun _ _ h => h⟩

theorem onlyCharger_chgEnter (d : Dev) (s : ChgState) : OnlyCharger d (d.chgEnter s) := by
  unfold chgEnter
  dsimp only
  split
  · exact .refl d
  · exact (onlyCharger_chg d _).trans (onlyCharger_cause _ _ _)

theorem OnlyCharger.enter {e : Dev} (h : OnlyCharger d e) (s : ChgState) : OnlyCharger d (e.chgEnter s) :=
  h.trans (onlyCharger_chgEnter e s)

theorem OnlyCharger.ite {a b : Dev} {c : Prop} [Decidable c] (h : OnlyCharger d a) (g : OnlyCharger d b) :
    OnlyCharger d (if c then a else b) := by
  split
  · exact h
  · exact g

/-- Each branch of the machine notes something of the charger, restarts the safety timer or not, and enters a state or not. -/
theorem onlyCharger_chgEval (d : Dev) : OnlyCharger d d.chgEval := by
  have noted : ∀ c : Charger, OnlyCharger d { d with chg := c } := onlyCharger_chg d
  have start : OnlyCharger d (if d.chg.enOff then ({ d with chg := { d.chg with enOff := false } } : Dev).safetyZero
      else { d with chg := { d.chg with enOff := false } }) := .ite ((noted _).trans (onlyCharger_safetyZero _)) (noted _)
  have stay : OnlyCharger d d := .refl d
  exact .ite (.ite (stay.enter _) (.ite ((noted _).enter _) stay))
    (.ite ((noted _).enter _) (.ite (.ite (start.enter _) stay)
      (.ite (stay.enter _) (.ite (.ite stay (stay.enter _)) (.ite ((noted _).enter _)
        (.ite (.ite (noted _) (.ite ((noted _).enter _) ((noted _).enter _))) (.ite (stay.enter _) stay)))))))

/-! A charger fault (R319, R323). -/

variable {b : Nat}

theorem chgLatch_of_set (h : d.bit K.CHG_FAULT b = true) : d.chgLatch b = d := if_pos h

theorem chgLatch_of_clear (h : d.bit K.CHG_FAULT b = false) :
    d.chgLatch b = ((d.putBit K.CHG_FAULT b true).cause 92 (0x20 + b)).chgEval := if_neg (ne_true_of_eq_false h)

theorem chgFault_chgEval (d : Dev) (j : Nat) : d.chgEval.bit K.CHG_FAULT j = d.bit K.CHG_FAULT j :=
  congrArg (bitAt · j) ((onlyCharger_chgEval d).1 K.CHG_FAULT (by decide))

/-- After a latch, `CHG_FAULT` is what it was with the bit set. -/
theorem chgFault_chgLatch (h : d.bit K.CHG_FAULT b = false) (j : Nat) :
    (d.chgLatch b).bit K.CHG_FAULT j = (d.putBit K.CHG_FAULT b true).bit K.CHG_FAULT j := by
  rw [chgLatch_of_clear h, chgFault_chgEval, bit, num_cause, ← bit]

theorem posts_chgLatch (h : d.bit K.CHG_FAULT b = false) (hp : d.power ≠ .dome) : (d.chgLatch b).posts 92 (0x20 + b) := by
  rw [chgLatch_of_clear h]
  exact (onlyCharger_chgEval _).2 _ _ (causeArg_awake (d.putBit K.CHG_FAULT b true) 92 (0x20 + b) 0 [] hp).2

/-- A bit from 10 to 15 of `CHG_FAULT` forbids charge. -/
theorem chargeForbidden_of_bit (h : d.bit K.CHG_FAULT b = true) (hlo : 10 ≤ b) (hhi : b ≤ 15) : d.chargeForbidden = true := by
  have hb : (fieldAt (d.num K.CHG_FAULT) 10 6).testBit (b - 10) = true := by
    rw [testBit_fieldAt _ (by omega), show 10 + (b - 10) = b by omega]
    exact h
  refine decide_eq_true fun hz => ?_
  rw [hz, Nat.zero_testBit] at hb
  exact Bool.false_ne_true hb

theorem chgEnter_st (d : Dev) (s : ChgState) : (d.chgEnter s).chg.st = s := by
  unfold chgEnter
  dsimp only
  split
  · assumption
  · simp

/-- A charger that is enabled is blocked by a fault that forbids charge. -/
theorem chgEval_blocks (hf : d.chargeForbidden = true) (hen : d.num K.CHG_EN ≠ 0) (hst : d.chg.st ≠ .disabled) :
    d.chgEval.chg.st = .blocked := by
  by_cases hsup : d.supRuns = true
  · by_cases hb : d.chg.st = .blocked
    · simp [chgEval, hsup, hen, hf, hb]
    · simp [chgEval, hsup, hen, hst, hb, hf, chgEnter_st]
  · simp [chgEval, hsup, hst, hf, chgEnter_st]

end Dev

/-- Settles O30: the bit and its event by `chgLatch_of_clear`, what the evaluation leaves alone by `onlyCharger_chgEval`, and what
it does by `chgEval_blocks`. -/
theorem chargerFaultBlocks : Obligations.ChargerFaultBlocks := by
  unfold Obligations.ChargerFaultBlocks
  refine fun d b hlo hhi hp => ⟨chgLatch_of_set, fun hclear => ?_⟩
  have hset : (d.chgLatch b).bit K.CHG_FAULT b = true := (chgFault_chgLatch hclear b).trans (bit_putBit_self ..)
  refine ⟨hset, fun j hj => (chgFault_chgLatch hclear j).trans (bit_putBit_same _ _ _ hj), posts_chgLatch hclear hp, fun hb hen hst => ?_⟩
  rw [chgLatch_of_clear hclear] at hset ⊢
  rw [chgFault_chgEval] at hset
  refine chgEval_blocks (chargeForbidden_of_bit hset hb hhi) ?_ (by simpa using hst)
  rw [num_cause, num_putBit_other _ _ _ (by decide)]
  exact hen

namespace Dev

variable {d : Dev}

/-! The charger's states, protections and zones (R319, R320, R322, R323). -/

/-- A fault bit stands once it has latched. -/
theorem chgLatch_sets (d : Dev) (b : Nat) : (d.chgLatch b).bit K.CHG_FAULT b = true := by
  cases h : d.bit K.CHG_FAULT b
  · exact (chgFault_chgLatch h b).trans (bit_putBit_self ..)
  · rw [chgLatch_of_set h, h]

/-- A state other than PRECHARGE, entered from another one. -/
theorem chgEnter_of_ne {s : ChgState} (h : d.chg.st ≠ s) (hs : s ≠ .precharge) :
    d.chgEnter s = ({ d with chg := { d.chg with st := s } } : Dev).cause 91 (0x10 + s.code) := by
  simp [chgEnter, h, hs]

theorem chgPrechargeDone_of_reached (hst : d.chg.st = .precharge) (hsup : d.supRuns = true) (hbat : d.num K.CHG_VPRE + 100 ≤ d.batMv) :
    d.chgPrechargeDone = ({ d with chg := { d.chg with st := .cc } } : Dev).cause 91 (0x10 + ChgState.cc.code) :=
  (if_pos ⟨hst, hsup, hbat⟩).trans (chgEnter_of_ne (by simp [hst]) (by decide))

theorem chgCvEntry_of_reached (hst : d.chg.st = .cc) (hsup : d.supRuns = true) (hbat : d.vReg ≤ d.batMv) :
    d.chgCvEntry = ({ d with chg := { d.chg with st := .cv } } : Dev).cause 91 (0x10 + ChgState.cv.code) :=
  (if_pos ⟨hst, hsup, hbat⟩).trans (chgEnter_of_ne (by simp [hst]) (by decide))

theorem chgTermination_of_reached (hst : d.chg.st = .cv) (hsup : d.supRuns = true) (hcur : d.num K.BAT_CURRENT < d.num K.CHG_ITERM) :
    d.chgTermination = ({ d with chg := { d.chg with st := .done } } : Dev).cause 91 (0x10 + ChgState.done.code) :=
  (if_pos ⟨hst, hsup, hcur⟩).trans (chgEnter_of_ne (by simp [hst]) (by decide))

/-- While the supervisor is absent the charger changes neither its state nor its zone by these commands (R22, log 59). -/
theorem charger_stays (hsup : d.supRuns = false) :
    d.chgPrechargeDone = d ∧ d.chgCvEntry = d ∧ d.chgTermination = d ∧ d.chgRecharge = d ∧ ∀ z, d.tsZone z = d := by
  simp [chgPrechargeDone, chgCvEntry, chgTermination, chgRecharge, tsZone, hsup]

theorem vinOv_of_high (h : 17500 < d.num (K.HK_RAW 0) * 5) : d.vinOv = d.chgLatch 11 := if_pos h

theorem convOn_of_vinOv (h : d.bit K.CHG_FAULT 11 = true) : d.convOn = false := by simp [convOn, h]

/-- The zone due toward a warmer one: the lowest that the three conversions call for. -/
theorem zoneDue_of_warmer {z : Nat} {a b c : Nat × Nat} (hrun : d.chg.tsRun = [a, b, c]) (hz : z ≤ 4) (hup : d.nat K.TS_ZONE < z)
    (hall : z ≤ a.1 ∧ z ≤ b.1 ∧ z ≤ c.1) (hmet : z = a.1 ∨ z = b.1 ∨ z = c.1) : d.zoneDue = z := by
  simp only [zoneDue, hrun, List.length_cons, List.length_nil, List.map_cons, List.map_nil, List.foldl_cons, List.foldl_nil]
  split
  · omega
  · split
    · omega
    · omega

/-- The zone due toward a cooler one: the highest that the three conversions call for with `TS_HYST`. -/
theorem zoneDue_of_cooler {z : Nat} {a b c : Nat × Nat} (hrun : d.chg.tsRun = [a, b, c]) (hdown : z < d.nat K.TS_ZONE)
    (hall : a.2 ≤ z ∧ b.2 ≤ z ∧ c.2 ≤ z) (hmet : a.2 = z ∨ b.2 = z ∨ c.2 = z)
    (hnot : a.1 ≤ d.nat K.TS_ZONE ∨ b.1 ≤ d.nat K.TS_ZONE ∨ c.1 ≤ d.nat K.TS_ZONE) : d.zoneDue = z := by
  simp only [zoneDue, hrun, List.length_cons, List.length_nil, List.map_cons, List.map_nil, List.foldl_cons, List.foldl_nil]
  split
  · omega
  · split
    · omega
    · omega

theorem tsZone_of_due {z : Nat} (hsup : d.supRuns = true) (hdue : d.zoneDue = z) (hne : d.nat K.TS_ZONE ≠ z) :
    d.tsZone z = ((d.setNum K.TS_ZONE z).cause 94 (1 + z)).chgEval := if_pos ⟨hsup, hdue, hne⟩

/-! The ACC boost (R327). -/

/-- The boost was at its limit when its output fell short, so that event comes first where it was not told (log 77). -/
theorem causeIf_not_ilim (d : Dev) : d.causeIf (!d.boost.ilim) 95 0x03 = if d.boost.ilim then d else d.cause 95 0x03 := by
  cases h : d.boost.ilim <;> simp [causeIf]

theorem accShort_of_retry (hon : d.boost.on = true) (hr : d.boost.retries < 3) :
    d.accShort = (let m := if d.boost.ilim then d else d.cause 95 0x03
      ({ m with boost := { m.boost with on := false, ilim := false, retrying := true } } : Dev).cause 95 0x02) := by
  rw [accShort, if_pos hon, causeIf_not_ilim]
  exact if_neg (Nat.not_le.mpr hr)

theorem accShort_of_last (hon : d.boost.on = true) (hr : 3 ≤ d.boost.retries) :
    d.accShort = (let m := if d.boost.ilim then d else d.cause 95 0x03
      ({ m with boost := { m.boost with on := false, ilim := false, latched := true } } : Dev).cause 95 0x04) := by
  rw [accShort, if_pos hon, causeIf_not_ilim]
  exact if_pos hr

end Dev

/-- Settles O29: each command, where its condition holds, is its equation; without the supervisor `charger_stays`. -/
theorem chargerComplete : Obligations.ChargerComplete := by
  unfold Obligations.ChargerComplete
  intro s d reg bat
  refine ⟨fun hsup hst hbat => ?_, fun hsup hst hbat => ?_, fun hsup hst hcur => ?_, fun hsup hst hbat => ?_, fun hsup => ?_, fun hst ht => ?_,
    fun hst ht => ?_, fun hst ha hbat => ?_, fun h => ?_, fun h => ?_, fun h => ?_, fun h hclear => ?_, fun hclear h => ?_,
    fun z a b c hsup hrun => ?_, fun hon => ⟨fun hr => ?_, fun hr => ?_⟩, fun h => ?_⟩
  · exact (exec_chgPrechargeDone s).trans (next_dev (chgPrechargeDone_of_reached hst hsup hbat))
  · exact (exec_chgCvEntry s).trans (next_dev (chgCvEntry_of_reached hst hsup hbat))
  · exact (exec_chgTermination s).trans (next_dev (chgTermination_of_reached hst hsup hcur))
  · exact (exec_chgRecharge s).trans (next_dev (if_pos ⟨hst, hsup, hbat⟩))
  · obtain ⟨hpre, hcv, hterm, hre, hzone⟩ := charger_stays hsup
    exact ⟨(exec_chgPrechargeDone s).trans (next_dev hpre), (exec_chgCvEntry s).trans (next_dev hcv),
      (exec_chgTermination s).trans (next_dev hterm), (exec_chgRecharge s).trans (next_dev hre),
      fun z => (exec_tsZoneChange s z).trans (next_dev (hzone z))⟩
  · exact (exec_chgPreTimeout s).trans (next_dev (if_pos ⟨hst, ht⟩))
  · exact (exec_chgSafetyTimeout s).trans (next_dev (if_pos ⟨hst, ht⟩))
  · exact (exec_batOv s).trans (next_dev (if_pos ⟨hst, ha, hbat⟩))
  · exact (exec_tsShort s).trans (next_dev (if_pos h))
  · exact ⟨_, exec_vinOv s, vinOv_of_high h, (congrArg convOn (vinOv_of_high h)).trans (convOn_of_vinOv (chgLatch_sets d 11))⟩
  · exact (exec_chgThermal s).trans (next_dev (if_pos h))
  · exact (exec_dischHot s).trans (next_dev (if_pos ⟨h, hclear⟩))
  · exact (exec_batUv s).trans (next_dev (if_pos ⟨hclear, h⟩))
  · intro old hdue hz _ _ _
    rcases hdue with ⟨hup, ha, hb, hc, hmet⟩ | ⟨hdown, ha, hb, hc, hmet, hnot⟩
    · exact (exec_tsZoneChange s z).trans (next_dev (tsZone_of_due hsup (zoneDue_of_warmer hrun hz hup ⟨ha, hb, hc⟩ hmet) (Nat.ne_of_lt hup)))
    · exact (exec_tsZoneChange s z).trans (next_dev (tsZone_of_due hsup (zoneDue_of_cooler hrun hdown ⟨ha, hb, hc⟩ hmet hnot) (Nat.ne_of_gt hdown)))
  · exact (exec_accShort s).trans (next_dev (accShort_of_retry hon hr))
  · exact (exec_accShort s).trans (next_dev (accShort_of_last hon hr))
  · exact (exec_accRetry s).trans (next_dev (if_pos h))

namespace Dev

section
variable (d : Dev)

/-! What commits, dispatches and records events leaves the ACC boost as it is. -/

theorem boost_foldl {α : Type} (f : Dev → α → Dev) (l : List α) (d : Dev) (h : ∀ d x, (f d x).boost = d.boost) :
    (l.foldl f d).boost = d.boost := by
  induction l generalizing d with
  | nil => rfl
  | cons x l ih => rw [List.foldl_cons, ih, h]

theorem boost_forUnits (n : Nat) (f : Nat → Dev → Dev) (d : Dev) (h : ∀ i d, (f i d).boost = d.boost) : (forUnits n f d).boost = d.boost :=
  boost_foldl _ _ _ (fun d i => h i d)

theorem boost_ite (c : Prop) [Decidable c] (a b : Dev) : (if c then a else b).boost = if c then a.boost else b.boost := by split <;> rfl

@[simp] theorem boost_intQueue (ev : Event) (i : Nat) : (d.intQueue ev i).boost = d.boost := by
  simp [intQueue, boost_ite]

@[simp] theorem boost_supQueue (ev : Event) : (d.supQueue ev).boost = d.boost := by
  simp [supQueue, loseEvents, boost_ite]

@[simp] theorem boost_commitOne (flags : Nat) (c : Cause) : (commitOne flags d c).boost = d.boost := by
  by_cases h : 46 ≤ c.src ∧ c.src < 50
  · simp [commitOne, h, boost_forUnits, draw]
  · simp [commitOne, h, boost_forUnits]

@[simp] theorem boost_commitEvents (keep : Bool) : (d.commitEvents keep).boost = d.boost := by
  have commits : ∀ (flags : Nat) (cs : List Cause) (e : Dev), (cs.foldl (commitOne flags) e).boost = e.boost :=
    fun flags cs e => boost_foldl _ _ _ fun e c => boost_commitOne e flags c
  have words : ∀ e : Dev, e.engineEvents.boost = e.boost := fun e => boost_forUnits _ _ _ fun i e => by
    split
    · exact boost_forUnits _ _ _ fun _ _ => rfl
    · rfl
  simp [commitEvents, boost_ite, esnReserve, words, commits, loseDome, esnSkip, loseEvents]

@[simp] theorem boost_logWrite (e : Event) (ok : Bool) : (d.logWrite e ok).boost = d.boost := by
  simp [logWrite, boost_ite, spareWrite, spareFail, spareNone, spareTake, spareBad, logDrop, stopEvent, mediaFault, mainWrite, mainFail,
    mainTake, logAppend]

@[simp] theorem boost_logRecordWrite (ok : Bool) : (d.logRecordWrite ok).boost = d.boost := by
  unfold logRecordWrite
  split
  · rfl
  · simp [boost_ite, clearCompose, clearCount, clearStep, clearEnd, endOp]

@[simp] theorem boost_statusTake (e : Event) : (d.statusTake e).boost = d.boost := by
  have bits : ∀ (bs : List (Nat × StReg × Nat)) (m : Dev), (bs.foldl (fun d b => d.stBit b.1 b.2.1 b.2.2 true) m).boost = m.boost :=
    fun bs m => boost_foldl _ _ _ fun _ _ => rfl
  simp [statusTake, boost_ite, bits]

@[simp] theorem boost_emcyTake (e : Event) : (d.emcyTake e).boost = d.boost := by
  have port : ∀ (m : Dev) (bus : Bus) f, (m.modPort bus f).boost = m.boost := fun m bus f => by cases bus <;> rfl
  simp [emcyTake, emcyPut, boost_ite, boost_foldl, port]

@[simp] theorem boost_eventDispatch : d.eventDispatch.boost = d.boost := by
  unfold eventDispatch
  split
  · rfl
  · simp [boost_ite]

@[simp] theorem boost_flushEvents : d.flushEvents.boost = d.boost :=
  (boost_foldl _ _ _ fun e _ => boost_logRecordWrite e true).trans (boost_foldl _ _ _ fun e _ => boost_eventDispatch e)

end

variable {d : Dev}

/-! The power path and its battery (R312–R315, R324, R325). -/

theorem convOn_iff : d.convOn = true ↔ d.path.vinHigh = true ∧ d.power ≠ .ship ∧ d.bit K.CHG_FAULT 11 = false := by
  simp [convOn, and_assoc]

theorem convStart_runs : d.convStart.convOn = true ↔ d.power ≠ .ship ∧ d.bit K.CHG_FAULT 11 = false :=
  convOn_iff.trans ⟨fun ⟨_, h⟩ => h, fun h => ⟨rfl, h⟩⟩

/-- The path returns to its input. -/
def inputReturned (d : Dev) : Dev := ({ d with path := { d.path with st := .onInput } } : Dev).cause 90 0x01

theorem ppReturn_eq (hvalid : d.path.valid = true) (htime : d.num K.T_RETURN * 1000000 ≤ d.path.validNs) (hsup : d.supRuns = true)
    (hst : d.path.st = .onBattery ∨ (d.path.st = .handover ∧ d.seqr.prog = 0 ∧ d.seqr.reqPath = none)) :
    d.ppReturn = (if d.power = .keep then d.inputReturned.leaveKeep else d.inputReturned).chgEval :=
  if_pos (by simpa [hvalid, htime, hsup] using hst)

/-- A battery that goes: the switch opens, the timers of the charger start anew, and the removal is told and counted. -/
def batteryGone (d : Dev) (byBat : Bool) : Dev :=
  let c : Charger := { d.chg with absent := true, presTest := true, judged := false, preNs := 0, safeNs := 0 }
  let m : Dev := { d with path := { d.path with open_ := true }, chg := c }
  (((m.setNum K.CHG_TIMER 0).cause 93 (if byBat then 0x02 else 0x01)).cause 93 0x03).bump K.BAT_REMOVE_COUNT 16

theorem batteryGone_st (d : Dev) (byBat : Bool) : (d.batteryGone byBat).chg.st = d.chg.st := by simp [batteryGone]

/-- TS is biased outside DOME and SHIP, once a boot has come. -/
theorem tsBiased_of (hdome : d.power ≠ .dome) (hship : d.power ≠ .ship) (hboot : d.boot ≠ .held) : d.tsBiased = true := by
  simp [tsBiased, hdome, hship, hboot]

theorem batteryRemoval_eq {byBat : Bool} (habsent : d.chg.absent = false) (hcv : byBat = true → d.chg.st = .cv) (hts : d.tsBiased = true) :
    d.batteryRemoval byBat = if d.chg.st = .disabled then d.batteryGone byBat else (d.batteryGone byBat).chgEnter .waitBattery := by
  have hgoes : ¬ (d.chg.absent || (byBat && decide (d.chg.st ≠ .cv)) || !d.tsBiased) = true := by
    cases byBat
    · simp [habsent, hts]
    · simp [habsent, hts, hcv rfl]
  rw [batteryRemoval, if_neg hgoes, ← batteryGone_st d byBat]
  rfl

theorem batteryPresent_eq (hts : d.tsBiased = true) (hseen : d.cellSeen = true) :
    d.batteryPresent = (let m : Dev := { d with chg := { d.chg with absent := false, presTest := false, judged := true } }
      if d.chg.absent then ((m.cause 93 0x04).switchClose).chgEval else m.chgEval) := if_pos (by simp [hts, hseen])

theorem cellSeen_of (hlow : 200 ≤ d.num K.TS_RATIO) (hhigh : d.num K.TS_RATIO ≤ 9500 - d.num K.TS_HYST) (hbat : 2000 ≤ d.num K.BAT_VOLTAGE) :
    d.cellSeen = true := by simp [cellSeen, batMv, hlow, hhigh, hbat]

/-! The button (R328). -/

theorem btnPress_of_up (hup : d.btn.pressed = false) (hship : d.power ≠ .ship) :
    d.btnPress = (({ d with btn := { d.btn with pressed := true, warned := false, long := false } } : Dev).cause 96 0x01).shipCancel :=
  if_neg (by simp [hup, hship])

/-- A release is told unless a long-press reset of the same press has come. -/
theorem btnRelease_of_pressed (hdown : d.btn.pressed = true) (hship : d.power ≠ .ship) :
    d.btnRelease = (let up : Dev := { d with btn := { d.btn with pressed := false, warned := false, long := false } }
      if d.btn.long then up else up.cause 96 0x02) := by
  have hacts : (d.btn.pressed && decide (d.power ≠ .ship)) = true := by simp [hdown, hship]
  rw [btnRelease, if_pos hacts]
  cases h : d.btn.long
  · rfl
  · rfl

theorem btnWarn_of_pressed (hdown : d.btn.pressed = true) (hwarned : d.btn.warned = false) (hship : d.power ≠ .ship) :
    d.btnWarn = ({ d with btn := { d.btn with warned := true } } : Dev).cause 96 0x03 := if_pos (by simp [hdown, hwarned, hship])

/-! SHIP (R330). -/

/-- What a ship entry has told, committed and recorded before anything goes off. -/
def shipTold (d : Dev) : Dev := ((d.accOff.cause 97 0x03).commitEvents true).flushEvents

theorem shipTold_boost (d : Dev) : d.shipTold.boost = {} := by simp [shipTold, accOff]

/-- Everything off. -/
def shipDown (d : Dev) : Dev :=
  { d with
    power := .ship, ldos := Vector.replicate 4 {}, chg := { d.chg with st := .disabled, iNow := 0 }
    path := { d.path with open_ := true, inIlim := false, sysTgt := none }, btn := { d.btn with shipPending := false }
    seqr := { d.seqr with outOff := true } }

theorem shipEntry_eq (hpending : d.btn.shipPending = true) (hkeep : d.power = .keep) :
    d.shipEntry = d.shipTold.shipDown.dischargeFollow.clockFollow := by
  rw [shipEntry, if_pos ⟨hpending, hkeep⟩]
  simp only [shipDown, shipTold]

/-- In SHIP no regulator discharges its output (R504). -/
theorem discharges_of_ship {key : Nat} {on : Bool} (h : d.power = .ship) : d.discharges key on = false := by simp [discharges, h]

theorem dischargeFollow_bk (h : d.power = .ship) (b : Fin 6) : (d.dischargeFollow.bk b).discharge = false := by
  simp [bk, dischargeFollow, vget, discharges_of_ship h]

theorem shipDown_ldos (d : Dev) : d.shipDown.dischargeFollow.ldos = Vector.replicate 4 { discharge := false } := by
  ext i hi
  simp [dischargeFollow, shipDown, vget, hi, discharges]

/-- A device in SHIP: everything off, and of the rest only what was. -/
theorem shipDown_off (d : Dev) : let t := d.shipDown.dischargeFollow.clockFollow
    t.power = .ship ∧ t.path.open_ = true ∧ t.convOn = false ∧ t.boost = d.boost ∧ t.ldos = Vector.replicate 4 { discharge := false } ∧
      (∀ b : Fin 6, (t.bk b).discharge = false) ∧ t.chg.st = .disabled ∧ t.btn.shipPending = false := by
  refine ⟨rfl, rfl, ?_, rfl, shipDown_ldos d, dischargeFollow_bk rfl, rfl, rfl⟩
  rw [← Bool.not_eq_true, convOn_iff]
  exact fun h => h.2.1 rfl

theorem ioSupply_core (up : Bool) :
    d.ioSupply false up = (let g : Dev := { d with board := { d.board with ioS := up } }
      if up then g
      else if d.power = .active ∧ d.boot ≠ .held then forUnits 8 (fun i d => d.sgComparator i) g.allMid else g.allMid) := by
  cases up
  · simp [ioSupply, one_le_rank_iff]
  · rfl

end Dev

/-- Settles O28: each command, where it acts, is its equation; a ship entry by `shipEntry_eq`, field by field. -/
theorem powerPathComplete : Obligations.PowerPathComplete := by
  unfold Obligations.PowerPathComplete
  intro s d
  refine ⟨⟨exec_inputConverterStart s, convStart_runs⟩, ⟨exec_inputConverterStop s, rfl⟩,
    ⟨exec_vinPresentChange s false, exec_vinPresentChange s true⟩, fun hvalid htime hsup hst => ⟨fun hk => ?_, fun hk => ?_⟩,
    exec_dischOc s, fun byBat habsent hcv hdome hship hboot => ?_, fun hdome hship hboot hlow hhigh hbat => ?_,
    fun hship => ⟨fun hup => ?_, fun hdown => ⟨?_, fun hw => ?_, ?_⟩⟩, fun hpending hkeep => ?_, fun hship => ?_,
    fun up => ⟨exec_ioGroupSupplyChange s true up, fun hup => ?_, fun hup => ?_⟩⟩
  · refine (exec_ppReturn s).trans (next_dev ((ppReturn_eq hvalid htime hsup hst).trans ?_))
    rw [if_neg hk]
    rfl
  · refine (exec_ppReturn s).trans (next_dev ((ppReturn_eq hvalid htime hsup hst).trans ?_))
    rw [if_pos hk]
    rfl
  · exact (exec_batteryRemoval s byBat).trans (next_dev (batteryRemoval_eq habsent hcv (tsBiased_of hdome hship hboot)))
  · exact (exec_batteryPresent s).trans
      (next_dev (batteryPresent_eq (tsBiased_of hdome hship hboot) (cellSeen_of hlow hhigh hbat)))
  · exact (exec_btnPress s).trans (next_dev (btnPress_of_up hup hship))
  · exact (exec_btnRelease s).trans (next_dev (btnRelease_of_pressed hdown hship))
  · exact (exec_btnLongWarning s).trans (next_dev (btnWarn_of_pressed hdown hw hship))
  · exact (exec_longPressReset s).trans (next_dev (longPressReset_eq hdown hship))
  · have hoff := shipDown_off d.shipTold
    rw [shipTold_boost d] at hoff
    exact ⟨_, (exec_shipEntry s).trans (next_dev (shipEntry_eq hpending hkeep)), hoff⟩
  · exact (exec_shipExit s).trans (next_dev (shipExit_eq hship))
  · subst hup
    exact exec_ioGroupSupplyChange s false true
  · subst hup
    exact (exec_ioGroupSupplyChange s false false).trans (next_dev (ioSupply_core false))

end Sys2Proof.Machine
end

section
/-! PROOFS. The statements of 16_access_control.md: the level of an interface, sessions, the TAP and debug (R453, R454, R461–R466). -/

namespace Sys2Proof.Machine

open Dev

namespace Dev

/-! What an interface holds (R453, R454). -/

theorem level_of_iface {d : Dev} {p : Src} {i : Nat} (h : p.iface = some i) :
    d.level p = if d.num K.LOCK_STATE = 0 then 3 else max 1 (d.iface i).level := by
  cases p <;> cases h <;> rfl

theorem num_causeArg (d : Dev) (src code osn : Nat) (arg : List Byte) (k : Nat) : (d.causeArg src code osn arg).num k = d.num k := by
  unfold num obj causeArg
  split
  · split <;> rfl
  · rfl

theorem iface_modIface_self (d : Dev) {i : Nat} (f : Iface → Iface) (hlo : 1 ≤ i) (hhi : i ≤ 4) :
    (d.modIface i f).iface i = f (d.iface i) := vget_vmod_self _ _ _ (by omega)

theorem iface_congr {d e : Dev} (h : e.acc.ifs = d.acc.ifs) (i : Nat) : e.iface i = d.iface i := by rw [iface, h, iface]

/-! The end of a session, and of the debug it opened (R463, R465, R466). -/

/-- The engines alone are changed by changes of engines. -/
theorem forUnits_modEng (n : Nat) (f : Nat → Engine → Engine) (d : Dev) :
    ∃ eng, forUnits n (fun e d => d.modEng e (f e)) d = { d with eng := eng } := by
  induction n with
  | zero => exact ⟨d.eng, rfl⟩
  | succ n ih =>
    obtain ⟨eng, h⟩ := ih
    rw [forUnits_succ, h]
    exact ⟨_, rfl⟩

/-- Debug that closes changes its object, the supervisor's halt, the interfaces' ownership and the engines. -/
theorem debugClose_eq (d : Dev) : ∃ eng, d.debugClose = { d.setNum K.DEBUG_OPEN 0 with
    supHalted := false, eng := eng
    acc := { d.acc with supBreaks := [], ifs := d.acc.ifs.map (fun i : Iface => { i with debugOwner := false }) } } :=
  forUnits_modEng 16 (fun _ g => { resumed g with breakpoints := [] }) _

theorem debugClose_num (d : Dev) {k : Nat} (hk : k ≠ K.DEBUG_OPEN) : d.debugClose.num k = d.num k := by
  obtain ⟨eng, h⟩ := d.debugClose_eq
  rw [h]
  exact num_setNum_other d 0 hk

theorem debugShut_num (d : Dev) (osn : Nat) {k : Nat} (hk : k ≠ K.DEBUG_OPEN) : (d.debugShut osn).num k = d.num k := by
  unfold debugShut
  split
  · exact (num_causeArg ..).trans (debugClose_num d hk)
  · rfl

/-- A change of the interfaces that no level shows. -/
theorem level_map (v : Vector Iface 4) (f : Iface → Iface) (hf : ∀ x, (f x).level = x.level) (i : Nat) :
    (vget (v.map f) i).level = (vget v i).level := by
  unfold vget
  split
  · simp [hf]
  · rfl

theorem debugShut_level (d : Dev) (osn i : Nat) : ((d.debugShut osn).iface i).level = (d.iface i).level := by
  unfold debugShut
  split
  · obtain ⟨eng, h⟩ := d.debugClose_eq
    rw [iface_congr (congrArg Access.ifs (causeOsn_acc ..)), h]
    exact level_map d.acc.ifs (fun x => { x with debugOwner := false }) (fun _ => rfl) _
  · rfl

/-- A session of an interface, ended and told. -/
def sessionTold (d : Dev) (i cause osn : Nat) : Dev :=
  (d.modIface i (fun x => { x with level := 0, endCause := cause })).causeOsn 122 (0x20 + i) osn

theorem sessionEnd_of_none {d : Dev} {i cause osn : Nat} (h : (d.iface i).level < 2) : d.sessionEnd i cause osn = d :=
  if_neg (Nat.not_le.mpr h)

theorem sessionEnd_of_held {d : Dev} {i cause osn : Nat} (h : 2 ≤ (d.iface i).level) :
    d.sessionEnd i cause osn = if (d.iface i).debugOwner then (d.sessionTold i cause osn).debugShut osn else d.sessionTold i cause osn :=
  if_pos h

theorem sessionTold_num (d : Dev) (i cause osn k : Nat) : (d.sessionTold i cause osn).num k = d.num k := num_causeArg ..

theorem sessionTold_iface (d : Dev) {i : Nat} (cause osn : Nat) (hlo : 1 ≤ i) (hhi : i ≤ 4) :
    (d.sessionTold i cause osn).iface i = { d.iface i with level := 0, endCause := cause } :=
  (iface_congr (congrArg Access.ifs (causeOsn_acc ..)) i).trans (iface_modIface_self d _ hlo hhi)

theorem sessionEnd_num (d : Dev) (i cause osn : Nat) {k : Nat} (hk : k ≠ K.DEBUG_OPEN) : (d.sessionEnd i cause osn).num k = d.num k := by
  by_cases h : 2 ≤ (d.iface i).level
  · rw [sessionEnd_of_held h]
    split
    · exact (debugShut_num _ _ hk).trans (sessionTold_num ..)
    · exact sessionTold_num ..
  · rw [sessionEnd_of_none (Nat.lt_of_not_le h)]

/-- After its end an interface holds no session. -/
theorem sessionEnd_level (d : Dev) {i : Nat} (cause osn : Nat) (hlo : 1 ≤ i) (hhi : i ≤ 4) : ((d.sessionEnd i cause osn).iface i).level < 2 := by
  by_cases h : 2 ≤ (d.iface i).level
  · rw [sessionEnd_of_held h]
    split
    · rw [debugShut_level, sessionTold_iface d cause osn hlo hhi]
      exact Nat.zero_lt_two
    · rw [sessionTold_iface d cause osn hlo hhi]
      exact Nat.zero_lt_two
  · rw [sessionEnd_of_none (Nat.lt_of_not_le h)]
    exact Nat.lt_of_not_le h

/-- SESSION_TIMEOUT of a session that is held: its event names the interface. -/
theorem sessionTimeout_of_held {d : Dev} {i : Nat} (h : 2 ≤ (vget d.acc.ifs i).level) :
    d.sessionTimeout (i + 1) =
      (let ended := (d.modIface (i + 1) (fun x => { x with level := 0, endCause := 2 })).cause 122 (0x21 + i)
       if (vget d.acc.ifs i).debugOwner then ended.debugShut 0 else ended) := by
  have hcode : 0x20 + (i + 1) = 0x21 + i := by omega
  have htold : d.sessionTold (i + 1) 2 0 = (d.modIface (i + 1) (fun x => { x with level := 0, endCause := 2 })).cause 122 (0x21 + i) := by
    rw [← hcode]
    rfl
  rw [← htold]
  exact sessionEnd_of_held h

/-! The back-off (R459, R462). -/

theorem backoffPass_wait (d : Dev) (u : Nat) : (d.backoffPass u).acc.wait = d.acc.wait - u := by
  unfold backoffPass
  split
  · omega
  · rfl

theorem backoffPass_shown {d : Dev} (u : Nat) (h : d.acc.wait ≠ 0) :
    (d.backoffPass u).num K.AUTH_BACKOFF = ((d.acc.wait - u + 63999999999) / 64000000000 : Nat) :=
  (congrArg (num · K.AUTH_BACKOFF) (if_neg h)).trans (backoffSet_shown ..)

/-- Whole seconds of back-off are shown as they are. -/
theorem backoffSet_seconds (d : Dev) (n : Nat) : (d.backoffSet (backoffSecond * n)).nat K.AUTH_BACKOFF = n := by
  rw [nat, backoffSet_shown, Int.toNat_natCast, Nat.mul_add_div (by decide)]
  exact Nat.add_zero n

theorem attemptBegin_num (d : Dev) (i : Nat) (resp : Bool) (osn : Nat) {k : Nat} (hk : k ≠ K.DEBUG_OPEN) :
    (d.attemptBegin i resp osn).num k = d.num k := by
  cases resp
  · exact sessionEnd_num d i 6 osn hk
  · exact sessionEnd_num d i 6 osn hk

/-- The number of failures after one more (R462). -/
def nextFailures (d : Dev) : Nat := (satU 8 (d.num K.AUTH_FAIL_COUNT + 1)).toNat

theorem attemptFail_counts (d : Dev) (i : Nat) (resp : Bool) (osn : Nat) :
    (d.attemptFail i resp osn).nat K.AUTH_FAIL_COUNT = d.nextFailures ∧
      (d.attemptFail i resp osn).nat K.AUTH_BACKOFF = min 256 (2 ^ (d.nextFailures - 1)) := by
  have hcount : ((d.attemptBegin i resp osn).bump K.AUTH_FAIL_COUNT 8).nat K.AUTH_FAIL_COUNT = d.nextFailures := by
    rw [nat, num_bump_self, attemptBegin_num d i resp osn (by decide), nextFailures]
  refine ⟨?_, ?_⟩
  · rw [attemptFail, nat, causeOsn, num_causeArg, backoffSet_num _ _ (by decide)]
    exact hcount
  · rw [attemptFail, nat, causeOsn, num_causeArg, ← nat, backoffSet_seconds, hcount]

/-! The TAP and debug (R127, R464). -/

/-- EXTEST, CLAMP and HIGHZ take the pins. -/
def takesPins (t : Tap) : Prop := t = .extest ∨ t = .clamp ∨ t = .highz

theorem tapLoad_acts {d : Dev} {t : Tap} (ht : takesPins t) (hdebug : d.debugAvail = true) (hunits : d.anyUnitOn = false) :
    (d.tapLoad t).tapActs = t ∧ (d.tapLoad t).pinsTaken = true := by
  have hacts : (d.tapLoad t).tapActs = t := if_neg fun ⟨_, h⟩ =>
    h.elim (fun h => ne_false_of_eq_true hdebug h) (fun h => ne_true_of_eq_false hunits h)
  refine ⟨hacts, ?_⟩
  rw [pinsTaken, hacts]
  exact decide_eq_true ht

theorem tapLoad_bypassed {d : Dev} {t : Tap} (ht : takesPins t) (h : d.debugAvail = false ∨ d.anyUnitOn = true) :
    (d.tapLoad t).tapActs = .bypass ∧ (d.tapLoad t).pinsTaken = false := by
  have hacts : (d.tapLoad t).tapActs = .bypass := if_pos ⟨ht, h⟩
  refine ⟨hacts, ?_⟩
  rw [pinsTaken, hacts]
  rfl

/-- A debug instruction where debug is available. -/
theorem tapDebug_of_open {d : Dev} (f : Dev → Dev) (h : d.debugAvail = true) : d.tapDebug f = f (d.tapLoad .debug) := if_pos h

/-- A debug instruction where debug is not available acts as BYPASS. -/
theorem tapDebug_of_closed {d : Dev} (f : Dev → Dev) (h : d.debugAvail = false) : d.tapDebug f = d.tapLoad .bypass :=
  if_neg (ne_true_of_eq_false h)

/-- A breakpoint set or cleared, of an engine or of the supervisor. -/
theorem debugBreak_of_open {d : Dev} (target : Option Nat) (a : Nat) (set : Bool) (h : d.debugAvail = true) :
    d.debugBreak target a set =
      (let m := d.tapLoad .debug
       let change := fun l : List Nat => if set then (if l.contains a then l else l ++ [a]) else l.filter (· ≠ a)
       match target with
       | some e => m.modEng e (fun g => { g with breakpoints := change g.breakpoints })
       | none => { m with acc := { m.acc with supBreaks := change m.acc.supBreaks } }) := if_pos h

/-- A halted engine that resumes missed its tick unless its END had retired (log 70). -/
theorem resumed_eq (g : Engine) : resumed g =
    if g.st = .halted ∧ g.ended = true then { g with st := .running }
    else if g.st = .halted then { g with st := .running, overran := true, overrunCause := 2 } else g := by
  by_cases hst : g.st = .halted
  · cases hended : g.ended <;> simp [resumed, hst, hended]
  · simp [resumed, hst]

end Dev

/-- Settles O5: `level_of_iface` by the lock and the session's level. -/
theorem interfaceLevels : Obligations.InterfaceLevels := by
  unfold Obligations.InterfaceLevels
  intro d p i hi
  rw [level_of_iface hi]
  refine ⟨fun h => if_pos h, fun h hl => ?_, fun h hl => ?_, fun h hl => ?_⟩
  all_goals
    rw [h, hl]
    rfl

/-- Settles O38: each command is its equation, the back-off by `attemptFail_counts`, the pins by `tapLoad_acts`. -/
theorem accessCommandsComplete : Obligations.AccessCommandsComplete := by
  unfold Obligations.AccessCommandsComplete
  intro s d tap m
  refine ⟨fun i => ⟨fun hl ho => ?_, fun hl ho => ?_, fun hl => ?_⟩, fun i => exec_nonceExpiry s i,
    fun hship => ⟨(exec_backoffExpiry s).trans (next_dev (if_neg hship)), backoffSet_shown d 0⟩,
    fun hship => (exec_backoffExpiry s).trans (next_dev (if_pos hship)), fun u => ⟨backoffPass_wait d u, backoffPass_shown u⟩,
    attemptFail_counts d, exec_jtagBypass s, exec_jtagIdcode s, exec_jtagSamplePreload s, fun x hx => ?_,
    fun hopen => ⟨fun e => ⟨?_, ?_, fun a => ?_, fun a => ?_, fun a => ?_, fun a v => ?_⟩, fun a => ?_, fun a => ?_, ?_, ?_⟩,
    fun hclosed t e n b a v c hc => ?_⟩
  · exact (exec_sessionTimeout s i).trans (next_dev ((sessionTimeout_of_held hl).trans (if_neg (ne_true_of_eq_false ho))))
  · exact (exec_sessionTimeout s i).trans (next_dev ((sessionTimeout_of_held hl).trans (if_pos ho)))
  · exact (exec_sessionTimeout s i).trans (next_dev (sessionEnd_of_none hl))
  · have hpins : takesPins x.2 ∧ exec x.1 s = .next (s.withDev (d.tapLoad x.2)) := by
      simp only [List.mem_cons, List.not_mem_nil, or_false] at hx
      rcases hx with rfl | rfl | rfl
      · exact ⟨.inl rfl, exec_jtagExtest s⟩
      · exact ⟨.inr (.inl rfl), exec_jtagClamp s⟩
      · exact ⟨.inr (.inr rfl), exec_jtagHighz s⟩
    exact ⟨hpins.2, tapLoad_acts hpins.1, tapLoad_bypassed hpins.1⟩
  · exact (exec_debugHalt s (some e)).trans (next_dev (tapDebug_of_open _ hopen))
  · refine (exec_debugResume s (some e)).trans (next_dev ((tapDebug_of_open _ hopen).trans ?_))
    exact modEng_congr _ _ (resumed_eq _)
  · exact (exec_debugBreakpoint s (some e) a false).trans (next_dev (debugBreak_of_open _ a _ hopen))
  · exact (exec_debugBreakpoint s (some e) a true).trans (next_dev (debugBreak_of_open _ a _ hopen))
  · exact (exec_debugMemoryAccess s e a none).trans (next_dev (tapDebug_of_open _ hopen))
  · exact (exec_debugMemoryAccess s e a (some v)).trans (next_dev (tapDebug_of_open _ hopen))
  · exact (exec_debugBreakpoint s none a false).trans (next_dev (debugBreak_of_open _ a _ hopen))
  · exact (exec_debugBreakpoint s none a true).trans (next_dev (debugBreak_of_open _ a _ hopen))
  · exact (exec_debugHalt s none).trans (next_dev (tapDebug_of_open _ hopen))
  · exact (exec_debugResume s none).trans (next_dev (tapDebug_of_open _ hopen))
  · simp only [List.mem_cons, List.not_mem_nil, or_false] at hc
    rcases hc with rfl | rfl | rfl | rfl
    · exact (exec_debugHalt s t).trans (next_dev (tapDebug_of_closed _ hclosed))
    · exact (exec_debugResume s t).trans (next_dev (tapDebug_of_closed _ hclosed))
    · exact (exec_debugBreakpoint s t n b).trans (next_dev (if_neg (ne_true_of_eq_false hclosed)))
    · exact (exec_debugMemoryAccess s e a v).trans (next_dev (tapDebug_of_closed _ hclosed))

end Sys2Proof.Machine
end

section
/-! PROOFS. The statements of 16_access_control.md on password attempts and on the credentials that stay out of records (R458–R462). -/

namespace Sys2Proof.Machine

open Dev

/-! The objects of credentials and attempts (R457–R460). -/

/-- The rows of the password entries: 9 bytes, written at any level. -/
def passwordEntryRow : ObjRow := ⟨0x3207, 1, 0x1, 1, 4, .domain, .wo, 0, .lit [], .v, .i, .len 9 9⟩

theorem objRow_passwordEntry : ∀ j : Fin 4, objRow (K.AUTH_PASSWORD_ENTRY j) = some passwordEntryRow := by decide +kernel

theorem lengthOk_passwordEntry (bs : List Byte) : lengthOk passwordEntryRow bs = true ↔ bs.length = 9 := by
  simp only [lengthOk, passwordEntryRow, Ty.size, Bool.and_eq_true, decide_eq_true_eq]
  omega

/-- A credential or a password entry, whatever its sub-index, is written by the chapter on access. -/
theorem actOf_secret {key : Nat} (h : key / 256 = 0x3202 ∨ key / 256 = 0x3203 ∨ key / 256 = 0x3207) :
    actOf key = .cred ∨ actOf key = .password := by
  unfold actOf
  rcases h with h | h | h
  · rw [h]
    exact .inl rfl
  · rw [h]
    exact .inl rfl
  · rw [h]
    exact .inr rfl

theorem recordFirst_secret {key : Nat} (h : key / 256 = 0x3202 ∨ key / 256 = 0x3203 ∨ key / 256 = 0x3207) (bs : List Byte) :
    recordFirst key bs = [] := if_pos (by rcases h with h | h | h <;> rw [h] <;> rfl)

/-- An interface's place among the four, and its code. -/
theorem ownIx_of_iface {p : Src} {i : Nat} (h : p.iface = some i) : p.ownIx + 1 = i ∧ p.ownIx < 4 ∧ 1 ≤ i ∧ i ≤ 4 := by
  cases p <;> cases h <;> decide

namespace Dev

/-! An attempt (R459, R460). -/

variable {d : Dev} {i : Nat} {level : Byte} {pw : List Byte}

/-- The password of a level, as stored. -/
def storedPassword (d : Dev) (l : Nat) : List Byte := (d.obj (K.AUTH_PASSWORD (l - 2))).bs

/-- The password of the level asked for, which is set. -/
def rightPassword (d : Dev) (level : Byte) (pw : List Byte) : Prop :=
  (level.toNat = 2 ∨ level.toNat = 3) ∧ pw = d.storedPassword level.toNat ∧ ∃ b ∈ d.storedPassword level.toNat, b ≠ 0

theorem attemptOk_iff (d : Dev) (i : Nat) (level : Byte) (pw : List Byte) :
    d.attemptOk i false (level :: pw) = true ↔ d.rightPassword level pw := by
  unfold attemptOk rightPassword storedPassword
  by_cases h : level.toNat = 2 ∨ level.toNat = 3
  · have hl : ¬ (level.toNat ≠ 2 ∧ level.toNat ≠ 3) := by omega
    simp [hl, h, credSet, and_comm]
  · have hl : level.toNat ≠ 2 ∧ level.toNat ≠ 3 := by omega
    simp [hl]

theorem attemptOk_other_password (h : d.storedPassword 2 ≠ d.storedPassword 3) :
    d.attemptOk i false (2 :: d.storedPassword 3) = false ∧ d.attemptOk i false (3 :: d.storedPassword 2) = false := by
  simp only [← Bool.not_eq_true, attemptOk_iff]
  exact ⟨fun ⟨_, he, _⟩ => h he.symm, fun ⟨_, he, _⟩ => h he⟩

theorem attemptOk_other_level (h2 : level ≠ 2) (h3 : level ≠ 3) : d.attemptOk i false (level :: pw) = false := by
  rw [← Bool.not_eq_true, attemptOk_iff]
  rintro ⟨h | h, _⟩
  · exact h2 (BitVec.eq_of_toNat_eq h)
  · exact h3 (BitVec.eq_of_toNat_eq h)

/-- The rule of an attempt on its own interface without a back-off. -/
theorem attemptRule_own {p : Src} {data : List Byte} (hp : p.iface = some i) (hback : d.num K.AUTH_BACKOFF = 0) :
    d.attemptRule p i false data = if d.attemptOk i false data then .none else .access := by
  simp [attemptRule, ownSub, hp, hback]

/-- The chapter's rule of a password entry is the attempt's rule. -/
theorem chapterRule_passwordEntry {p : Src} (hp : p.iface = some i) (data : List Byte) :
    d.chapterRule p (K.AUTH_PASSWORD_ENTRY p.ownIx) (.bytes data) = d.attemptRule p i false data := by
  obtain ⟨ha, hu, -⟩ := key_authPasswordEntry p
  obtain ⟨rfl, -⟩ := ownIx_of_iface hp
  simp [chapterRule, ha, hu, railRule, engRule, boardRule, systemRule, Val.bs]

/-- The decision of a write of nine bytes to an interface's own password entry is the attempt's rule. -/
theorem writeRule_passwordEntry {p : Src} {data : List Byte} (hp : p.iface = some i) (hlen : data.length = 9)
    (hbusy : d.busyOn (K.AUTH_PASSWORD_ENTRY p.ownIx) = false) :
    d.writeRule p (K.AUTH_PASSWORD_ENTRY p.ownIx) data = d.attemptRule p i false data := by
  obtain ⟨-, hix, -, -⟩ := ownIx_of_iface hp
  obtain ⟨ha, -, -⟩ := key_authPasswordEntry p
  have hrow := objRow_passwordEntry ⟨p.ownIx, hix⟩
  have hlevel : ¬ d.level p < d.writeLevel passwordEntryRow (K.AUTH_PASSWORD_ENTRY p.ownIx) := by
    rw [writeLevel, ha, if_neg (by decide)]
    exact Nat.not_lt_zero _
  have hrange : rangeOk d passwordEntryRow (K.AUTH_PASSWORD_ENTRY p.ownIx) (passwordEntryRow.ty.decode data) = true := rfl
  rw [writeRule_some hrow, if_neg (by decide), if_neg hlevel, (lengthOk_passwordEntry data).mpr hlen, hrange, hbusy]
  exact chapterRule_passwordEntry hp data

/-! What an attempt leaves behind (R459, R462). -/

theorem num_recordOp (d : Dev) (p : Src) (code osn key : Nat) (r : Reason) (first : List Byte) (k : Nat) :
    (d.recordOp p code osn key r first).num k = d.num k := by
  unfold recordOp
  split
  · rfl
  · exact num_causeArg ..

/-- Of the objects an account of an operation changes `OP_LAST` alone. -/
theorem num_noteLast (d : Dev) (p : Src) (osn : Nat) (r : Reason) {k : Nat} (hk : 0x300000 ≤ k) :
    (d.noteLast p osn r).num k = d.num k := by
  cases p
  case seq => rfl
  all_goals exact num_setNum_other d _ (by simp only [K.OP_LAST]; omega)

/-- An accepted write, accounted for but for its record. -/
def accepting (d : Dev) (w : HostWrite) : Dev :=
  (d.enterWith w.port w.key (if runs w.key (valueOf w.key w.bytes) then .running else .done) .none (recordFirst w.key w.bytes)).noteLast
    w.port d.osnNext .none

/-- The account of an accepted write has its record or not. -/
theorem admitted_eq (d : Dev) (w : HostWrite) :
    d.admitted w = d.accepting w ∨
      d.admitted w = (d.accepting w).recordOp w.port 0x40 d.osnNext w.key .none (recordFirst w.key w.bytes) := by
  cases h : d.flag K.OP_RECORD && decide ((match objRow w.key with | some o => d.writeLevel o w.key | none => 0) ≥ 1)
  · exact .inl (if_neg (ne_true_of_eq_false h))
  · exact .inr (if_pos h)

theorem num_admitted (d : Dev) (w : HostWrite) {k : Nat} (hk : 0x300000 ≤ k) : (d.admitted w).num k = d.num k := by
  rcases d.admitted_eq w with h | h
  · rw [h]
    exact num_noteLast _ _ _ _ hk
  · rw [h]
    exact (num_recordOp ..).trans (num_noteLast _ _ _ _ hk)

/-- A two-wire event counts in one of the seven error counts of its target. -/
theorem num_twEvent (d : Dev) (t : TwPort) (code osn : Nat) {k : Nat} (hk : ∀ i < 7, k ≠ K.PMB_ERR_COUNT i ∧ k ≠ K.SVC_ERR_COUNT i) :
    (d.twEvent t code osn).num k = d.num k := by
  unfold twEvent
  dsimp only
  split
  · next i hi =>
    obtain ⟨hlt, -⟩ := List.findIdx?_eq_some_iff_getElem.mp hi
    obtain ⟨hpmb, hsvc⟩ := hk i hlt
    refine (num_bump_other _ _ ?_).trans (num_causeArg ..)
    cases t
    · exact hpmb
    · exact hsvc
  · exact num_causeArg ..

/-- What a change of a two-wire target leaves alone. -/
theorem modTw_rest (d : Dev) (t : TwPort) (f : TwTarget → TwTarget) :
    (d.modTw t f).objs = d.objs ∧ (d.modTw t f).acc = d.acc ∧ (d.modTw t f).ev = d.ev := by cases t <;> exact ⟨rfl, rfl, rfl⟩

theorem num_twFault (d : Dev) (t : TwPort) (bit code osn : Nat) {k : Nat}
    (hk : ∀ i < 7, k ≠ K.PMB_ERR_COUNT i ∧ k ≠ K.SVC_ERR_COUNT i) : (d.twFault t bit code osn).num k = d.num k := by
  obtain ⟨hobjs, -⟩ := d.modTw_rest t (fun x => { x with cml := Machine.putBit x.cml bit true })
  exact (num_twEvent _ _ _ _ hk).trans (congrArg Val.int (obj_congr d hobjs k))

theorem twEvent_acc (d : Dev) (t : TwPort) (code osn : Nat) : (d.twEvent t code osn).acc = d.acc := by
  unfold twEvent
  dsimp only
  split <;> simp

theorem twFault_acc (d : Dev) (t : TwPort) (bit code osn : Nat) : (d.twFault t bit code osn).acc = d.acc :=
  (twEvent_acc ..).trans (d.modTw_rest t _).2.1

theorem num_reply (d : Dev) (p : Src) (a : Answer) (k : Nat) : (d.reply p a).num k = d.num k := by
  unfold reply
  split <;> rfl

theorem num_sdoAbort (d : Dev) (p : Src) (code k : Nat) : (d.sdoAbort p code).num k = d.num k := by
  unfold sdoAbort
  split
  · rfl
  · exact num_causeArg ..

theorem reply_acc (d : Dev) (p : Src) (a : Answer) : (d.reply p a).acc = d.acc := by
  unfold reply
  split <;> rfl

theorem sdoAbort_acc (d : Dev) (p : Src) (code : Nat) : (d.sdoAbort p code).acc = d.acc := by
  unfold sdoAbort
  split <;> simp

/-- The answer to a write is a fault and an acknowledgement of a target, an abort or an answer of a CAN bus, or none. -/
theorem answerWrite_cases (d : Dev) (p : Src) (key : Nat) (r : Reason) (osn : Nat) :
    (∃ t, d.answerWrite p key r osn = (d.twFault t 6 6 osn).answering .ack) ∨ d.answerWrite p key r osn = d.answering .ack ∨
      d.answerWrite p key r osn = d.sdoAbort p (mapAbort key r) ∨ d.answerWrite p key r osn = d ∨
      d.answerWrite p key r osn = d.reply p .ack := by
  unfold answerWrite
  split
  · next t _ =>
    by_cases hr : r = .none
    · exact .inr (.inl (by rw [if_pos hr]))
    · exact .inl ⟨t, by rw [if_neg hr]⟩
  · split
    · exact .inr (.inr (.inl rfl))
    · split
      · exact .inr (.inr (.inr (.inl rfl)))
      · exact .inr (.inr (.inr (.inr rfl)))

theorem num_answerWrite (d : Dev) (p : Src) (key : Nat) (r : Reason) (osn : Nat) {k : Nat} (hk : 0x300000 ≤ k) :
    (d.answerWrite p key r osn).num k = d.num k := by
  rcases d.answerWrite_cases p key r osn with ⟨t, h⟩ | h | h | h | h
  · rw [h]
    refine num_twFault d t 6 6 osn fun i hi => ?_
    simp only [K.PMB_ERR_COUNT, K.SVC_ERR_COUNT]
    omega
  · rw [h]
    rfl
  · rw [h]
    exact num_sdoAbort ..
  · rw [h]
  · rw [h]
    exact num_reply ..

theorem iface_answerWrite (d : Dev) (p : Src) (key : Nat) (r : Reason) (osn i : Nat) : (d.answerWrite p key r osn).iface i = d.iface i := by
  refine iface_congr (congrArg Access.ifs ?_) i
  rcases d.answerWrite_cases p key r osn with ⟨t, h⟩ | h | h | h | h
  · rw [h]
    exact twFault_acc ..
  · rw [h]
    rfl
  · rw [h]
    exact sdoAbort_acc ..
  · rw [h]
  · rw [h]
    exact reply_acc ..

/-- A right attempt opens a session of its level and clears the count of failures. -/
theorem attemptOpen_opens (d : Dev) (level : Byte) (pw : List Byte) (osn : Nat) (hlo : 1 ≤ i) (hhi : i ≤ 4) :
    (d.attemptOpen i false (level :: pw) osn).num K.AUTH_FAIL_COUNT = 0 ∧
      ((d.attemptOpen i false (level :: pw) osn).iface i).level = level.toNat := by
  refine ⟨(num_causeArg ..).trans (num_setNum_self ..), ?_⟩
  have hopen := iface_modIface_self (d.attemptBegin i false osn) (fun x => { x with level := level.toNat }) hlo hhi
  rw [attemptOpen, iface_congr (congrArg Access.ifs (causeOsn_acc ..)), iface_congr (congrArg Access.ifs (setNum_acc ..))]
  exact congrArg Iface.level hopen

theorem backoffSet_ifs (d : Dev) (n : Nat) : (d.backoffSet n).acc.ifs = d.acc.ifs := by
  simp [backoffSet]

/-- A failed attempt is counted, and some back-off is set. -/
theorem attemptFail_eq (d : Dev) (i : Nat) (resp : Bool) (osn : Nat) : ∃ n,
    d.attemptFail i resp osn = (((d.attemptBegin i resp osn).bump K.AUTH_FAIL_COUNT 8).backoffSet n).causeOsn 122 (0x28 + i) osn :=
  ⟨_, rfl⟩

theorem attemptFail_iface (d : Dev) (i : Nat) (resp : Bool) (osn j : Nat) :
    (d.attemptFail i resp osn).iface j = (d.attemptBegin i resp osn).iface j := by
  obtain ⟨n, h⟩ := d.attemptFail_eq i resp osn
  rw [h, iface_congr (congrArg Access.ifs (causeOsn_acc ..)), iface_congr (backoffSet_ifs ..),
    iface_congr (congrArg Access.ifs (bump_acc ..))]

/-- A failed attempt leaves no session. -/
theorem attemptFail_level (d : Dev) (resp : Bool) (osn : Nat) (hlo : 1 ≤ i) (hhi : i ≤ 4) :
    ((d.attemptFail i resp osn).iface i).level < 2 := by
  rw [attemptFail_iface]
  cases resp
  · exact sessionEnd_level d 6 osn hlo hhi
  · have hiface := iface_modIface_self (d.sessionEnd i 6 osn) (fun x => { x with nonce := none }) hlo hhi
    exact (congrArg Iface.level hiface).trans_lt (sessionEnd_level d 6 osn hlo hhi)

/-! The write of a password entry (R458–R460). -/

/-- A right password, written. -/
theorem hostWrite_passwordEntry_right {p : Src} {data : List Byte} (hgate : d.gateOf p = .open_)
    (hrule : d.writeRule p (K.AUTH_PASSWORD_ENTRY p.ownIx) data = .none) :
    d.hostWrite p (K.AUTH_PASSWORD_ENTRY p.ownIx) data =
      ((d.admitted ⟨p, K.AUTH_PASSWORD_ENTRY p.ownIx, data⟩).attemptOpen (p.ownIx + 1) false data d.osnNext).answerWrite p
        (K.AUTH_PASSWORD_ENTRY p.ownIx) .none d.osnNext := by
  obtain ⟨ha, -, -⟩ := key_authPasswordEntry p
  have heffect := Option.some.inj (effect_authPasswordEntry (d.admitted ⟨p, K.AUTH_PASSWORD_ENTRY p.ownIx, data⟩) d.osnNext p data)
  refine (hostWrite_accepted (w := ⟨p, K.AUTH_PASSWORD_ENTRY p.ownIx, data⟩) hgate ?_ hrule).trans ?_
  · rw [ha]
    decide
  · rw [heffect]

/-- The account of a refused write: its entry, `OP_LAST` and its record. -/
def refusing (d : Dev) (p : Src) (key : Nat) (bs : List Byte) (r : Reason) : Dev :=
  ((d.enterWith p key .refused r (recordFirst key bs)).noteLast p d.osnNext r).recordOp p 0x41 d.osnNext key r (recordFirst key bs)

theorem num_refusing (d : Dev) (p : Src) (key : Nat) (bs : List Byte) (r : Reason) {k : Nat} (hk : 0x300000 ≤ k) :
    (d.refusing p key bs r).num k = d.num k := (num_recordOp ..).trans (num_noteLast _ _ _ _ hk)

/-- A wrong password, written on its own interface: a failed attempt. -/
theorem hostWrite_passwordEntry_wrong {p : Src} {data : List Byte} (hp : p.iface = some i) (hgate : d.gateOf p = .open_)
    (hrule : d.writeRule p (K.AUTH_PASSWORD_ENTRY p.ownIx) data = .access) :
    d.hostWrite p (K.AUTH_PASSWORD_ENTRY p.ownIx) data =
      ((d.refusing p (K.AUTH_PASSWORD_ENTRY p.ownIx) data .access).attemptFail i false d.osnNext).answerWrite p
        (K.AUTH_PASSWORD_ENTRY p.ownIx) .access d.osnNext := by
  obtain ⟨ha, hu, -⟩ := key_authPasswordEntry p
  obtain ⟨hi, -⟩ := ownIx_of_iface hp
  have hown : ownSub p i = true := by simp [ownSub, hp]
  rw [hostWrite_refused hgate (by rw [hrule]; decide), hrule]
  congr 1
  simp only [refusedAct, ha, hu, hi, hown, and_self, if_true]
  rfl

end Dev

/-- Settles O6: `attemptOk_iff` and `attemptRule_own` for the attempt, and its write by `writeRule_passwordEntry`. -/
theorem passwordAttempts : Obligations.PasswordAttempts := by
  unfold Obligations.PasswordAttempts
  intro s p i level pw hlen hp d stored right
  obtain ⟨hix, hix4, hlo, hhi⟩ := ownIx_of_iface hp
  have hok : d.attemptOk i false (level :: pw) = true ↔ right := attemptOk_iff d i level pw
  have hrule : d.num K.AUTH_BACKOFF = 0 → (right → d.attemptRule p i false (level :: pw) = .none) ∧
      (¬ right → d.attemptRule p i false (level :: pw) = .access) := fun hback =>
    ⟨fun h => (attemptRule_own hp hback).trans (if_pos (hok.mpr h)), fun h => (attemptRule_own hp hback).trans (if_neg (mt hok.mp h))⟩
  refine ⟨fun j => ⟨_, objRow_passwordEntry j, lengthOk_passwordEntry⟩, hok, hrule, fun hgate hback hfree => ?_,
    attemptOk_other_password, fun l h2 h3 => attemptOk_other_level h2 h3⟩
  intro k
  have hbusy : d.busyOn (K.AUTH_PASSWORD_ENTRY p.ownIx) = false := busyOn_eq_false (by
    rw [show p.ownIx = i - 1 by omega]
    exact hfree)
  have hwrite : d.writeRule p (K.AUTH_PASSWORD_ENTRY p.ownIx) (level :: pw) = d.attemptRule p i false (level :: pw) :=
    writeRule_passwordEntry hp (by rw [List.length_cons, hlen]) hbusy
  refine ⟨_, exec_authPasswordEntry s p (level :: pw), fun hr => ?_, fun hr => ?_⟩
  · have ht := hostWrite_passwordEntry_right hgate (hwrite.trans ((hrule hback).1 hr))
    rw [hix] at ht
    obtain ⟨hcount, hlevel⟩ :=
      attemptOpen_opens (d.admitted ⟨p, K.AUTH_PASSWORD_ENTRY p.ownIx, level :: pw⟩) level pw d.osnNext hlo hhi
    refine ⟨(congrArg (num · K.AUTH_FAIL_COUNT) ht).trans ((num_answerWrite _ _ _ _ _ (by decide)).trans hcount), ?_⟩
    exact (congrArg (fun e : Dev => (e.iface i).level) ht).trans ((congrArg Iface.level (iface_answerWrite ..)).trans hlevel)
  · have ht := hostWrite_passwordEntry_wrong hp hgate (hwrite.trans ((hrule hback).2 hr))
    have hk : (d.refusing p (K.AUTH_PASSWORD_ENTRY p.ownIx) (level :: pw) .access).nextFailures = k := by
      rw [nextFailures, num_refusing _ _ _ _ _ (by decide)]
    obtain ⟨hcount, hback⟩ := attemptFail_counts (d.refusing p (K.AUTH_PASSWORD_ENTRY p.ownIx) (level :: pw) .access) i false d.osnNext
    rw [hk] at hcount hback
    refine ⟨?_, ?_, ?_⟩
    · exact (congrArg (nat · K.AUTH_FAIL_COUNT) ht).trans ((congrArg Int.toNat (num_answerWrite _ _ _ _ _ (by decide))).trans hcount)
    · exact (congrArg (nat · K.AUTH_BACKOFF) ht).trans ((congrArg Int.toNat (num_answerWrite _ _ _ _ _ (by decide))).trans hback)
    · refine ((congrArg (fun e : Dev => (e.iface i).level) ht).trans (congrArg Iface.level (iface_answerWrite ..))).trans_lt ?_
      exact attemptFail_level _ false d.osnNext hlo hhi

end Sys2Proof.Machine
end

section
/-! PROOFS. What the records of an operation carry of its bytes (R458). -/

namespace Sys2Proof.Machine

open Dev

/-- No record 40h or 41h of a source and an OSN carries bytes of a write in the fifth to eighth byte of its detail. -/
def CleanRecords (src osn : Nat) (causes : List Cause) : Prop :=
  ∀ x ∈ causes, x.src = src → x.code = 0x40 ∨ x.code = 0x41 → x.osn = osn → slice x.arg 4 4 = [0, 0, 0, 0]

namespace Dev

variable {d : Dev} {src osn : Nat}

/-- A cause of another source, of another code, of another operation or with a clean detail keeps the records clean. -/
theorem cleanRecords_causeArg {src' code osn' : Nat} {arg : List Byte} (h : CleanRecords src osn d.ev.causes)
    (hnew : src' = src → code = 0x40 ∨ code = 0x41 → slice arg 4 4 = [0, 0, 0, 0]) :
    CleanRecords src osn (d.causeArg src' code osn' arg).ev.causes := by
  unfold causeArg
  split
  · split <;> exact h
  dsimp only
  split
  · intro x hx hs hc ho
    obtain ⟨c, hc', rfl⟩ := List.mem_map.mp hx
    split at hs
    · next hsame =>
      simp only [hsame, if_true] at hs hc ⊢
      obtain ⟨⟨hsrc, hcode⟩, -⟩ : (c.src = src' ∧ c.code = code) ∧ c.osn = osn' := by simpa using hsame
      exact hnew (hsrc.symm.trans hs) (hcode ▸ hc)
    · next hsame =>
      simp only [hsame] at hs hc ho ⊢
      exact h c hc' hs hc ho
  · intro x hx hs hc ho
    rcases List.mem_append.mp hx with hx | hx
    · exact h x hx hs hc ho
    · obtain rfl := List.mem_singleton.mp hx
      exact hnew hs hc

theorem cleanRecords_of_other {src' : Nat} (code osn' : Nat) (arg : List Byte) (hsrc : src' ≠ src) (h : CleanRecords src osn d.ev.causes) :
    CleanRecords src osn (d.causeArg src' code osn' arg).ev.causes := cleanRecords_causeArg h fun hs _ => absurd hs hsrc

theorem cleanRecords_of_code {src' code : Nat} (osn' : Nat) (arg : List Byte) (hcode : code ≠ 0x40 ∧ code ≠ 0x41)
    (h : CleanRecords src osn d.ev.causes) : CleanRecords src osn (d.causeArg src' code osn' arg).ev.causes :=
  cleanRecords_causeArg h fun _ hc => (hc.elim hcode.1 hcode.2).elim

/-- The record of an operation of which nothing written is recorded is clean. -/
theorem cleanRecords_recordOp (p : Src) (code osn' key : Nat) (r : Reason) (h : CleanRecords src osn d.ev.causes) :
    CleanRecords src osn (d.recordOp p code osn' key r []).ev.causes := by
  unfold recordOp
  split
  · exact h
  · exact cleanRecords_causeArg h fun _ _ => rfl

theorem noteLast_ev (d : Dev) (p : Src) (osn : Nat) (r : Reason) : (d.noteLast p osn r).ev = d.ev := by
  cases p <;> simp [noteLast, modTw, Src.lastIx, Src.tw]

theorem debugClose_ev (d : Dev) : d.debugClose.ev = d.ev := by
  obtain ⟨eng, h⟩ := d.debugClose_eq
  rw [h]
  exact setNum_ev d K.DEBUG_OPEN 0

/-! Sessions, attempts and credentials have the source 122, which is no port's. -/

theorem cleanRecords_sessionEnd (i cause osn' : Nat) (hsrc : 122 ≠ src) (h : CleanRecords src osn d.ev.causes) :
    CleanRecords src osn (d.sessionEnd i cause osn').ev.causes := by
  unfold sessionEnd
  split
  · have hend := cleanRecords_of_other (d := d.modIface i (fun x => { x with level := 0, endCause := cause })) (0x20 + i) osn' [] hsrc h
    dsimp only
    split
    · unfold debugShut
      split
      · refine cleanRecords_of_other _ _ _ hsrc ?_
        rw [debugClose_ev]
        exact hend
      · exact hend
    · exact hend
  · exact h

theorem cleanRecords_attemptBegin (i : Nat) (resp : Bool) (osn' : Nat) (hsrc : 122 ≠ src) (h : CleanRecords src osn d.ev.causes) :
    CleanRecords src osn (d.attemptBegin i resp osn').ev.causes := by
  cases resp <;> exact cleanRecords_sessionEnd i 6 osn' hsrc h

theorem cleanRecords_attemptFail (i : Nat) (resp : Bool) (osn' : Nat) (hsrc : 122 ≠ src) (h : CleanRecords src osn d.ev.causes) :
    CleanRecords src osn (d.attemptFail i resp osn').ev.causes := by
  refine cleanRecords_of_other _ _ _ hsrc ?_
  simpa [backoffSet] using cleanRecords_attemptBegin i resp osn' hsrc h

theorem cleanRecords_attemptOpen (i : Nat) (resp : Bool) (data : List Byte) (osn' : Nat) (hsrc : 122 ≠ src)
    (h : CleanRecords src osn d.ev.causes) : CleanRecords src osn (d.attemptOpen i resp data osn').ev.causes := by
  refine cleanRecords_of_other _ _ _ hsrc ?_
  rw [setNum_ev]
  exact cleanRecords_attemptBegin i resp osn' hsrc h

theorem cleanRecords_credWrite (key : Nat) (bs : List Byte) (osn' : Nat) (hsrc : 122 ≠ src) (h : CleanRecords src osn d.ev.causes) :
    CleanRecords src osn (d.credWrite key bs osn').ev.causes := by
  refine cleanRecords_of_other _ _ _ hsrc ?_
  rwa [setObj_ev]

/-- The answer of a port is told by the events 06h and 17h, or by none. -/
theorem cleanRecords_answerWrite (p : Src) (key : Nat) (r : Reason) (osn' : Nat) (h : CleanRecords src osn d.ev.causes) :
    CleanRecords src osn (d.answerWrite p key r osn').ev.causes := by
  rcases d.answerWrite_cases p key r osn' with ⟨t, he⟩ | he | he | he | he
  · rw [he]
    obtain ⟨-, -, hev⟩ := d.modTw_rest t (fun x => { x with cml := Machine.putBit x.cml 6 true })
    exact cleanRecords_of_code osn' [] (by decide) (by rwa [hev])
  · rw [he]
    exact h
  · rw [he]
    unfold sdoAbort
    split
    · exact h
    · exact cleanRecords_of_code 0 _ (by decide) h
  · rwa [he]
  · rw [he]
    unfold reply
    split <;> exact h

/-! What an accepted and a refused write of a credential or a password entry does. -/

theorem carryOut_cred {key : Nat} (h : actOf key = .cred) (d : Dev) (p : Src) (v : Val) (osn : Nat) :
    d.carryOut p key v osn = d.credWrite key v.bs osn := by
  unfold carryOut
  rw [h]
  rfl

theorem carryOut_password {key : Nat} (h : actOf key = .password) (d : Dev) (p : Src) (v : Val) (osn : Nat) :
    d.carryOut p key v osn = d.attemptOpen (keyUnit key + 1) false v.bs osn := by
  unfold carryOut
  rw [h]
  rfl

theorem refusedAct_cred {key : Nat} (h : actOf key = .cred) (d : Dev) (p : Src) (v : Val) (r : Reason) (osn : Nat) :
    d.refusedAct p key v r osn = d := by
  unfold refusedAct
  rw [h]

theorem refusedAct_password {key : Nat} (h : actOf key = .password) (d : Dev) (p : Src) (v : Val) (r : Reason) (osn : Nat) :
    d.refusedAct p key v r osn = if r = .access ∧ ownSub p (keyUnit key + 1) = true then d.attemptFail (keyUnit key + 1) false osn else d := by
  unfold refusedAct
  rw [h]

/-- The only new entry of the table is the write's own. -/
theorem mem_ops_enterWith {p : Src} {key : Nat} {st : OpState} {r : Reason} {first : List Byte} {e : OpEntry}
    (h : e ∈ (d.enterWith p key st r first).ops) : e ∈ d.ops ∨ e.first = first := by
  rcases List.mem_append.mp h with h | h
  · refine .inl ?_
    unfold dropOldest at h
    split at h
    · exact h
    · exact List.mem_of_mem_eraseP h
  · obtain rfl := List.mem_singleton.mp h
    exact .inr rfl

/-- A write whose record carries nothing: its account, whatever its decision. -/
def secretEntered (d : Dev) (p : Src) (key : Nat) (st : OpState) (r : Reason) : Dev :=
  (d.enterWith p key st r []).noteLast p d.osnNext r

theorem cleanRecords_secretEntered (p : Src) (key : Nat) (st : OpState) (r : Reason) (h : CleanRecords src osn d.ev.causes) :
    CleanRecords src osn (d.secretEntered p key st r).ev.causes := by
  rw [secretEntered, noteLast_ev]
  exact h

theorem opTable_secretEntered (d : Dev) (p : Src) (key : Nat) (st : OpState) (r : Reason) :
    (d.secretEntered p key st r).opTable = (d.enterWith p key st r []).opTable := opTable_noteLast ..

/-- A write of a credential or of a password entry at an open port: its records are clean, and its table that of its entry. -/
theorem hostWrite_secret {w : HostWrite} (hsrc : 122 ≠ src) (hkey : w.key / 256 = 0x3202 ∨ w.key / 256 = 0x3203 ∨ w.key / 256 = 0x3207)
    (hgate : d.gateOf w.port = .open_) (h : CleanRecords src osn d.ev.causes) :
    CleanRecords src osn (d.hostWrite w.port w.key w.bytes).ev.causes ∧
      ∃ st, (d.hostWrite w.port w.key w.bytes).opTable = (d.enterWith w.port w.key st (d.writeRule w.port w.key w.bytes) []).opTable := by
  have hfirst := recordFirst_secret hkey w.bytes
  have hact := actOf_secret hkey
  by_cases hr : d.writeRule w.port w.key w.bytes = .none
  · have hadmit : CleanRecords src osn (d.admitted w).ev.causes ∧
        ∃ st, (d.admitted w).opTable = (d.enterWith w.port w.key st .none []).opTable := by
      have hclean := fun st => cleanRecords_secretEntered w.port w.key st .none h
      rcases d.admitted_eq w with he | he <;> rw [he, accepting, hfirst]
      · exact ⟨hclean _, _, opTable_secretEntered ..⟩
      · exact ⟨cleanRecords_recordOp w.port 0x40 _ w.key .none (hclean _), _, (opTable_recordOp ..).trans (opTable_secretEntered ..)⟩
    obtain ⟨hclean, st, htable⟩ := hadmit
    have hopen : actOf w.key ≠ .bulkLoad := by rcases hact with ha | ha <;> rw [ha] <;> decide
    rw [hostWrite_accepted hgate hopen hr, hr, opTable_answerWrite]
    rcases hact with ha | ha
    · rw [carryOut_cred ha, opTable_credWrite]
      exact ⟨cleanRecords_answerWrite _ _ _ _ (cleanRecords_credWrite _ _ _ hsrc hclean), st, htable⟩
    · rw [carryOut_password ha, opTable_attemptOpen]
      exact ⟨cleanRecords_answerWrite _ _ _ _ (cleanRecords_attemptOpen _ _ _ _ hsrc hclean), st, htable⟩
  · have hclean := cleanRecords_recordOp w.port 0x41 d.osnNext w.key (d.writeRule w.port w.key w.bytes)
      (cleanRecords_secretEntered w.port w.key .refused (d.writeRule w.port w.key w.bytes) h)
    rw [hostWrite_refused hgate hr, hfirst, opTable_answerWrite, opTable_refusedAct, opTable_recordOp]
    refine ⟨cleanRecords_answerWrite _ _ _ _ ?_, .refused, opTable_secretEntered ..⟩
    rcases hact with ha | ha
    · rwa [refusedAct_cred ha]
    · rw [refusedAct_password ha]
      split
      · exact cleanRecords_attemptFail _ _ _ hsrc hclean
      · exact hclean

end Dev

theorem evSource_ne_access (p : Src) : 122 ≠ p.evSource := by cases p <;> decide

/-- Settles O7: `hostWrite_secret`, from a list of causes that holds none of the operation yet. -/
theorem credentialsStayOut : Obligations.CredentialsStayOut := by
  unfold Obligations.CredentialsStayOut
  intro s c w d hw hkey hgate hnew
  have hclean : CleanRecords w.port.evSource d.osnNext d.ev.causes := fun x hx _ _ ho => absurd ho (hnew x hx)
  obtain ⟨hrecords, st, htable⟩ := hostWrite_secret (evSource_ne_access w.port) hkey hgate hclean
  refine ⟨_, exec_hostWrite s hw, hrecords, fun e he _ hold => ?_⟩
  have hops : (d.hostWrite w.port w.key w.bytes).ops = _ := congrArg Prod.fst htable
  exact (mem_ops_enterWith (hops ▸ he)).resolve_left hold

end Sys2Proof.Machine
end

section
/-! PROOFS. Accepted writes of power states, storage, firmware, bulk and access (R355–R465), and `BULK_LOAD` (R361). -/

namespace Sys2Proof.Machine

open Dev

/-! The objects of which only two sub-indices exist. -/

/-- A write that is accepted is a write of an object. -/
theorem objRow_of_writeRule {d : Dev} {p : Src} {key : Nat} {bs : List Byte} (h : d.writeRule p key bs = .none) : (objRow key).isSome = true := by
  cases hrow : objRow key with
  | some r => rfl
  | none =>
    rw [writeRule, hrow] at h
    dsimp only at h
    split at h
    · cases h
    · split at h <;> cases h

theorem sub_of_bulkWindow : ∀ sub : Fin 256, (objRow (0x2E60 * 256 + sub)).isSome = true → sub = 1 ∨ sub = 2 := by decide +kernel

theorem sub_of_bulkObject : ∀ sub : Fin 256, (objRow (0x2E61 * 256 + sub)).isSome = true → sub = 1 ∨ sub = 2 := by decide +kernel

theorem sub_of_bulkLoad : ∀ sub : Fin 256, (objRow (0x2E6300 + sub)).isSome = true → sub = 1 ∨ sub = 2 := by decide +kernel

theorem sub_of_authPassword (sub : BitVec 8) (h : (objRow (0x3202 * 256 + sub.toNat)).isSome = true) : sub = 1 ∨ sub = 2 := by
  have hall : ∀ n : Fin 256, (objRow (0x3202 * 256 + n)).isSome = true → n = 1 ∨ n = 2 := by decide +kernel
  exact (hall sub.toFin h).imp (fun h => BitVec.eq_of_toFin_eq h) (fun h => BitVec.eq_of_toFin_eq h)

/-! The answer to an accepted write. -/

/-- The store or restore of a write over SDO runs: the answer waits for its end (R393). -/
abbrev AnswersLate (e : Dev) (p : Src) (key : Nat) : Prop :=
  (p = .canA ∨ p = .canB) ∧ e.busyOn key = true ∧ (key = K.STORE_PARAMETERS ∨ key = K.RESTORE_DEFAULT_PARAMETERS)

/-- A port that enters operations is a two-wire target or a CAN port. -/
theorem port_of_gate_open {d : Dev} {p : Src} (h : d.gateOf p = .open_) : (∃ t, p.tw = some t) ∨ p = .canA ∨ p = .canB := by
  cases p
  case pmbus => exact .inl ⟨_, rfl⟩
  case svc => exact .inl ⟨_, rfl⟩
  case canA => exact .inr (.inl rfl)
  case canB => exact .inr (.inr rfl)
  all_goals cases h

theorem not_late_of_tw {e : Dev} {p : Src} {t : TwPort} (key : Nat) (h : p.tw = some t) : ¬ AnswersLate e p key := by
  rintro ⟨rfl | rfl, -⟩ <;> cases h

/-- An accepted write is acknowledged at once or late. -/
theorem answerWrite_accepted {d e : Dev} {p : Src} {key osn : Nat} (ho : d.gateOf p = .open_) :
    e.answerWrite p key .none osn = if AnswersLate e p key then e else e.reply p .ack := by
  rcases port_of_gate_open ho with ⟨t, ht⟩ | hcan
  · have hmuted : e.muted p = false := by cases p <;> cases ht <;> rfl
    rw [if_neg (not_late_of_tw key ht), answerWrite, ht, reply, hmuted]
    rfl
  · have htw : p.tw = none := by rcases hcan with rfl | rfl <;> rfl
    rw [answerWrite, htw]
    simp only [AnswersLate, hcan, ne_eq, not_true_eq_false, if_false, true_and]

/-! The rows of the effect table. -/

/-- A row of the effect table that is what its object's chapter carries out. -/
theorem systemEffect_eq_of_act {m e : Dev} {c : Instr} {w : HostWrite} {p : Src} {key osn : Nat} {bs : List Byte} {a : Act}
    (hw : hostWriteOf c = some w) (hrow : hostWriteOf c = some ⟨p, key, bs⟩)
    (h : systemEffect m osn c = some (m.carryOut p key (valueOf key bs) osn)) (ha : actOf key = a) (he : systemEffect m osn c = some e)
    (hbulk : a ≠ .bulkLoad := by decide) : e = m.carryOut w.port w.key (valueOf w.key w.bytes) osn ∧ actOf w.key ≠ .bulkLoad := by
  cases hw.symm.trans hrow
  exact ⟨Option.some.inj (he.symm.trans h), ha ▸ hbulk⟩

/-- Each row of the system's effect table is what its object's chapter carries out, of an object that exists. -/
theorem systemEffect_carryOut {m e : Dev} {osn : Nat} {c : Instr} {w : HostWrite} (hw : hostWriteOf c = some w)
    (hrow : (objRow w.key).isSome = true) (he : systemEffect m osn c = some e) :
    e = m.carryOut w.port w.key (valueOf w.key w.bytes) osn ∧ actOf w.key ≠ .bulkLoad := by
  cases c
  case domeCmd p bs => exact systemEffect_eq_of_act hw rfl (effect_domeCmd m osn p bs) key_domeCmd.1 he
  case softReset p bs => exact systemEffect_eq_of_act hw rfl (effect_softReset m osn p bs) key_softReset.1 he
  case storeParameters p bs => exact systemEffect_eq_of_act hw rfl (effect_storeParameters m osn p bs) key_storeParameters.1 he
  case restoreDefaultParameters p bs =>
    exact systemEffect_eq_of_act hw rfl (effect_restoreDefaultParameters m osn p bs) key_restoreDefaultParameters.1 he
  case factorySettings p bs => exact systemEffect_eq_of_act hw rfl (effect_factorySettings m osn p bs) key_factorySettings.1 he
  case fwErase p bs => exact systemEffect_eq_of_act hw rfl (effect_fwErase m osn p bs) key_fwErase.1 he
  case fwWrite p bs => exact systemEffect_eq_of_act hw rfl (effect_fwWrite m osn p bs) key_fwWrite.1 he
  case fwVerify p bs => exact systemEffect_eq_of_act hw rfl (effect_fwVerify m osn p bs) key_fwVerify.1 he
  case fwSwitch p bs => exact systemEffect_eq_of_act hw rfl (effect_fwSwitch m osn p bs) key_fwSwitch.1 he
  case fwConfirm p bs => exact systemEffect_eq_of_act hw rfl (effect_fwConfirm m osn p bs) key_fwConfirm.1 he
  case pmbXfer p bs => exact systemEffect_eq_of_act hw rfl (effect_pmbXfer m osn p bs) key_pmbXfer.1 he
  case lbXfer p bs => exact systemEffect_eq_of_act hw rfl (effect_lbXfer m osn p bs) key_lbXfer.1 he
  case bulkWindowWrite p sub bs =>
    cases hw
    have hs := sub_of_bulkWindow sub hrow
    exact systemEffect_eq_of_act rfl rfl (effect_bulkWindowWrite m osn p sub bs hs) (key_bulkWindowWrite hs).1 he
  case bulkObjectWrite p sub bs =>
    cases hw
    have hs := sub_of_bulkObject sub hrow
    exact systemEffect_eq_of_act rfl rfl (effect_bulkObjectWrite m osn p sub bs hs) (key_bulkObjectWrite hs).1 he
  case authResponse p bs => exact systemEffect_eq_of_act hw rfl (effect_authResponse m osn p bs) (key_authResponse p).1 he
  case authPasswordEntry p bs =>
    exact systemEffect_eq_of_act hw rfl (effect_authPasswordEntry m osn p bs) (key_authPasswordEntry p).1 he
  case authClose p => exact systemEffect_eq_of_act hw rfl (effect_authClose m osn p) (key_authClose p).1 he
  case authPasswordWrite p sub bs =>
    cases hw
    have hs := sub_of_authPassword sub hrow
    exact systemEffect_eq_of_act rfl rfl (effect_authPasswordWrite m osn p sub bs hs) (key_authPasswordWrite hs).1 he
  case authKeyWrite p bs => exact systemEffect_eq_of_act hw rfl (effect_authKeyWrite m osn p bs) key_authKeyWrite.1 he
  case lockStateWrite p bs => exact systemEffect_eq_of_act hw rfl (effect_lockStateWrite m osn p bs) key_lockStateWrite.1 he
  case debugOpen p bs => exact systemEffect_eq_of_act hw rfl (effect_debugOpen m osn p bs) key_debugOpen.1 he
  case objectWrite p i sub bs =>
    cases hw
    rw [systemEffect] at he
    split at he
    · cases he
    · next hbulk => exact ⟨(Option.some.inj he).symm, hbulk⟩
  all_goals cases he

/-! `BULK_LOAD`. -/

theorem key_bulkLoad {sub : Fin 256} (hs : sub = 1 ∨ sub = 2) :
    actOf (0x2E6300 + sub) = .bulkLoad ∧ keyUnit (0x2E6300 + sub) = sub.val - 1 ∧
      bulkPort (sub.val - 1) = if sub.val = 1 then .pmb else .svc := by
  obtain rfl | rfl := hs <;> decide +kernel

/-- An accepted write that is not refused in its turn: the staged bytes are written to the object named, and the buffer is cleared. -/
theorem hostWrite_bulkLoad {d : Dev} {p : Src} {key : Nat} {bs : List Byte} {w : HostWrite} (ha : actOf key = .bulkLoad)
    (hw : w = ⟨p, d.nat (K.BULK_OBJECT (keyUnit key)), slice (d.tw (bulkPort (keyUnit key))).staging 0 (ofLe bs)⟩)
    (ho : d.gateOf p = .open_) (hr : d.writeRule p key bs = .none) (hn : d.writeRule p w.key w.bytes = .none) :
    d.hostWrite p key bs =
      (((d.admitted w).carryOut p w.key (valueOf w.key w.bytes) d.osnNext).modTw (bulkPort (keyUnit key)) (fun t => { t with staging := [] })
        ).answerWrite p w.key .none d.osnNext := by
  have hresolve : d.resolve p key bs = (w.key, w.bytes) := by rw [resolve, if_pos ⟨ha, hr⟩, hw]
  subst hw
  rw [hostWrite, atPort, if_pos ho, writeOp, decideWrite, hresolve, hn, clearStaged, if_pos ⟨ha, rfl⟩]
  simp [writeAs, operate, admitted, enterWith, recordsWrite, recordOp]

/-- Settles O50: each row of the effect table is what its object's chapter carries out; `BULK_LOAD` by `hostWrite_bulkLoad`. -/
theorem systemWritesComplete : Obligations.SystemWritesComplete := by
  unfold Obligations.SystemWritesComplete
  refine ⟨?_, ?_⟩
  · intro s c w e d hw ho hr he late
    obtain ⟨rfl, hbulk⟩ := systemEffect_carryOut hw (objRow_of_writeRule hr) he
    exact (exec_hostWrite s hw).trans (next_dev ((hostWrite_accepted ho hbulk hr).trans (answerWrite_accepted ho)))
  · intro s p sub bs d key t w ho hr hn
    obtain ⟨ha, hu, hport⟩ := key_bulkLoad (sub_of_bulkLoad sub (objRow_of_writeRule hr))
    have hload := hostWrite_bulkLoad (w := w) ha (by rw [hu, hport]) ho hr hn
    rw [hu, hport] at hload
    exact (exec_hostWrite s rfl).trans (next_dev hload)

end Sys2Proof.Machine
end

section
/-! PROOFS. The statements of 12_two_wire_ports.md on the reads of the PMBus commands and on what a target turns away (R344–R357). -/

namespace Sys2Proof.Machine

open Dev

namespace Dev

variable {d : Dev} {x : TwFrame} {code key : Nat} {bs : List Byte}

/-! A command at its port (R345, R350). -/

/-- A command that its port and page take. -/
theorem pmbOpen_taken {t : TwPort} (f : Dev → Dev) (h : d.takes t code) : d.pmbOpen t code f = f d := by
  obtain ⟨hgate, hcmd⟩ := h
  exact (if_pos hgate).trans (if_pos hcmd)

/-- A command at a port that enters no operation. -/
theorem pmbOpen_away {t : TwPort} (f : Dev → Dev) (h : d.gateOf t.src ≠ .open_) :
    d.pmbOpen t code f = d.turnedAway t.src (d.gateOf t.src) := if_neg h

/-- A command that its page does not support. -/
theorem pmbOpen_unsupported {t : TwPort} (f : Dev → Dev) (hgate : d.gateOf t.src = .open_) (hcmd : cmdOk code (d.pageOf t) = false) :
    d.pmbOpen t code f = d.pmbUnsupported t := (if_pos hgate).trans (if_neg (Bool.eq_false_iff.mp hcmd))

/-- A target that is not live is silent; one that cannot enter an operation does not acknowledge, with event 04h, and counts an
overload where its table is full. -/
theorem turnedAway_tw (d : Dev) (t : TwPort) (g : Gate) :
    d.turnedAway t.src g =
      (let m := if g = .full then d.bump K.OP_OVERLOAD_COUNT 32 else d
       if g = .silent then m.answering .nack else (m.twEvent t 4 0).answering .nack) := by cases t <;> rfl

theorem pmbBad_eq (d : Dev) (t : TwPort) (bit event : Nat) (a : Answer) :
    d.pmbBad t bit event a =
      ((d.modTw t (fun y => { y with cml := Machine.putBit y.cml bit true })).twEvent t event 0).answering a := rfl

/-! A read (R344, R349). -/

theorem pmbAsk_whole (f : Dev → Dev) (h : d.takes x.port code) (hform : x.form = .whole) : d.pmbAsk x code f = f d := by
  rw [pmbAsk, pmbOpen_taken _ h, hform]

theorem pmbAsk_long (f : Dev → Dev) (h : d.takes x.port code) (hform : x.form = .long) : d.pmbAsk x code f = d.pmbBad x.port 6 6 .nack := by
  rw [pmbAsk, pmbOpen_taken _ h, hform]

theorem pmbAsk_short (f : Dev → Dev) (h : d.takes x.port code) (hform : x.form = .short) : d.pmbAsk x code f = d.answering .ack := by
  rw [pmbAsk, pmbOpen_taken _ h, hform]

/-- A read on page FFh (R349). -/
def readAll (d : Dev) (x : TwFrame) (code n : Nat) : Dev :=
  ((d.enter x.port.src (pageKey x.port) .done .none).twFault x.port 6 6 d.osnNext).pmbData x code (List.replicate n 0xFF)

/-- What a read command does at a port that takes it. -/
def readDone (d : Dev) (r : PmbRead) : Dev :=
  if r.paged = true ∧ 64 ≤ d.pageOf r.x.port then d.readAll r.x r.code r.bytes.length
  else (r.after.enter r.x.port.src r.key .done .none).pmbData r.x r.code r.bytes

/-- A device that is what a read command, asked at its port, leaves. -/
def Asks (d e : Dev) (r : PmbRead) : Prop := ∃ g, e = d.pmbAsk r.x r.code g ∧ g d = d.readDone r

/-- A paged read, by its page. -/
theorem pmbPaged_done {n : Nat} {keys : Nat → Nat} {f : Nat → Dev → List Byte × Dev} {after : Dev}
    (hkey : keys (d.pageOf x.port) = key) (hread : f (d.pageOf x.port) d = (bs, after)) (hn : bs.length = n) :
    d.Asks (d.pmbPaged x code n keys f) ⟨x, code, true, key, bs, after⟩ := by
  refine ⟨_, rfl, ?_⟩
  subst hn
  dsimp only [readDone]
  rw [hread, hkey]
  by_cases h : 64 ≤ d.pageOf x.port
  · rw [if_pos (pageKind_eq_ff_iff.mpr h), if_pos ⟨rfl, h⟩]
    rfl
  · rw [if_neg (mt pageKind_eq_ff_iff.mp h), if_neg fun hp => h hp.2]

/-- A read that no page concerns. -/
theorem pmbRead_done {f : Dev → List Byte × Dev} {after : Dev} (hread : f d = (bs, after)) :
    d.Asks (d.pmbRead x code key f) ⟨x, code, false, key, bs, after⟩ := by
  refine ⟨_, rfl, ?_⟩
  dsimp only [readDone]
  rw [hread]
  rfl

/-! Each family of reads. -/

theorem pmbWord_done (keys : Nat → Nat) :
    d.Asks (d.pmbWord x code keys none) ⟨x, code, true, keys (d.pageOf x.port), leBytes 2 (d.num (keys (d.pageOf x.port))), d⟩ :=
  pmbPaged_done (f := fun pg d => (leBytes 2 (d.num (keys pg)), d)) rfl rfl (leBytes_length ..)

theorem pmbLinear_done (scale : Int) (keys : Nat → Nat) :
    d.Asks (d.pmbLinear x code scale keys none)
      ⟨x, code, true, keys (d.pageOf x.port), leBytes 2 (lin11 (d.num (keys (d.pageOf x.port))) scale), d⟩ :=
  pmbPaged_done (f := fun pg d => (leBytes 2 (lin11 (d.num (keys pg)) scale), d)) rfl rfl (leBytes_length ..)

theorem pmbByte_done (key : Nat) : d.Asks (d.pmbByte x code key none) ⟨x, code, false, key, leBytes 1 (d.num key), d⟩ :=
  pmbRead_done rfl

theorem pmbConst_done (bs : List Byte) : d.Asks (d.pmbConst x code bs) ⟨x, code, false, pageKey x.port, bs, d⟩ := pmbRead_done rfl

theorem pmbStatus_done (reg : StReg) :
    d.Asks (d.pmbStatus x code reg none) ⟨x, code, true, pageKey x.port, leBytes 1 (d.statusReg (d.pageOf x.port) reg), d⟩ :=
  pmbPaged_done (keys := fun _ => pageKey x.port) (f := fun pg d => (leBytes 1 (d.statusReg pg reg), d)) rfl rfl (leBytes_length ..)

theorem pmbStatusCml_done : d.Asks (d.pmbStatusCml x none) ⟨x, 0x7E, true, pageKey x.port, leBytes 1 (d.tw x.port).cml, d⟩ :=
  pmbPaged_done (keys := fun _ => pageKey x.port) (f := fun _ d => (leBytes 1 (d.tw x.port).cml, d)) rfl rfl (leBytes_length ..)

theorem pmbStatusWord_done (n : Nat) :
    d.Asks (d.pmbStatusWord x code n)
      ⟨x, code, true, pageKey x.port, leBytes n (d.statusWord (pageIx (d.pageOf x.port)) (d.tw x.port).cml), d⟩ :=
  pmbPaged_done (keys := fun _ => pageKey x.port) (f := fun pg d => (leBytes n (d.statusWord (pageIx pg) (d.tw x.port).cml), d)) rfl rfl (leBytes_length ..)

end Dev

/-- OPERATION shows the unit's switch and its margin state. -/
theorem operation_bits (on : Bool) (m : Nat) :
    (128 * b2n on + (match m with | 1 => 0x18 | 2 => 0x28 | _ => 0) : Nat) =
      (if on then 0x80 else 0) + (if m = 1 then 0x18 else if m = 2 then 0x28 else 0) := by
  have hm : (match m with | 1 => 0x18 | 2 => 0x28 | _ => 0 : Nat) = if m = 1 then 0x18 else if m = 2 then 0x28 else 0 := by
    split
    · rfl
    · rfl
    · next h1 h2 => rw [if_neg h1, if_neg h2]
  rw [hm]
  cases on <;> rfl

namespace Dev

variable {d : Dev} {x : TwFrame}

theorem pmbOperation_done :
    d.Asks (d.pmbOperation x none)
      ⟨x, 0x01, true, K.UNIT_ON (d.pageOf x.port),
        (let m := if d.pageOf x.port < 8 then d.nat (K.MARGIN_STATE (d.pageOf x.port)) else 0
         leBytes 1 (((if d.unitOn (d.pageOf x.port) then 0x80 else 0) + (if m = 1 then 0x18 else if m = 2 then 0x28 else 0) : Nat))), d⟩ := by
  unfold pmbOperation
  exact pmbPaged_done rfl (Prod.ext (congrArg (fun n : Nat => leBytes 1 n) (operation_bits _ _)) rfl) (leBytes_length ..)

/-- The state of an operation in OBJ_RESULT. -/
theorem leBytes_opState (busy refused : Prop) [Decidable busy] [Decidable refused] :
    leBytes 1 ((if busy then 1 else if refused then 2 else 0 : Nat)) = [if busy then 1 else if refused then 2 else 0] := by
  split
  · rfl
  · split <;> rfl

theorem objResult_done :
    d.Asks (d.objResult x)
      ⟨x, 0xD2, false, pageKey x.port,
        (let t := d.tw x.port
         let busy := d.ops.any (fun e => e.osn == t.lastOsn && e.st == .running)
         [8] ++ leBytes 4 t.lastOsn ++ [if busy then 1 else if t.lastReason ≠ .none then 2 else 0] ++ leBytes 1 t.lastReason.code ++ [0, 0]), d⟩ := by
  unfold objResult
  refine pmbRead_done (Prod.ext ?_ rfl)
  dsimp only
  rw [leBytes_opState]
  rfl

end Dev

/-- Every command that reads asks its port for its bytes. -/
theorem exec_pmbRead {c : Instr} {r : PmbRead} (s : State) (h : pmbReadOf s.dev.heard c = some r) :
    ∃ e, exec c s = .next (s.withDev e) ∧ s.dev.heard.Asks e r := by
  unfold pmbReadOf at h
  split at h <;> cases h
  · exact ⟨_, exec_pmbPage .., pmbByte_done _⟩
  · exact ⟨_, exec_pmbOperation .., pmbOperation_done⟩
  · exact ⟨_, exec_pmbOnOffConfig .., pmbPaged_done rfl rfl rfl⟩
  · exact ⟨_, exec_pmbWriteProtect .., pmbByte_done _⟩
  · exact ⟨_, exec_pmbCapability .., pmbConst_done _⟩
  · exact ⟨_, exec_pmbVoutMode .., pmbPaged_done rfl rfl rfl⟩
  · exact ⟨_, exec_pmbVoutCommand .., pmbWord_done _⟩
  · exact ⟨_, exec_pmbVoutMax .., pmbWord_done _⟩
  · exact ⟨_, exec_pmbVoutMarginHigh .., pmbWord_done _⟩
  · exact ⟨_, exec_pmbVoutMarginLow .., pmbWord_done _⟩
  · exact ⟨_, exec_pmbVoutTransitionRate .., pmbLinear_done 100 _⟩
  · exact ⟨_, exec_pmbVoutMin .., pmbWord_done _⟩
  · exact ⟨_, exec_pmbVoutOvFaultLimit .., pmbWord_done _⟩
  · exact ⟨_, exec_pmbVoutUvFaultLimit .., pmbWord_done _⟩
  · exact ⟨_, exec_pmbIoutOcFaultLimit .., pmbLinear_done 16 _⟩
  · exact ⟨_, exec_pmbStatusByte .., pmbStatusWord_done 1⟩
  · exact ⟨_, exec_pmbStatusWord .., pmbStatusWord_done 2⟩
  · exact ⟨_, exec_pmbStatusVout .., pmbStatus_done .vout⟩
  · exact ⟨_, exec_pmbStatusIout .., pmbStatus_done .iout⟩
  · exact ⟨_, exec_pmbStatusInput .., pmbStatus_done .inp⟩
  · exact ⟨_, exec_pmbStatusTemperature .., pmbStatus_done .temp⟩
  · exact ⟨_, exec_pmbStatusCml .., pmbStatusCml_done⟩
  · exact ⟨_, exec_pmbStatusMfrSpecific .., pmbStatus_done .mfr⟩
  · exact ⟨_, exec_pmbReadVin .., pmbPaged_done rfl rfl (leBytes_length ..)⟩
  · exact ⟨_, exec_pmbReadVout .., pmbPaged_done rfl rfl (leBytes_length ..)⟩
  · exact ⟨_, exec_pmbReadIout .., pmbPaged_done rfl rfl (leBytes_length ..)⟩
  · exact ⟨_, exec_pmbReadTemperature1 .., pmbPaged_done rfl rfl (leBytes_length ..)⟩
  · exact ⟨_, exec_pmbRevision .., pmbConst_done _⟩
  · exact ⟨_, exec_pmbMfrId .., pmbConst_done _⟩
  · exact ⟨_, exec_pmbMfrModel .., pmbConst_done _⟩
  · exact ⟨_, exec_pmbMfrRevision .., pmbConst_done _⟩
  · exact ⟨_, exec_objSelect .., pmbRead_done rfl⟩
  · exact ⟨_, exec_objResult .., objResult_done⟩

namespace Dev

variable {d e : Dev} {x : TwFrame} {code : Nat}

/-! The PEC of a read covers the address of its port, which no read changes (R346). -/

theorem addrByte_of_num (t : TwPort) (h : e.num K.PMB_ADDR = d.num K.PMB_ADDR) : e.addrByte t = d.addrByte t := by
  cases t
  · exact congrArg (fun v : Int => 2 * v.toNat) h
  · rfl

theorem pmbData_of_addr (bs : List Byte) (h : e.addrByte x.port = d.addrByte x.port) :
    e.pmbData x code bs =
      (let a := d.addrByte x.port
       e.answering (.data (if x.pec = .none then bs
         else bs ++ leBytes 1 (pecOf (leBytes 1 a ++ leBytes 1 code ++ leBytes 1 (a + 1 : Nat) ++ bs))))) := by
  rw [pmbData, h]
  cases x.pec <;> rfl

theorem railTemp_objs (d : Dev) (n : Nat) : (d.railTemp n).2.objs = d.objs := by
  unfold railTemp
  split <;> rfl

end Dev

/-- A read of a command changes no object. -/
theorem pmbReadOf_objs {d : Dev} {c : Instr} {r : PmbRead} (h : pmbReadOf d c = some r) : r.after.objs = d.objs := by
  unfold pmbReadOf at h
  split at h
  case h_27 =>
    cases h
    dsimp only
    split
    · exact railTemp_objs ..
    · rfl
    · rfl
  all_goals cases h
  all_goals rfl

namespace Dev

variable {d : Dev} {x : TwFrame} {code : Nat}

theorem num_pmbAddr_twFault (t : TwPort) (bit event osn : Nat) : (d.twFault t bit event osn).num K.PMB_ADDR = d.num K.PMB_ADDR := by
  refine num_twFault d t bit event osn fun i hi => ?_
  simp only [K.PMB_ADDR, K.PMB_ERR_COUNT, K.SVC_ERR_COUNT]
  omega

/-- A command that reads meets the log's errors only through OBJ_DATA: without any it reads the object selected. -/
theorem exec_objData_read (s : State) (h : x.flaws = []) : exec (.objData x none) s = .next (s.withDev (s.dev.heard.objData x none)) :=
  (exec_objData s x none).trans (next_dev (if_pos h))

end Dev

/-- Settles O53: every command that reads asks its port (`exec_pmbRead`) and ends in `readDone`; OBJ_DATA by the rule of its object. -/
theorem pmbusReadsComplete : Obligations.PmbusReadsComplete := by
  unfold Obligations.PmbusReadsComplete
  refine ⟨?_, ?_⟩
  · intro s c r d a sent hread hform htakes
    obtain ⟨e, hexec, g, rfl, hdone⟩ := exec_pmbRead s hread
    have hasked : exec c s = .next (s.withDev (d.readDone r)) := hexec.trans (next_dev ((pmbAsk_whole g htakes hform).trans hdone))
    refine ⟨fun hpage => hasked.trans (next_dev ?_), fun hpaged hpage => hasked.trans (next_dev ?_)⟩
    · have hnot : ¬ (r.paged = true ∧ 64 ≤ d.pageOf r.x.port) := by
        rintro ⟨hpaged, hall⟩
        rcases hpage with hp | hp
        · exact Bool.false_ne_true (hp.symm.trans hpaged)
        · exact Nat.not_lt.mpr hall hp
      rw [readDone, if_neg hnot]
      exact pmbData_of_addr _ (addrByte_of_num _ (congrArg Val.int (obj_congr d (pmbReadOf_objs hread) _)))
    · rw [readDone, if_pos ⟨hpaged, hpage⟩]
      exact pmbData_of_addr _ (addrByte_of_num _ (num_pmbAddr_twFault ..))
  · intro s x d key v hform hflaws htakes
    have hexec := fun (e : Dev) (h : _ = e) => (exec_objData_read s hflaws).trans (next_dev ((pmbAsk_whole _ htakes hform).trans h))
    refine ⟨fun hrule hlen => hexec _ ?_, fun hrule hlen => hexec _ ?_, fun hrule => hexec _ (if_pos hrule)⟩
    · exact (if_neg (not_not_intro hrule)).trans (if_neg (Nat.not_lt.mpr hlen))
    · exact (if_neg (not_not_intro hrule)).trans (if_pos hlen)

/-! What a target turns away (R345, R346). -/

namespace Dev

/-- A device that is what a write of some data bytes, taken or turned away by its port, leaves. -/
def Writes (d e : Dev) (x : TwFrame) (code : Nat) (bs : List Byte) : Prop := ∃ g, e = d.pmbWrite x code bs g

variable (d : Dev) (x : TwFrame) (code : Nat)

theorem pmbByte_writes (key : Nat) (b : Byte) : d.Writes (d.pmbByte x code key (some b)) x code [b] := ⟨_, rfl⟩

theorem pmbOperate_writes (b : Byte) : d.Writes (d.pmbOperate x b) x 0x01 [b] := ⟨_, rfl⟩

theorem pmbNumber_writes (keys : Nat → Nat) (w : BitVec 16) (v : Int) :
    d.Writes (d.pmbNumber x code keys w v) x code (leBytes 2 w.toNat) := ⟨_, rfl⟩

theorem pmbWord_writes (keys : Nat → Nat) (w : BitVec 16) :
    d.Writes (d.pmbWord x code keys (some w)) x code (leBytes 2 w.toNat) := pmbNumber_writes d x code keys w _

theorem pmbLinear_writes (scale : Int) (keys : Nat → Nat) (w : BitVec 16) :
    d.Writes (d.pmbLinear x code scale keys (some w)) x code (leBytes 2 w.toNat) := pmbNumber_writes d x code keys w _

theorem pmbStatus_writes (reg : StReg) (b : Byte) : d.Writes (d.pmbStatus x code reg (some b)) x code [b] := ⟨_, rfl⟩

theorem objSelect_writes (b : Byte) (bs : List Byte) :
    d.Writes (d.objSelect x (b :: bs)) x 0xD0 (leBytes 1 (b :: bs).length ++ b :: bs) := by
  unfold objSelect
  split
  · next h => cases h
  · exact ⟨_, rfl⟩
  · exact ⟨_, rfl⟩

end Dev

/-- A command that writes, as its port takes it. -/
theorem exec_pmbWrite {c : Instr} {x : TwFrame} {code : Nat} {bs : List Byte} (s : State) (h : pmbWriteFrame c = some (x, code, bs)) :
    ∃ e, exec c s = .next (s.withDev e) ∧ s.dev.heard.Writes e x code bs := by
  unfold pmbWriteFrame at h
  split at h <;> cases h
  · exact ⟨_, exec_pmbPage .., pmbByte_writes ..⟩
  · exact ⟨_, exec_pmbOperation .., pmbOperate_writes ..⟩
  · exact ⟨_, exec_pmbOperationMargin .., pmbOperate_writes ..⟩
  · exact ⟨_, exec_pmbClearFaults .., ⟨_, rfl⟩⟩
  · exact ⟨_, exec_pmbWriteProtect .., pmbByte_writes ..⟩
  · exact ⟨_, exec_pmbStoreUserAll .., ⟨_, rfl⟩⟩
  · exact ⟨_, exec_pmbRestoreUserAll .., ⟨_, rfl⟩⟩
  · exact ⟨_, exec_pmbVoutCommand .., pmbWord_writes ..⟩
  · exact ⟨_, exec_pmbVoutMax .., pmbWord_writes ..⟩
  · exact ⟨_, exec_pmbVoutMarginHigh .., pmbWord_writes ..⟩
  · exact ⟨_, exec_pmbVoutMarginLow .., pmbWord_writes ..⟩
  · exact ⟨_, exec_pmbVoutTransitionRate .., pmbLinear_writes ..⟩
  · exact ⟨_, exec_pmbVoutMin .., pmbWord_writes ..⟩
  · exact ⟨_, exec_pmbVoutOvFaultLimit .., pmbWord_writes ..⟩
  · exact ⟨_, exec_pmbVoutUvFaultLimit .., pmbWord_writes ..⟩
  · exact ⟨_, exec_pmbIoutOcFaultLimit .., pmbLinear_writes ..⟩
  · exact ⟨_, exec_pmbStatusVout .., pmbStatus_writes ..⟩
  · exact ⟨_, exec_pmbStatusIout .., pmbStatus_writes ..⟩
  · exact ⟨_, exec_pmbStatusInput .., pmbStatus_writes ..⟩
  · exact ⟨_, exec_pmbStatusTemperature .., pmbStatus_writes ..⟩
  · exact ⟨_, exec_pmbStatusCml .., ⟨_, rfl⟩⟩
  · exact ⟨_, exec_pmbStatusMfrSpecific .., pmbStatus_writes ..⟩
  · exact ⟨_, exec_objSelect .., objSelect_writes ..⟩
  · exact ⟨_, exec_objData_write .., _, rfl⟩

/-- Every command that reads asks its port. -/
theorem exec_pmbAsk {c : Instr} {x : TwFrame} {code : Nat} (s : State)
    (h : (∃ r, pmbReadOf s.dev.heard c = some r ∧ r.x = x ∧ r.code = code) ∨ (c = .objData x none ∧ x.flaws = [] ∧ code = 0xD1)) :
    ∃ g, exec c s = .next (s.withDev (s.dev.heard.pmbAsk x code g)) := by
  rcases h with ⟨r, hread, rfl, rfl⟩ | ⟨rfl, hflaws, rfl⟩
  · obtain ⟨e, hexec, g, rfl, -⟩ := exec_pmbRead s hread
    exact ⟨_, hexec⟩
  · exact ⟨_, exec_objData_read s hflaws⟩

/-- Every command of R350 and R357 is taken, or turned away, by the gate of its port and the support on its page. -/
theorem exec_pmbOpen {c : Instr} {t : TwPort} {code : Nat} (s : State)
    (h : (∃ r, pmbReadOf s.dev.heard c = some r ∧ r.x.port = t ∧ r.code = code) ∨
      (∃ x bs, pmbWriteFrame c = some (x, code, bs) ∧ x.port = t) ∨
      (∃ x, c = .objData x none ∧ x.flaws = [] ∧ x.port = t ∧ code = 0xD1)) :
    ∃ g, exec c s = .next (s.withDev (s.dev.heard.pmbOpen t code g)) := by
  rcases h with ⟨r, hread, rfl, rfl⟩ | ⟨x, bs, hwrite, rfl⟩ | ⟨x, rfl, hflaws, rfl, rfl⟩
  · obtain ⟨e, hexec, g, rfl, -⟩ := exec_pmbRead s hread
    exact ⟨_, hexec⟩
  · obtain ⟨e, hexec, g, rfl⟩ := exec_pmbWrite s hwrite
    exact ⟨_, hexec⟩
  · obtain ⟨g, hexec⟩ := exec_pmbAsk s (.inr ⟨rfl, hflaws, rfl⟩)
    exact ⟨_, hexec⟩

/-- Settles O56: a command that is not taken by `exec_pmbOpen`, a write that is not by the order of its checks, a read by its form. -/
theorem pmbusTurnsAway : Obligations.PmbusTurnsAway := by
  unfold Obligations.PmbusTurnsAway
  refine ⟨?_, ?_, ?_⟩
  · intro s c t code d m h
    obtain ⟨g, hexec⟩ := exec_pmbOpen s h
    have haway : d.gateOf t.src ≠ .open_ → exec c s = .next (s.withDev (d.turnedAway t.src (d.gateOf t.src))) := fun hgate =>
      hexec.trans (next_dev (pmbOpen_away g hgate))
    refine ⟨fun hgate => (haway (by rw [hgate]; decide)).trans (next_dev ?_), fun hgate => ?_,
      fun hgate hcmd => hexec.trans (next_dev (pmbOpen_unsupported g hgate hcmd))⟩
    · rw [turnedAway_tw, hgate]
      rfl
    · have hclosed : d.gateOf t.src ≠ .open_ ∧ d.gateOf t.src ≠ .silent := by rcases hgate with h | h <;> rw [h] <;> decide
      obtain ⟨hopen, hsilent⟩ := hclosed
      refine (haway hopen).trans (next_dev ?_)
      rw [turnedAway_tw]
      exact if_neg hsilent
  · intro s c x code bs d bad prot hframe htakes
    obtain ⟨e, hexec, g, rfl⟩ := exec_pmbWrite s hframe
    have hopen := hexec.trans (next_dev (pmbOpen_taken _ htakes))
    refine ⟨fun hp => hopen.trans (next_dev (if_pos hp)), fun hp hform => ?_, fun hp hform => ?_, fun hp hform => ?_⟩
    all_goals have hfree := hopen.trans (next_dev (if_neg (ne_true_of_eq_false hp)))
    · exact hfree.trans (next_dev (if_pos hform))
    · exact hfree.trans (next_dev (by rw [hform]; rfl))
    · have hwhole := hfree.trans (next_dev (by rw [hform, if_neg (by decide), if_neg (by decide)]))
      refine ⟨fun b hpec hwrong => ?_, fun hpec hneed => ?_⟩
      · rw [hpec] at hwhole
        exact hwhole.trans (next_dev (if_neg hwrong))
      · rw [hpec] at hwhole
        exact hwhole.trans (next_dev (if_pos hneed))
  · intro s c x code d h htakes
    obtain ⟨g, hexec⟩ := exec_pmbAsk s h
    exact ⟨fun hform => hexec.trans (next_dev (pmbAsk_long g htakes hform)),
      fun hform => hexec.trans (next_dev (pmbAsk_short g htakes hform))⟩

end Sys2Proof.Machine
end

section
/-! PROOFS. The statements of 13_field_network_and_object_dictionary.md and 14_event_recorder.md on a port where no operation is entered
(R345, R377, R384, R387, R400, R514) and on reads that meet ECC errors of the log (R418). -/

namespace Sys2Proof.Machine

open Dev

namespace Dev

variable {d : Dev}

/-- A port on whose bus another node uses the node-ID does not transmit (R400). -/
theorem muted_of_conflict {bus : Bus} (h : (d.port bus).idConflict = true) : d.muted bus.src = true := by
  cases bus
  · have h : d.canA.idConflict = true := h
    simp [muted, Bus.src, h]
  · have h : d.canB.idConflict = true := h
    simp [muted, Bus.src, h]

theorem reply_of_muted {p : Src} (a : Answer) (h : d.muted p = true) : d.reply p a = d := if_pos h

theorem sdoAbort_of_muted {p : Src} (n : Nat) (h : d.muted p = true) : d.sdoAbort p n = d := if_pos h

theorem muted_bump (d : Dev) (key n : Nat) (p : Src) : (d.bump key n).muted p = d.muted p := by cases p <;> rfl

/-- A CAN port whose table is full aborts with OVERLOAD, where it may transmit. -/
theorem turnedAway_can_full {p : Src} (h : p = .canA ∨ p = .canB) :
    d.turnedAway p .full =
      if d.muted p = true then d.bump K.OP_OVERLOAD_COUNT 32
      else ((d.bump K.OP_OVERLOAD_COUNT 32).answering (.sdoAbort 0x05040005)).causeArg 103 0x17 0 [0x05, 0x00, 0x04, 0x05] := by
  rcases h with rfl | rfl <;> exact if_congr (by rw [if_pos rfl, muted_bump]) rfl rfl

/-! Reads that meet errors of the log (R418). -/

theorem meeting_cons (e : Nat) (es : List Nat) (f : Dev → Dev) :
    d.meeting (e :: es) f =
      (let x := f { d with log := { d.log with flaws := e :: es } }
       { x with log := { x.log with flaws := [] } }) := if_neg (List.cons_ne_nil e es)

end Dev

/-- A row that writes or reads an object, at a port that enters no operation. -/
theorem exec_away {c : Instr} {p : Src} (s : State) (h : (∃ w, hostWriteOf c = some w ∧ w.port = p) ∨ ∃ k, hostReadOf c = some (p, k))
    (hgate : s.dev.heard.gateOf p ≠ .open_) :
    exec c s = .next (s.withDev (s.dev.heard.turnedAway p (s.dev.heard.gateOf p))) := by
  rcases h with ⟨w, hw, rfl⟩ | ⟨k, hk⟩
  · exact (exec_hostWrite s hw).trans (next_dev (hostWrite_away _ _ hgate))
  · exact (exec_hostRead s hk).trans (next_dev (hostRead_away _ hgate))

/-- Settles O45: what a port that enters no operation does is `turnedAway`, by its gate and its kind of port. -/
theorem portTurnsAway : Obligations.PortTurnsAway := by
  unfold Obligations.PortTurnsAway
  refine ⟨fun d bus h a n => ⟨reply_of_muted a (muted_of_conflict h), sdoAbort_of_muted n (muted_of_conflict h)⟩, fun s c p => ?_⟩
  intro d m hrow
  have haway : ∀ g, g ≠ .open_ → d.gateOf p = g → exec c s = .next (s.withDev (d.turnedAway p g)) := fun g hg h =>
    h ▸ exec_away s hrow (h ▸ hg)
  refine ⟨fun hg hp => ?_, fun hg hpmb hsvc => ?_, ?_, ?_, fun hp hg => ?_, fun hp hg => ⟨fun hmute => ?_, fun hmute => ?_⟩⟩
  · refine (haway _ (by decide) hg).trans (next_dev ?_)
    rcases hp with rfl | rfl <;> rfl
  · refine (haway _ (by decide) hg).trans (next_dev ?_)
    cases p
    case pmbus => exact absurd rfl hpmb
    case svc => exact absurd rfl hsvc
    all_goals rfl
  · rintro t rfl hg
    exact (haway _ (by decide) hg).trans (next_dev (turnedAway_tw d t _))
  · rintro t rfl hg
    exact (haway _ (by decide) hg).trans (next_dev (turnedAway_tw d t _))
  · refine (haway _ (by decide) hg).trans (next_dev ?_)
    rcases hp with rfl | rfl <;> rfl
  · exact (haway _ (by decide) hg).trans (next_dev ((turnedAway_can_full hp).trans (if_neg (ne_true_of_eq_false hmute))))
  · exact (haway _ (by decide) hg).trans (next_dev ((turnedAway_can_full hp).trans (if_pos hmute)))

/-- A command that meets errors of the log does, on the device in which they stand, what it does without them, and none stands after. -/
theorem next_meeting (s : State) (e : Nat) (es : List Nat) (f : Dev → Dev) :
    let l : Log := { s.dev.log with flaws := e :: es }
    let marked : State := { s with dev := { s.dev with log := l } }
    ∃ t, Host.Outcome.next (marked.withDev (f marked.dev.heard)) = (.next t : Host.Outcome State Fault Refusal) ∧
      Host.Outcome.next (s.withDev (s.dev.heard.meeting (e :: es) f)) =
        (.next (t.withDev { t.dev with log := { t.dev.log with flaws := [] } }) : Host.Outcome State Fault Refusal) :=
  ⟨_, rfl, next_dev (meeting_cons e es f)⟩

/-- Settles O27: the commands that read the log are `next_meeting`, and the others do not use the errors. -/
theorem readsMeetLogErrors : Obligations.ReadsMeetLogErrors := by
  unfold Obligations.ReadsMeetLogErrors
  refine ⟨?_, ?_, ?_⟩
  · intro s e es n w ptr bs x g index sub tag kind unit idx block off len flaws l marked
    simp only [List.forall_mem_cons]
    exact ⟨next_meeting s e es (·.bulkRead n), next_meeting s e es (·.bulkAccess w ptr.toNat bs n),
      next_meeting s e es (·.objData { x with flaws := [] } none),
      next_meeting s e es (fun d => d.onSdo { g with flaws := [] } (fun d => d.sdoInitUp g.bus (objKey index sub))),
      next_meeting s e es (fun d => d.onCan { g.toCanFrame with flaws := [] } (fun d =>
        d.bxtReadStart g.bus tag.toNat kind.toNat unit.toNat idx.toNat block.toNat off.toNat len.toNat)), fun _ h => absurd h List.not_mem_nil⟩
  · exact fun s p => next_meeting s 0 [] (·.hostRead p (K.LOG_WINDOW p.ownIx))
  · intro s flaws f g x index sub b t last size bs tag kind unit idx block ctr off len crc
    simp only [List.forall_mem_cons]
    exact ⟨rfl, rfl, rfl, rfl, rfl, rfl, rfl, rfl, rfl, fun _ h => absurd h List.not_mem_nil⟩

end Sys2Proof.Machine
end

section
/-! PROOFS. The statement of 13_field_network_and_object_dictionary.md on wrong frames and unknown requests (R384, R387, R394, R400). -/

namespace Sys2Proof.Machine

open Dev

namespace Dev

variable {d : Dev}

/-- A wrong frame is counted where the node takes frames from its bus. -/
theorem onCan_of_wrong {f : CanFrame} (go : Dev → Dev) (h : f.wrong = true) :
    d.onCan f go = if d.canHears f.bus then d.canCount f.bus 4 else d := if_pos h

theorem onSdo_of_wrong {g : SdoFrame} (go : Dev → Dev) (h : g.wrong = true) :
    d.onSdo g go = if d.canHears g.bus then d.canCount g.bus 4 else d := onCan_of_wrong _ h

theorem onSdo_of_unknown {g : SdoFrame} (go : Dev → Dev) (hw : g.wrong = false) (hu : g.unknown = true) :
    d.onSdo g go = if d.canServes g.bus then d.sdoEnd g.bus 0x05040001 else d := (onCan_of_not_wrong _ hw).trans (if_pos hu)

theorem onSdo_of_known {g : SdoFrame} (go : Dev → Dev) (hw : g.wrong = false) (hu : g.unknown = false) : d.onSdo g go = go d :=
  (onCan_of_not_wrong _ hw).trans (if_neg (ne_true_of_eq_false hu))

/-- A frame that carries no errors of the log is taken as it is. -/
theorem meeting_of_nil {flaws : List Nat} (f : Dev → Dev) (h : flaws = []) : d.meeting flaws f = f d := if_pos h

/-- An end of the SDO transfer of a bus touches its port's transfer and the operation table alone. -/
theorem setSdo_idle_eq (d : Dev) (bus : Bus) :
    ∃ ops, d.setSdo bus .idle = ({ d with ops := ops } : Dev).modPort bus (fun c => { c with sdo := .idle }) := by
  unfold setSdo
  cases (d.port bus).sdo
  · exact ⟨_, rfl⟩
  · exact ⟨_, rfl⟩
  · exact ⟨_, rfl⟩

theorem muted_setSdo_idle (d : Dev) (bus : Bus) (p : Src) : (d.setSdo bus .idle).muted p = d.muted p := by
  obtain ⟨ops, h⟩ := d.setSdo_idle_eq bus
  rw [h]
  cases bus <;> cases p <;> rfl

end Dev

/-- Settles O42: `onCan_of_wrong` for a wrong frame, `onSdo_of_unknown` for an unknown request. -/
theorem wrongFramesTurnedAway : Obligations.WrongFramesTurnedAway := by
  unfold Obligations.WrongFramesTurnedAway
  refine ⟨?_, ?_⟩
  · intro s g node r bs index sub x size t l tag kind unit idx block ctr off len crc d f hw hflaws
    have can : ∀ go : Dev → Dev, Host.Outcome.next (s.withDev (d.onCan f go)) =
        (.next (s.withDev (if d.canHears g.bus then d.canCount g.bus 4 else d)) : Host.Outcome State Fault Refusal) := fun go =>
      next_dev (onCan_of_wrong go hw)
    have sdo : ∀ go : Dev → Dev, Host.Outcome.next (s.withDev (d.onSdo g go)) =
        (.next (s.withDev (if d.canHears g.bus then d.canCount g.bus 4 else d)) : Host.Outcome State Fault Refusal) := fun go =>
      next_dev (onSdo_of_wrong go hw)
    have met : ∀ go : Dev → Dev, Host.Outcome.next (s.withDev (d.meeting g.flaws go)) =
        (.next (s.withDev (go d)) : Host.Outcome State Fault Refusal) := fun go => next_dev (meeting_of_nil go hflaws)
    simp only [List.forall_mem_cons]
    exact ⟨can _, can _, can _, can _, can _, can _, sdo _, sdo _, (met _).trans (sdo _), sdo _, can _, can _, (met _).trans (can _), can _,
      can _, can _, can _, can _, fun _ h => absurd h List.not_mem_nil⟩
  · intro s g bs index sub x size t l d hw hu hflaws
    have unknown : ∀ (c : Instr) (go : Dev → Dev), exec c s = .next (s.withDev (d.onSdo g go)) →
        (d.canServes g.bus = true → d.muted g.bus.src = false → exec c s = .next (s.withDev
          (((d.setSdo g.bus .idle).answering (.sdoAbort 0x05040001)).causeArg 103 0x17 0 [0x01, 0x00, 0x04, 0x05]))) ∧
        (d.canServes g.bus = true → d.muted g.bus.src = true → exec c s = .next (s.withDev (d.setSdo g.bus .idle))) ∧
        (d.canServes g.bus = false → exec c s = .next (s.withDev d)) := by
      intro c go hexec
      have htold := hexec.trans (next_dev (onSdo_of_unknown go hw hu))
      refine ⟨fun hs hm => ?_, fun hs hm => ?_, fun hs => htold.trans (next_dev (if_neg (ne_true_of_eq_false hs)))⟩
      · refine htold.trans (next_dev ((if_pos hs).trans (if_neg ?_)))
        rw [muted_setSdo_idle, hm]
        decide
      · exact htold.trans (next_dev ((if_pos hs).trans (if_pos ((muted_setSdo_idle ..).trans hm))))
    simp only [List.forall_mem_cons]
    exact ⟨unknown _ _ (exec_sdoInitiateDownload ..), unknown _ _ (exec_sdoDownloadSegment ..),
      unknown _ _ ((exec_sdoInitiateUpload ..).trans (next_dev (meeting_of_nil _ hflaws))), unknown _ _ (exec_sdoUploadSegment ..),
      fun _ h => absurd h List.not_mem_nil⟩

end Sys2Proof.Machine
end

section
/-! PROOFS. The statement of 13_field_network_and_object_dictionary.md on bulk transfers over CAN FD (R394–R399). -/

namespace Sys2Proof.Machine

open Dev

namespace Dev

variable {d : Dev} {bus : Bus} {tag kind unit idx block off len c crc : Nat} {bs : List Byte}

/-! A bus that is not served (R384). -/

theorem bxtReadStart_unserved (h : d.canServes bus = false) : d.bxtReadStart bus tag kind unit idx block off len = d := by
  simp [bxtReadStart, h]

theorem bxtWriteStart_unserved (h : d.canServes bus = false) : d.bxtWriteStart bus tag kind unit idx block off len = d := by
  simp [bxtWriteStart, h]

theorem bxtContinue_unserved (h : d.canServes bus = false) : d.bxtContinue bus tag c = d := by simp [bxtContinue, h]

theorem bxtDataFrame_unserved (h : d.canServes bus = false) : d.bxtDataFrame bus tag c bs = d := by simp [bxtDataFrame, h]

theorem bxtCommit_unserved (h : d.canServes bus = false) : d.bxtCommit bus tag len crc = d := by simp [bxtCommit, h]

theorem bxtHostAbort_unserved (h : d.canServes bus = false) : d.bxtHostAbort bus tag = d := by simp [bxtHostAbort, h]

theorem bxtTimeout_unserved (h : d.canServes bus = false) : d.bxtTimeout bus = d := by simp [bxtTimeout, h]

/-! Another transfer, or none. -/

theorem bxtContinue_other (h : (d.bxt bus).st ≠ 1 ∨ (d.bxt bus).tag ≠ tag) : d.bxtContinue bus tag c = d := by
  rcases h with h | h <;> simp [bxtContinue, h]

theorem bxtDataFrame_other (h : (d.bxt bus).st ≠ 2 ∨ (d.bxt bus).tag ≠ tag) : d.bxtDataFrame bus tag c bs = d := by
  rcases h with h | h <;> simp [bxtDataFrame, h]

theorem bxtCommit_other (h : (d.bxt bus).st ≠ 2 ∨ (d.bxt bus).tag ≠ tag) : d.bxtCommit bus tag len crc = d := by
  rcases h with h | h <;> simp [bxtCommit, h]

theorem bxtHostAbort_of_other (h : (d.bxt bus).tag ≠ tag) : d.bxtHostAbort bus tag = d := by simp [bxtHostAbort, h]

theorem bxtTimeout_idle (h : (d.bxt bus).st = 0) : d.bxtTimeout bus = d := by simp [bxtTimeout, h]

/-! What a write keeps, and how its frames are acknowledged (R375, R398). -/

/-- The entry that a write reserved, returned for its COMMIT. -/
theorem bxtRelease_of_write (hst : (d.bxt bus).st = 2) :
    d.bxtRelease bus = d.unreserve bus.src (bxtKey bus (d.bxt bus).kind (d.bxt bus).unit (d.bxt bus).idx) := by
  cases bus <;> exact if_pos hst

/-- The acknowledgement of a write's frames: the counter expected. -/
def bxtAck (d : Dev) (bus : Bus) (tag : Nat) : Dev :=
  let x := d.bxt bus
  d.bxtOut bus (bxtControl 0x22 tag x.kind x.unit x.idx x.nextCtr x.off x.len)

section

variable (hs : d.canServes bus = true)

include hs

/-! The starts (R397, R398): no transfer runs, and an entry is free. -/

theorem bxtReadStart_busy (h : (d.bxt bus).st ≠ 0) :
    d.bxtReadStart bus tag kind unit idx block off len = d.bxtRefuse bus tag kind idx off len .busy := by
  simp [bxtReadStart, hs, h]

theorem bxtWriteStart_busy (h : (d.bxt bus).st ≠ 0) :
    d.bxtWriteStart bus tag kind unit idx block off len = d.bxtRefuse bus tag kind idx off len .busy := by
  simp [bxtWriteStart, hs, h]

theorem bxtReadStart_full (h : (d.bxt bus).st = 0) (he : d.hasEntry bus.src = false) :
    d.bxtReadStart bus tag kind unit idx block off len =
      (d.bump K.OP_OVERLOAD_COUNT 32).bxtRefuse bus tag kind idx off len .overload := by
  simp [bxtReadStart, hs, h, he]

theorem bxtWriteStart_full (h : (d.bxt bus).st = 0) (he : d.hasEntry bus.src = false) :
    d.bxtWriteStart bus tag kind unit idx block off len =
      (d.bump K.OP_OVERLOAD_COUNT 32).bxtRefuse bus tag kind idx off len .overload := by
  simp [bxtWriteStart, hs, h, he]

theorem bxtReadStart_decided (h : (d.bxt bus).st = 0) (he : d.hasEntry bus.src = true) :
    d.bxtReadStart bus tag kind unit idx block off len =
      (let r := d.bxtReadRule bus kind unit idx block len
       let key := bxtKey bus kind unit idx
       if r ≠ .none then
         ((d.enter bus.src key .refused r).recordOp bus.src 0x41 d.osnNext key r []).bxtRefuse bus tag kind idx off len r
       else
         let n := min len (d.bxtHolds bus kind unit idx - off)
         let x := d.bxtBytes bus kind unit idx off n
         let m := (x.2.enter bus.src key .done .none).modBxt bus (fun _ =>
           { st := 1, tag := tag, kind := kind, unit := unit, idx := idx, off := off, len := n, block := block, data := x.1 })
         (m.bxtOut bus (bxtControl 0x21 tag kind unit idx block off n)).bxtSend bus 0) := by
  rw [bxtReadStart, hs, h, he]
  rfl

theorem bxtWriteStart_decided (h : (d.bxt bus).st = 0) (he : d.hasEntry bus.src = true) :
    d.bxtWriteStart bus tag kind unit idx block off len =
      if (kind ≠ 3 ∧ kind ≠ 5) ∨ len = 0 ∨ len > 19200 ∨ block = 0 ∨ block > 64 then d.bxtRefuse bus tag kind idx off len .range
      else ((d.reserve bus.src (bxtKey bus kind unit idx)).modBxt bus (fun _ =>
        { st := 2, tag := tag, kind := kind, unit := unit, idx := idx, off := off, len := len, block := block })).bxtOut bus
        (bxtControl 0x21 tag kind unit idx block off len) := by
  rw [bxtWriteStart, hs, h, he]
  rfl

/-! A read that runs (R397). -/

theorem bxtContinue_running (hst : (d.bxt bus).st = 1) (htag : (d.bxt bus).tag = tag) :
    d.bxtContinue bus tag c =
      if c > (d.bxt bus).sentTo then d.bxtAbortNow bus .range
      else if c ≥ frameCount (d.bxt bus).len then
        (d.bxtOut bus (bxtControl 0x23 tag 0 0 0 0 (crc32 (d.bxt bus).data) 0)).modBxt bus
          (fun x => { x with st := 0, data := [], reason := .none })
      else d.bxtSend bus c := by
  simp [bxtContinue, hs, hst, htag]

/-! A write that runs (R398). -/

theorem bxtDataFrame_running (hst : (d.bxt bus).st = 2) (htag : (d.bxt bus).tag = tag) :
    d.bxtDataFrame bus tag c bs =
      (let t := d.bxt bus
       if c = t.nextCtr ∧ c < frameCount t.len then
         let m := d.modBxt bus (fun x =>
           { x with data := x.data ++ slice bs 0 60, nextCtr := x.nextCtr + 1, moved := min x.len (60 * (x.nextCtr + 1)) })
         if (c + 1) % t.block = 0 ∨ c + 1 = frameCount t.len then m.bxtAck bus tag else m
       else (if c < t.nextCtr then d.modBxt bus (fun x => { x with repeated := x.repeated + 1 }) else d).bxtAck bus tag) := by
  simp [bxtDataFrame, hs, hst, htag, bxtAck]

theorem bxtCommit_running (hst : (d.bxt bus).st = 2) (htag : (d.bxt bus).tag = tag) :
    d.bxtCommit bus tag len crc =
      (let t := d.bxt bus
       let bs := slice t.data 0 t.len
       let free := (d.unreserve bus.src (bxtKey bus t.kind t.unit t.idx)).modBxt bus (fun x => { x with st := 3 })
       if t.nextCtr < frameCount t.len ∨ len ≠ t.len then d.bxtResult bus 0 crc .length
       else if crc32 bs ≠ crc then d.bxtResult bus 0 (crc32 bs) .crc
       else if !free.hasEntry bus.src then (free.bump K.OP_OVERLOAD_COUNT 32).bxtAbortNow bus .overload
       else free.bxtWrite bus t bs crc) := by
  simp [bxtCommit, hs, hst, htag, bxtRelease_of_write hst]

/-! Its ends (R399). -/

theorem bxtHostAbort_of_tag (h : (d.bxt bus).tag = tag) : d.bxtHostAbort bus tag = d.bxtEnd bus .none := by simp [bxtHostAbort, hs, h]

theorem bxtTimeout_running (h : (d.bxt bus).st ≠ 0) : d.bxtTimeout bus = d.bxtAbortNow bus .timeout := by simp [bxtTimeout, hs, h]

end

/-! The legal lengths of a write, in the words of its frame (R396, R398). -/

theorem bxtWriteForm_iff {kind : BitVec 8} {block : BitVec 16} {len : BitVec 32} :
    ((kind.toNat ≠ 3 ∧ kind.toNat ≠ 5) ∨ len.toNat = 0 ∨ len.toNat > 19200 ∨ block.toNat = 0 ∨ block.toNat > 64) ↔
      ((kind ≠ 3 ∧ kind ≠ 5) ∨ len = 0 ∨ 19200 < len.toNat ∨ block = 0 ∨ 64 < block.toNat) := by
  have hkind : ∀ n : BitVec 8, kind.toNat ≠ n.toNat ↔ kind ≠ n := fun n => BitVec.toNat_inj.not
  have hlen : len.toNat = (0 : BitVec 32).toNat ↔ len = 0 := BitVec.toNat_inj
  have hblock : block.toNat = (0 : BitVec 16).toNat ↔ block = 0 := BitVec.toNat_inj
  exact or_congr (and_congr (hkind 3) (hkind 5)) (or_congr hlen (or_congr Iff.rfl (or_congr hblock Iff.rfl)))

theorem bxtWriteForm_legal {kind : BitVec 8} {block : BitVec 16} {len : BitVec 32} (hk : kind = 3 ∨ kind = 5) (hl : 1 ≤ len.toNat)
    (hl' : len.toNat ≤ 19200) (hb : 1 ≤ block.toNat) (hb' : block.toNat ≤ 64) :
    ¬ ((kind.toNat ≠ 3 ∧ kind.toNat ≠ 5) ∨ len.toNat = 0 ∨ len.toNat > 19200 ∨ block.toNat = 0 ∨ block.toNat > 64) := by
  have hk : kind.toNat = 3 ∨ kind.toNat = 5 := hk.imp (congrArg BitVec.toNat) (congrArg BitVec.toNat)
  omega

/-- The write of a COMMIT, entered with the OSN that stood before its reserved entry was returned. -/
theorem osnNext_unreserve_modBxt (d : Dev) (p : Src) (key : Nat) (f : Bxt → Bxt) :
    ((d.unreserve p key).modBxt bus f).osnNext = d.osnNext := by cases bus <;> rfl

end Dev

/-- Settles O41: each frame by the equation of its command, on a bus that is served and on one that is not. -/
theorem bulkTransfersComplete : Obligations.BulkTransfersComplete := by
  unfold Obligations.BulkTransfersComplete
  refine ⟨fun s f tag => ?_, ?_⟩
  · intro d bus hw hflaws hs
    have starts : ∀ (kind unit : BitVec 8) (idx block : BitVec 16) (off len : BitVec 32) (e : Dev),
        d.bxtReadStart bus tag.toNat kind.toNat unit.toNat idx.toNat block.toNat off.toNat len.toNat = e →
        exec (.bxtReadStart f tag kind unit idx block off len) s = .next (s.withDev e) := fun kind unit idx block off len e h =>
      (exec_bxtReadStart ..).trans (next_dev ((meeting_of_nil _ hflaws).trans ((onCan_of_not_wrong _ hw).trans h)))
    have writes : ∀ (kind unit : BitVec 8) (idx block : BitVec 16) (off len : BitVec 32) (e : Dev),
        d.bxtWriteStart bus tag.toNat kind.toNat unit.toNat idx.toNat block.toNat off.toNat len.toNat = e →
        exec (.bxtWriteStart f tag kind unit idx block off len) s = .next (s.withDev e) := fun kind unit idx block off len e h =>
      (exec_bxtWriteStart ..).trans (next_dev ((onCan_of_not_wrong _ hw).trans h))
    have continues : ∀ (c : BitVec 16) (e : Dev), d.bxtContinue bus tag.toNat c.toNat = e →
        exec (.bxtContinue f tag c) s = .next (s.withDev e) := fun c e h =>
      (exec_bxtContinue ..).trans (next_dev ((onCan_of_not_wrong _ hw).trans h))
    have frames : ∀ (c : BitVec 16) (bs : List Byte) (e : Dev), d.bxtDataFrame bus tag.toNat c.toNat bs = e →
        exec (.bxtDataFrame f tag c bs) s = .next (s.withDev e) := fun c bs e h =>
      (exec_bxtDataFrame ..).trans (next_dev ((onCan_of_not_wrong _ hw).trans h))
    have commits : ∀ (len crc : BitVec 32) (e : Dev), d.bxtCommit bus tag.toNat len.toNat crc.toNat = e →
        exec (.bxtCommit f tag len crc) s = .next (s.withDev e) := fun len crc e h =>
      (exec_bxtCommit ..).trans (next_dev ((onCan_of_not_wrong _ hw).trans h))
    have aborts : ∀ e : Dev, d.bxtHostAbort bus tag.toNat = e → exec (.bxtAbort f tag) s = .next (s.withDev e) := fun e h =>
      (exec_bxtAbort ..).trans (next_dev ((onCan_of_not_wrong _ hw).trans h))
    refine ⟨fun kind unit idx block off len hst => ⟨fun he hr => ?_, fun he hk hl hl' hb hb' => ?_, fun he hform => ?_,
        fun he => List.forall_mem_cons.mpr ⟨?_, List.forall_mem_singleton.mpr ?_⟩, fun he hr => ?_⟩,
      fun kind unit idx block off len hst => List.forall_mem_cons.mpr ⟨?_, List.forall_mem_singleton.mpr ?_⟩,
      fun c hst htag hc => ⟨fun hlast => ?_, fun hlast => ?_⟩, fun c hst htag hc => ?_, fun c h => ?_, fun c bs hst htag => ?_,
      fun c bs len crc h => List.forall_mem_cons.mpr ⟨?_, List.forall_mem_singleton.mpr ?_⟩, fun len crc hst htag => ?_,
      fun h => aborts _ (bxtHostAbort_of_tag hs h), fun h => aborts _ (bxtHostAbort_of_other h),
      fun h => (exec_bxtTimeout ..).trans (next_dev (bxtTimeout_idle h)),
      fun h => (exec_bxtTimeout ..).trans (next_dev (bxtTimeout_running hs h))⟩
    · exact starts _ _ _ _ _ _ _ ((bxtReadStart_decided hs hst he).trans (if_neg (not_not_intro hr)))
    · exact writes _ _ _ _ _ _ _ ((bxtWriteStart_decided hs hst he).trans (if_neg (bxtWriteForm_legal hk hl hl' hb hb')))
    · exact writes _ _ _ _ _ _ _ ((bxtWriteStart_decided hs hst he).trans (if_pos (bxtWriteForm_iff.mpr hform)))
    · exact starts _ _ _ _ _ _ _ (bxtReadStart_full hs hst he)
    · exact writes _ _ _ _ _ _ _ (bxtWriteStart_full hs hst he)
    · exact starts _ _ _ _ _ _ _ ((bxtReadStart_decided hs hst he).trans (if_pos hr))
    · exact starts _ _ _ _ _ _ _ (bxtReadStart_busy hs hst)
    · exact writes _ _ _ _ _ _ _ (bxtWriteStart_busy hs hst)
    · exact continues _ _ ((bxtContinue_running hs hst htag).trans ((if_neg (Nat.not_lt.mpr hc)).trans (if_neg (Nat.not_le.mpr hlast))))
    · exact continues _ _ ((bxtContinue_running hs hst htag).trans ((if_neg (Nat.not_lt.mpr hc)).trans (if_pos hlast)))
    · exact continues _ _ ((bxtContinue_running hs hst htag).trans (if_pos hc))
    · exact continues _ _ (bxtContinue_other h)
    · intro ack taken last due
      have taking : due → d.bxtDataFrame bus tag.toNat c.toNat bs = if last then ack taken else taken := fun hdue =>
        (bxtDataFrame_running hs hst htag).trans (if_pos hdue)
      have repeating : ¬ due → d.bxtDataFrame bus tag.toNat c.toNat bs =
          ack (if c.toNat < (d.bxt bus).nextCtr then d.modBxt bus (fun x => { x with repeated := x.repeated + 1 }) else d) := fun hdue =>
        (bxtDataFrame_running hs hst htag).trans (if_neg hdue)
      refine ⟨fun hdue hlast => ?_, fun hdue hlast => ?_, fun hc => ?_, fun hdue hc => ?_⟩
      · exact frames _ _ _ ((taking hdue).trans (if_neg hlast))
      · exact frames _ _ _ ((taking hdue).trans (if_pos hlast))
      · exact frames _ _ _ ((repeating fun hdue => absurd hdue.1 (Nat.ne_of_lt hc)).trans (congrArg ack (if_pos hc)))
      · exact frames _ _ _ ((repeating hdue).trans (congrArg ack (if_neg (Nat.not_lt.mpr hc))))
    · exact frames _ _ _ (bxtDataFrame_other h)
    · exact commits _ _ _ (bxtCommit_other h)
    · intro t bs
      have whole : frameCount t.len ≤ t.nextCtr → len.toNat = t.len → ¬ (t.nextCtr < frameCount t.len ∨ len.toNat ≠ t.len) := by omega
      have hcommit := bxtCommit_running (len := len.toNat) (crc := crc.toNat) hs hst htag
      refine ⟨fun h => commits _ _ _ (hcommit.trans (if_pos h)), fun hall hlen hcrc => ?_, ?_⟩
      · exact commits _ _ _ (hcommit.trans ((if_neg (whole hall hlen)).trans (if_pos hcrc)))
      · intro free
        have hwhole : frameCount t.len ≤ t.nextCtr → len.toNat = t.len → crc32 bs = crc.toNat →
            d.bxtCommit bus tag.toNat len.toNat crc.toNat =
              if !free.hasEntry bus.src then (free.bump K.OP_OVERLOAD_COUNT 32).bxtAbortNow bus .overload
              else free.bxtWrite bus t bs crc.toNat := fun hall hlen hcrc =>
          hcommit.trans ((if_neg (whole hall hlen)).trans (if_neg (not_not_intro hcrc)))
        refine ⟨fun hall hlen hcrc he => ?_, fun hall hlen hcrc he => ?_⟩
        · exact commits _ _ _ ((hwhole hall hlen hcrc).trans (if_pos (by rw [he]; rfl)))
        · have hwrite := (hwhole hall hlen hcrc).trans (if_neg (by rw [he]; decide))
          rw [bxtWrite, osnNext_unreserve_modBxt] at hwrite
          exact ⟨fun hk => commits _ _ _ (hwrite.trans (if_pos hk)), fun hk => commits _ _ _ (hwrite.trans (if_neg hk))⟩
  · intro s f tag kind unit idx block ctr off len crc bs hw hflaws hs
    have can : ∀ {c : Instr} {go : Dev → Dev}, exec c s = .next (s.withDev (s.dev.heard.onCan f go)) → go s.dev.heard = s.dev.heard →
        exec c s = .next (s.withDev s.dev.heard) := fun hexec h => hexec.trans (next_dev ((onCan_of_not_wrong _ hw).trans h))
    simp only [List.forall_mem_cons]
    exact ⟨can ((exec_bxtReadStart ..).trans (next_dev (meeting_of_nil _ hflaws))) (bxtReadStart_unserved hs),
      can (exec_bxtWriteStart ..) (bxtWriteStart_unserved hs), can (exec_bxtContinue ..) (bxtContinue_unserved hs),
      can (exec_bxtDataFrame ..) (bxtDataFrame_unserved hs), can (exec_bxtCommit ..) (bxtCommit_unserved hs),
      can (exec_bxtAbort ..) (bxtHostAbort_unserved hs), (exec_bxtTimeout ..).trans (next_dev (bxtTimeout_unserved hs)),
      fun _ h => absurd h List.not_mem_nil⟩

end Sys2Proof.Machine
end

section
/-! PROOFS. The statement of 13_field_network_and_object_dictionary.md on SDO and process data (R384, R387–R390). -/

namespace Sys2Proof.Machine

open Dev

namespace Dev

variable {d : Dev} {bus : Bus} {key : Nat} {size : Option Nat} {got bs : List Byte} {t : Bool}

/-! A bus that is not served (R384). -/

theorem onSdo_unserved {g : SdoFrame} {go : Dev → Dev} (hw : g.wrong = false) (hs : d.canServes g.bus = false) (h : go d = d) :
    d.onSdo g go = d := by
  cases hu : g.unknown
  · exact (onSdo_of_known go hw hu).trans h
  · exact (onSdo_of_unknown go hw hu).trans (if_neg (ne_true_of_eq_false hs))

theorem sdoInitDown_unserved {x : Bool} (h : d.canServes bus = false) : d.sdoInitDown bus key x size bs = d := by simp [sdoInitDown, h]

theorem sdoDownSegment_unserved {last : Bool} (h : d.canServes bus = false) : d.sdoDownSegment bus t last bs = d := by
  simp [sdoDownSegment, h]

theorem sdoInitUp_unserved (h : d.canServes bus = false) : d.sdoInitUp bus key = d := by simp [sdoInitUp, h]

theorem sdoUpSegment_unserved (h : d.canServes bus = false) : d.sdoUpSegment bus t = d := by simp [sdoUpSegment, h]

theorem sdoClientAbort_unserved (h : d.canServes bus = false) : d.sdoClientAbort bus = d := by simp [sdoClientAbort, h]

theorem sdoTimeout_unserved (h : d.canServes bus = false) : d.sdoTimeout bus = d := by simp [sdoTimeout, h]

theorem sdoTimeout_idle (h : (d.port bus).sdo = .idle) : d.sdoTimeout bus = d := by simp [sdoTimeout, h]

section

variable (hs : d.canServes bus = true)

include hs

/-! Downloads (R387). -/

theorem sdoInitDown_served {x : Bool} :
    d.sdoInitDown bus key x size bs =
      if x then (d.setSdo bus .idle).hostWrite bus.src key bs
      else (d.setSdo bus .idle).atPort bus.src (fun d => (d.setSdo bus (.down key size [] false)).reply bus.src .ack) := if_pos hs

theorem sdoDownSegment_running {toggle last : Bool} (h : (d.port bus).sdo = .down key size got t) :
    d.sdoDownSegment bus toggle last bs =
      if toggle ≠ t then d.sdoEnd bus 0x05030000
      else if last then
        (if size.isSome ∧ size ≠ some (got ++ bs).length then d.sdoEnd bus 0x06070010
          else (d.setSdo bus .idle).hostWrite bus.src key (got ++ bs))
      else (d.setSdo bus (.down key size (got ++ bs) (!t))).reply bus.src .ack := by
  rw [sdoDownSegment, if_pos hs, h]

theorem sdoDownSegment_other {last : Bool} (h : ∀ key size got t, (d.port bus).sdo ≠ .down key size got t) :
    d.sdoDownSegment bus t last bs = d.sdoEnd bus 0x05040001 := by
  rw [sdoDownSegment, if_pos hs]
  split
  · next hx => exact absurd hx (h _ _ _ _)
  · rfl

/-! Uploads (R387). -/

theorem sdoInitUp_open (hgate : (d.setSdo bus .idle).gateOf bus.src = .open_) :
    d.sdoInitUp bus key =
      (let m := d.setSdo bus .idle
       if m.readRule bus.src key ≠ .none then m.readRefused bus.src key (m.readRule bus.src key)
       else
         let x := m.readOp bus.src key
         if 1 ≤ x.1.length ∧ x.1.length ≤ 4 then x.2.reply bus.src (.data x.1)
         else (x.2.setSdo bus (.up key x.1 false)).reply bus.src (.data (leBytes 4 x.1.length))) :=
  (if_pos hs).trans (if_pos hgate)

theorem sdoUpSegment_running {toggle : Bool} {rest : List Byte} (h : (d.port bus).sdo = .up key rest t) :
    d.sdoUpSegment bus toggle =
      if toggle ≠ t then d.sdoEnd bus 0x05030000
      else (d.setSdo bus (if rest.length ≤ 7 then .idle else .up key (rest.drop 7) (!t))).reply bus.src (.data (rest.take 7)) := by
  rw [sdoUpSegment, if_pos hs, h]

theorem sdoUpSegment_other (h : ∀ key rest t, (d.port bus).sdo ≠ .up key rest t) : d.sdoUpSegment bus t = d.sdoEnd bus 0x05040001 := by
  rw [sdoUpSegment, if_pos hs]
  split
  · next hx => exact absurd hx (h _ _ _)
  · rfl

/-! Ends of a transfer (R387). -/

theorem sdoClientAbort_served : d.sdoClientAbort bus = d.setSdo bus .idle := if_pos hs

theorem sdoTimeout_running (h : (d.port bus).sdo ≠ .idle) : d.sdoTimeout bus = d.sdoEnd bus 0x05040000 := by simp [sdoTimeout, hs, h]

end

/-! RPDOs (R390). -/

variable {r : Nat}

theorem rpdo_unheard (h : d.canHears bus = false ∨ d.node.nmt ≠ .operational ∨ (d.cobId (K.RPDO_COB_ID r)).testBit 31 = true) :
    d.rpdo bus r bs = d := by
  rcases h with h | h | h <;> simp [rpdo, h]

theorem rpdo_heard (hh : d.canHears bus = true) (hop : d.node.nmt = .operational) (hid : (d.cobId (K.RPDO_COB_ID r)).testBit 31 = false) :
    d.rpdo bus r bs =
      (let m := d.pdoMap (0x1600 + r)
       let n := (m.map (fun x => x.2)).sum
       if bs.length < n then (d.canCount bus 4).cause 103 0x15
       else if bs.length > n then (d.canCount bus 4).cause 103 0x16
       else if m = [] then d
       else (d.rpdoHold bus r bs).rpdoEnter r) := by
  simp [rpdo, hh, hop, hid]

theorem pdoMap_congr {e : Dev} (h : e.objs = d.objs) (idx : Nat) : e.pdoMap idx = d.pdoMap idx := by
  have hnat : ∀ k, e.nat k = d.nat k := fun k => congrArg (fun v : Val => v.int.toNat) (obj_congr d h k)
  simp only [pdoMap, hnat]

/-- The device that takes the frame which waits: the frame is gone, and its interval starts. -/
def rpdoTaken (d : Dev) (r : Nat) : Dev :=
  { d with node := { d.node with
    rpdoHeld := vset d.node.rpdoHeld r none, rpdoLeft := vset d.node.rpdoLeft r (d.nat K.RPDO_MIN_INTERVAL * 1000) } }

theorem rpdoEnter_free (hheld : vget d.node.rpdoHeld r = some (bus, bs)) (hops : d.opsOpen = true) (hleft : vget d.node.rpdoLeft r = 0)
    (hentry : d.hasEntry bus.src = true) (hmap : d.pdoMap (0x1600 + r) ≠ []) (hlen : ((d.pdoMap (0x1600 + r)).map (fun x => x.2)).sum = bs.length) :
    d.rpdoEnter r = (d.rpdoTaken r).rpdoOperate bus.src (pdoWrites (d.pdoMap (0x1600 + r)) bs) := by
  rw [rpdoEnter, hheld]
  have hfree : (d.opsOpen && decide (vget d.node.rpdoLeft r = 0) && d.hasEntry bus.src) = true := by rw [hops, hleft, hentry]; rfl
  exact (if_pos hfree).trans (if_pos ⟨hmap, hlen⟩)

theorem rpdoEnter_waits (hheld : vget d.node.rpdoHeld r = some (bus, bs)) (h : ¬ (vget d.node.rpdoLeft r = 0 ∧ d.hasEntry bus.src = true)) :
    d.rpdoEnter r = d := by
  rw [rpdoEnter, hheld]
  refine if_neg fun hc => h ?_
  simp only [Bool.and_eq_true, decide_eq_true_eq] at hc
  exact ⟨hc.1.2, hc.2⟩

/-- What a count of a port leaves alone. -/
theorem canCount_rest (d : Dev) (bus : Bus) (i : Nat) :
    (d.canCount bus i).node = d.node ∧ (d.canCount bus i).objs = d.objs ∧ (d.canCount bus i).opsOpen = d.opsOpen := by
  cases bus <;> exact ⟨rfl, rfl, rfl⟩

/-- A frame that waits, with the count of one that it replaces. -/
theorem rpdoHold_rest (d : Dev) (bus : Bus) (r : Nat) (bs : List Byte) :
    (d.rpdoHold bus r bs).node = { d.node with rpdoHeld := vset d.node.rpdoHeld r (some (bus, bs)) } ∧
      (d.rpdoHold bus r bs).objs = d.objs ∧ (d.rpdoHold bus r bs).opsOpen = d.opsOpen := by
  unfold rpdoHold
  split
  · next c _ _ =>
    obtain ⟨hnode, hobjs, hops⟩ := d.canCount_rest c 3
    exact ⟨congrArg (fun n : Node => { n with rpdoHeld := vset n.rpdoHeld r (some (bus, bs)) }) hnode, hobjs, hops⟩
  · exact ⟨rfl, rfl, rfl⟩

theorem opsOpen_of_hears (h : d.canHears bus = true) : d.opsOpen = true := by
  simp only [canHears, canLive, Bool.and_eq_true] at h
  exact h.1.1.1.1.1.1

end Dev

/-- Settles O40: each request by the equation of its command on a served bus; an RPDO by `rpdo_heard` and `rpdoEnter`. -/
theorem sdoPdoComplete : Obligations.SdoPdoComplete := by
  unfold Obligations.SdoPdoComplete
  refine ⟨fun s g => ?_, ?_, fun s f r bs => ?_, fun s f r bs => ?_, fun d bus r bs ns hheld => ?_, fun s r => ?_⟩
  · intro d bus hw hu hflaws hs idle
    have sdo : ∀ {c : Instr} {go : Dev → Dev} {e : Dev}, exec c s = .next (s.withDev (d.onSdo g go)) → go d = e →
        exec c s = .next (s.withDev e) := fun hexec h => hexec.trans (next_dev ((onSdo_of_known _ hw hu).trans h))
    have uploads : ∀ (index : BitVec 16) (sub : BitVec 8) (e : Dev), d.sdoInitUp bus (objKey index sub) = e →
        exec (.sdoInitiateUpload g index sub) s = .next (s.withDev e) := fun index sub e h =>
      sdo ((exec_sdoInitiateUpload ..).trans (next_dev (meeting_of_nil _ hflaws))) h
    refine ⟨fun index sub size bs => ?_, fun key size got t bs hrun => ?_, fun index sub => ?_, fun index sub => ?_,
      fun key rest t hrun => ?_, fun h t l bs => ?_, fun h t => ?_, ?_, fun h => ?_, fun h => ?_⟩
    · exact ⟨sdo (exec_sdoInitiateDownload ..) (sdoInitDown_served hs), sdo (exec_sdoInitiateDownload ..) (sdoInitDown_served hs)⟩
    · have segment : ∀ (toggle last : Bool) (e : Dev), d.sdoDownSegment bus toggle last bs = e →
          exec (.sdoDownloadSegment g toggle last bs) s = .next (s.withDev e) := fun toggle last e h =>
        sdo (exec_sdoDownloadSegment ..) h
      have expected : ∀ last : Bool, d.sdoDownSegment bus t last bs = _ := fun last =>
        (sdoDownSegment_running hs hrun).trans (if_neg (not_not_intro rfl))
      refine ⟨segment _ _ _ ((sdoDownSegment_running hs hrun).trans (if_pos (by cases t <;> decide))), segment _ _ _ (expected false),
        fun hsize => segment _ _ _ ((expected true).trans ((if_pos rfl).trans (if_neg ?_))),
        fun n hsize hn => segment _ _ _ ((expected true).trans ((if_pos rfl).trans (if_pos ?_)))⟩
      · rintro ⟨hsome, hne⟩
        rcases hsize with rfl | hsize
        · cases hsome
        · exact hne hsize
      · rw [hsize]
        exact ⟨rfl, fun h => hn (Option.some.inj h)⟩
    · intro key hgate hrule x m
      have hread : d.sdoInitUp bus key = if 1 ≤ x.1.length ∧ x.1.length ≤ 4 then m.reply bus.src (.data x.1)
          else (m.setSdo bus (.up key x.1 false)).reply bus.src (.data (leBytes 4 x.1.length)) :=
        (sdoInitUp_open hs hgate).trans (if_neg (not_not_intro hrule))
      exact ⟨fun h1 h4 => uploads _ _ _ (hread.trans (if_pos ⟨h1, h4⟩)), fun h => uploads _ _ _ (hread.trans (if_neg (by omega)))⟩
    · intro key hgate hrule
      exact uploads _ _ _ ((sdoInitUp_open hs hgate).trans (if_pos hrule))
    · refine ⟨sdo (exec_sdoUploadSegment ..) ((sdoUpSegment_running hs hrun).trans (if_pos ?_)),
        sdo (exec_sdoUploadSegment ..) ((sdoUpSegment_running hs hrun).trans (if_neg (not_not_intro rfl)))⟩
      cases t <;> decide
    · exact sdo (exec_sdoDownloadSegment ..) (sdoDownSegment_other hs h)
    · exact sdo (exec_sdoUploadSegment ..) (sdoUpSegment_other hs h)
    · exact (exec_sdoAbortTransfer ..).trans (next_dev ((onCan_of_not_wrong _ hw).trans (sdoClientAbort_served hs)))
    · exact (exec_sdoTimeout ..).trans (next_dev (sdoTimeout_running hs h))
    · exact (exec_sdoTimeout ..).trans (next_dev (sdoTimeout_idle h))
  · intro s g index sub x size bs t l hw hflaws hs
    have sdo : ∀ {c : Instr} {go : Dev → Dev}, exec c s = .next (s.withDev (s.dev.heard.onSdo g go)) → go s.dev.heard = s.dev.heard →
        exec c s = .next (s.withDev s.dev.heard) := fun hexec h => hexec.trans (next_dev (onSdo_unserved hw hs h))
    simp only [List.forall_mem_cons]
    exact ⟨sdo (exec_sdoInitiateDownload ..) (sdoInitDown_unserved hs), sdo (exec_sdoDownloadSegment ..) (sdoDownSegment_unserved hs),
      sdo ((exec_sdoInitiateUpload ..).trans (next_dev (meeting_of_nil _ hflaws))) (sdoInitUp_unserved hs),
      sdo (exec_sdoUploadSegment ..) (sdoUpSegment_unserved hs),
      (exec_sdoAbortTransfer ..).trans (next_dev ((onCan_of_not_wrong _ hw).trans (sdoClientAbort_unserved hs))),
      (exec_sdoTimeout ..).trans (next_dev (sdoTimeout_unserved hs)), fun _ h => absurd h List.not_mem_nil⟩
  · intro d hw h
    exact (exec_rpdo ..).trans (next_dev ((onCan_of_not_wrong _ hw).trans (rpdo_unheard h)))
  · intro d bus hw hh hop hid n
    have received : ∀ e : Dev, d.rpdo bus r bs = e → exec (.rpdo f r bs) s = .next (s.withDev e) := fun e h =>
      (exec_rpdo ..).trans (next_dev ((onCan_of_not_wrong _ hw).trans h))
    have hframe := rpdo_heard (bs := bs) hh hop hid
    have fits : bs.length = n → ¬ bs.length < n ∧ ¬ bs.length > n := by omega
    refine ⟨fun h => received _ (hframe.trans (if_pos h)), fun h => received _ (hframe.trans ((if_neg (Nat.not_lt.mpr h.le)).trans (if_pos h))),
      fun h hmap => received _ (hframe.trans ((if_neg (fits h).1).trans ((if_neg (fits h).2).trans (if_pos hmap)))), fun h hmap => ?_⟩
    intro old held taken free
    have hentered : d.rpdo bus r bs = held.rpdoEnter r := hframe.trans ((if_neg (fits h).1).trans ((if_neg (fits h).2).trans (if_neg hmap)))
    obtain ⟨hnode, hobjs, hops⟩ : held.node = _ ∧ held.objs = _ ∧ held.opsOpen = _ := d.rpdoHold_rest bus r bs
    have hheld : vget held.node.rpdoHeld r = some (bus, bs) := by
      rw [hnode]
      exact vget_vmod_self _ _ _ r.isLt
    have hleft : vget held.node.rpdoLeft r = vget d.node.rpdoLeft r := by rw [hnode]
    have hsame := pdoMap_congr hobjs (0x1600 + r)
    refine ⟨fun ⟨hl, he⟩ => received _ (hentered.trans ?_), fun hnot => received _ (hentered.trans (rpdoEnter_waits hheld ?_))⟩
    · rw [rpdoEnter_free hheld (hops.trans (opsOpen_of_hears hh)) (hleft.trans hl) he (hsame ▸ hmap) (by rw [hsame]; exact h.symm), hsame]
      rfl
    · rwa [hleft]
  · intro later taken
    have hheld' : vget later.node.rpdoHeld r = some (bus, bs) := hheld
    have hleft : vget later.node.rpdoLeft r = vget d.node.rpdoLeft r - ns := vget_vmod_self _ _ _ r.isLt
    refine ⟨fun hl hops he hmap hlen => rpdoEnter_free hheld' hops (hleft.trans (Nat.sub_eq_zero_of_le hl)) he hmap hlen, fun hl => rpdoEnter_waits hheld' ?_⟩
    rintro ⟨h, -⟩
    exact Nat.sub_ne_zero_of_lt hl (hleft.symm.trans h)
  · intro d
    exact ⟨fun h => (exec_tpdoEventTimer ..).trans (next_dev (if_pos h)),
      fun h => (exec_tpdoEventTimer ..).trans (next_dev (if_neg (not_not_intro h))), exec_tpdoInhibitEnd s r⟩

end Sys2Proof.Machine
end

section
/-! PROOFS. The statement of 13_field_network_and_object_dictionary.md on NMT, heartbeat, EMCY and ports (R382–R386, R391, R400, R401). -/

namespace Sys2Proof.Machine

open Dev

theorem leBytes_one_nat (n : Nat) : leBytes 1 (n : Int) = [BitVec.ofNat 8 n] := by simp [leBytes]

/-- The entries that no transfer has reserved. -/
def lasting (ops : List OpEntry) : List OpEntry := ops.filter (fun e => decide (e.st ≠ .reserved))

/-- A reserved entry that returns to FREE leaves the others as they were. -/
theorem lasting_eraseP (p : OpEntry → Bool) (hp : ∀ e, p e = true → e.st = .reserved) (ops : List OpEntry) :
    lasting (ops.eraseP p) = lasting ops := by
  induction ops with
  | nil => rfl
  | cons e ops ih =>
    have hcons : ∀ l, lasting (e :: l) = if decide (e.st ≠ .reserved) = true then e :: lasting l else lasting l := fun l =>
      List.filter_cons
    rw [List.eraseP_cons]
    cases h : p e
    · rw [cond_false, hcons, ih, hcons]
    · rw [cond_true, hcons, hp e h]
      rfl

namespace Dev

variable {d : Dev} {bus : Bus}

theorem causeArg_objs (d : Dev) (src code osn : Nat) (arg : List Byte) : (d.causeArg src code osn arg).objs = d.objs := by
  unfold causeArg
  split
  · split <;> rfl
  · rfl

theorem lasting_unreserve (d : Dev) (p : Src) (key : Nat) : lasting (d.unreserve p key).ops = lasting d.ops := by
  refine lasting_eraseP _ (fun e he => ?_) _
  simp only [Bool.and_eq_true, beq_iff_eq] at he
  exact he.1.1

/-- What the end of transfers leaves alone: rails, objects, sessions, the effective values, the board and all but the reserved entries. -/
structure OnlyTransfers (d e : Dev) : Prop where
  rails : e.rails = d.rails
  objs : e.objs = d.objs
  acc : e.acc = d.acc
  ops : lasting e.ops = lasting d.ops

theorem OnlyTransfers.refl (d : Dev) : OnlyTransfers d d := ⟨rfl, rfl, rfl, rfl⟩

theorem OnlyTransfers.trans {d e f : Dev} (h : OnlyTransfers d e) (g : OnlyTransfers e f) : OnlyTransfers d f :=
  ⟨g.rails.trans h.rails, g.objs.trans h.objs, g.acc.trans h.acc, g.ops.trans h.ops⟩

theorem onlyTransfers_causeArg (d : Dev) (src code osn : Nat) (arg : List Byte) : OnlyTransfers d (d.causeArg src code osn arg) :=
  ⟨causeArg_rails .., causeArg_objs .., causeArg_acc .., congrArg lasting (causeArg_ops ..)⟩

theorem onlyTransfers_modPort (d : Dev) (bus : Bus) (f : CanPort → CanPort) : OnlyTransfers d (d.modPort bus f) := by
  cases bus <;> exact ⟨rfl, rfl, rfl, rfl⟩

theorem onlyTransfers_unreserve (d : Dev) (p : Src) (key : Nat) : OnlyTransfers d (d.unreserve p key) :=
  ⟨rfl, rfl, rfl, lasting_unreserve ..⟩

theorem onlyTransfers_setSdo_idle (d : Dev) (bus : Bus) : OnlyTransfers d (d.setSdo bus .idle) := by
  unfold setSdo
  refine OnlyTransfers.trans ?_ (onlyTransfers_modPort _ bus _)
  split
  · exact onlyTransfers_unreserve ..
  · exact .refl d

theorem onlyTransfers_bxtEnd (d : Dev) (bus : Bus) (r : Reason) : OnlyTransfers d (d.bxtEnd bus r) := by
  unfold bxtEnd
  split
  · exact .refl d
  · refine OnlyTransfers.trans (OnlyTransfers.trans ?_ (onlyTransfers_modPort _ bus _)) (onlyTransfers_causeArg ..)
    unfold bxtRelease
    dsimp only
    split
    · exact onlyTransfers_unreserve ..
    · exact .refl d

theorem onlyTransfers_transfersEnd (d : Dev) (r : Reason) : OnlyTransfers d (buses.foldl (fun d bus => d.transfersEnd bus r) d) :=
  have one : ∀ (e : Dev) (bus : Bus), OnlyTransfers e (e.transfersEnd bus r) := fun e bus =>
    (onlyTransfers_setSdo_idle e bus).trans (onlyTransfers_bxtEnd _ bus r)
  (one d .a).trans (one _ .b)

/-! The sessions of the CAN ports (R463). -/

/-- What an interface shows of its session: its level, and how the last one ended. -/
def shown (x : Iface) : Nat × Nat := (x.level, x.endCause)

theorem shown_map (v : Vector Iface 4) (f : Iface → Iface) (hf : ∀ x, shown (f x) = shown x) (i : Nat) :
    shown (vget (v.map f) i) = shown (vget v i) := by
  unfold vget
  split
  · simp [hf]
  · rfl

theorem debugShut_shown (d : Dev) (osn i : Nat) : shown ((d.debugShut osn).iface i) = shown (d.iface i) := by
  unfold debugShut
  split
  · obtain ⟨eng, h⟩ := d.debugClose_eq
    rw [iface_congr (congrArg Access.ifs (causeOsn_acc ..)), h]
    exact shown_map d.acc.ifs (fun x => { x with debugOwner := false }) (fun _ => rfl) _
  · rfl

theorem sessionEnd_shown_self {i cause osn : Nat} (hlo : 1 ≤ i) (hhi : i ≤ 4) (h : 2 ≤ (d.iface i).level) :
    shown ((d.sessionEnd i cause osn).iface i) = (0, cause) := by
  have htold : shown ((d.sessionTold i cause osn).iface i) = (0, cause) := by rw [sessionTold_iface d cause osn hlo hhi]; rfl
  rw [sessionEnd_of_held h]
  split
  · exact (debugShut_shown ..).trans htold
  · exact htold

theorem sessionEnd_shown_other {i j cause osn : Nat} (hij : j - 1 ≠ i - 1) :
    shown ((d.sessionEnd i cause osn).iface j) = shown (d.iface j) := by
  have htold : shown ((d.sessionTold i cause osn).iface j) = shown (d.iface j) :=
    congrArg shown ((iface_congr (congrArg Access.ifs (causeOsn_acc ..)) j).trans (vget_vmod_other _ _ hij))
  by_cases h : 2 ≤ (d.iface i).level
  · rw [sessionEnd_of_held h]
    split
    · exact (debugShut_shown ..).trans htold
    · exact htold
  · rw [sessionEnd_of_none (Nat.lt_of_not_le h)]

/-- What the end of a session leaves alone. -/
structure OnlySession (d e : Dev) : Prop where
  rails : e.rails = d.rails
  ops : e.ops = d.ops
  obj : ∀ k, k ≠ K.DEBUG_OPEN → e.obj k = d.obj k

theorem OnlySession.trans {d e f : Dev} (h : OnlySession d e) (g : OnlySession e f) : OnlySession d f :=
  ⟨g.rails.trans h.rails, g.ops.trans h.ops, fun k hk => (g.obj k hk).trans (h.obj k hk)⟩

theorem onlySession_causeArg (d : Dev) (src code osn : Nat) (arg : List Byte) : OnlySession d (d.causeArg src code osn arg) :=
  ⟨causeArg_rails .., causeArg_ops .., fun k _ => obj_congr d (causeArg_objs ..) k⟩

theorem onlySession_debugShut (d : Dev) (osn : Nat) : OnlySession d (d.debugShut osn) := by
  unfold debugShut
  split
  · refine OnlySession.trans ?_ (onlySession_causeArg ..)
    obtain ⟨eng, h⟩ := d.debugClose_eq
    rw [h]
    exact ⟨setNum_rails d K.DEBUG_OPEN 0, setNum_ops d K.DEBUG_OPEN 0, fun k hk => (obj_congr (d.setNum K.DEBUG_OPEN 0) rfl k).trans (obj_setObj_other _ _ hk)⟩
  · exact ⟨rfl, rfl, fun _ _ => rfl⟩

theorem onlySession_sessionEnd (d : Dev) (i cause osn : Nat) : OnlySession d (d.sessionEnd i cause osn) := by
  have htold : OnlySession d (d.sessionTold i cause osn) :=
    have hset : OnlySession d (d.modIface i (fun x => { x with level := 0, endCause := cause })) := ⟨rfl, rfl, fun _ _ => rfl⟩
    hset.trans (onlySession_causeArg ..)
  by_cases h : 2 ≤ (d.iface i).level
  · rw [sessionEnd_of_held h]
    split
    · exact htold.trans (onlySession_debugShut ..)
    · exact htold
  · rw [sessionEnd_of_none (Nat.lt_of_not_le h)]
    exact ⟨rfl, rfl, fun _ _ => rfl⟩

/-! NMT (R382, R384). -/

/-- The node in a state entered; PDOs that wait end outside OPERATIONAL. -/
def nmtSet (d : Dev) (x : Nmt) : Dev :=
  { d with node := { d.node with
    nmt := x, tpdoHeld := if x = Nmt.operational then d.node.tpdoHeld else Vector.replicate 4 false
    rpdoHeld := if x = Nmt.operational then d.node.rpdoHeld else Vector.replicate 4 none } }

theorem nmtEnter_set (d : Dev) (x : Nmt) :
    d.nmtEnter x =
      if d.node.nmt = x then d
      else (if x = .stopped then buses.foldl (fun d bus => d.transfersEnd bus .nmtState) (d.nmtSet x) else d.nmtSet x).causeArg 103 0x12 0
        (leBytes 1 x.code) := rfl

theorem nmtEnter_eq (d : Dev) (x : Nmt) (hx : x ≠ .stopped) :
    d.nmtEnter x = if d.node.nmt = x then d else (d.nmtSet x).causeArg 103 0x12 0 (leBytes 1 x.code) := by
  rw [nmtEnter_set, if_neg hx]

theorem nmtEnter_stopped (d : Dev) :
    d.nmtEnter .stopped =
      if d.node.nmt = .stopped then d
      else (buses.foldl (fun d bus => d.transfersEnd bus .nmtState) (d.nmtSet .stopped)).causeArg 103 0x12 0 (leBytes 1 Nmt.stopped.code) :=
  rfl

theorem nmt_addressed {node : BitVec 8} (h : d.nmtAddressed bus node = true) :
    d.nmtStart bus node = d.nmtEnter .operational ∧ d.nmtStop bus node = d.nmtEnter .stopped ∧
      d.nmtPreOp bus node = d.nmtEnter .preOperational := ⟨if_pos h, if_pos h, if_pos h⟩

theorem nmt_unaddressed {node : BitVec 8} (h : d.nmtAddressed bus node = false) :
    d.nmtStart bus node = d ∧ d.nmtStop bus node = d ∧ d.nmtPreOp bus node = d ∧ d.nmtResetComm bus node = d :=
  have h := ne_true_of_eq_false h
  ⟨if_neg h, if_neg h, if_neg h, if_neg h⟩

/-- An entered state other than STOPPED changes the node, and is told. -/
theorem nmtEnter_rest (d : Dev) {x : Nmt} (hx : x ≠ .stopped) :
    OnlyTransfers d (d.nmtEnter x) ∧ (d.nmtEnter x).node.nmt = x ∧ (d.nmtEnter x).node.id = d.node.id ∧ (d.nmtEnter x).eff = d.eff ∧
      (d.nmtEnter x).board = d.board := by
  rw [nmtEnter_eq d x hx]
  split
  · next h => exact ⟨.refl d, h, rfl, rfl, rfl⟩
  · have hset : OnlyTransfers d (d.nmtSet x) := ⟨rfl, rfl, rfl, rfl⟩
    have hnode : ((d.nmtSet x).causeArg 103 0x12 0 (leBytes 1 x.code)).node = (d.nmtSet x).node := causeArg_node ..
    exact ⟨hset.trans (onlyTransfers_causeArg ..), congrArg Node.nmt hnode, by rw [hnode]; rfl, causeArg_eff .., causeArg_board ..⟩

theorem chooseId_congr {e : Dev} (heff : e.eff = d.eff) (hboard : e.board = d.board) : e.chooseId = d.chooseId := by
  rw [chooseId, effNum, heff, hboard]
  rfl

/-- The node set up, before it leaves INITIALISING. -/
def nodeSet (d : Dev) : Dev :=
  { d with
    node := { d.node with
      id := d.chooseId, hb := Vector.replicate 4 {}, tpdoHeld := Vector.replicate 4 false, tpdoInhibit := Vector.replicate 4 false
      rpdoHeld := Vector.replicate 4 none }
    canA := { d.canA with enabled := decide (d.chooseId ≠ 0) && bitAt (d.effNum K.CAN_PORT_EN) 0 }
    canB := { d.canB with enabled := decide (d.chooseId ≠ 0) && bitAt (d.effNum K.CAN_PORT_EN) 1 } }

theorem nodeStart_eq (d : Dev) :
    ∃ a, d.nodeStart = (d.nodeSet.nmtEnter (if d.effNum K.NMT_STARTUP = 1 then .operational else .preOperational)).answering a := ⟨_, rfl⟩

/-- The start of the node: its state and its node-ID, and what it leaves alone. -/
theorem nodeStart_rest (d : Dev) :
    OnlyTransfers d d.nodeStart ∧ (d.nodeStart.node.nmt = .operational ∨ d.nodeStart.node.nmt = .preOperational) ∧
      d.nodeStart.node.id = d.nodeStart.chooseId := by
  obtain ⟨a, h⟩ := d.nodeStart_eq
  have hset : OnlyTransfers d d.nodeSet := ⟨rfl, rfl, rfl, rfl⟩
  have started : ∀ x : Nmt, x ≠ .stopped → d.nodeStart = (d.nodeSet.nmtEnter x).answering a →
      OnlyTransfers d d.nodeStart ∧ d.nodeStart.node.nmt = x ∧ d.nodeStart.node.id = d.nodeStart.chooseId := by
    intro x hx he
    obtain ⟨hrest, hnmt, hid, heff, hboard⟩ := d.nodeSet.nmtEnter_rest hx
    obtain ⟨hrails, hobjs, hacc, hops⟩ := hset.trans hrest
    rw [he]
    exact ⟨⟨hrails, hobjs, hacc, hops⟩, hnmt, hid.trans (chooseId_congr heff hboard).symm⟩
  split at h
  · obtain ⟨hrest, hnmt, hid⟩ := started .operational (by decide) h
    exact ⟨hrest, .inl hnmt, hid⟩
  · obtain ⟨hrest, hnmt, hid⟩ := started .preOperational (by decide) h
    exact ⟨hrest, .inr hnmt, hid⟩

/-! NMT_RESET_COMMUNICATION (R384, R434). -/

/-- The sessions and transfers of both CAN ports ended, and told. -/
def commEnded (d : Dev) : Dev :=
  (buses.foldl (fun d bus => d.transfersEnd bus .nmtState) ((d.sessionEnd 3 7 0).sessionEnd 4 7 0)).causeArg 103 0x12 0
    (leBytes 1 Nmt.initialising.code)

/-- The communication objects of the active image laid over the others. -/
def commObjs (d : Dev) : Assoc Val :=
  (d.activeImage.entries.filter (fun e => commKey e.1)).foldl (fun m (e : Nat × Val) => Assoc.set objDefault m e.1 e.2)
    (d.objs.filter (fun e => !commKey e.1))

/-- The communication objects reloaded, and both ports and the node as new. -/
def commReloaded (d : Dev) : Dev :=
  let m : Dev := { d with objs := d.commObjs, pendT := d.pendT.filter (fun e => !commKey e.1) }
  { m with eff := Assoc.set objDefault m.eff K.CAN_NODE_ID (m.obj K.CAN_NODE_ID), canA := {}, canB := {}, node := {} }

/-- The reload leaves rails, sessions and operations. -/
theorem commReloaded_rest (d : Dev) : d.commReloaded.rails = d.rails ∧ d.commReloaded.acc = d.acc ∧ d.commReloaded.ops = d.ops :=
  ⟨rfl, rfl, rfl⟩

theorem nmtResetComm_addressed {node : BitVec 8} (h : d.nmtAddressed bus node = true) :
    d.nmtResetComm bus node = d.commEnded.commReloaded.nodeStart := if_pos h

/-- Objects laid over a store from keys that pass a test leave the others. -/
theorem get_foldl_set_other (p : Nat → Bool) {k : Nat} (hk : p k = false) (l : Assoc Val) (hl : ∀ e ∈ l, p e.1 = true) (m : Assoc Val) :
    Assoc.get objDefault (l.foldl (fun m (e : Nat × Val) => Assoc.set objDefault m e.1 e.2) m) k = Assoc.get objDefault m k := by
  induction l generalizing m with
  | nil => rfl
  | cons e l ih =>
    obtain ⟨he, hl⟩ := List.forall_mem_cons.mp hl
    have hne : k ≠ e.1 := fun h => Bool.false_ne_true (hk.symm.trans (h ▸ he))
    exact (ih hl _).trans (Assoc.get_set_other _ _ _ hne)

theorem commReloaded_obj (d : Dev) {k : Nat} (hk : commKey k = false) : d.commReloaded.obj k = d.obj k := by
  have hover : Assoc.get objDefault d.commObjs k = Assoc.get objDefault (d.objs.filter (fun e => !commKey e.1)) k :=
    get_foldl_set_other commKey hk _ (fun e he => (List.mem_filter.mp he).2) _
  have hkept := Assoc.get_filter objDefault (fun k => !commKey k) d.objs k
  exact hover.trans (hkept.trans (if_pos (by rw [hk]; rfl)))

/-- The sessions of both CAN ports end with cause 7. -/
theorem commEnded_shown {i : Nat} (hi : i = 3 ∨ i = 4) (h : 2 ≤ (d.iface i).level) : shown (d.commEnded.iface i) = (0, 7) := by
  have hrest : OnlyTransfers ((d.sessionEnd 3 7 0).sessionEnd 4 7 0) d.commEnded :=
    (onlyTransfers_transfersEnd ..).trans (onlyTransfers_causeArg ..)
  rw [iface_congr (congrArg Access.ifs hrest.acc)]
  rcases hi with rfl | rfl
  · exact (sessionEnd_shown_other (by decide)).trans (sessionEnd_shown_self (by decide) (by decide) h)
  · have hlevel : ((d.sessionEnd 3 7 0).iface 4).level = (d.iface 4).level :=
      congrArg Prod.fst (sessionEnd_shown_other (i := 3) (j := 4) (by decide))
    exact sessionEnd_shown_self (by decide) (by decide) (hlevel ▸ h)

/-- What NMT_RESET_COMMUNICATION of the node does, and what it leaves alone. -/
theorem nmtResetComm_rest {node : BitVec 8} {e : Dev} (h : d.nmtAddressed bus node = true) (he : d.nmtResetComm bus node = e) :
    e.node.id = e.chooseId ∧ (e.node.nmt = .operational ∨ e.node.nmt = .preOperational) ∧ e.rails = d.rails ∧
      lasting e.ops = lasting d.ops ∧ (∀ i, i = 3 ∨ i = 4 → 2 ≤ (d.iface i).level → shown (e.iface i) = (0, 7)) ∧
      ∀ k, commKey k = false → k ≠ K.DEBUG_OPEN → e.obj k = d.obj k := by
  obtain ⟨hrest, hnmt, hid⟩ := d.commEnded.commReloaded.nodeStart_rest
  have hsessions : OnlySession d ((d.sessionEnd 3 7 0).sessionEnd 4 7 0) := (onlySession_sessionEnd ..).trans (onlySession_sessionEnd ..)
  have hended : OnlyTransfers ((d.sessionEnd 3 7 0).sessionEnd 4 7 0) d.commEnded :=
    (onlyTransfers_transfersEnd ..).trans (onlyTransfers_causeArg ..)
  obtain ⟨hrails, hacc, hops⟩ := d.commEnded.commReloaded_rest
  obtain rfl := (nmtResetComm_addressed h).symm.trans he
  refine ⟨hid, hnmt, hrest.rails.trans (hrails.trans (hended.rails.trans hsessions.rails)), ?_, fun i hi hlevel => ?_,
    fun k hk hdebug => ?_⟩
  · exact hrest.ops.trans ((congrArg lasting hops).trans (hended.ops.trans (congrArg lasting hsessions.ops)))
  · exact (congrArg shown (iface_congr (congrArg Access.ifs (hrest.acc.trans hacc)) i)).trans (commEnded_shown hi hlevel)
  · exact (obj_congr _ hrest.objs k).trans ((commReloaded_obj _ hk).trans ((obj_congr _ hended.objs k).trans (hsessions.obj k hdebug)))

/-! Heartbeats (R386). -/

theorem heartbeatProduce_sends (htime : d.num K.PRODUCER_HEARTBEAT_TIME ≠ 0) (hnmt : d.node.nmt ≠ .initialising)
    (hports : buses.filter d.portBeats ≠ []) :
    d.heartbeatProduce = d.answering
      (.frames ((buses.filter d.portBeats).map (fun bus => (onBus bus (0x700 + d.node.id), [BitVec.ofNat 8 d.node.nmt.code])))) := by
  rw [heartbeatProduce, if_pos ⟨htime, hnmt⟩]
  simp only [leBytes_one_nat]
  exact if_neg (by simpa using hports)

theorem heartbeatProduce_silent (h : d.num K.PRODUCER_HEARTBEAT_TIME = 0 ∨ d.node.nmt = .initialising ∨ buses.filter d.portBeats = []) :
    d.heartbeatProduce = d := by
  rcases h with h | h | h <;> simp [heartbeatProduce, h]

theorem heartbeatReceived_entry {node : BitVec 8} {i : Nat} (hh : d.canHears bus = true) (hi : d.hbEntry node.toNat = some i) :
    d.heartbeatReceived bus node =
      (let m := d.modHb i (fun h => { h with heard := true, timedOut := false })
       if (vget d.node.hb i).timedOut then m.causeArg 103 0x11 0 [BitVec.ofNat 8 (i + 1)] else m) := by
  rw [heartbeatReceived, if_pos hh, hi]
  simp only [leBytes_one_nat]

theorem heartbeatReceived_none {node : BitVec 8} (h : d.canHears bus = false ∨ d.hbEntry node.toNat = none) :
    d.heartbeatReceived bus node = d := by
  rcases h with h | h <;> simp [heartbeatReceived, h]

theorem heartbeatTimeout_missed {i : Nat} (hh : (vget d.node.hb i).heard = true)
    (ht : fieldAt (d.num (K.CONSUMER_HEARTBEAT_TIME i)) 0 16 ≠ 0) (hl : d.canLive = true) :
    d.heartbeatTimeout i =
      ((d.modHb i (fun h => { h with heard := false, timedOut := true })).causeArg 103 0x10 0 [BitVec.ofNat 8 (i + 1)]).commError := by
  rw [heartbeatTimeout, hh, hl, decide_eq_true ht, leBytes_one_nat]
  rfl

theorem heartbeatTimeout_not {i : Nat} (h : (vget d.node.hb i).heard = false ∨
    fieldAt (d.num (K.CONSUMER_HEARTBEAT_TIME i)) 0 16 = 0 ∨ d.canLive = false) : d.heartbeatTimeout i = d := by
  rcases h with h | h | h <;> simp [heartbeatTimeout, h]

/-! Ports (R400, R401). -/

theorem busEv_eq (bus : Bus) (c : Nat) : busEv bus c = if bus = .a then c else c + 1 := by cases bus <;> rfl

theorem modPort_congr {f g : CanPort → CanPort} (h : f (d.port bus) = g (d.port bus)) : d.modPort bus f = d.modPort bus g := by
  cases bus
  · exact congrArg (fun p : CanPort => { d with canA := p }) h
  · exact congrArg (fun p : CanPort => { d with canB := p }) h

theorem modPort_self {f : CanPort → CanPort} (h : f (d.port bus) = d.port bus) : d.modPort bus f = d := by
  cases bus
  · exact congrArg (fun p : CanPort => { d with canA := p }) h
  · exact congrArg (fun p : CanPort => { d with canB := p }) h

theorem canErrorActive_ends (hon : d.canOn = true) (hp : (d.port bus).errPassive = true) (hoff : (d.port bus).busOff = false) :
    d.canErrorActive bus = d.modPort bus (fun p => { p with errPassive := false }) := by
  rw [canErrorActive, if_pos hon]
  refine modPort_congr ?_
  rw [hp, hoff]
  rfl

theorem canErrorActive_not (h : d.canOn = false ∨ (d.port bus).errPassive = false ∨ (d.port bus).busOff = true) :
    d.canErrorActive bus = d := by
  unfold canErrorActive
  split
  · next hon =>
    refine modPort_self (if_neg ?_)
    rcases h with h | h | h
    · exact absurd (hon.symm.trans h) (by decide)
    · simp [h]
    · simp [h]
  · rfl

theorem canRecovery_recovers (hon : d.canOn = true) (hoff : (d.port bus).busOff = true) :
    d.canRecovery bus = (d.modPort bus (fun p => { p with busOff := false, offRepeated := false })).cause 103 (busEv bus 0x05) := by
  simp [canRecovery, hon, hoff]

theorem canRecovery_not (h : d.canOn = false ∨ (d.port bus).busOff = false) : d.canRecovery bus = d := by
  rcases h with h | h <;> simp [canRecovery, h]

/-- A port that is off, or whose controller is, notices nothing. -/
theorem port_unpowered (h : d.canOn = false ∨ (d.port bus).enabled = false) :
    d.canRxOverrun bus = d ∧ d.canTxTimeout bus = d ∧ d.nodeIdConflict bus = d ∧ d.canErrorPassive bus = d ∧ d.canBusOff bus = d := by
  rcases h with h | h <;> simp [canRxOverrun, canTxTimeout, nodeIdConflict, canErrorPassive, canBusOff, h]

theorem nodeIdConflict_again (h : (d.port bus).idConflict = true) : d.nodeIdConflict bus = d := by simp [nodeIdConflict, h]

theorem canErrorPassive_again (h : (d.port bus).errPassive = true ∨ (d.port bus).busOff = true) : d.canErrorPassive bus = d := by
  rcases h with h | h <;> simp [canErrorPassive, h]

theorem canBusOff_again (h : (d.port bus).busOff = true) : d.canBusOff bus = d := by simp [canBusOff, h]

section

variable (hon : d.canOn = true) (hen : (d.port bus).enabled = true)

include hon hen

theorem canRxOverrun_told : d.canRxOverrun bus = (d.canCount bus 2).cause 103 (busEv bus 0x07) := by simp [canRxOverrun, hon, hen]

theorem canTxTimeout_empty (h : (d.port bus).emcy = []) : d.canTxTimeout bus = d.canCount bus 5 := by
  simp [canTxTimeout, hon, hen, h]

theorem canTxTimeout_emcy {x : Event} {rest : List Event} (h : (d.port bus).emcy = x :: rest) :
    d.canTxTimeout bus = ((d.canCount bus 5).modPort bus (fun p => { p with emcy := rest })).cause 103 0x19 := by
  simp [canTxTimeout, hon, hen, h]

theorem nodeIdConflict_told (h : (d.port bus).idConflict = false) :
    d.nodeIdConflict bus = (d.modPort bus (fun p => { p with idConflict := true })).cause 103 (busEv bus 0x09) := by
  simp [nodeIdConflict, hon, hen, h]

variable (hoff : (d.port bus).busOff = false)

include hoff

theorem canErrorPassive_told (h : (d.port bus).errPassive = false) :
    d.canErrorPassive bus = ((d.modPort bus (fun p => { p with errPassive := true })).canCount bus 1).cause 103 (busEv bus 0x01) := by
  simp [canErrorPassive, hon, hen, h, hoff]

theorem canBusOff_told :
    d.canBusOff bus =
      (let n := (d.port bus).busOffRun + 1
       let many := decide (n ≥ 8) && decide (d.draw.1 % 2 = 1)
       let m := (if n ≥ 8 then d.draw.2 else d).modPort bus (fun p =>
         { p with busOff := true, errPassive := false, busOffRun := if many then 0 else min n 8, offRepeated := many })
       (((m.canCount bus 0).cause 103 (busEv bus 0x03)).transfersEnd bus .timeout).commError) := by
  rw [canBusOff, hon, hen, hoff]
  rfl

/-- The first seven bus-offs of a run are counted, and repeat nothing. -/
theorem canBusOff_seldom (h : (d.port bus).busOffRun < 7) :
    d.canBusOff bus =
      ((((d.modPort bus (fun p => { p with busOff := true, errPassive := false, busOffRun := p.busOffRun + 1, offRepeated := false })).canCount
        bus 0).cause 103 (busEv bus 0x03)).transfersEnd bus .timeout).commError := by
  have hfew : ¬ (d.port bus).busOffRun + 1 ≥ 8 := by omega
  have hmin : min ((d.port bus).busOffRun + 1) 8 = (d.port bus).busOffRun + 1 := by omega
  rw [canBusOff_told hon hen hoff]
  simp only [decide_eq_false hfew, Bool.false_and, if_neg hfew, hmin]
  exact congrArg (fun m : Dev => (((m.canCount bus 0).cause 103 (busEv bus 0x03)).transfersEnd bus .timeout).commError) (modPort_congr rfl)

/-- From the eighth on a free value tells whether eight of them fell within 60 s. -/
theorem canBusOff_often (h : 7 ≤ (d.port bus).busOffRun) :
    d.canBusOff bus =
      (let many := decide (d.draw.1 % 2 = 1)
       ((((d.draw.2.modPort bus (fun p =>
         { p with busOff := true, errPassive := false, busOffRun := if many then 0 else 8, offRepeated := many })).canCount bus 0).cause 103
           (busEv bus 0x03)).transfersEnd bus .timeout).commError) := by
  have hmany : (d.port bus).busOffRun + 1 ≥ 8 := by omega
  have hmin : min ((d.port bus).busOffRun + 1) 8 = 8 := by omega
  rw [canBusOff_told hon hen hoff]
  simp only [decide_eq_true hmany, Bool.true_and, if_pos hmany, hmin]

end

/-! The active bus (R383). -/

/-- A port without errors. -/
def portGood (p : CanPort) : Prop := p.enabled = true ∧ p.errPassive = false ∧ p.busOff = false

theorem portGood_iff (p : CanPort) : (p.enabled && !p.errPassive && !p.busOff) = true ↔ portGood p := by
  simp [portGood, and_assoc]

theorem activeBusSwitch_single (h : d.num K.CAN_REDUNDANCY ≠ 1) : d.activeBusSwitch = d := if_pos h

theorem activeBusSwitch_redundant (h : d.num K.CAN_REDUNDANCY = 1) :
    d.activeBusSwitch =
      if !d.node.activeB && (d.canA.errPassive || d.canA.busOff) && (d.canB.enabled && !d.canB.errPassive && !d.canB.busOff) then
        { d with node := { d.node with activeB := true } }.cause 103 0x14
      else if d.node.activeB && (d.canA.enabled && !d.canA.errPassive && !d.canA.busOff) then
        { d with node := { d.node with activeB := false } }.cause 103 0x14
      else d := if_neg (not_not_intro h)

/-! Emergencies (R391). -/

theorem emcyTransmit_sends (h : d.node.nmt = .preOperational ∨ d.node.nmt = .operational) :
    d.emcyTransmit =
      (let r := [Bus.a, Bus.b].foldl emcySend ([], d)
       if r.1.isEmpty then r.2 else r.2.answering (.frames r.1)) := if_pos h

end Dev

/-- Settles O39: NMT by `nmtEnter` and `nmtResetComm_addressed`, the other commands by their equations. -/
theorem nodeCommandsComplete : Obligations.NodeCommandsComplete := by
  unfold Obligations.NodeCommandsComplete
  refine ⟨fun s f node => ?_, fun s f node hw haddr => ?_, fun s => ?_, fun s f node i => ?_, fun s f node hw h => ?_, fun s i => ?_,
    fun s bus => ?_, fun s => ?_, fun s h => (exec_activeBusSwitch s).trans (next_dev (activeBusSwitch_single h)), fun s => ?_⟩
  · intro d hw haddr enter op pre stop
    obtain ⟨hstart, hstop, hpre⟩ := nmt_addressed haddr
    refine ⟨?_, ?_, ?_, ?_⟩
    · exact (exec_nmtStart ..).trans (next_dev ((onCan_of_not_wrong _ hw).trans (hstart.trans (nmtEnter_eq d .operational (by decide)))))
    · exact (exec_nmtEnterPreOperational ..).trans
        (next_dev ((onCan_of_not_wrong _ hw).trans (hpre.trans (nmtEnter_eq d .preOperational (by decide)))))
    · exact (exec_nmtStop ..).trans (next_dev ((onCan_of_not_wrong _ hw).trans (hstop.trans d.nmtEnter_stopped)))
    · obtain ⟨e, he⟩ : ∃ e, d.nmtResetComm f.bus node = e := ⟨_, rfl⟩
      obtain ⟨hid, hnmt, hrails, hops, hshown, hobj⟩ := nmtResetComm_rest haddr he
      exact ⟨s.withDev e, (exec_nmtResetCommunication ..).trans (next_dev ((onCan_of_not_wrong _ hw).trans he)), rfl, hid, hnmt, hrails, hops,
        fun i hi hlevel => ⟨congrArg Prod.fst (hshown i hi hlevel), congrArg Prod.snd (hshown i hi hlevel)⟩, hobj⟩
  · obtain ⟨hstart, hstop, hpre, hreset⟩ := nmt_unaddressed haddr
    simp only [List.forall_mem_cons]
    exact ⟨(exec_nmtStart ..).trans (next_dev ((onCan_of_not_wrong _ hw).trans hstart)),
      (exec_nmtStop ..).trans (next_dev ((onCan_of_not_wrong _ hw).trans hstop)),
      (exec_nmtEnterPreOperational ..).trans (next_dev ((onCan_of_not_wrong _ hw).trans hpre)),
      (exec_nmtResetCommunication ..).trans (next_dev ((onCan_of_not_wrong _ hw).trans hreset)), fun _ h => absurd h List.not_mem_nil⟩
  · intro d
    exact ⟨fun htime hnmt hports => (exec_heartbeatProduce s).trans (next_dev (heartbeatProduce_sends htime hnmt hports)),
      fun h => (exec_heartbeatProduce s).trans (next_dev (heartbeatProduce_silent h))⟩
  · intro d hw hh hi m
    exact (exec_heartbeatReceived ..).trans (next_dev ((onCan_of_not_wrong _ hw).trans (heartbeatReceived_entry hh hi)))
  · exact (exec_heartbeatReceived ..).trans (next_dev ((onCan_of_not_wrong _ hw).trans (heartbeatReceived_none h)))
  · intro d
    exact ⟨fun hh ht hl => (exec_heartbeatTimeout ..).trans (next_dev (heartbeatTimeout_missed hh ht hl)),
      fun h => (exec_heartbeatTimeout ..).trans (next_dev (heartbeatTimeout_not h))⟩
  · intro d ev
    have hev : ∀ c, busEv bus c = ev c := busEv_eq bus
    simp only [← hev]
    refine ⟨exec_idConflictResume s bus, fun hon hp hoff => (exec_canErrorActive ..).trans (next_dev (canErrorActive_ends hon hp hoff)),
      fun h => (exec_canErrorActive ..).trans (next_dev (canErrorActive_not h)),
      fun hon hoff => (exec_canBusoffRecovery ..).trans (next_dev (canRecovery_recovers hon hoff)),
      fun h => (exec_canBusoffRecovery ..).trans (next_dev (canRecovery_not h)), fun h => ?_,
      fun h => (exec_nodeIdConflict ..).trans (next_dev (nodeIdConflict_again h)),
      fun h => (exec_canErrorPassive ..).trans (next_dev (canErrorPassive_again h)),
      fun h => (exec_canBusOff ..).trans (next_dev (canBusOff_again h)), fun hon hen => ?_⟩
    · obtain ⟨hover, htx, hid, hpassive, hoff⟩ := port_unpowered h
      simp only [List.forall_mem_cons]
      exact ⟨(exec_canRxOverrun ..).trans (next_dev hover), (exec_canTxTimeout ..).trans (next_dev htx),
        (exec_nodeIdConflict ..).trans (next_dev hid), (exec_canErrorPassive ..).trans (next_dev hpassive),
        (exec_canBusOff ..).trans (next_dev hoff), fun _ h => absurd h List.not_mem_nil⟩
    · exact ⟨(exec_canRxOverrun ..).trans (next_dev (canRxOverrun_told hon hen)),
        fun h => (exec_canTxTimeout ..).trans (next_dev (canTxTimeout_empty hon hen h)),
        fun x rest h => (exec_canTxTimeout ..).trans (next_dev (canTxTimeout_emcy hon hen h)),
        fun h => (exec_nodeIdConflict ..).trans (next_dev (nodeIdConflict_told hon hen h)), fun hoff =>
        ⟨fun h => (exec_canErrorPassive ..).trans (next_dev (canErrorPassive_told hon hen hoff h)),
          fun h => (exec_canBusOff ..).trans (next_dev (canBusOff_seldom hon hen hoff h)),
          fun h => (exec_canBusOff ..).trans (next_dev (canBusOff_often hon hen hoff h))⟩⟩
  · intro d good toB toA hred
    have hswitch := (exec_activeBusSwitch s).trans (next_dev (activeBusSwitch_redundant hred))
    have hb : (!d.node.activeB && (d.canA.errPassive || d.canA.busOff) && (d.canB.enabled && !d.canB.errPassive && !d.canB.busOff)) = true ↔
        (d.node.activeB = false ∧ (d.canA.errPassive = true ∨ d.canA.busOff = true)) ∧ good d.canB := by
      rw [Bool.and_eq_true, Bool.and_eq_true, Bool.or_eq_true, Bool.not_eq_true', portGood_iff]
      rfl
    have ha : (d.node.activeB && (d.canA.enabled && !d.canA.errPassive && !d.canA.busOff)) = true ↔
        d.node.activeB = true ∧ good d.canA := by
      rw [Bool.and_eq_true, portGood_iff]
      rfl
    refine ⟨fun hact herr hgood => hswitch.trans (next_dev (if_pos (hb.mpr ⟨⟨hact, herr⟩, hgood⟩))),
      fun hact hgood => hswitch.trans (next_dev ((if_neg ?_).trans (if_pos (ha.mpr ⟨hact, hgood⟩)))),
      fun h => hswitch.trans (next_dev ((if_neg ?_).trans (if_neg ?_)))⟩
    · intro hc
      obtain ⟨⟨hact', -⟩, -⟩ := hb.mp hc
      exact Bool.false_ne_true (hact'.symm.trans hact)
    · intro hc
      obtain ⟨⟨hact, herr⟩, hgood⟩ := hb.mp hc
      rcases h with ⟨-, hno | hno⟩ | ⟨hact', -⟩
      · exact hno herr
      · exact hno hgood
      · exact Bool.false_ne_true (hact.symm.trans hact')
    · intro hc
      obtain ⟨hact, hgood⟩ := ha.mp hc
      rcases h with ⟨hact', -⟩ | ⟨-, hno⟩
      · exact Bool.false_ne_true (hact'.symm.trans hact)
      · exact hno hgood
  · intro d r h
    have hsend := (exec_emcyTransmit s).trans (next_dev (emcyTransmit_sends h))
    exact ⟨fun hr => hsend.trans (next_dev (if_pos (List.isEmpty_iff.mpr hr))),
      fun hr => hsend.trans (next_dev (if_neg (mt List.isEmpty_iff.mp hr)))⟩

end Sys2Proof.Machine
end

section
/-! PROOFS. The statement of 15_storage_and_supervisor_firmware.md on the ends of stores, restores and firmware operations (R436–R448). -/

namespace Sys2Proof.Machine

open Dev

namespace Dev

variable {d : Dev}

/-! The ends of a store (R436, R437, R439). -/

theorem storeDone_large (v : Bool) (hrun : d.store.run = .store ∨ d.store.run = .factory) (hs : d.supRuns = true)
    (hlen : (entriesBytes d.store.snap.entries).length > 65472) : d.storeDone v = d.storeFail .capacity false :=
  (if_pos ⟨hrun, hs⟩).trans (if_pos hlen)

theorem storeDone_fits (v : Bool) (hrun : d.store.run = .store ∨ d.store.run = .factory) (hs : d.supRuns = true)
    (hlen : (entriesBytes d.store.snap.entries).length ≤ 65472) : d.storeDone v = if v then d.storeFlip else d.storeFail .nvm true :=
  (if_pos ⟨hrun, hs⟩).trans (if_neg (Nat.not_lt.mpr hlen))

/-! Firmware (R445, R448). -/

/-- An erase that ends, verified or not. -/
def fwErased (d : Dev) (slot : Fin 2) (ok : Bool) : Dev :=
  let m := (d.draw.2.modSlot slot (fun _ => ⟨if ok then 1 else 5, [], false⟩)).endOp K.FW_ERASE (if ok then .none else .nvm)
  let idle : Dev := { m with fw := { m.fw with run := .none } }
  if ok then idle.causeOsn 127 0x01 (d.runningOsn K.FW_ERASE)
  else (idle.fwResult 8).causeArg 127 0x04 (d.runningOsn K.FW_ERASE) (leBytes 1 8)

/-- Whether an erase verified is the parity of a free value. -/
theorem fwEraseDone_erases {slot : Fin 2} (h : d.fw.run = .erase slot) :
    d.fwEraseDone = if (Config.freeValue d.free).toNat % 2 = 0 then d.fwErased slot true else d.fwErased slot false := by
  have hdone : d.fwEraseDone = d.fwErased slot (decide (d.draw.1 % 2 = 0)) := by
    rw [fwEraseDone, h]
    rfl
  have hparity : d.draw.1 % 2 = 0 ↔ (Config.freeValue d.free).toNat % 2 = 0 := by
    simp only [draw]
    omega
  rw [hdone, decide_eq_decide.mpr hparity]
  split
  · next hok => rw [decide_eq_true hok]
  · next hok => rw [decide_eq_false hok]

theorem fwVerifyDone_verifies {slot : Fin 2} (h : d.fw.run = .verify slot) :
    d.fwVerifyDone =
      (let r := fwCheck (d.slot slot)
       let upper := ((d.modSlot slot (fun g => { g with st := if r = 0 then 2 else 5 })).endOp K.FW_VERIFY .none).fwResult r
       let idle : Dev := { upper with fw := { upper.fw with run := .none } }
       if r = 0 then idle.causeOsn 127 0x03 (d.runningOsn K.FW_VERIFY)
       else idle.causeArg 127 0x04 (d.runningOsn K.FW_VERIFY) (leBytes 1 r)) := by
  unfold fwVerifyDone
  rw [h]

theorem fwAutoConfirm_confirms (hflag : d.flag K.FW_AUTO_CONFIRM = true) (hst : (d.slot d.runSlot).st = 3) (hs : d.supRuns = true) :
    d.fwAutoConfirm = d.fwConfirm 0 := by simp [fwAutoConfirm, hflag, hst, hs]

end Dev

/-- Settles O33: each command by its equation, under the run that it ends. -/
theorem storageCommandsComplete : Obligations.StorageCommandsComplete := by
  unfold Obligations.StorageCommandsComplete
  intro s d
  refine ⟨fun hrun hs => ⟨fun hlen v => ?_, fun hlen => ⟨?_, ?_⟩⟩, fun hrun hs => ?_, fun slot hrun => ?_, fun slot hrun => ?_,
    fun hflag hst hs => ?_⟩
  · exact (exec_storeDone s v).trans (next_dev (storeDone_large v hrun hs hlen))
  · exact (exec_storeDone s true).trans (next_dev (storeDone_fits true hrun hs hlen))
  · exact (exec_storeDone s false).trans (next_dev (storeDone_fits false hrun hs hlen))
  · exact (exec_restoreDone s).trans (next_dev (if_pos ⟨hrun, hs⟩))
  · exact (exec_fwEraseDone s).trans (next_dev (fwEraseDone_erases hrun))
  · have hdone := (exec_fwVerifyDone s).trans (next_dev (fwVerifyDone_verifies hrun))
    exact ⟨fun hr => hdone.trans (next_dev (if_pos hr)), fun hr => hdone.trans (next_dev (if_neg hr))⟩
  · exact (exec_fwAutoConfirm s).trans (next_dev (fwAutoConfirm_confirms hflag hst hs))

end Sys2Proof.Machine
end

section
/-! PROOFS. The refutation of the statement of 14_event_recorder.md on the commands of the log (R400, R415, R418). -/

namespace Sys2Proof.Machine

open Dev

/-- A readable record of the main region. -/
def soundRecord : LogRec := { esn := 1 }

/-- A device that serves CANA, on whose bus another node uses the node-ID, with one record in its log. -/
def conflictedReader : State :=
  { dev := { State.reset.dev with
      boot := .complete, node := { nmt := .preOperational, id := 1 }, canA := { enabled := true, idConflict := true }
      log := { State.reset.dev.log with recs := [soundRecord] } },
    pending := [] }

/-- Whether a command leaves no answer. -/
def leavesNoAnswer (c : Instr) (s : State) : Bool :=
  match exec c s with | .next t => decide (t.dev.answer = .none) | _ => false

/-- The read of the record at the cursor of CANA is an operation there, but the port may not transmit its answer. -/
theorem conflictedReader_reads :
    conflictedReader.dev.heard.gateOf .canA = .open_ ∧
      conflictedReader.dev.heard.log.recs[conflictedReader.dev.heard.nat (K.LOG_CURSOR 2)]? = some soundRecord ∧
      conflictedReader.dev.heard.log.badMain.contains soundRecord.block = false ∧
      leavesNoAnswer (.logWindowRead .canA true) conflictedReader = true := by decide +kernel

/-- Refutes O26: a LOG_WINDOW_READ at a CAN port whose node-ID another node uses is an operation (its gate is open), yet R400 keeps the
port from transmitting, so the unreadable record is not answered. -/
theorem not_logCommandsComplete : ¬ Obligations.LogCommandsComplete := by
  unfold Obligations.LogCommandsComplete
  rintro ⟨-, -, hread⟩
  obtain ⟨hgate, hrec, hgood, hsilent⟩ := conflictedReader_reads
  obtain ⟨t, hexec, hanswer, -⟩ := hread conflictedReader .canA soundRecord rfl hgate hrec rfl rfl hgood
  rw [leavesNoAnswer, hexec, decide_eq_true_eq, hanswer] at hsilent
  cases hsilent

end Sys2Proof.Machine
end

section
/-! PROOFS. The statement of 12_two_wire_ports.md on the bus events of the targets and the bulk transfers (R338–R362). -/

namespace Sys2Proof.Machine

open Dev

namespace Dev

variable {d : Dev} {t : TwPort} {bs : List Byte}

/-! Bus events of the targets (R338, R339, R344, R354). -/

theorem quickCommand_live (h : d.twLive t = true) : d.quickCommand t = d.answering .ack := if_pos h

theorem quickCommand_dead (h : d.twLive t = false) : d.quickCommand t = d.answering .nack := if_neg (Bool.eq_false_iff.mp h)

theorem targetTimeout_live (h : d.twLive t = true) :
    d.targetTimeout t = (d.modTw t (fun x => { x with cml := Machine.putBit x.cml 1 true })).twEvent t 3 0 := if_pos h

theorem targetTimeout_dead (h : d.twLive t = false) : d.targetTimeout t = d := if_neg (Bool.eq_false_iff.mp h)

theorem unexpectedStart_live (h : d.twLive t = true) :
    d.unexpectedStart t = (d.modTw t (fun x => { x with cml := Machine.putBit x.cml 1 true })).twEvent t 2 0 := if_pos h

theorem unexpectedStart_dead (h : d.twLive t = false) : d.unexpectedStart t = d := if_neg (Bool.eq_false_iff.mp h)

theorem alertResponse_dead {won pec : Bool} (h : d.twLive .pmb = false) : d.alertResponse won pec = d := by
  rw [alertResponse, h]; rfl

theorem alertResponse_rest {won pec : Bool} (h : d.twLive .pmb = true) (ha : d.alert = false) :
    d.alertResponse won pec = d.answering .nack := by
  rw [alertResponse, h, ha]; rfl

theorem alertResponse_lost {pec : Bool} (h : d.twLive .pmb = true) (ha : d.alert = true) : d.alertResponse false pec = d := by
  rw [alertResponse, h, ha]; rfl

/-- The answer to an alert response that wins: twice the address, and its PEC where one is clocked. -/
theorem alertResponse_won {pec : Bool} (h : d.twLive .pmb = true) (ha : d.alert = true) :
    d.alertResponse true pec =
      (Dev.cause { d with alert := false } 98 0x11).answering (.data
        (let a : Byte := BitVec.ofNat 8 (2 * d.nat K.PMB_ADDR)
         if pec then [a, BitVec.ofNat 8 (pecOf [0x19, a])] else [a])) := by
  rw [alertResponse, h, ha]
  simp only [leBytes_one_nat]
  rfl

/-! When a bulk transfer is taken (R362). -/

theorem bulkOpen_dead (f : Dev → Dev) (h : d.bulkLive t = false) : d.bulkOpen t f = d.answering .nack := by
  rw [bulkOpen, h]; rfl

theorem bulkOpen_absent (f : Dev → Dev) (h : d.bulkLive t = true) (ho : d.opsOpen = false) :
    d.bulkOpen t f = (d.twEvent t 4 0).answering .nack := by
  rw [bulkOpen, h, ho]; rfl

theorem bulkOpen_full (f : Dev → Dev) (h : d.bulkLive t = true) (ho : d.opsOpen = true) (he : d.hasEntry t.src = false) :
    d.bulkOpen t f = ((d.bump K.OP_OVERLOAD_COUNT 32).twEvent t 4 0).answering .nack := by
  rw [bulkOpen, h, ho, he]; rfl

theorem bulkOpen_taken (f : Dev → Dev) (h : d.bulkLive t = true) (ho : d.opsOpen = true) (he : d.hasEntry t.src = true) :
    d.bulkOpen t f = f d := by
  rw [bulkOpen, h, ho, he]; rfl

/-! What a bulk transfer does that is taken (R358, R360, R361). -/

theorem bulkWriteAt_taken {ptr : Nat} (h : d.bulkLive t = true) (ho : d.opsOpen = true) (he : d.hasEntry t.src = true)
    (hb : d.bulkBlocked t = false) :
    d.bulkWriteAt t ptr bs =
      (let m := d.bulkPoint t ptr
       if bs = [] then m.answering .ack
       else if d.bulkForbids t then (m.twEvent t 6 0).answering .nack
       else (if d.bulkWindow t = 0xFF00 then m.bulkStage t ptr bs else m.bulkCoef t (d.bulkWindow t - 0x200) ptr bs).answering .ack) :=
  (bulkOpen_taken _ h ho he).trans (if_neg (Bool.eq_false_iff.mp hb))

theorem bulkReadOp_blocked {n : Nat} (hb : d.bulkBlocked t = true) : d.bulkReadOp t n = (d.twEvent t 6 0).answering .nack := if_pos hb

theorem bulkReadOp_allowed {n : Nat} (hb : d.bulkBlocked t = false)
    (hr : d.bulkWindow t = 0xFF00 → d.readRule t.src (d.bulkNamed t) = .none) :
    d.bulkReadOp t n =
      (let w := d.windowBytes t ((List.range n).map (fun i => ((d.tw t).ptr + i) % 65536))
       ((w.2.2.enter t.src w.1 .done .none).bulkPoint t ((d.tw t).ptr + n)).answering
         (.data ((List.range n).map (fun i => w.2.1.getD (((d.tw t).ptr + i) % 65536) 0)))) := by
  have hnone : ¬ (d.bulkWindow t = 0xFF00 ∧ d.readRule t.src (d.bulkNamed t) ≠ .none) := fun ⟨hw, hne⟩ => hne (hr hw)
  rw [bulkReadOp, if_neg (Bool.eq_false_iff.mp hb), if_neg hnone]
  simp only [List.map_map, Function.comp_def]

/-! BULK_ACCESS (R345, R358). -/

theorem bulkAccess_write_open {ptr n : Nat} (h : protects (d.nat K.PMB_WRITE_PROTECT) 0xE0 = false) :
    d.bulkAccess true ptr bs n = d.bulkWriteAt .svc ptr bs := by
  rw [bulkAccess, h, Bool.and_false]; rfl

theorem bulkAccess_write_protected {ptr n : Nat} (hl : d.twLive .svc = true) (ho : d.opsOpen = true) (he : d.hasEntry .svc = true)
    (h : protects (d.nat K.PMB_WRITE_PROTECT) 0xE0 = true) :
    d.bulkAccess true ptr bs n = d.pmbBad .svc 6 6 .nack := by
  rw [bulkAccess, hl, ho, he, h]; rfl

theorem bulkAccess_read {ptr n : Nat} (h : d.bulkLive .svc = true) (ho : d.opsOpen = true) (he : d.hasEntry .svc = true)
    (hb : d.bulkBlocked .svc = false) : d.bulkAccess false ptr bs n = (d.bulkPoint .svc ptr).bulkReadOp .svc n := by
  rw [bulkAccess, if_neg Bool.false_ne_true, bulkOpen_taken _ h ho he, if_neg (Bool.eq_false_iff.mp hb)]

/-- Every bulk transfer is opened at its port, and does not acknowledge where its window is blocked (R362). -/
def OpensBulk (t : TwPort) (g : Dev → Dev) : Prop :=
  ∃ f : Dev → Dev, (∀ d : Dev, d.bulkBlocked t = true → f d = (d.twEvent t 6 0).answering .nack) ∧ ∀ d, g d = d.bulkOpen t f

theorem opensBulk_write (t : TwPort) (ptr : Nat) (bs : List Byte) : OpensBulk t (fun d => d.bulkWriteAt t ptr bs) :=
  ⟨_, fun _ hb => if_pos hb, fun _ => rfl⟩

theorem opensBulk_read (n : Nat) : OpensBulk .pmb (fun d => d.bulkRead n) :=
  ⟨_, fun _ => bulkReadOp_blocked, fun _ => rfl⟩

theorem opensBulk_access_read (ptr : Nat) (bs : List Byte) (n : Nat) : OpensBulk .svc (fun d => d.bulkAccess false ptr bs n) :=
  ⟨_, fun _ hb => if_pos hb, fun _ => rfl⟩

/-! UNSUPPORTED_COMMAND (R345). -/

theorem unsupportedCommand_taken {code : Nat} (h : cmdOk code (d.pageOf t) = true ∨ t = .svc ∧ code = 0xE0) :
    d.unsupportedCommand t code = d := by
  refine if_pos ?_
  rcases h with h | ⟨rfl, rfl⟩
  · rw [h, Bool.true_or]
  · exact Bool.or_true _

theorem unsupportedCommand_away {code : Nat} (hgate : d.gateOf t.src = .open_) (hcmd : cmdOk code (d.pageOf t) = false)
    (hbulk : ¬ (t = .svc ∧ code = 0xE0)) : d.unsupportedCommand t code = d.pmbBad t 7 5 .nack := by
  have hno : (cmdOk code (d.pageOf t) || decide (t = .svc) && decide (code = 0xE0)) ≠ true := by
    simpa [hcmd] using hbulk
  exact (if_neg hno).trans (if_pos hgate)

end Dev

/-- A bulk transfer is a bulk write of its port, or a bulk read, where the ECC errors and the protection do not turn it away. -/
theorem exec_bulk {s : State} {t : TwPort} {ptr : BitVec 16} {bs : List Byte} {n : BulkGet} {c : Instr} (hflaws : n.flaws = [])
    (hprot : t = .svc → protects (s.dev.heard.nat K.PMB_WRITE_PROTECT) 0xE0 = false)
    (hc : (t = .pmb ∧ c ∈ [Instr.bulkWrite ptr bs, .bulkRead n]) ∨
      (t = .svc ∧ c ∈ [Instr.bulkAccess true ptr bs n, .bulkAccess false ptr bs n])) :
    ∃ g, OpensBulk t g ∧ exec c s = .next (s.withDev (g s.dev.heard)) := by
  simp only [List.mem_cons, List.not_mem_nil, or_false] at hc
  rcases hc with ⟨rfl, rfl | rfl⟩ | ⟨rfl, rfl | rfl⟩
  · exact ⟨_, opensBulk_write .pmb ptr.toNat bs, exec_bulkWrite ..⟩
  · exact ⟨_, opensBulk_read n.bytes, (exec_bulkRead ..).trans (next_dev (meeting_of_nil _ hflaws))⟩
  · exact ⟨_, opensBulk_write .svc ptr.toNat bs,
      (exec_bulkAccess ..).trans (next_dev ((meeting_of_nil _ hflaws).trans (bulkAccess_write_open (hprot rfl))))⟩
  · exact ⟨_, opensBulk_access_read ptr.toNat bs n.bytes, (exec_bulkAccess ..).trans (next_dev (meeting_of_nil _ hflaws))⟩

/-- A bulk write that its protection does not block, at either port. -/
theorem exec_bulkWriteAt {s : State} {t : TwPort} {ptr : BitVec 16} {bs : List Byte} {n : BulkGet} {c : Instr} (hflaws : n.flaws = [])
    (hprot : t = .svc → protects (s.dev.heard.nat K.PMB_WRITE_PROTECT) 0xE0 = false)
    (hc : (t = .pmb ∧ c = .bulkWrite ptr bs) ∨ (t = .svc ∧ c = .bulkAccess true ptr bs n)) :
    exec c s = .next (s.withDev (s.dev.heard.bulkWriteAt t ptr.toNat bs)) := by
  rcases hc with ⟨rfl, rfl⟩ | ⟨rfl, rfl⟩
  · exact exec_bulkWrite ..
  · exact (exec_bulkAccess ..).trans (next_dev ((meeting_of_nil _ hflaws).trans (bulkAccess_write_open (hprot rfl))))

/-- The pointer of a bulk write has 16 bits, so it is taken as it is. -/
theorem Dev.bulkPoint_ptr (d : Dev) (t : TwPort) (ptr : BitVec 16) :
    d.bulkPoint t ptr.toNat = d.modTw t (fun x => { x with ptr := ptr.toNat }) := by
  rw [bulkPoint, Nat.mod_eq_of_lt ptr.isLt]

/-- Settles O36: per bus event its cases; every bulk transfer is opened by the same gate (`OpensBulk`), and what it does behind the
gate is said once for a write and once for a read. -/
theorem targetsAndBulkComplete : Obligations.TargetsAndBulkComplete := by
  unfold Obligations.TargetsAndBulkComplete
  refine ⟨?_, ?_, ?_, ?_, ?_, ?_, ?_, ?_⟩
  · intro s t d hlive
    exact ⟨(exec_quickCommand ..).trans (next_dev (quickCommand_live hlive)),
      (exec_targetTimeout ..).trans (next_dev (targetTimeout_live hlive)),
      (exec_unexpectedStart ..).trans (next_dev (unexpectedStart_live hlive))⟩
  · intro s t d hdead
    refine ⟨(exec_quickCommand ..).trans (next_dev (quickCommand_dead hdead)),
      (exec_targetTimeout ..).trans (next_dev (targetTimeout_dead hdead)),
      (exec_unexpectedStart ..).trans (next_dev (unexpectedStart_dead hdead)), fun ht read => ?_⟩
    subst ht
    exact (exec_alertResponse ..).trans (next_dev (alertResponse_dead hdead))
  · intro s d hlive
    refine ⟨fun halert => ?_, fun hrest read => (exec_alertResponse ..).trans (next_dev (alertResponse_rest hlive hrest))⟩
    exact ⟨(exec_alertResponse ..).trans (next_dev (alertResponse_won hlive halert)),
      (exec_alertResponse ..).trans (next_dev (alertResponse_won hlive halert)),
      fun pec => (exec_alertResponse ..).trans (next_dev (alertResponse_lost hlive halert))⟩
  · intro s t ptr bs n c d hflaws hprot hc
    obtain ⟨g, ⟨f, hblocked, hopen⟩, hexec⟩ := exec_bulk hflaws hprot hc
    have done : ∀ {m : Dev}, d.bulkOpen t f = m → exec c s = .next (s.withDev m) :=
      fun h => hexec.trans (next_dev ((hopen d).trans h))
    exact ⟨fun hl => done (bulkOpen_dead f hl), fun hl ho => done (bulkOpen_absent f hl ho),
      fun hl ho he => done (bulkOpen_full f hl ho he), fun hl ho he hb => done ((bulkOpen_taken f hl ho he).trans (hblocked d hb))⟩
  · intro s t ptr bs n c d hflaws hprot hc hl ho he hb m
    have hwrite := (exec_bulkWriteAt hflaws hprot hc).trans (next_dev (bulkWriteAt_taken hl ho he hb))
    rw [bulkPoint_ptr] at hwrite
    refine ⟨fun hnil => hwrite.trans (next_dev (if_pos hnil)),
      fun hne hforbids => hwrite.trans (next_dev ((if_neg hne).trans (if_pos hforbids))),
      fun hne hallows => hwrite.trans (next_dev ((if_neg hne).trans (if_neg (Bool.eq_false_iff.mp hallows))))⟩
  · intro s ptr bs n d hl ho he hprot
    exact (exec_bulkAccess ..).trans (next_dev ((meeting_of_nil _ rfl).trans (bulkAccess_write_protected hl ho he hprot)))
  · intro s t at_ n c d get hc hl ho he hb hrule m w hmblocked hmrule
    rcases hc with ⟨rfl, rfl, rfl⟩ | ⟨word, bs, rfl, rfl, rfl⟩
    · exact (exec_bulkRead ..).trans (next_dev ((meeting_of_nil _ rfl).trans ((bulkOpen_taken _ hl ho he).trans
        (bulkReadOp_allowed hmblocked hmrule))))
    · exact (exec_bulkAccess ..).trans (next_dev ((meeting_of_nil _ rfl).trans ((bulkAccess_read hl ho he hb).trans
        (bulkReadOp_allowed hmblocked hmrule))))
  · intro s t code d
    have hcode : code = 0xE0 ↔ code.toNat = 0xE0 := ⟨fun h => h ▸ rfl, fun h => BitVec.eq_of_toNat_eq h⟩
    rw [hcode]
    exact ⟨fun hgate hcmd hbulk => (exec_unsupportedCommand ..).trans (next_dev (unsupportedCommand_away hgate hcmd hbulk)),
      fun htaken => (exec_unsupportedCommand ..).trans (next_dev (unsupportedCommand_taken htaken))⟩

end Sys2Proof.Machine
end

section
/-! PROOFS. The statement of 12_two_wire_ports.md on the outcomes of the controllers (R340–R342, R355, R356, R363–R365). -/

namespace Sys2Proof.Machine

open Dev

namespace Dev

variable {d : Dev} {lb : Bool}

/-! The controllers and what leaves them as they are. -/

theorem modCtrl_congr {f g : TwCtrl → TwCtrl} (h : f (d.ctrl lb) = g (d.ctrl lb)) : d.modCtrl lb f = d.modCtrl lb g := by
  cases lb
  · exact congrArg (fun c : TwCtrl => { d with pmbCtrl := c }) h
  · exact congrArg (fun c : TwCtrl => { d with lbCtrl := c }) h

theorem ctrlEvent_pmbCtrl (d : Dev) (bus : Bool) (code : Nat) : (d.ctrlEvent bus code).pmbCtrl = d.pmbCtrl := by
  unfold ctrlEvent; dsimp only; split <;> simp

theorem ctrlEvent_lbCtrl (d : Dev) (bus : Bool) (code : Nat) : (d.ctrlEvent bus code).lbCtrl = d.lbCtrl := by
  unfold ctrlEvent; dsimp only; split <;> simp

@[simp] theorem ctrlEvent_ctrl (d : Dev) (bus lb : Bool) (code : Nat) : (d.ctrlEvent bus code).ctrl lb = d.ctrl lb := by
  cases lb
  · exact ctrlEvent_pmbCtrl ..
  · exact ctrlEvent_lbCtrl ..

@[simp] theorem lbDrop_nat (d : Dev) (j : LbJob) (k : Nat) : (d.lbDrop j).nat k = d.nat k := rfl

@[simp] theorem lbAsk_nat (d : Dev) (j : LbJob) (k : Nat) : (d.lbAsk j).nat k = d.nat k := by
  unfold lbAsk; split <;> rfl

/-! The end of a transfer (R355, R369). -/

/-- A transfer on the bus that fails. -/
theorem xferFail_busy (h : (d.ctrl lb).busy = true) (code : Nat) :
    d.xferFail lb code = d.modCtrl lb (fun c =>
      { c with busy := false, started := false, deferred := false, result := [3, BitVec.ofNat 8 code, 0, 0] }) := by
  refine modCtrl_congr ((if_pos h).trans ?_)
  rw [leBytes_one_nat, leBytes_one_nat]
  rfl

theorem xferComplete_idle {status : Nat} {bs : List Byte} (h : (d.ctrl lb).started = false) : d.xferComplete lb status bs = d := by
  rw [xferComplete, h]; rfl

theorem xferComplete_done {bs : List Byte} (h : (d.ctrl lb).started = true) :
    d.xferComplete lb 0 bs =
      (let got := bs.take ((d.ctrl lb).desc.getD 3 0).toNat
       d.modCtrl lb (fun c =>
        { c with busy := false, started := false, deferred := false, result := [2, 0, BitVec.ofNat 8 got.length, 0] ++ got })) := by
  rw [xferComplete, h]
  simp only [leBytes_one_nat]
  rfl

/-- A transfer that does not succeed is retried on LB within its count, and has failed otherwise. -/
theorem xferComplete_error {status : Nat} {bs : List Byte} (h : (d.ctrl lb).started = true) (hne : status ≠ 0) :
    d.xferComplete lb status bs =
      (let told := if status = 6 then d.ctrlEvent lb 1 else d
       if lb && decide (((d.ctrl lb).retries : Int) < d.num K.LB_RETRY_COUNT) then told.modCtrl lb (fun c => { c with retries := c.retries + 1 })
       else told.xferFail lb status) := by
  rw [xferComplete, h, Bool.not_true, if_neg Bool.false_ne_true, if_neg hne]

theorem xferComplete_failed {status : Nat} {bs : List Byte} (h : (d.ctrl lb).started = true) (hbusy : (d.ctrl lb).busy = true)
    (hne : status ≠ 0) (hlast : lb = false ∨ d.num K.LB_RETRY_COUNT ≤ (d.ctrl lb).retries) :
    d.xferComplete lb status bs = (if status = 6 then d.ctrlEvent lb 1 else d).modCtrl lb (fun c =>
      { c with busy := false, started := false, deferred := false, result := [3, BitVec.ofNat 8 status, 0, 0] }) := by
  have hno : (lb && decide (((d.ctrl lb).retries : Int) < d.num K.LB_RETRY_COUNT)) ≠ true := by
    rcases hlast with rfl | hlast
    · exact Bool.false_ne_true
    · simp [hlast]
  have hkeeps : ((if status = 6 then d.ctrlEvent lb 1 else d).ctrl lb).busy = true := by
    split <;> simp [hbusy]
  exact (xferComplete_error h hne).trans ((if_neg hno).trans (xferFail_busy hkeeps status))

theorem xferComplete_retried {status : Nat} {bs : List Byte} (h : (d.ctrl true).started = true) (hne : status ≠ 0)
    (hmore : (d.ctrl true).retries < d.num K.LB_RETRY_COUNT) :
    d.xferComplete true status bs =
      (if status = 6 then d.ctrlEvent true 1 else d).modCtrl true (fun c => { c with retries := c.retries + 1 }) :=
  (xferComplete_error h hne).trans (if_pos (decide_eq_true hmore))

/-! Bus errors, timeouts and lost arbitration (R340, R341, R356). -/

theorem busError_started (h : (d.ctrl lb).started = true) : d.busError lb = (d.xferFail lb 4).ctrlEvent lb 8 := if_pos h

theorem controllerTimeout_started (h : (d.ctrl lb).started = true) : d.controllerTimeout lb = (d.xferFail lb 5).ctrlEvent lb 0x0C := if_pos h

theorem arbitrationLost_lb (own : Bool) : d.arbitrationLost true own = d.busError true := rfl

theorem arbitrationLost_own (h : (d.ctrl false).started = true) :
    d.arbitrationLost false true = d.modCtrl false (fun c => { c with deferred := true }) := by
  rw [arbitrationLost, h]; rfl

theorem arbitrationLost_other (h : (d.ctrl false).started = true) :
    d.arbitrationLost false false =
      if ((d.ctrl false).retries : Int) < d.num K.PMB_RETRY_COUNT then
        (d.ctrlEvent false 7).modCtrl false (fun c => { c with retries := c.retries + 1, deferred := false })
      else (d.ctrlEvent false 7).xferFail false 3 := by
  rw [arbitrationLost, h]; rfl

theorem not_lbOpen (h : lb = false ∨ d.lbLive = false ∨ d.supRuns = false) : (lb && d.lbLive && d.supRuns) ≠ true := by
  rcases h with h | h | h <;> simp [h]

theorem busError_idle (h : (d.ctrl lb).started = false) (hno : lb = false ∨ d.lbLive = false ∨ d.supRuns = false) : d.busError lb = d :=
  (if_neg (Bool.eq_false_iff.mp h)).trans (if_neg (not_lbOpen hno))

theorem controllerTimeout_idle (h : (d.ctrl lb).started = false) (hno : lb = false ∨ d.lbLive = false ∨ d.supRuns = false) :
    d.controllerTimeout lb = d :=
  (if_neg (Bool.eq_false_iff.mp h)).trans (if_neg (not_lbOpen hno))

theorem arbitrationLost_idle {own : Bool} (h : (d.ctrl lb).started = false)
    (hno : lb = false ∨ d.lbLive = false ∨ d.supRuns = false) : d.arbitrationLost lb own = d := by
  cases lb
  · rw [arbitrationLost, h]; rfl
  · exact busError_idle h hno

/-! An error of the transfer whose turn it is on LB (R363, R364). -/

theorem lbOpen (hl : d.lbLive = true) (hs : d.supRuns = true) : (true && d.lbLive && d.supRuns) = true := by rw [hl, hs]; rfl

theorem busError_job (h : (d.ctrl true).started = false) (hl : d.lbLive = true) (hs : d.supRuns = true) :
    d.busError true = d.jobError 8 false :=
  (if_neg (Bool.eq_false_iff.mp h)).trans (if_pos (lbOpen hl hs))

theorem controllerTimeout_job (h : (d.ctrl true).started = false) (hl : d.lbLive = true) (hs : d.supRuns = true) :
    d.controllerTimeout true = d.jobError 0x0C true :=
  (if_neg (Bool.eq_false_iff.mp h)).trans (if_pos (lbOpen hl hs))

theorem jobError_none {code : Nat} {over_ : Bool} (hj : d.lbNext = none) : d.jobError code over_ = d.ctrlEvent true code := by
  rw [jobError, hj]

theorem jobError_retried {code : Nat} {j : LbJob} (hj : d.lbNext = some j) (hmore : d.lbCtrl.tries < d.num K.LB_RETRY_COUNT) :
    d.jobError code false = (d.ctrlEvent true code).modCtrl true (fun c => { c with tries := c.tries + 1 }) := by
  have hno : (false || decide ((d.lbCtrl.tries : Int) ≥ d.num K.LB_RETRY_COUNT)) ≠ true := by
    simpa using hmore
  rw [jobError, hj]
  exact if_neg hno

theorem jobError_failed {code : Nat} {over_ : Bool} {j : LbJob} (hj : d.lbNext = some j)
    (hlast : over_ = true ∨ d.num K.LB_RETRY_COUNT ≤ d.lbCtrl.tries) : d.jobError code over_ = (d.ctrlEvent true code).lbFail j := by
  have hover : (over_ || decide ((d.lbCtrl.tries : Int) ≥ d.num K.LB_RETRY_COUNT)) = true := by
    simpa using hlast
  rw [jobError, hj]
  exact if_pos hover

/-! BUS_RECOVERY (R342). -/

theorem busRecovery_off {freed low : Bool} (h : d.ctrlOn lb = false) : d.busRecovery lb freed low = d := by
  rw [busRecovery, h]; rfl

theorem busRecovery_freed (h : d.ctrlOn lb = true) : d.busRecovery lb true false =
    (d.modCtrl lb (fun c => { c with busStuck := false, sclStuck := false })).ctrlEvent lb 0x0B := by
  rw [busRecovery, h]; rfl

theorem busRecovery_stuck (h : d.ctrlOn lb = true) : d.busRecovery lb false false =
    (((d.modCtrl lb (fun c => { c with busStuck := true, sclStuck := false })).lbStuck lb).xferFail lb 7).ctrlEvent lb 9 := by
  rw [busRecovery, h]; rfl

theorem busRecovery_low {freed : Bool} (h : d.ctrlOn lb = true) : d.busRecovery lb freed true =
    (((d.modCtrl lb (fun c => { c with sclStuck := true })).lbStuck lb).xferFail lb 7).ctrlEvent lb 0x0A := by
  rw [busRecovery, h]; rfl

/-! STAGE_STATUS_READ (R228, R346, R363). -/

variable {p : Nat} {a : StageAnswer}

theorem stagePecBad_iff : d.stagePecBad p a = true ↔
    ∃ x, a.word = some x ∧ bitAt (d.effNum K.LB_CONFIG) 1 = true ∧ a.pec.toNat ≠ pecOf (d.stageAsk p ++ leBytes 2 x.toNat) := by
  unfold stagePecBad
  cases a.word <;> simp

/-- The device whose read of a stage has been sent; a wrong PEC has been told. -/
def stageSent (d : Dev) (p : Nat) (a : StageAnswer) : Dev :=
  let m := d.modCtrl true (fun c => { c with sent := d.stageAsk p })
  if d.stagePecBad p a then m.ctrlEvent true 1 else m

/-- The word that a stage's read gives: none where its PEC is wrong. -/
def stageWord (d : Dev) (p : Nat) (a : StageAnswer) : Option (BitVec 16) := if d.stagePecBad p a then none else a.word

theorem stageSent_wrong (h : d.stagePecBad p a = true) :
    d.stageSent p a = (d.modCtrl true (fun c => { c with sent := d.stageAsk p })).ctrlEvent true 1 := if_pos h

theorem stageSent_right (h : d.stagePecBad p a ≠ true) :
    d.stageSent p a = d.modCtrl true (fun c => { c with sent := d.stageAsk p }) := if_neg h

theorem stageStatusRead_sg (hl : d.lbLive = true) (hs : d.supRuns = true) (hturn : d.lbTurn (.sgRead p) = true) :
    d.stageStatusRead p a =
      (match d.stageWord p a with
       | some w => ((d.stageSent p a).lbDrop (.sgRead p)).stageReport p w
       | none => (d.stageSent p a).lbDrop (.sgRead p)) := by
  rw [stageStatusRead, hl, hs, hturn]; rfl

theorem stageStatusRead_sg_none (hl : d.lbLive = true) (hs : d.supRuns = true) (hturn : d.lbTurn (.sgRead p) = true)
    (hw : d.stageWord p a = none) : d.stageStatusRead p a = (d.stageSent p a).lbDrop (.sgRead p) := by
  rw [stageStatusRead_sg hl hs hturn, hw]

theorem stageStatusRead_sg_some {w : BitVec 16} (hl : d.lbLive = true) (hs : d.supRuns = true) (hturn : d.lbTurn (.sgRead p) = true)
    (hw : a.word = some w) (hright : d.stagePecBad p a ≠ true) :
    d.stageStatusRead p a = ((d.modCtrl true (fun c => { c with sent := d.stageAsk p })).lbDrop (.sgRead p)).stageReport p w := by
  have hword : d.stageWord p a = some w := (if_neg hright).trans hw
  rw [stageStatusRead_sg hl hs hturn, hword, stageSent_right hright]

theorem stageStatusRead_qual (hl : d.lbLive = true) (hs : d.supRuns = true) (hsg : d.lbTurn (.sgRead p) = false)
    (hturn : d.lbTurn (.qualRead p) = true) :
    d.stageStatusRead p a = ((d.stageSent p a).lbDrop (.qualRead p)).qualRead p (d.stageWord p a) := by
  rw [stageStatusRead, hl, hs, hsg, hturn]; rfl

theorem stageStatusRead_not
    (h : d.lbLive = false ∨ d.supRuns = false ∨ (d.lbTurn (.sgRead p) = false ∧ d.lbTurn (.qualRead p) = false)) :
    d.stageStatusRead p a = d := by
  rcases h with h | h | ⟨hsg, hqual⟩
  · simp [stageStatusRead, h]
  · simp [stageStatusRead, h]
  · simp [stageStatusRead, hsg, hqual]

/-! LB_ALERT_SERVICE (R364, R365). -/

variable {xs : List (BitVec 7 × BitVec 16)} {released : Bool}

theorem lbAlertService_off (h : d.lbLive = false ∨ d.supRuns = false) : d.lbAlertService xs released = d := by
  rcases h with h | h <;> simp [lbAlertService, h]

theorem lbAlertService_waits (hl : d.lbLive = true) (hs : d.supRuns = true) (hturn : (d.lbAsk .alert).lbTurn .alert = false) :
    d.lbAlertService xs released = d.lbAsk .alert := by
  rw [lbAlertService, hl, hs, hturn]; rfl

theorem lbAlertService_turn (hl : d.lbLive = true) (hs : d.supRuns = true) (hturn : (d.lbAsk .alert).lbTurn .alert = true) :
    d.lbAlertService xs released =
      (let now := xs.take (d.nat K.LB_ALERT_MAX)
       let m := now.foldl lbAlertOne ((d.lbAsk .alert).lbDrop .alert)
       if released && decide (xs.length ≤ d.nat K.LB_ALERT_MAX) then m.modCtrl true (fun c => { c with alertStuck := false, alertReads := 0 })
       else (m.modCtrl true (fun c => { c with alertStuck := true, alertReads := now.length })).ctrlEvent true 0x21) := by
  rw [lbAlertService, hl, hs, hturn]
  simp only [lbDrop_nat, lbAsk_nat]
  rfl

end Dev

/-- Settles O37: a transfer on the bus ends, a job of LB whose turn it is meets the error, or nothing is on the bus; a stage's answer is
its word or, with a wrong PEC, none. -/
theorem controllersComplete : Obligations.ControllersComplete := by
  unfold Obligations.ControllersComplete
  refine ⟨?_, ?_, ?_, ?_, ?_, ?_⟩
  · intro s lb status bs d hstarted hbusy failed got
    have hne : status ≠ 0 → status.toNat ≠ 0 := fun h h0 => h (BitVec.eq_of_toNat_eq h0)
    have hsix : status = 6 ↔ status.toNat = 6 := ⟨fun h => h ▸ rfl, fun h => BitVec.eq_of_toNat_eq h⟩
    have hfails : ∀ {m : Dev} {code event : Nat}, m = (d.xferFail lb code).ctrlEvent lb event → m = (failed code).ctrlEvent lb event :=
      fun h => h.trans (congrArg (fun m : Dev => m.ctrlEvent lb _) (xferFail_busy hbusy _))
    refine ⟨fun h0 => ?_, ?_⟩
    · subst h0
      exact (exec_xferComplete ..).trans (next_dev (xferComplete_done hstarted))
    simp only [hsix]
    refine ⟨fun h hlast => (exec_xferComplete ..).trans (next_dev (xferComplete_failed hstarted hbusy (hne h) hlast)),
      fun h hlb hmore => ?_, (exec_busError ..).trans (next_dev (hfails (busError_started hstarted))),
      (exec_controllerTimeout ..).trans (next_dev (hfails (controllerTimeout_started hstarted))), ?_, ?_, ?_, ?_⟩
    · subst hlb
      exact (exec_xferComplete ..).trans (next_dev (xferComplete_retried hstarted (hne h) hmore))
    · intro hlb own
      subst hlb
      exact (exec_arbitrationLost ..).trans (next_dev ((arbitrationLost_lb own).trans (hfails (busError_started hstarted))))
    · intro hlb
      subst hlb
      exact (exec_arbitrationLost ..).trans (next_dev (arbitrationLost_own hstarted))
    · intro hlb hmore
      subst hlb
      exact (exec_arbitrationLost ..).trans (next_dev ((arbitrationLost_other hstarted).trans (if_pos hmore)))
    · intro hlb hlast
      subst hlb
      exact (exec_arbitrationLost ..).trans (next_dev ((arbitrationLost_other hstarted).trans (if_neg (Int.not_lt.mpr hlast))))
  · intro s lb own status bs hidle hno
    simp only [List.forall_mem_cons]
    exact ⟨(exec_xferComplete ..).trans (next_dev (xferComplete_idle hidle)), (exec_busError ..).trans (next_dev (busError_idle hidle hno)),
      (exec_controllerTimeout ..).trans (next_dev (controllerTimeout_idle hidle hno)),
      (exec_arbitrationLost ..).trans (next_dev (arbitrationLost_idle hidle hno)), List.forall_mem_nil _⟩
  · intro s own status bs j d again hidle hl hs
    have errors : ∀ {m : Dev}, d.jobError 8 false = m →
        ∀ c ∈ [Instr.busError true, .arbitrationLost true own], exec c s = .next (s.withDev m) := fun h =>
      List.forall_mem_cons.mpr ⟨(exec_busError ..).trans (next_dev ((busError_job hidle hl hs).trans h)),
        List.forall_mem_singleton.mpr ((exec_arbitrationLost ..).trans (next_dev ((busError_job hidle hl hs).trans h)))⟩
    have timeout : ∀ {m : Dev}, d.jobError 0x0C true = m → exec (.controllerTimeout true) s = .next (s.withDev m) := fun h =>
      (exec_controllerTimeout ..).trans (next_dev ((controllerTimeout_job hidle hl hs).trans h))
    exact ⟨(exec_xferComplete ..).trans (next_dev (xferComplete_idle hidle)),
      fun hj hmore => errors (jobError_retried hj hmore), fun hj hlast => errors (jobError_failed hj (.inr hlast)),
      fun hj => timeout (jobError_failed hj (.inl rfl)), fun hj => ⟨errors (jobError_none hj), timeout (jobError_none hj)⟩⟩
  · intro s lb d
    exact ⟨fun hon => ⟨(exec_busRecovery ..).trans (next_dev (busRecovery_freed hon)),
        (exec_busRecovery ..).trans (next_dev (busRecovery_stuck hon)),
        fun freed => (exec_busRecovery ..).trans (next_dev (busRecovery_low hon))⟩,
      fun hoff freed low => (exec_busRecovery ..).trans (next_dev (busRecovery_off hoff))⟩
  · intro s p a d addr ask wrong sent e
    have hwrong : wrong → d.stagePecBad p a = true := stagePecBad_iff.mpr
    have hright : ¬ wrong → d.stagePecBad p a ≠ true := fun h hbad => h (stagePecBad_iff.mp hbad)
    have hread := exec_stageStatusRead s p a
    refine ⟨fun hl hs hturn => ⟨fun hw => ?_, fun hnone => ?_, fun x hx hw hsvc hafter hfaulty => ?_, fun x hx hw hnot => ?_⟩,
      fun hl hs hsg hturn => ⟨fun hw => ?_, fun hw => ?_⟩, fun h => hread.trans (next_dev (stageStatusRead_not h))⟩
    · refine hread.trans (next_dev ((stageStatusRead_sg_none hl hs hturn (if_pos (hwrong hw))).trans ?_))
      exact congrArg (fun m : Dev => m.lbDrop (.sgRead p)) (stageSent_wrong (hwrong hw))
    · have hno : d.stagePecBad p a ≠ true := hright (fun ⟨x, hx, _⟩ => nomatch hnone.symm.trans hx)
      refine hread.trans (next_dev ((stageStatusRead_sg_none hl hs hturn ((if_neg hno).trans hnone)).trans ?_))
      exact congrArg (fun m : Dev => m.lbDrop (.sgRead p)) (stageSent_right hno)
    · exact hread.trans (next_dev ((stageStatusRead_sg_some hl hs hturn hx (hright hw)).trans (if_pos ⟨hsvc, hafter, hfaulty⟩)))
    · exact hread.trans (next_dev ((stageStatusRead_sg_some hl hs hturn hx (hright hw)).trans (if_neg hnot)))
    · refine hread.trans (next_dev ((stageStatusRead_qual hl hs hsg hturn).trans ?_))
      rw [stageWord, if_pos (hwrong hw), stageSent_wrong (hwrong hw)]
      rfl
    · refine hread.trans (next_dev ((stageStatusRead_qual hl hs hsg hturn).trans ?_))
      rw [stageWord, if_neg (hright hw), stageSent_right (hright hw)]
      rfl
  · intro s xs released d q m
    refine ⟨fun hl hs hturn => ⟨fun hrel hlen => ?_, fun hlow => ?_⟩,
      fun hl hs hturn => (exec_lbAlertService ..).trans (next_dev (lbAlertService_waits hl hs hturn)),
      fun h => (exec_lbAlertService ..).trans (next_dev (lbAlertService_off h))⟩
    · have hdone : (released && decide (xs.length ≤ d.nat K.LB_ALERT_MAX)) = true := by rw [hrel, decide_eq_true hlen]; rfl
      exact (exec_lbAlertService ..).trans (next_dev ((lbAlertService_turn hl hs hturn).trans (if_pos hdone)))
    · have hstuck : (released && decide (xs.length ≤ d.nat K.LB_ALERT_MAX)) ≠ true := by
        rcases hlow with h | h
        · simp [h]
        · simp [Nat.not_le.mpr h]
      exact (exec_lbAlertService ..).trans (next_dev ((lbAlertService_turn hl hs hturn).trans (if_neg hstuck)))

end Sys2Proof.Machine
end
